-- ==== Sys2Proof/Word.lean ====
section
/-!
DEFINITION. The plain data types shared by every layer: register words, bytes, identifiers, and the
sparse table in which indexed state is held.
-/

namespace Sys2Proof

/-- A register word (R8: registers are 32 bits wide). -/
abbrev Word := BitVec 32

/-- One byte of memory or of a wire. -/
abbrev Byte := BitVec 8

/-- Indexed state as plain data: key and value pairs, keys strictly rising, and no entry that
equals the value an unlisted key has. -/
abbrev Tab (α : Type) := List (Nat × α)

end Sys2Proof
end

