-- ==== Sys2Proof/Syntax.lean ====
section
/-!
DEFINITION. The commands the block takes: one constructor of `Instr` per row of the opcode table, with the row's
operands, and the plain data types of those operands.
-/

namespace Sys2Proof

/-- The identifier of an initiator (R16, Table 1-3). -/
abbrev Init := Nat

/-- What a read is to the core that issued it (R369, R395): a load, a fetch, or an AMO or LR/SC. -/
inductive ReadKind where
  | load | fetch | amo
  deriving DecidableEq, Repr

/-- A request outstanding at a target port (R26): who issued it, its address, and whether it is a posted write; for a read by a
core, what kind of access it is, the address the core used (R395: virtual), and whether a fault it ends in is taken in M-mode. -/
structure Req where
  init  : Init
  addr  : Nat
  write : Bool
  kind  : ReadKind
  vaddr : Nat
  inM   : Bool
  deriving DecidableEq, Repr

/-- Where a call to Belfry comes from: a mailbox channel or the ring of a CRY virtual endpoint (R456, R458). -/
inductive CallSrc where
  | mbx (c : Nat)
  | cry (n : Nat)
  deriving DecidableEq, Repr

/-- What one conversion interval measures at one unit: channels 0 to 71, feeds 72 and 73 (R138, R169).  `raw` is the
magnitude of the sense voltage in steps of 200 mV / 65,536, `vRaw` and `vdsRaw` are in steps of 80 V / 65,536 (0 when
negative); `loop` says that the loop-back test holds the input (R488); `peak` and `letI2t` are the peak
current and let-through I²t, as codes, of the turn-off that follows if the wire model trips. -/
structure ConvSample where
  unit : Nat
  raw : Nat
  dir : Bool
  vRaw : Nat
  vdsRaw : Nat
  loop : Bool
  peak : Nat
  letI2t : Nat
  deriving DecidableEq, Repr

/-- A SENT frame at a receiver (R211, R212): the tick in ns that its calibration pulse implies, its status nibble, its
data nibbles and its CRC nibble (16 or more stands for a nibble outside 0 to 15), and whether its pause keeps the
frame-length rule. -/
structure SentFrame where
  tick : Nat
  status : Nat
  nibs : List Nat
  crc : Nat
  pauseOk : Bool
  deriving DecidableEq, Repr

/-- The sender of a frame that an ETH virtual endpoint hands to the switch, with what its descriptor asks for (Table 15-7). -/
structure TxOrigin where
  ve : Nat
  tag : Nat
  oneStep : Bool
  echo : Bool
  echoOfs : Nat
  /-- TS_REF: ns, fraction and STEP_GEN. -/
  refNs : Nat
  refFrac : Nat
  refGen : Nat
  /-- Frame length without FCS. -/
  len : Nat
  deriving DecidableEq, Repr

/-- The SecTAG of a received MACsec frame (R276): the octet of TCI and AN, the short length, the packet number's 32 bits that it
carries, and its SCI where it has one. -/
structure SecTag where
  tci : Nat
  sl : Nat
  pn : Nat
  sci : Option Nat
  deriving DecidableEq, Repr

/-- What an ECC error of the switch buffer is: corrected, or uncorrectable in a cell's data or in the link memory (R248). -/
inductive BufErr where
  | corrected
  | data
  | link
  deriving DecidableEq, Repr


/-- The sender of a handover frame (R304): its CLOCKID, and SecTAG and ICV of the frame where it is protected. -/
structure HoPeer where
  clockId : Nat
  sec : Option SecTag
  icv : List Nat
  deriving DecidableEq, Repr

/-- A CAN frame on the bus as words 0, 2 and 3 of its header (Table 11-2, LEN taken from the data) and its data octets. -/
structure CanFrame where
  w0 : Nat
  w2 : Nat
  w3 : Nat
  data : List Nat
  deriving DecidableEq, Repr

/-- What an error on a CAN bus counts (R324): one step or eight by ISO 11898-1, or an error in the data phase of an XL frame, where
XL_TMS = 1 disables error signalling (R312). -/
inductive CanErr where
  | by1
  | by8
  | xlData
  deriving DecidableEq, Repr

/-- What a TCM access met (R369, R376): a corrected error, or an uncorrectable one on the trio's own load, fetch or store, or on a
request over the fabric. -/
inductive TcmErr where
  | corrected
  | load
  | fetch
  | store
  | bus (req : Req)
  deriving DecidableEq, Repr

/-- A privilege level of a hart: M, HS, U, and VS and VU with V = 1 (R391). -/
inductive Priv where
  | m | hs | u | vs | vu
  deriving DecidableEq, Repr

/-- What a cache error is (R396): corrected; uncorrectable in a line that a load or a fetch consumes, with the address
and whether the fault is taken in M-mode; or uncorrectable in a dirty line that is evicted or snooped. -/
inductive CacheErr where
  | corrected
  | consumed (fetch : Bool) (vaddr : Nat) (inM : Bool)
  | dirty (addr : Nat)
  deriving DecidableEq, Repr

/-- The access that the IOMMU translates. -/
inductive WalkAcc where
  | read | write | exec
  deriving DecidableEq, Repr

/-- A ring index of a VE page that software writes (R422). -/
inductive VeRing where
  | mbxUpWi | mbxUpAi | mbxDnWi | mbxDnAi | ethTxTail | ethRxTail | ethTxcAi | cryReqTail | cryCplAi
  deriving DecidableEq, Repr

/-- A field of OTP (Tables 16-4 and 19-6). -/
inductive OtpField where
  | clkOscDly
  | carSplit0
  | carSplit1
  | strapDis
  | bwdgTmo
  | xspiCs
  | xspi1s
  | lc
  | ownerHash
  | testKeyHash
  | idSeed
  | ksKey
  | secMin
  deriving DecidableEq, Repr

/-- What the ROM meets outside (R450, R525, R529): whether the flash supports 8D-8D-8D, whether an OTP word was corrected, and the OTP
fields with an uncorrectable error. -/
structure RomIn where
  octal : Bool
  corrected : Bool
  bad : List OtpField
  deriving DecidableEq, Repr

/-- A command: a register access, an event of the surroundings, or a step the block takes of itself (one row of the opcode table each). -/
inductive Instr where
  /-- REGISTER_WRITE: A write to a register or field that has no row of its own, judged under its access code, the alignment rule and the block's access rule. (R6) -/
  | registerWrite (init : Init) (addr : Nat) (bytes : Nat) (value : Nat)
  /-- BEAT_BOUNDARY: A beat boundary is reached and the boundary actions of Table 4-1 run in order within the boundary window. (R112) -/
  | beatBoundary (us : Nat) (ticks : Nat) (lanes : List Nat) (credit : List Nat)
  /-- TARGET_TIMEOUT: An outstanding request exceeds TGT_TMO, completes with TIMEOUT and fences its port. (R26) -/
  | targetTimeout (port : Nat) (req : Req) (others : List Req)
  /-- PORT_OPEN: A fenced port opens when every cause has ended and its block signals ready. (R25) -/
  | portOpen (port : Nat)
  /-- FENCE_STUCK: A port fenced longer than FENCE_MAX raises FS106. (R25) -/
  | fenceStuck (port : Nat)
  /-- LATE_ERR_RD: A write of RD_IDX releases LATE_ERR entries to hardware and may clear the overflow count. (R29) -/
  | lateErrRd (init : Init) (value : Word)
  /-- FABRIC_CARWIN: A write of FABRIC_CARWINn sets the DRAM window index or its lock. (R33) -/
  | fabricCarwin (n : Fin 2) (init : Init) (value : Word)
  /-- SPINE_CRC_FAIL: A flit fails its CRC and is replayed, or a retrain starts at the fourth consecutive failure. (R35) -/
  | spineCrcFail (fresh : Bool) (out : List Req)
  /-- RETRAIN_COMPLETE: A retrain completes and the waiting flit is replayed. (R35) -/
  | retrainComplete
  /-- RETRAIN_TIMEOUT: A retrain does not complete within t_RETRAIN and counts as failed, leading to DOWN after three. (R35) -/
  | retrainTimeout (out : List Req)
  /-- HDIE_SUPPLY_LOSS: Loss of H-die supply resets the H-die and takes the spine link DOWN. (R36) -/
  | hdieSupplyLoss (out : List Req)
  /-- SPINE_HRESET: A write of SPINE_CTRL.HRESET resets the H-die and takes the link DOWN. (R36) -/
  | spineHreset (init : Init) (value : Word) (out : List Req)
  /-- HDIE_RESET_RELEASE: The H-die leaves reset and the spine link starts TRAINING. (R35) -/
  | hdieResetRelease
  /-- SPINE_LINK_UP: Training completes, visible words are delivered, credits re-initialise, ports open and interrupt 624 is raised. (R37) -/
  | spineLinkUp
  /-- TRAINING_TIMEOUT: Training does not reach UP within t_TRAIN and the link returns to DOWN. (R35) -/
  | trainingTimeout
  /-- KNELL_HOLD_EXPIRE: The spine hold timer expires and every output takes its SAFE_ACTION. (R36) -/
  | knellHoldExpire
  /-- BEAT_PUB: A write of BEAT_PUB sets the pending value of a slot, judged against its producer. (R59) -/
  | beatPub (init : Init) (value : Word)
  /-- PWR_CMD_PUB: The command producer writes the pending value of a channel's command slot. (R139) -/
  | pwrCmdPub (ch : Fin 72) (init : Init) (value : Word)
  /-- PWR_LIM_PUB: The limit producer writes the pending value of a channel's limit slot. (R139) -/
  | pwrLimPub (ch : Fin 72) (init : Init) (value : Word)
  /-- READ: A dictionary READ request, from a window or Usest, is checked and returns the object value. (R74) -/
  | dictRead
  /-- WRITE: A dictionary WRITE request is checked and takes effect under its apply timing. (R74) -/
  | dictWrite (late : Bool)
  /-- READ_MULTI: A READ_MULTI reads up to 64 objects and reports each separately. (R81) -/
  | dictReadMulti
  /-- WRITE_MULTI: A WRITE_MULTI is checked in full and accepts all or none of its writes. (R81) -/
  | dictWriteMulti (late : Bool)
  /-- MODE_REQ: A mode request is judged against Table 3-7 and becomes pending or is refused. (R96) -/
  | modeReq (late : Bool)
  /-- SUBSCRIBE: A SUBSCRIBE starts, replaces or cancels a subscription. (R88) -/
  | subscribe
  /-- IMAGE_LOAD: An IMAGE_LOAD chunk is written in order into a configuration slot. (R92) -/
  | imageLoad
  /-- IMAGE_COMMIT: An IMAGE_LOAD with COMMIT validates the image and writes the slot record. (R92) -/
  | imageCommit
  /-- USEST_DATAGRAM: A Usest UDP datagram arrives and is authenticated, replay-checked or dropped. (R78) -/
  | usestDatagram
  /-- USEST_CAN_SEGMENT: A Usest CAN FD segment arrives and is assembled into a message. (R79) -/
  | usestCanSegment (k : Fin 16) (octets : List Nat)
  /-- USEST_SEGMENT_TIMEOUT: No segment arrives for 100 ms and the partial message is discarded. (R79) -/
  | usestSegmentTimeout (k : Fin 16)
  /-- SLOT_CONFIRM: A write of DICT_SLOT.CONFIRM makes a TRIAL slot CONFIRMED. (R93) -/
  | slotConfirm (init : Init) (value : Word)
  /-- BEAT_EN: A write of BEAT_CTRL.EN starts the beat from the first congruent instant 25 µs later. (R107) -/
  | beatEn (init : Init) (value : Word)
  /-- END: Stroke END completes the table for this beat. (R120) -/
  | strokeEnd (n : Fin 16) (late : Nat)
  /-- WAIT: Stroke WAIT does nothing and holds the next stroke until its due time. (R119) -/
  | strokeWait (n : Fin 16) (late : Nat)
  /-- RDS: Stroke RDS reads a sample into a working register or sets INV. (R120) -/
  | strokeRds (n : Fin 16) (late : Nat)
  /-- RDT: Stroke RDT checks a twin word as a consumer and loads its value or takes the safe action. (R123) -/
  | strokeRdt (n : Fin 16) (late : Nat)
  /-- LDI: Stroke LDI loads an immediate. (R119) -/
  | strokeLdi (n : Fin 16) (late : Nat)
  /-- MOV: Stroke MOV copies a working register. (R119) -/
  | strokeMov (n : Fin 16) (late : Nat)
  /-- CLT: Stroke CLT sets C when W[A] is less than W[B]. (R119) -/
  | strokeClt (n : Fin 16) (late : Nat)
  /-- CLE: Stroke CLE sets C when W[A] is at most W[B]. (R119) -/
  | strokeCle (n : Fin 16) (late : Nat)
  /-- CEQ: Stroke CEQ sets C when W[A] equals W[B]. (R119) -/
  | strokeCeq (n : Fin 16) (late : Nat)
  /-- CLTI: Stroke CLTI sets C when W[A] is less than the immediate. (R119) -/
  | strokeClti (n : Fin 16) (late : Nat)
  /-- CGEI: Stroke CGEI sets C when W[A] is at least the immediate. (R119) -/
  | strokeCgei (n : Fin 16) (late : Nat)
  /-- CADD: Stroke CADD adds two chime codes under CHADD. (R50) -/
  | strokeCadd (n : Fin 16) (late : Nat)
  /-- CSUB: Stroke CSUB subtracts two chime codes under CHSUB. (R50) -/
  | strokeCsub (n : Fin 16) (late : Nat)
  /-- CMUL: Stroke CMUL multiplies two chime codes with a shift under CHMUL. (R50) -/
  | strokeCmul (n : Fin 16) (late : Nat)
  /-- CMIN: Stroke CMIN takes the smaller code. (R119) -/
  | strokeCmin (n : Fin 16) (late : Nat)
  /-- CMAX: Stroke CMAX takes the larger code. (R119) -/
  | strokeCmax (n : Fin 16) (late : Nat)
  /-- ADD: Stroke ADD adds linearly, saturating at 0x3FF. (R120) -/
  | strokeAdd (n : Fin 16) (late : Nat)
  /-- SUB: Stroke SUB subtracts linearly, saturating at 0. (R119) -/
  | strokeSub (n : Fin 16) (late : Nat)
  /-- AND: Stroke AND takes the bitwise AND. (R119) -/
  | strokeAnd (n : Fin 16) (late : Nat)
  /-- OR: Stroke OR takes the bitwise OR. (R119) -/
  | strokeOr (n : Fin 16) (late : Nat)
  /-- XOR: Stroke XOR takes the bitwise XOR. (R119) -/
  | strokeXor (n : Fin 16) (late : Nat)
  /-- ADDI: Stroke ADDI adds an immediate, saturating at 0x3FF. (R119) -/
  | strokeAddi (n : Fin 16) (late : Nat)
  /-- SUBI: Stroke SUBI subtracts an immediate, saturating at 0. (R120) -/
  | strokeSubi (n : Fin 16) (late : Nat)
  /-- ANDI: Stroke ANDI masks with an immediate. (R119) -/
  | strokeAndi (n : Fin 16) (late : Nat)
  /-- SHR: Stroke SHR shifts right. (R119) -/
  | strokeShr (n : Fin 16) (late : Nat)
  /-- SHL: Stroke SHL shifts left, giving 0x3FF if a set bit is lost. (R119) -/
  | strokeShl (n : Fin 16) (late : Nat)
  /-- SKC: Stroke SKC skips the next N strokes when C equals POL. (R120) -/
  | strokeSkc (n : Fin 16) (late : Nat)
  /-- SKF: Stroke SKF skips the next N strokes when the selected flag equals POL. (R120) -/
  | strokeSkf (n : Fin 16) (late : Nat)
  /-- WRO: Stroke WRO posts a value to an output it drives, or sets INV. (R121) -/
  | strokeWro (n : Fin 16) (late : Nat)
  /-- WRO_APPLY: A WRO value takes effect at its output t_OUT after its due time. (R121) -/
  | strokeWroApply (n : Fin 16)
  /-- WRP: Stroke WRP writes the pending value of a channel command slot. (R122) -/
  | strokeWrp (n : Fin 16) (late : Nat)
  /-- PUB: Stroke PUB writes the pending value of an engine slot. (R122) -/
  | strokePub (n : Fin 16) (late : Nat)
  /-- LREQ: Stroke LREQ requests a LIN header on a commander channel, or is refused. (R337) -/
  | strokeLreq (n : Fin 16) (late : Nat)
  /-- SREQ: Stroke SREQ triggers a SENT short PWM code on a channel with SPC = 1. (R213) -/
  | strokeSreq (n : Fin 16) (late : Nat)
  /-- TABLA_LD_HI: A write of TABLA_LD_HI stores a stroke in the inactive buffer and advances the index. (R124) -/
  | tablaLdHi (n : Fin 16) (init : Init) (value : Word)
  /-- TABLA_ARM: A write of ARM starts validation of the inactive buffer. (R124) -/
  | tablaArm (n : Fin 16) (init : Init) (value : Word)
  /-- TABLA_VALIDATION_DONE: Validation of an armed buffer ends with ARMED set, or with a refusal recorded in TABLA_LDSTAT. (R124) -/
  | tablaValidationDone (n : Fin 16)
  /-- TABLA_LIBRARY_LOAD_DONE: A library load completes and the selected table is armed without validation. (R126) -/
  | tablaLibraryLoadDone (n : Fin 16)
  /-- CONVERSION: A 4 µs conversion interval of the feeds and channels ends and its charge is accumulated. (R170) -/
  | conversion (ofs : Nat) (samples : List ConvSample)
  /-- SHORT_TRIP: A short comparator fires for the filter time and the channel enters TRIPPED_SHORT. (R144) -/
  | shortTrip (ch : Fin 72) (vds : Bool) (current : Bool) (vgsHigh : Bool) (peak : Nat) (letI2t : Nat) (ofs : Nat)
  /-- GATE_UV: The gate stays below V_GS_UV for 10 µs while driven on and the channel trips. (R145) -/
  | gateUv (ch : Fin 72) (peak : Nat) (letI2t : Nat) (ofs : Nat)
  /-- PRECHARGE_DONE: V_DS falls to V_PRE_DONE in PRECHARGE and the channel enters ON. (R157) -/
  | prechargeDone (ch : Fin 72) (ofs : Nat)
  /-- PRE_TIMEOUT: PRE_TMAX elapses in PRECHARGE and the channel enters TRIPPED_SHORT. (R157) -/
  | preTimeout (ch : Fin 72) (peak : Nat) (letI2t : Nat) (ofs : Nat)
  /-- FET_FAULT: The FET condition persists for t_FETF with the gate off and the channel enters FET_FAULT. (R159) -/
  | fetFault (ch : Fin 72) (ofs : Nat)
  /-- OUT_HIGH: The output is held high while off with no forward current and OUT_HIGH is set. (R159) -/
  | outHigh (ch : Fin 72) (ofs : Nat)
  /-- CURRENT_SENSE_FAULT: A channel current sense fault clears VALID and changes the model input. (R150) -/
  | currentSenseFault (ch : Fin 72) (ofs : Nat)
  /-- FAST_PATH_SHED: FAST.CNT consecutive conversions above FAST_I lower the shed level and shed tiers at once. (R179) -/
  | fastPathShed (f : Fin 2) (ofs : Nat)
  /-- FEED_SENSE_FAULT: A feed sense fault clears VALID in FEED_I and raises FS180. (R169) -/
  | feedSenseFault (f : Fin 2) (ofs : Nat)
  /-- MFI_SAMPLE: An MFI is sampled and converted every t_MFI. (R196) -/
  | mfiSample (i : Fin 96) (raw : Nat) (ofs : Nat)
  /-- RAI_CONVERSION: An RAI converts against its reference every t_RAI. (R199) -/
  | raiConversion (i : Fin 16) (ratio : Nat) (above : Bool) (vRaw : Nat) (iRaw : Nat) (ofs : Nat)
  /-- SSUP_LIMIT: A sensor supply load reaches I_SS_LIM and the supply enters LIMIT. (R200) -/
  | ssupLimit (n : Fin 8) (vRaw : Nat) (iRaw : Nat)
  /-- SSUP_OVERLOAD: A supply limits for t_SS_OVL and enters FAULT. (R200) -/
  | ssupOverload (n : Fin 8) (vRaw : Nat) (iRaw : Nat) (ofs : Nat)
  /-- SSUP_BACKFEED: A supply output rises above 5.3 V and enters BACKFEED. (R200) -/
  | ssupBackfeed (n : Fin 8) (vRaw : Nat) (iRaw : Nat) (ofs : Nat)
  /-- IOX_SSUP_CTRL: The driver writes the sensor supply enable. (R200) -/
  | ioxSsupCtrl (n : Fin 8) (init : Init) (value : Word)
  /-- IOX_LSO_DUTY: The driver writes an LSO duty, applied within t_REGOUT. (R192) -/
  | ioxLsoDuty (j : Fin 32) (init : Init) (value : Word)
  /-- IOX_BR_CMD: The driver writes a bridge mode and duty. (R205) -/
  | ioxBrCmd (b : Fin 6) (init : Init) (value : Word)
  /-- LSO_OVERCURRENT: An LSO still limits after t_LSO_OC, turns off and latches. (R203) -/
  | lsoOvercurrent (j : Fin 32) (i : Nat) (ofs : Nat)
  /-- LSO_OC_CLEAR: A write of 1 to OC clears the LSO overcurrent latch. (R203) -/
  | lsoOcClear (j : Fin 32) (init : Init) (value : Word)
  /-- LSO_OVERTEMP: An LSO exceeds 175 °C and turns off. (R203) -/
  | lsoOvertemp (j : Fin 32) (i : Nat) (ofs : Nat)
  /-- LSO_OVERTEMP_RECOVER: An LSO falls below 160 °C and restarts. (R203) -/
  | lsoOvertempRecover (j : Fin 32)
  /-- LSO_OPEN_LOAD: An LSO shows open load for 1 ms in its on or off state. (R204) -/
  | lsoOpenLoad (j : Fin 32) (on : Bool) (i : Nat) (ofs : Nat)
  /-- BRIDGE_GAP_END: A bridge direction gap ends and the pending mode and duty apply. (R206) -/
  | bridgeGapEnd (b : Fin 6)
  /-- BRIDGE_CURRENT_LIMIT: A bridge current above ILIM ends the on-phase for the period. (R208) -/
  | bridgeCurrentLimit (b : Fin 6) (raw : Nat) (dir : Bool) (vsRaw : Nat) (ofs : Nat)
  /-- BRIDGE_SHORT: A V_DS above VDS_TH turns all gates off and the bridge enters FAULT. (R209) -/
  | bridgeShort (b : Fin 6) (ofs : Nat)
  /-- BRIDGE_CLR: A write of CLR takes a bridge from FAULT to IDLE. (R209) -/
  | bridgeClr (b : Fin 6) (init : Init) (value : Word)
  /-- BRIDGE_UV: BRb_VS falls below V_BR_UV and the bridge enters UV. (R209) -/
  | bridgeUv (b : Fin 6) (vsRaw : Nat) (ofs : Nat)
  /-- BRIDGE_UV_RECOVER: BRb_VS rises above V_BR_UV + 0.5 V and the bridge resumes. (R209) -/
  | bridgeUvRecover (b : Fin 6) (vsRaw : Nat)
  /-- SENT_FRAME: A SENT frame is received and accepted or rejected. (R212) -/
  | sentFrame (c : Fin 8) (fr : SentFrame) (ofs : Nat)
  /-- SENT_TIMEOUT: No valid SENT frame arrives for TMO ms and the channel becomes invalid. (R212) -/
  | sentTimeout (c : Fin 8) (ofs : Nat)
  /-- SENT_TRIG: A write of SENT_CFG.TRIG sends an SPC trigger. (R213) -/
  | sentTrig (c : Fin 8) (init : Init) (value : Word)
  /-- FRAME_FIRST_CELL: The first cell of a frame arrives and header checks, lookup, admission and cut-through judgement run. (R228) -/
  | frameFirstCell (p : Fin 24) (octets : List Nat) (len : Nat) (sec : Option SecTag)
  /-- CONTINUATION_CELL: A continuation cell of an admitted copy takes a charge. (R234) -/
  | continuationCell (p : Fin 24) (octets : List Nat)
  /-- FRAME_END: A frame's last cell arrives and end-of-frame checks run. (R241) -/
  | frameEnd (p : Fin 24) (octets : List Nat) (fcsOk : Bool) (icv : List Nat)
  /-- CELL_SLOT: A crossbar cell slot runs the matching iterations and transfers one cell per matched pair. (R238) -/
  | cellSlot
  /-- COPY_AGED: A copy at dequeue exceeds AGE_LIMIT and is dropped with 0x07 or 0x0D. (R242) -/
  | copyAged (e : Fin 24) (c : Fin 8) (voq : Option (Fin 24))
  /-- TRANSMIT_SELECTION: A free egress port starts the eligible copy of the highest class. (R261) -/
  | transmitSelection (e : Fin 24)
  /-- COPY_TRANSMIT_DONE: A copy's last byte leaves its egress port. (R231) -/
  | copyTransmitDone (e : Fin 24)
  /-- BUFFER_ECC_ERROR: An uncorrectable buffer ECC error raises FS263 and stomps the copy. (R248) -/
  | bufferEccError (e : Fin 24) (cell : Nat) (kind : BufErr)
  /-- FDB_AGE_SCAN: An ageing scan removes dynamic entries idle for AGE_S. (R227) -/
  | fdbAgeScan
  /-- FDB_LOOKUP: FDB command OP 0 looks up an entry. (R249) -/
  | fdbLookup (init : Init) (value : Word)
  /-- FDB_INSERT_STATIC: FDB command OP 1 inserts a static entry. (R249) -/
  | fdbInsertStatic (init : Init) (value : Word)
  /-- FDB_INSERT_DYNAMIC: FDB command OP 2 inserts a dynamic entry. (R249) -/
  | fdbInsertDynamic (init : Init) (value : Word)
  /-- FDB_DELETE: FDB command OP 3 deletes an entry. (R249) -/
  | fdbDelete (init : Init) (value : Word)
  /-- FDB_FLUSH_FID: FDB command OP 4 removes dynamic entries of a FID. (R249) -/
  | fdbFlushFid (init : Init) (value : Word)
  /-- FDB_FLUSH_PORT: FDB command OP 5 removes dynamic entries of a port. (R249) -/
  | fdbFlushPort (init : Init) (value : Word)
  /-- FDB_READ_INDEX: FDB command OP 6 returns the entry at an index. (R249) -/
  | fdbReadIndex (init : Init) (value : Word)
  /-- CLR_PEAK: A write of SW_CTRL.CLR_PEAK clears every SW_Q_PEAK. (R252) -/
  | clrPeak (init : Init) (value : Word)
  /-- LINK_UP: A PHY reports link OK and the port's link is up. (R257) -/
  | linkUp (p : Fin 24) (speed : Fin 4) (leader : Bool) (sqi : Fin 8)
  /-- LINK_DOWN: A PHY reports link failure, counting the loss and raising FS272. (R257) -/
  | linkDown (p : Fin 24)
  /-- PLCA_LOST: No PLCA beacon is seen for the limit and the port falls back to CSMA/CD. (R258) -/
  | plcaLost (p : Fin 24)
  /-- PLCA_BEACON: A beacon returns the port to PLCA. (R258) -/
  | plcaBeacon (p : Fin 24)
  /-- GATE_ENTRY_SWITCH: A gate control list entry interval ends and the next gate states apply. (R262) -/
  | gateEntrySwitch (p : Fin 24) (kind : Fin 3)
  /-- GCL_CHANGE: A write of CHANGE copies the admin list for adoption. (R264) -/
  | gclChange (p : Fin 24) (init : Init) (value : Word)
  /-- CBS_SLOPE: A write of IDLE changes a shaper slope and may clamp the credit. (R267) -/
  | cbsSlope (p : Fin 24) (c : Fin 8) (init : Init) (value : Word)
  /-- STREAM_GATE_ENTRY_SWITCH: A stream gate list entry ends and the next entry's state applies. (R270) -/
  | streamGateEntrySwitch (g : Fin 127) (start : Bool)
  /-- FRER_RESET: No frame passes for RESET_MS and the recovery function resets. (R272) -/
  | frerReset (k : Fin 64)
  /-- SA_KEY: A write of SA.KEY loads a SAK from a key handle or clears VALID. (R277) -/
  | saKey (p : Fin 24) (sa : Fin 36) (init : Init) (value : Word)
  /-- TC10_SLEEP_REQ: A write of SLEEP_REQ starts the TC10 drain and sleep handshake. (R278) -/
  | tc10SleepReq (p : Fin 20) (init : Init) (value : Word)
  /-- TC10_SLEEP_ACK: The link partner acknowledges and the port enters SLEEP. (R278) -/
  | tc10SleepAck (p : Fin 20)
  /-- TC10_DRAIN_TIMEOUT: The drain limit passes and the port enters SLEEP regardless. (R278) -/
  | tc10DrainTimeout (p : Fin 20)
  /-- TC10_WAKE_RX: A TC10 wake-up is received, aborting sleep or waking the port. (R278) -/
  | tc10WakeRx (p : Fin 20) (ticks : Nat)
  /-- TC10_WAKE_REQ: A write of WAKE_REQ sends a wake request. (R278) -/
  | tc10WakeReq (p : Fin 20) (init : Init) (value : Word)
  /-- EP_TEST: A write of EP_TEST.MODE puts the PHY into a transmitter test mode. (R279) -/
  | epTest (p : Fin 24) (init : Init) (value : Word)
  /-- TABLE_READ: A table window command reads one shared stream table entry. (R284) -/
  | tableRead (p : Fin 24) (init : Init) (value : Word)
  /-- TABLE_WRITE: A table window command writes one shared stream table entry. (R284) -/
  | tableWrite (p : Fin 24) (init : Init) (value : Word)
  /-- TIME_INC: A write of TIME_INC_HI sets the increment at the next tick and is a keepalive. (R289) -/
  | timeInc (init : Init) (value : Word)
  /-- TIME_STEP: A write of TIME_STEP_HI applies an offset step to network time. (R291) -/
  | timeStep (init : Init) (value : Word)
  /-- TIME_NOW_FRAC: A read of TIME_NOW_FRAC latches the ns words of the same tick. (R290) -/
  | timeNowFrac (init : Init)
  /-- TIME_LOCK: A write of LOCK enters SYNCED unless CLK_FALLBACK is 1. (R293) -/
  | timeLock (init : Init) (value : Word)
  /-- TIME_UNLOCK: A write of UNLOCK leaves SYNCED for HOLDOVER. (R293) -/
  | timeUnlock (init : Init) (value : Word)
  /-- TIME_KEEP: A write of KEEP is a keepalive. (R293) -/
  | timeKeep (init : Init) (value : Word)
  /-- KEEPALIVE_TIMEOUT: SYNC_TMO passes without a keepalive and the state becomes HOLDOVER. (R293) -/
  | keepaliveTimeout
  /-- HANDOVER_REQ: A write of REQ sends a handover REQ and enters PENDING. (R305) -/
  | handoverReq (k : Fin 2) (init : Init) (value : Word)
  /-- HANDOVER_GRANT: A write of GRANT answers a peer request. (R305) -/
  | handoverGrant (k : Fin 2) (init : Init) (value : Word)
  /-- HANDOVER_REFUSE: A write of REFUSE answers a peer request. (R305) -/
  | handoverRefuse (k : Fin 2) (init : Init) (value : Word)
  /-- HANDOVER_FRAME_RX: A handover frame is consumed and moves the handover state. (R305) -/
  | handoverFrameRx (k : Fin 2) (msg : Nat) (seq : Nat) (peer : HoPeer)
  /-- HANDOVER_TIMEOUT: A pending request gets no answer within HO_TMO. (R305) -/
  | handoverTimeout (k : Fin 2)
  /-- CAN_ENABLE: A write of CAN_CTRL.EN checks bit timing and enables or disables the controller. (R311) -/
  | canEnable (n : Fin 16) (init : Init) (value : Word)
  /-- CAN_INTEGRATION_DONE: 11 recessive bits end integration and the controller becomes ERROR_ACTIVE. (R324) -/
  | canIntegrationDone (n : Fin 16)
  /-- CAN_FRAME_RX: A CAN frame is received, filtered and delivered to slot queues. (R314) -/
  | canFrameRx (n : Fin 16) (frame : CanFrame) (sof : Word)
  /-- CAN_TXSUB: A write of CAN_TXSUB submits a transmit entry after header checks. (R322) -/
  | canTxsub (n : Fin 16) (sl : Fin 8) (init : Init) (value : Word)
  /-- CAN_TX_SELECTION: At intermission the controller selects the submitted frame that would win arbitration. (R320) -/
  | canTxSelection (n : Fin 16) (sof : Word)
  /-- CAN_ARBITRATION_LOST: A frame loses arbitration and counts a failed attempt. (R321) -/
  | canArbitrationLost (n : Fin 16)
  /-- CAN_TX_END: A frame's transmission ends and its completion record is written. (R322) -/
  | canTxEnd (n : Fin 16)
  /-- CAN_BUS_ERROR: A bus error updates TEC or REC and may change the controller state. (R324) -/
  | canBusError (n : Fin 16) (tx : Bool) (err : CanErr)
  /-- CAN_TXABORT: A write of CAN_TXABORT aborts a submitted entry. (R323) -/
  | canTxabort (n : Fin 16) (sl : Fin 8) (init : Init) (value : Word)
  /-- BUSOFF_RECOVER: A write of BUSOFF_RECOVER starts recovery from BUS_OFF. (R325) -/
  | busoffRecover (n : Fin 16) (init : Init) (value : Word)
  /-- CAN_RECOVERY_COMPLETE: 128 recessive sequences end recovery with TEC and REC cleared. (R324) -/
  | canRecoveryComplete (n : Fin 16)
  /-- CAN_RXAI: A write of RXAI releases receive entries or sets IDX_ERR. (R318) -/
  | canRxai (n : Fin 16) (sl : Fin 8) (init : Init) (value : Word)
  /-- CAN_CQAI: A write of CQAI acknowledges completion records and returns entries. (R322) -/
  | canCqai (n : Fin 16) (sl : Fin 8) (init : Init) (value : Word)
  /-- CAN_SLOT_CFG: A write of a slot's EN enables it or aborts its submitted frames. (R328) -/
  | canSlotCfg (n : Fin 16) (sl : Fin 8) (init : Init) (value : Word)
  /-- CAN_TRX_MODE: A write of the transceiver MODE changes the transceiver mode. (R329) -/
  | canTrxMode (n : Fin 16) (init : Init) (value : Word)
  /-- CAN_TRX_WAKE: A sleeping transceiver detects a wake and enters STANDBY, signalling Gong. (R330) -/
  | canTrxWake (n : Fin 16) (ticks : Nat)
  /-- TRX_CONFIRM_TIMEOUT: A woken transceiver is not confirmed and returns to SLEEP. (R360) -/
  | trxConfirmTimeout (n : Fin 16)
  /-- CAN_TXD_TIMEOUT: TXD stays dominant for t_TXD_DOM and the bus is released. (R331) -/
  | canTxdTimeout (n : Fin 16)
  /-- LIN_ENTRY_START: A schedule entry begins and its header is sent, or SLOT_OVR is counted. (R335) -/
  | linEntryStart (l : Fin 12)
  /-- LIN_FRAME_COMPLETE: A LIN response ends and is checked and stored or recorded as an error. (R334) -/
  | linFrameComplete (l : Fin 12) (octets : List Nat) (bitErr : Bool)
  /-- LIN_SLEEP_TX: A write of SLEEP_TX sends the go-to-sleep frame and stops the schedule. (R338) -/
  | linSleepTx (l : Fin 12) (init : Init) (value : Word)
  /-- LIN_WAKE_TX: A write of WAKE_TX sends a dominant wake pulse. (R338) -/
  | linWakeTx (l : Fin 12) (init : Init) (value : Word)
  /-- LIN_WAKE_GAP_END: WAKE_GAP passes after the wake pulse and the schedule resumes. (R338) -/
  | linWakeGapEnd (l : Fin 12)
  /-- LIN_WAKE_RX: A dominant phase over 150 µs in SLEEP sets WAKE_RX. (R338) -/
  | linWakeRx (l : Fin 12)
  /-- LIN_TXD_TIMEOUT: A LIN transmit line dominant for t_LIN_TXD releases the bus. (R338) -/
  | linTxdTimeout (l : Fin 12)
  /-- LIN_DATA_HI: A write of DATA_HI makes a frame buffer's data effective. (R334) -/
  | linDataHi (l : Fin 12) (id : Fin 64) (init : Init) (value : Word)
  /-- LIN_DATA_LO_READ: A read of DATA_LO latches DATA_HI. (R334) -/
  | linDataLoRead (l : Fin 12) (id : Fin 64) (init : Init)
  /-- PM_REQ_RUN: A power request for RUN cancels a pending entry or leaves DOZE or SLEEP. (R346) -/
  | pmReqRun (init : Init) (value : Word)
  /-- PM_REQ_DOZE: A power request for DOZE becomes pending until all cores are in WFI. (R349) -/
  | pmReqDoze (init : Init) (value : Word) (flash : Bool) (outst : List Req)
  /-- PM_REQ_SLEEP: A power request for SLEEP is judged and powers down the A-cluster. (R350) -/
  | pmReqSleep (init : Init) (value : Word) (flash : Bool) (outst : List Req)
  /-- PM_REQ_DEEP_SLEEP: A power request for DEEP_SLEEP is judged and Gong begins the entry. (R352) -/
  | pmReqDeepSleep (init : Init) (value : Word) (flash : Bool) (outst : List Req)
  /-- DOZE_ENTRY: Every powered core is in WFI and the device enters DOZE. (R349) -/
  | dozeEntry (outst : List Req)
  /-- DOZE_EXIT: An interrupt to an A-cluster core returns the device to RUN. (R349) -/
  | dozeExit
  /-- PM_GATE: A write of PM_GATEb changes a block's gating enables. (R347) -/
  | pmGate (b : Fin 17) (init : Init) (value : Word) (outst : List Req)
  /-- PMIC_EN_DROP: Gong drops PMIC_EN at the point of no return and the device is in DEEP_SLEEP. (R352) -/
  | pmicEnDrop
  /-- WAKE_LINE: A qualified wake line condition is a wake event. (R355) -/
  | wakeLine (n : Fin 8) (level : Bool) (ticks : Nat)
  /-- KEEP_TRIP: A kept channel's comparator turns its gate off in DEEP_SLEEP and wakes the device. (R353) -/
  | keepTrip (ch : Fin 72) (ticks : Nat)
  /-- GONG_MFI_POLL: Gong polls the wake MFIs and wakes after WDEB + 1 differing polls. (R198) -/
  | gongMfiPoll (samples : List (Nat × Nat)) (ticks : Nat)
  /-- WAKE_TIMER: The wake timer expires and is a wake event. (R356) -/
  | wakeTimer
  /-- GONG_LRC_CAL: Gong updates the LRC32 calibration count every 100 ms. (R356) -/
  | gongLrcCal (count : Nat)
  /-- PMIC_EN_RISE: After t_PMIC_OFF Gong raises PMIC_EN and the device boots from step 3. (R357) -/
  | pmicEnRise
  /-- BOOT_DONE: A write of BOOT_DONE clears FAIL_RUN. (R358) -/
  | bootDone (init : Init) (value : Word)
  /-- BOOT_TIMEOUT: BOOT_TMO passes without BOOT_DONE and Gong returns to DEEP_SLEEP. (R358) -/
  | bootTimeout
  /-- WAKE_LOCKOUT_END: t_LOCKOUT ends, FAIL_RUN clears and Gong re-arms. (R358) -/
  | wakeLockoutEnd
  /-- FALSE_WAKE: The false-wake timer expires and GRACE begins. (R359) -/
  | falseWake
  /-- GRACE_END: GRACE ends without STAY and Gong forces the return to the mode it woke from. (R359) -/
  | graceEnd (outst : List Req)
  /-- STAY: A write of STAY stops the false-wake timer. (R359) -/
  | stay (init : Init) (value : Word)
  /-- VOTE_MISMATCH: Voter outputs disagree and a core is removed, retired, or the trio fails. (R373) -/
  | voteMismatch (t : Fin 2) (kind : Fin 3) (who : Fin 4) (csr : Nat) (addr : Word)
  /-- RESYNC_COPY_START: The pair stops issuing and the trio enters RESYNC. (R373) -/
  | resyncCopyStart (t : Fin 2)
  /-- RESYNC_COMPLETE: The state copy completes and the trio returns to TMR. (R373) -/
  | resyncComplete (t : Fin 2) (stall : Nat)
  /-- LBIST_COMPLETE: A rotating LBIST test ends and the core rejoins or is retired. (R379) -/
  | lbistComplete (t : Fin 2) (pass : Bool)
  /-- CHECKER_LANE_FAULT: A checker lane or output register pair is not complementary. (R378) -/
  | checkerLaneFault (t : Fin 2) (output : Bool) (addr : Word)
  /-- TCM_ECC_ERROR: A TCM access finds an ECC error and corrects it or reports it. (R376) -/
  | tcmEccError (t : Fin 2) (ofs : Nat) (err : TcmErr)
  /-- CAR_IC_CLAIM: A read of CAR_IC_CLAIM claims the highest-priority pending source. (R377) -/
  | carIcClaim (t : Fin 2) (x : Fin 2) (init : Init)
  /-- CAR_IC_COMPLETE: A write of CAR_IC_CLAIM completes a claim. (R377) -/
  | carIcComplete (t : Fin 2) (x : Fin 2) (init : Init) (value : Word)
  /-- SPFLUSH: A write of spflush flushes predictors or prefetchers. (R408) -/
  | spflush (hart : Fin 8) (priv : Priv) (value : Nat)
  /-- HGATP_WRITE: A VMID change in hgatp flushes predictors with AUTO_FLUSH set. (R409) -/
  | hgatpWrite (hart : Fin 8) (priv : Priv) (value : Nat) (guest : Bool)
  /-- CACHE_ECC_ERROR: A cache error is corrected, or faults and poisons the line. (R396) -/
  | cacheEccError (hart : Fin 8) (level : Nat) (kind : CacheErr)
  /-- IMSIC_SETEIPNUM: A write of seteipnum_le sets a pending interrupt identity. (R398) -/
  | imsicSeteipnum (init : Init) (addr : Nat) (value : Word)
  /-- IOMMU_WALK: The IOMMU walks for a translated request and may fault with a walk flag. (R402) -/
  | iommuWalk (did : Nat) (iova : Nat) (acc : WalkAcc) (ecc : List Nat)
  /-- IOMMU_VX_LOGAI: A write of LOGAI releases walk-fault log entries. (R404) -/
  | iommuVxLogai (init : Init) (value : Word)
  /-- ASSIGN: Manager command ASSIGN gives an unassigned VE its type. (R417) -/
  | assign (m : Fin 4) (init : Init) (value : Word)
  /-- ACTIVATE: Manager command ACTIVATE checks the binding and makes the VE ACTIVE. (R420) -/
  | activate (m : Fin 4) (init : Init) (value : Word)
  /-- QUIESCE: Manager command QUIESCE stops new work and starts the drain. (R423) -/
  | quiesce (m : Fin 4) (init : Init) (value : Word)
  /-- QUIESCE_DRAIN_DONE: No work remains and the VE enters QUIESCED with its audit. (R423) -/
  | quiesceDrainDone (n : Fin 1024)
  /-- QUIESCE_DRAIN_LIMIT: The drain limit is reached and remaining work is aborted. (R423) -/
  | quiesceDrainLimit (n : Fin 1024)
  /-- FREEZE: Manager command FREEZE fixes a QUIESCED VE and records LAST_NBI. (R417) -/
  | freeze (m : Fin 4) (init : Init) (value : Word)
  /-- THAW: Manager command THAW returns a FROZEN VE to QUIESCED. (R417) -/
  | thaw (m : Fin 4) (init : Init) (value : Word)
  /-- SAVE: Manager command SAVE has Belfry seal the VE state into a blob. (R431) -/
  | save (m : Fin 4) (init : Init) (value : Word)
  /-- SAVE_COMPLETE: The blob is written or refused and VE_CMDRES is written. (R431) -/
  | saveComplete (n : Fin 1024)
  /-- RESTORE: Manager command RESTORE starts judging a blob. (R432) -/
  | restore (m : Fin 4) (init : Init) (value : Word)
  /-- RESTORE_COMPLETE: A blob is accepted into FROZEN or refused. (R432) -/
  | restoreComplete (n : Fin 1024)
  /-- VE_RESET: Manager command RESET clears a VE's registers through RESETTING. (R418) -/
  | veReset (m : Fin 4) (init : Init) (value : Word)
  /-- VE_RESET_COMPLETE: The VE leaves RESETTING for ASSIGNED. (R418) -/
  | veResetComplete (n : Fin 1024)
  /-- UNASSIGN: Manager command UNASSIGN returns a VE to UNASSIGNED. (R418) -/
  | unassign (m : Fin 4) (init : Init) (value : Word)
  /-- VE_RING_INDEX_WRITE: A write of a ring index is checked and may ring a doorbell or raise event 2. (R422) -/
  | veRingIndexWrite (n : Fin 1024) (ring : VeRing) (init : Init) (value : Word)
  /-- VEC_UNMASK: Unmasking a vector with PEND set sends one MSI. (R421) -/
  | vecUnmask (n : Fin 1024) (v : Fin 8) (init : Init) (value : Word)
  /-- ETH_RX_FRAME: A frame from an internal port is delivered into VE RX buffers. (R428) -/
  | ethRxFrame (p : Fin 3)
  /-- ETH_TX_FRAME_FETCH: An ETH VE fetches and checks a TX frame's descriptors and hands it to the switch. (R430) -/
  | ethTxFrameFetch (n : Fin 1024)
  /-- PWG_KICK: A write of PWG_KICK marks the user as live. (R433) -/
  | pwgKick (n : Fin 1024) (init : Init) (value : Word)
  /-- MAILBOX_RING: A write of RING submits a mailbox call. (R456) -/
  | mailboxRing (c : Fin 16) (init : Init) (value : Word)
  /-- INFO: Belfry function INFO returns lifecycle, enables and RNG state. (R458) -/
  | info (src : CallSrc)
  /-- RNG_GET: Belfry function RNG_GET returns random bytes from a READY DRBG. (R459) -/
  | rngGet (src : CallSrc)
  /-- KEY_INFO: Belfry function KEY_INFO reports a slot's attributes. (R454) -/
  | keyInfo (src : CallSrc)
  /-- KEY_GENERATE: Belfry function KEY_GENERATE creates a key for the caller. (R454) -/
  | keyGenerate (src : CallSrc)
  /-- KEY_IMPORT: Belfry function KEY_IMPORT unwraps a key into a slot. (R454) -/
  | keyImport (src : CallSrc)
  /-- KEY_DESTROY: Belfry function KEY_DESTROY erases a slot and dependent SAs. (R455) -/
  | keyDestroy (src : CallSrc)
  /-- GCM_SEAL: Belfry function GCM_SEAL encrypts a buffer. (R458) -/
  | gcmSeal (src : CallSrc)
  /-- GCM_OPEN: Belfry function GCM_OPEN decrypts and verifies a buffer. (R458) -/
  | gcmOpen (src : CallSrc)
  /-- CMAC: Belfry function CMAC computes a MAC. (R458) -/
  | cmac (src : CallSrc)
  /-- SHA384: Belfry function SHA384 computes a digest. (R458) -/
  | sha384 (src : CallSrc)
  /-- ECDSA_SIGN: Belfry function ECDSA_SIGN signs a digest. (R458) -/
  | ecdsaSign (src : CallSrc)
  /-- ECDSA_VERIFY: Belfry function ECDSA_VERIFY checks a signature. (R458) -/
  | ecdsaVerify (src : CallSrc)
  /-- KDF: Belfry function KDF derives a key into a slot. (R458) -/
  | kdf (src : CallSrc)
  /-- IDENT_SIGN: Belfry function IDENT_SIGN signs with the identity key. (R452) -/
  | identSign (src : CallSrc)
  /-- AUTH_SUBMIT: Belfry function AUTH_SUBMIT verifies an authorisation certificate. (R463) -/
  | authSubmit (src : CallSrc)
  /-- DEBUG_CLOSE: Belfry function DEBUG_CLOSE closes debug enables. (R462) -/
  | debugClose (src : CallSrc)
  /-- LC_ADVANCE: Belfry function LC_ADVANCE programs a lifecycle transition. (R449) -/
  | lcAdvance (src : CallSrc)
  /-- RNG_STARTUP_DONE: The TRNG start-up tests pass and the DRBG becomes READY. (R459) -/
  | rngStartupDone
  /-- RNG_HEALTH_FAIL: A health test fails, uninstantiates the DRBG and restarts the tests. (R460) -/
  | rngHealthFail
  /-- BWDG_KICK: A write of BWDG_KICK by Belfry restarts the secure watchdog. (R461) -/
  | bwdgKick (init : Init) (value : Word)
  /-- BWDG_EXPIRED: The secure watchdog expires and RESET_CHIP follows. (R461) -/
  | bwdgExpired
  /-- BDBG_SUBMIT: A JTAG submission of BDBG_BUF is verified as a certificate. (R463) -/
  | bdbgSubmit (init : Init) (value : Word)
  /-- SCAN_CLEAR_DONE: The scan clear is read back and the scan chains are enabled or stay disabled. (R464) -/
  | scanClearDone (ok : Bool)
  /-- BDBG_CLOSE: A write of BDBG_CTRL.CLOSE closes the selected debug enables. (R462) -/
  | bdbgClose (init : Init) (value : Word)
  /-- BUNDLE_CHUNK: In BLANK a JTAG bundle chunk is accepted and streamed or refused. (R527) -/
  | bundleChunk (init : Init) (value : Word)
  /-- TOC_PEND: A write of 1 to a pending bit ends that source's reactions. (R473) -/
  | tocPend (w : Fin 16) (init : Init) (value : Word)
  /-- TOC_LOG_SEL: A write of TOC_LOG_SEL latches a detail-log record. (R475) -/
  | tocLogSel (init : Init) (value : Word)
  /-- TOC_SWRAISE: A write of TOC_SWRAISE raises a software-defined source. (R476) -/
  | tocSwraise (init : Init) (value : Word)
  /-- TOC_SWINT: A write of TOC_SWINT asserts a software interrupt. (R476) -/
  | tocSwint (init : Init) (value : Word)
  /-- ERRN_RELEASE: A write of TOC_ERRN.RELEASE resumes ERRN toggling if nothing is pending. (R477) -/
  | errnRelease (init : Init) (value : Word)
  /-- KNELL_REQUEST: A Tocsin request pair changes value at Knell. (R479) -/
  | knellRequest (g : Fin 8) (broken : Option (Bool × Bool))
  /-- KNELL_RAIL_FAULT: A request pair stays invalid for t_DRF and sets RAIL. (R479) -/
  | knellRailFault (g : Fin 8)
  /-- HEARTBEAT_LOSS: The K-die heartbeat is absent for t_KHB and every group enters HALT. (R482) -/
  | heartbeatLoss
  /-- KSUP_LOSS: VDD_K stays below V_KUV for t_KUV and every group enters SAFE. (R482) -/
  | ksupLoss
  /-- HOSC_STOP: The H-die oscillator stops and every group enters SAFE. (R482) -/
  | hoscStop
  /-- WDG_KICK: A watchdog kick is accepted or is an EARLY or TOKEN event. (R484) -/
  | wdgKick (w : Fin 16) (init : Init) (value : Word) (us : Nat)
  /-- WDG_EXPIRED: A partition watchdog expires and raises FS432 + w. (R485) -/
  | wdgExpired (w : Fin 16)
  /-- WDG_PRE_WARNING: TMO − PRE passes and the watchdog warning interrupt is raised. (R484) -/
  | wdgPreWarning (w : Fin 16)
  /-- BIST_SLICE: The BIST slice starts and runs one unit of the chosen task. (R487) -/
  | bistSlice (pass : Bool) (raw0 : Nat) (raw1 : Nat) (ofs : Nat)
  /-- BIST_COVERAGE_LATE: A unit's age exceeds MAX_AGE and FS421 is raised. (R489) -/
  | bistCoverageLate (task : Fin 6) (unit : Nat)
  /-- PRBS_GO: A write of GO starts a PRBS test or refuses it. (R491) -/
  | prbsGo (init : Init) (value : Word) (outst : List Req)
  /-- PRBS_STOP: A write of STOP ends a PRBS test. (R492) -/
  | prbsStop (init : Init) (value : Word) (bits : Nat) (errs : Nat)
  /-- PRBS_DURATION_END: A PRBS test ends after DUR ms with its result. (R492) -/
  | prbsDurationEnd (bits : Nat) (errs : Nat)
  /-- OSC_DLY_END: OSC_DLY passes and the monitor starts counting CLKIN. (R502) -/
  | oscDlyEnd
  /-- CLKIN_QUALIFIED: Eight good windows qualify CLKIN and the PLLs start. (R503) -/
  | clkinQualified (us : Nat)
  /-- MONITOR_WINDOW: A monitor window ends and is judged good or bad, updating CAL. (R507) -/
  | monitorWindow (count : Nat)
  /-- CLKIN_FAIL: FAIL_WIN bad windows declare CLKIN failed and the PLLs fall back to IRC100. (R509) -/
  | clkinFail
  /-- CLKIN_OK: OK_WIN good windows during fallback set CLKIN_OK. (R510) -/
  | clkinOk
  /-- CLK_RESTORE: A write of RESTORE returns the PLLs to CLKIN. (R510) -/
  | clkRestore (init : Init) (value : Word)
  /-- PLL_LOCK: A PLL locks, or relocks after a reference change. (R505) -/
  | pllLock (p : Fin 4) (us : Nat)
  /-- PLL_DEAD: A PLL is declared dead and its domains are switched or stopped. (R513) -/
  | pllDead (p : Fin 4) (outst : List Req)
  /-- FORCED_SWITCH: No stop acknowledgement within 32 IRC100 cycles forces the multiplexer. (R513) -/
  | forcedSwitch (d : Fin 20)
  /-- DOMAIN_SWITCH_DONE: A domain's first new edge ends its source switch. (R511) -/
  | domainSwitchDone (d : Fin 20) (gap : Nat)
  /-- CLK_DOM_DIV: A write of CLK_DOMd.DIV starts a divider switch. (R511) -/
  | clkDomDiv (d : Fin 20) (init : Init) (value : Word)
  /-- IRC100_OUT_OF_RANGE: The island finds the heartbeat count out of range and stops forwarding it. (R514) -/
  | irc100OutOfRange (count : Nat)
  /-- HALT_SAFE_POWER_DOWN: t_HALT_PWR after HALT_SAFE, Gong drops PMIC_EN. (R514) -/
  | haltSafePowerDown (outst : List Req)
  /-- POWER_ON_RESET: VBAT12 rises above V_AON_ON and the island resets and starts. (R521) -/
  | powerOnReset (brown : Bool)
  /-- AON_OFF: VBAT12 falls below V_AON_OFF and the device enters OFF. (R361) -/
  | aonOff
  /-- AON_UP_DONE: t_AON_UP passes and Gong asserts PMIC_EN. (R521) -/
  | aonUpDone
  /-- PGOOD_RISE: PGOOD rises and the reset release is timed. (R521) -/
  | pgoodRise
  /-- RESET_RELEASE: t_POR after PGOOD the dies leave reset and straps are sampled. (R521) -/
  | resetRelease (straps : Fin 16) (us : Nat)
  /-- SUPPLY_RESET: PGOOD falls while PMIC_EN is high. (R530) -/
  | supplyReset (outst : List Req)
  /-- RESET_CHIP: A chip reset holds the K-die and H-die for t_RST and boot resumes at step 6. (R531) -/
  | resetChip (outst : List Req)
  /-- RESET_PART: A partition reset resets that partition's resources. (R530) -/
  | resetPart (part : Fin 16)
  /-- TAP_RESET: TRSTN low or Test-Logic-Reset resets the TAP. (R530) -/
  | tapReset
  /-- DDR_TRAINING_DONE: DDR training completes and port 0x1001 opens, or fails. (R523) -/
  | ddrTrainingDone (ok : Bool)
  /-- ROM_BOOT: The Belfry ROM verifies and streams the first-stage bundle and locks the assignment. (R451) -/
  | romBoot (us : Nat) (rom : RomIn)
  /-- TRIO_RELEASE: The Carillon trios leave HELD into TMR, DEGRADED, FAILED or SPLIT. (R521) -/
  | trioRelease (us : Nat)
  /-- CONFIGURATION_APPLY: Boot step 8 applies the base image, overlay and presets and starts the beat. (R522) -/
  | configurationApply (us : Nat)
  /-- A_CLUSTER_RELEASE: Belfry releases the A-cluster harts at A_ENTRY. (R521) -/
  | aClusterRelease (us : Nat)
  /-- RAIL_OUT_OF_RANGE: A rail stays outside ±8 % for 2 µs and raises FS12 or FS13. (R536) -/
  | railOutOfRange (rail : Fin 8) (mv : Nat)
  /-- VBAT_OUT_OF_RANGE: VBAT12 or VBAT48 crosses a monitor threshold. (R536) -/
  | vbatOutOfRange (b48 : Bool) (mv : Nat)
  /-- VBAT_IN_RANGE: A VBAT rail returns into range and interrupt 517 is raised. (R536) -/
  | vbatInRange (b48 : Bool) (mv : Nat)
  /-- TEMP_THRESHOLD: A die temperature crosses a warning or limit threshold. (R542) -/
  | tempThreshold (hdie : Bool) (t : Int)
  /-- PLL_LOSS_OF_LOCK: A running PLL loses lock, which counts in CLK_PLLp.UNLOCKS and, for NPLL, takes the time unit from SYNCED to HOLDOVER with HO_CAUSE 4. (R505) -/
  | pllLossOfLock (p : Fin 4)
  /-- WAKE_FRAME_DECODE: A sleeping transceiver in FRAME mode decodes a CC frame that does not wake it and moves its frame error counter up or down. (R329) -/
  | wakeFrameDecode (n : Fin 16) (frame : CanFrame) (dlc : Fin 16) (ok : Bool) (ticks : Nat)
  /-- LIN_HEADER_RX: A responder channel receives a break, sync field and PID, synchronises, and publishes its response or records error 5 or 6. (R334) -/
  | linHeaderRx (l : Fin 12) (pid : Fin 256) (sync : Bool)
  /-- LIN_RESPONSE_TIMEOUT: No response arrives within the response time after a header, and error 3 with FS337 is recorded. (R334) -/
  | linResponseTimeout (l : Fin 12)
  /-- SSUP_LIMIT_END: A sensor supply load falls below I_SS_LIM and the supply returns from LIMIT to ON. (R200) -/
  | ssupLimitEnd (n : Fin 8) (vRaw : Nat) (iRaw : Nat)
  /-- SSUP_BACKFEED_END: A sensor supply output falls below 5.2 V and the supply returns from BACKFEED to ON. (R200) -/
  | ssupBackfeedEnd (n : Fin 8) (vRaw : Nat) (iRaw : Nat)
  /-- PRBS_LOCK: The PRBS checker sees 64 consecutive correct bits and locks, starting its BITS and ERRS counts. (R492) -/
  | prbsLock
  /-- PRBS_LOCK_LOSS: The PRBS checker meets 64 errors within 1,024 bits, loses lock and increments LOCK_LOSSES. (R492) -/
  | prbsLockLoss (bits : Nat) (errs : Nat)
  /-- SSRAM_ECC_ERROR: An access to system SRAM meets a corrected or uncorrectable ECC error and raises FS102 or FS103. (R39) -/
  | ssramEccError (corrected : Bool) (req : Req) (addr : Nat)
  /-- DRAM_ECC_ERROR: A DRAM access meets a corrected or uncorrectable inline-ECC error, including a poisoned line, and raises FS104 or FS105. (R39) -/
  | dramEccError (corrected : Bool) (req : Req) (addr : Nat)
  /-- BELFRY_SRAM_ECC_UE: An uncorrectable error in Belfry SRAM raises FS397. (R469) -/
  | belfrySramEccUe
  /-- RNG_STARTUP_FAIL: The TRNG start-up tests fail, counting a failed restart and after three leaving STATE FAILED with FS390. (R460) -/
  | rngStartupFail
  /-- SENSE_FAULT_END: A channel or feed current-sense fault ends and VALID returns with the next conversion. (R138) -/
  | senseFaultEnd (unit : Fin 74)
  /-- TEMP_SENSOR_FAULT: A die sensor conversion falls outside −55 to +175 °C, or returns inside it, so that AMB_SEL source 8 becomes not valid or valid again. (R542) -/
  | tempSensorFault (hdie : Bool) (t : Int)
  deriving DecidableEq, Repr

end Sys2Proof
end

