-- ==== Sys2Proof/Decode.lean ====
section
/-!
DEFINITION. The decoder of table words.  No row of the opcode table gives its command any bits: commands reach the
block as register accesses, messages and events, not as words, so no word spells a command.
-/

namespace Sys2Proof

/-- The command that a word of the opcode table spells: none, since no row gives bits. -/
def decodeTableWord (_nbits _w : Nat) : Option Instr := none

end Sys2Proof
end

