-- ==== Sys2Proof/Config.lean ====
section
/-!
DEFINITION. What the spec leaves to the implementation: values without a body, of which nothing can be proved.
-/

namespace Sys2Proof.Config

/-- Whether the hardware rounds up a quotient `num / den` whose rounding the spec does not state; `tag` tells the
quantities apart. -/
opaque roundUp (tag num den : Nat) : Bool

/-- A free value: the `n`-th one drawn, for the purpose `tag`. -/
opaque freeNat (tag n : Nat) : Nat

/-- A free choice: the `n`-th one drawn, for the purpose `tag`. -/
opaque freeBool (tag n : Nat) : Bool

/-- The standard of a port type (ports of Table 9-1, by port number) defines transmitter test mode `n` (R279). -/
opaque testMode (port n : Nat) : Bool

/-- The identity key that the key engine derives from an ID_SEED (R452 states no derivation). -/
opaque identKey (seed : Nat) : Nat

/-- The key material that a wrapping key and wrapped octets yield, or none where the wrapping does not verify (R454 states no
wrapping algorithm). -/
opaque unwrapKey (wrapping : Nat) (wrapped : List Nat) : Option Nat

/-- KIND of the key that wrapped octets hold, its USAGE, and whether it is persistent. -/
opaque unwrapKind (wrapped : List Nat) : Nat
opaque unwrapUsage (wrapped : List Nat) : Nat
opaque unwrapPersist (wrapped : List Nat) : Bool

end Sys2Proof.Config
end

