-- ==== Sys2Proof/Machine/Bits.lean ====
section
/-!
DEFINITION. Bit fields of words, saturating counters, byte order (R11) and the operations of the
sparse table.
-/

namespace Sys2Proof.Machine

/-- Bits [hi:lo] of a natural number. -/
def bitsOf (w hi lo : Nat) : Nat := w / 2 ^ lo % 2 ^ (hi + 1 - lo)

/-- `w` with bits [hi:lo] replaced by `v`. -/
def withBits (w hi lo v : Nat) : Nat :=
  w / 2 ^ (hi + 1) * 2 ^ (hi + 1) + v % 2 ^ (hi + 1 - lo) * 2 ^ lo + w % 2 ^ lo

/-- One bit of a natural number. -/
def bitOf (w i : Nat) : Bool := w.testBit i

/-- Bits [hi:lo] of a register word. -/
def getBits (w : Word) (hi lo : Nat) : Nat := bitsOf w.toNat hi lo

/-- A register word with bits [hi:lo] replaced. -/
def setBits (w : Word) (hi lo v : Nat) : Word := BitVec.ofNat 32 (withBits w.toNat hi lo v)

/-- 0 or 1 for a Boolean. -/
def b2n (b : Bool) : Nat := if b then 1 else 0

/-- A counter of the given greatest value, one higher and saturating. -/
def satInc (n top : Nat) : Nat := if n < top then n + 1 else top

/-- A counter `k` higher, saturating at `top`. -/
def satAdd (n k top : Nat) : Nat := if n + k < top then n + k else top

/-- The signed value of an n-bit two's-complement number. -/
def toSigned (n v : Nat) : Int := if v < 2 ^ (n - 1) then (v : Int) else (v : Int) - (2 ^ n : Nat)

/-- The n-bit two's-complement code of an integer. -/
def ofSigned (n : Nat) (i : Int) : Nat := (i % ((2 ^ n : Nat) : Int)).toNat

/-- The `i`-th octet of a number, little-endian (R11). -/
def octet (v i : Nat) : Nat := v / 256 ^ i % 256

/-- `n` octets of a number, little-endian (R11). -/
def leOctets (v : Nat) : Nat → List Nat
  | 0 => []
  | n + 1 => v % 256 :: leOctets (v / 256) n

/-- The number that octets spell, little-endian (R11). -/
def leNat : List Nat → Nat
  | [] => 0
  | b :: bs => b % 256 + 256 * leNat bs

/-- Octets, first octet most significant (network order of R11). -/
def beNat (l : List Nat) : Nat := l.foldl (fun a b => a * 256 + b % 256) 0

/-- Value of key `k` in a table whose unlisted keys read `d`. -/
def tget {α : Type} (d : α) : Tab α → Nat → α
  | [], _ => d
  | (j, x) :: t, k => if j = k then x else tget d t k

/-- Every entry of key `k` removed. -/
def terase {α : Type} (t : Tab α) (k : Nat) : Tab α := List.filter (fun e => e.1 != k) t

/-- An entry put before the first larger key. -/
def tins {α : Type} (k : Nat) (x : α) : Tab α → Tab α
  | [] => [(k, x)]
  | (j, y) :: t => if k < j then (k, x) :: (j, y) :: t else (j, y) :: tins k x t

/-- Key `k` given the value `x`; the value an unlisted key has is not listed. -/
def tset {α : Type} [DecidableEq α] (d : α) (t : Tab α) (k : Nat) (x : α) : Tab α :=
  if x = d then terase t k else tins k x (terase t k)

/-- Key `k` changed by `f`. -/
def tupd {α : Type} [DecidableEq α] (d : α) (t : Tab α) (k : Nat) (f : α → α) : Tab α :=
  tset d t k (f (tget d t k))

/-- Every key of a list changed by `f`, which is told the key. -/
def tupdAll {α : Type} [DecidableEq α] (d : α) (t : Tab α) (ks : List Nat)
    (f : Nat → α → α) : Tab α :=
  ks.foldl (fun t k => tupd d t k (f k)) t

/-- The canonical form: keys strictly rising, no entry with the unlisted value. -/
def twf {α : Type} [DecidableEq α] (d : α) : Tab α → Bool
  | [] => true
  | [(_, x)] => decide (x ≠ d)
  | (j, x) :: (k, y) :: t => decide (x ≠ d) && decide (j < k) && twf d ((k, y) :: t)

/-- The least number from `from'` on, at most `n` later, that `p` holds of. -/
def findFrom (p : Nat → Bool) (start : Nat) : Nat → Option Nat
  | 0 => none
  | n + 1 => if p start then some start else findFrom p (start + 1) n

/-- ⌊log₂ n⌋ for n ≥ 1 (0 for 0). -/
def floorLog2 (n : Nat) : Nat := Nat.log2 n

end Sys2Proof.Machine
end

