-- ==== Sys2Proof/Machine/Reg.lean ====
section
/-!
DEFINITION. What a register family is: where it lies, which fields it has, how each field is accessed
(Table 0-3) and what it holds after reset (R10).
-/

namespace Sys2Proof.Machine

/-- Access code of a register field (R6, Table 0-3). -/
inductive Acc where
  | rw | ro | wo | w1c | w1s | rwl | rws
  deriving DecidableEq, Repr

/-- One field of a register family. -/
structure FieldDef where
  hi : Nat
  lo : Nat
  acc : Acc
  deriving DecidableEq, Repr

/-- A register family: its number, the address of its first word, its dimensions as (count, stride)
with the outermost first, its fields (other bits are Reserved, R8) and its word after reset by index. -/
structure Reg where
  id : Nat
  base : Nat
  dims : List (Nat × Nat)
  fields : List FieldDef
  rst : Nat → Nat

/-- A named field of a register family. -/
structure Fld where
  reg : Reg
  hi : Nat
  lo : Nat

/-- Address of word `i` of a family whose dimensions are listed innermost first. -/
def dimOffset : List (Nat × Nat) → Nat → Nat
  | [], _ => 0
  | (c, s) :: ds, i => s * (i % c) + dimOffset ds (i / c)

/-- Address of word `i` of a family. -/
def Reg.addr (r : Reg) (i : Nat) : Nat := r.base + dimOffset r.dims.reverse i

/-- How many words a family has. -/
def Reg.count (r : Reg) : Nat := r.dims.foldl (fun a d => a * d.1) 1

/-- Index, outermost dimension first, of the word at byte offset `o`, where there is one. -/
def dimIndex : List (Nat × Nat) → Nat → Nat → Option Nat
  | [], o, i => if o = 0 then some i else none
  | (c, s) :: ds, o, i =>
      let q := o / s
      if q < c then dimIndex ds (o - q * s) (i * c + q)
      else none

/-- Index of the family's word at an address. -/
def Reg.index? (r : Reg) (a : Nat) : Option Nat :=
  if a < r.base then none else dimIndex r.dims (a - r.base) 0

/-- The word a family holds after reset (R10). -/
def Reg.reset (r : Reg) (i : Nat) : Word := BitVec.ofNat 32 (r.rst i)

end Sys2Proof.Machine
end

