-- ==== Sys2Proof/Machine/RegReset.lean ====
section
/-!
DEFINITION. Reset words that a table of the spec gives by index: the fault sources' default
reactions, the self-test tasks, the gated blocks, the switch ports and VLAN 1.
-/

namespace Sys2Proof.Machine

/-- Fault sources whose default reaction is not LOG: first, last, class code of Table 17-1
(the default reactions of the owning chapters' tables). -/
def faultDefaults : List (Nat × Nat × Nat) :=
  [(432, 447, 5), (33, 34, 3), (49, 50, 3), (1, 2, 2), (12, 13, 2), (27, 27, 2), (29, 30, 2), (38, 38, 2),
   (54, 54, 2), (96, 96, 2), (101, 101, 2), (103, 103, 2), (105, 105, 2), (131, 131, 2), (183, 183, 2), (256, 257, 2),
   (390, 390, 2), (395, 395, 2), (397, 397, 2), (408, 408, 2), (416, 417, 2), (422, 422, 2), (3, 4, 1), (14, 15, 1),
   (17, 17, 1), (20, 22, 1), (24, 26, 1), (28, 28, 1), (35, 36, 1), (51, 52, 1), (97, 98, 1), (100, 100, 1),
   (106, 106, 1), (128, 128, 1), (130, 130, 1), (133, 134, 1), (138, 139, 1), (177, 180, 1), (226, 229, 1), (231, 233, 1),
   (235, 235, 1), (258, 258, 1), (260, 260, 1), (263, 263, 1), (273, 273, 1), (275, 276, 1), (279, 280, 1), (282, 282, 1),
   (320, 320, 1), (325, 326, 1), (328, 328, 1), (330, 330, 1), (338, 339, 1), (352, 352, 1), (357, 357, 1), (360, 361, 1),
   (380, 380, 1), (384, 385, 1), (388, 389, 1), (391, 391, 1), (393, 393, 1), (402, 405, 1), (407, 407, 1), (409, 409, 1),
   (418, 421, 1), (424, 425, 1), (448, 511, 1)]

/-- Default reaction class of source n. -/
def faultClass (n : Nat) : Nat :=
  match faultDefaults.find? (fun e => decide (e.1 ≤ n) && decide (n ≤ e.2.1)) with
  | some e => e.2.2
  | none => 0

/-- TOC_SRC n after reset (Table 17-6, R472): REACT, MIN, PART and NMI_TGT. -/
def tocSrcReset (n : Nat) : Nat :=
  let c := faultClass n
  let m := if 2 ≤ c then 2 else 0
  let part := if 432 ≤ n && n ≤ 447 then n - 432 else 15
  c * 2 ^ 29 + m * 2 ^ 26 + part * 2 ^ 14 + 3

/-- BIST_TASKk after reset, by k − 1 (Table 17-3). -/
def bistTaskReset (i : Nat) : Nat :=
  match i with
  | 0 => 20000 * 65536
  | 1 => 500 * 65536 + 40
  | 2 => 2000 * 65536 + 10
  | 3 => 3200 * 65536 + 10
  | _ => 1000 * 65536 + 25

/-- PM_GATEb after reset (Table 12-3): DSLEEP_EN, SLEEP_EN, RUN_EN. -/
def pmGateReset (b : Nat) : Nat :=
  if b = 16 then 7 else if b = 0 || b = 1 || b = 10 || b = 11 then 1 else 3

/-- SW_PORT_CFG p after reset (Table 8-7): EN and HAIRPIN are 1 for P20 to P23. -/
def swPortCfgReset (p : Nat) : Nat :=
  2 ^ 29 + 1 * 2 ^ 12 + (if 20 ≤ p then 2 ^ 31 + 2 ^ 25 else 0)

/-- SW_VLAN v word 0 after reset. -/
def swVlan0Reset (v : Nat) : Nat := if v = 1 then 2 ^ 31 + 2 ^ 30 + 0xFFFFFF else 2 ^ 30

/-- SW_VLAN v word 1 after reset. -/
def swVlan1Reset (v : Nat) : Nat := if v = 1 then 0xFFFFFF else 0

/-- SW_VLAN v word 2 after reset. -/
def swVlan2Reset (_ : Nat) : Nat := 0

end Sys2Proof.Machine
end

