-- ==== Sys2Proof/Machine/RegMapA.lean ====
section
/-!
DEFINITION. The register map: one `Reg` per register family of the spec's register tables
and one `Fld` per field (namespaces `R` and `F`).  Written from the tables of spec/; each family
names its table's rule.  A family with several units or entries is indexed by one flat index
(first dimension outermost).
-/

namespace Sys2Proof.Machine


namespace R

/-- FABRIC_ID (R42). -/
def FABRIC_ID : Reg := ⟨0, 0x10000000, [],
  [⟨31, 16, .ro⟩, ⟨15, 0, .ro⟩], fun _ => 0xfab100b1⟩
/-- FABRIC_CARWIN (R42). -/
def FABRIC_CARWIN : Reg := ⟨1, 0x10000010, [(2, 0x4)],
  [⟨31, 31, .w1s⟩, ⟨5, 0, .rw⟩], fun _ => 0⟩
/-- FABRIC_AUDIT_STAT (R42). -/
def FABRIC_AUDIT_STAT : Reg := ⟨2, 0x10000020, [],
  [⟨31, 31, .w1c⟩, ⟨15, 0, .ro⟩], fun _ => 0⟩
/-- FABRIC_AUDIT_PORT (R42). -/
def FABRIC_AUDIT_PORT : Reg := ⟨3, 0x10000024, [],
  [⟨15, 0, .ro⟩], fun _ => 0⟩
/-- FABRIC_PORT_SEL (R42). -/
def FABRIC_PORT_SEL : Reg := ⟨4, 0x10000030, [],
  [⟨15, 0, .rw⟩], fun _ => 0⟩
/-- FABRIC_TMO (R42). -/
def FABRIC_TMO : Reg := ⟨5, 0x10000038, [],
  [⟨31, 16, .rwl⟩, ⟨15, 0, .rwl⟩], fun _ => 0x27100064⟩
/-- LATE_ERR_WR (R42). -/
def LATE_ERR_WR : Reg := ⟨6, 0x10000040, [],
  [⟨8, 8, .ro⟩, ⟨5, 0, .ro⟩], fun _ => 0⟩
/-- LATE_ERR_RD (R42). -/
def LATE_ERR_RD : Reg := ⟨7, 0x10000044, [],
  [⟨31, 31, .wo⟩, ⟨5, 0, .rw⟩], fun _ => 0⟩
/-- LATE_ERR_OVF (R42). -/
def LATE_ERR_OVF : Reg := ⟨8, 0x10000048, [],
  [⟨31, 0, .ro⟩], fun _ => 0⟩
/-- LATE_ERR_IRQ (R42). -/
def LATE_ERR_IRQ : Reg := ⟨9, 0x1000004C, [],
  [⟨15, 0, .w1c⟩], fun _ => 0⟩
/-- SPINE_CTRL (R42). -/
def SPINE_CTRL : Reg := ⟨10, 0x100000C0, [],
  [⟨31, 31, .w1s⟩, ⟨7, 0, .rw⟩], fun _ => 0xa⟩
/-- SPINE_STAT (R42). -/
def SPINE_STAT : Reg := ⟨11, 0x100000C4, [],
  [⟨31, 30, .ro⟩, ⟨29, 29, .ro⟩, ⟨15, 0, .ro⟩], fun _ => 0⟩
/-- SPINE_ERR (R42). -/
def SPINE_ERR : Reg := ⟨12, 0x100000C8, [],
  [⟨31, 16, .ro⟩, ⟨15, 0, .ro⟩], fun _ => 0⟩
/-- LATE_ERR_E0 (R42). -/
def LATE_ERR_E0 : Reg := ⟨13, 0x10000400, [(64, 0x10)],
  [⟨31, 31, .ro⟩, ⟨30, 30, .ro⟩, ⟨29, 29, .ro⟩, ⟨28, 26, .ro⟩, ⟨25, 22, .ro⟩, ⟨10, 0, .ro⟩], fun _ => 0⟩
/-- LATE_ERR_E1 (R42). -/
def LATE_ERR_E1 : Reg := ⟨14, 0x10000404, [(64, 0x10)],
  [⟨31, 0, .ro⟩], fun _ => 0⟩
/-- LATE_ERR_E2 (R42). -/
def LATE_ERR_E2 : Reg := ⟨15, 0x10000408, [(64, 0x10)],
  [⟨7, 0, .ro⟩], fun _ => 0⟩
/-- LATE_ERR_E3 (R42). -/
def LATE_ERR_E3 : Reg := ⟨16, 0x1000040C, [(64, 0x10)],
  [⟨31, 0, .ro⟩], fun _ => 0⟩

end R

namespace F

def FABRIC_ID_BLOCK : Fld := ⟨R.FABRIC_ID, 31, 16⟩
def FABRIC_ID_VERSION : Fld := ⟨R.FABRIC_ID, 15, 0⟩
def FABRIC_CARWIN_LOCK : Fld := ⟨R.FABRIC_CARWIN, 31, 31⟩
def FABRIC_CARWIN_WIN_IDX : Fld := ⟨R.FABRIC_CARWIN, 5, 0⟩
def FABRIC_AUDIT_STAT_MISMATCH : Fld := ⟨R.FABRIC_AUDIT_STAT, 31, 31⟩
def FABRIC_AUDIT_STAT_AUDITS : Fld := ⟨R.FABRIC_AUDIT_STAT, 15, 0⟩
def FABRIC_AUDIT_PORT_PORT : Fld := ⟨R.FABRIC_AUDIT_PORT, 15, 0⟩
def FABRIC_PORT_SEL_PORT : Fld := ⟨R.FABRIC_PORT_SEL, 15, 0⟩
def FABRIC_TMO_FENCE_MAX : Fld := ⟨R.FABRIC_TMO, 31, 16⟩
def FABRIC_TMO_TGT_TMO : Fld := ⟨R.FABRIC_TMO, 15, 0⟩
def LATE_ERR_WR_FULL : Fld := ⟨R.LATE_ERR_WR, 8, 8⟩
def LATE_ERR_WR_WR_IDX : Fld := ⟨R.LATE_ERR_WR, 5, 0⟩
def LATE_ERR_RD_CLR_OVF : Fld := ⟨R.LATE_ERR_RD, 31, 31⟩
def LATE_ERR_RD_RD_IDX : Fld := ⟨R.LATE_ERR_RD, 5, 0⟩
def LATE_ERR_OVF_OVF_CNT : Fld := ⟨R.LATE_ERR_OVF, 31, 0⟩
def LATE_ERR_IRQ_PEND : Fld := ⟨R.LATE_ERR_IRQ, 15, 0⟩
def SPINE_CTRL_HRESET : Fld := ⟨R.SPINE_CTRL, 31, 31⟩
def SPINE_CTRL_HOLD : Fld := ⟨R.SPINE_CTRL, 7, 0⟩
def SPINE_STAT_STATE : Fld := ⟨R.SPINE_STAT, 31, 30⟩
def SPINE_STAT_HOLDING : Fld := ⟨R.SPINE_STAT, 29, 29⟩
def SPINE_STAT_LINKUP_CNT : Fld := ⟨R.SPINE_STAT, 15, 0⟩
def SPINE_ERR_RETRAIN_CNT : Fld := ⟨R.SPINE_ERR, 31, 16⟩
def SPINE_ERR_REPLAY_CNT : Fld := ⟨R.SPINE_ERR, 15, 0⟩
def LATE_ERR_E0_VALID : Fld := ⟨R.LATE_ERR_E0, 31, 31⟩
def LATE_ERR_E0_SECURE : Fld := ⟨R.LATE_ERR_E0, 30, 30⟩
def LATE_ERR_E0_DISCARDED : Fld := ⟨R.LATE_ERR_E0, 29, 29⟩
def LATE_ERR_E0_CAUSE : Fld := ⟨R.LATE_ERR_E0, 28, 26⟩
def LATE_ERR_E0_PART : Fld := ⟨R.LATE_ERR_E0, 25, 22⟩
def LATE_ERR_E0_INIT : Fld := ⟨R.LATE_ERR_E0, 10, 0⟩
def LATE_ERR_E1_ADDR_LO : Fld := ⟨R.LATE_ERR_E1, 31, 0⟩
def LATE_ERR_E2_ADDR_HI : Fld := ⟨R.LATE_ERR_E2, 7, 0⟩
def LATE_ERR_E3_BEAT : Fld := ⟨R.LATE_ERR_E3, 31, 0⟩

end F

/-- The register families of block FABRIC. -/
def regsFABRIC : List Reg :=
  [R.FABRIC_ID, R.FABRIC_CARWIN, R.FABRIC_AUDIT_STAT, R.FABRIC_AUDIT_PORT, R.FABRIC_PORT_SEL, R.FABRIC_TMO,
   R.LATE_ERR_WR, R.LATE_ERR_RD, R.LATE_ERR_OVF, R.LATE_ERR_IRQ, R.SPINE_CTRL, R.SPINE_STAT,
   R.SPINE_ERR, R.LATE_ERR_E0, R.LATE_ERR_E1, R.LATE_ERR_E2, R.LATE_ERR_E3]

/-- First and one-past-last family number of block FABRIC. -/
def idsFABRIC : Nat × Nat := (0, 17)

namespace R

/-- TOC_ID (R495). -/
def TOC_ID : Reg := ⟨17, 0x10010000, [],
  [⟨31, 16, .ro⟩, ⟨15, 0, .ro⟩], fun _ => 0x70c500b1⟩
/-- TOC_STAT (R495). -/
def TOC_STAT : Reg := ⟨18, 0x10010004, [],
  [⟨31, 31, .ro⟩, ⟨30, 28, .ro⟩], fun _ => 0x80000000⟩
/-- TOC_ERRN (R495). -/
def TOC_ERRN : Reg := ⟨19, 0x10010008, [],
  [⟨31, 31, .w1s⟩], fun _ => 0⟩
/-- TOC_LOG_SEL (R495). -/
def TOC_LOG_SEL : Reg := ⟨20, 0x10010010, [],
  [⟨24, 16, .rw⟩, ⟨3, 0, .rw⟩], fun _ => 0⟩
/-- TOC_LOG_INFO (R495). -/
def TOC_LOG_INFO : Reg := ⟨21, 0x10010014, [],
  [⟨31, 16, .ro⟩, ⟨4, 0, .ro⟩], fun _ => 4⟩
/-- TOC_LOG_W (R495). -/
def TOC_LOG_W : Reg := ⟨22, 0x10010018, [(4, 0x4)],
  [⟨31, 0, .ro⟩], fun _ => 0⟩
/-- TOC_SWRAISE (R495). -/
def TOC_SWRAISE : Reg := ⟨23, 0x10010030, [],
  [⟨31, 16, .wo⟩, ⟨8, 0, .wo⟩], fun _ => 0⟩
/-- TOC_SWINT (R495). -/
def TOC_SWINT : Reg := ⟨24, 0x10010038, [],
  [⟨5, 0, .wo⟩], fun _ => 0⟩
/-- TOC_SWINT_PEND (R495). -/
def TOC_SWINT_PEND : Reg := ⟨25, 0x10010040, [(2, 0x4)],
  [⟨31, 0, .w1c⟩], fun _ => 0⟩
/-- TOC_RSTCAUSE (R495). -/
def TOC_RSTCAUSE : Reg := ⟨26, 0x10010050, [],
  [⟨31, 31, .ro⟩, ⟨30, 28, .ro⟩, ⟨8, 0, .ro⟩], fun _ => 0⟩
/-- TOC_RSTBEAT (R495). -/
def TOC_RSTBEAT : Reg := ⟨27, 0x10010054, [],
  [⟨31, 0, .ro⟩], fun _ => 0⟩
/-- TOC_PEND (R495). -/
def TOC_PEND : Reg := ⟨28, 0x10010100, [(16, 0x4)],
  [⟨31, 0, .w1c⟩], fun _ => 0⟩
/-- TOC_SRC (R495). -/
def TOC_SRC : Reg := ⟨29, 0x10011000, [(512, 0x4)],
  [⟨31, 29, .rwl⟩, ⟨28, 26, .ro⟩, ⟨25, 18, .rwl⟩, ⟨17, 14, .rwl⟩, ⟨13, 13, .rwl⟩, ⟨2, 0, .rwl⟩], fun i => tocSrcReset i⟩
/-- TOC_CNT (R495). -/
def TOC_CNT : Reg := ⟨30, 0x10012000, [(512, 0x4)],
  [⟨31, 0, .ro⟩], fun _ => 0⟩
/-- WDG_CFG (R495). -/
def WDG_CFG : Reg := ⟨31, 0x10013000, [(16, 0x20)],
  [⟨31, 31, .rwl⟩, ⟨23, 0, .rwl⟩], fun _ => 0x186a0⟩
/-- WDG_WIN (R495). -/
def WDG_WIN : Reg := ⟨32, 0x10013004, [(16, 0x20)],
  [⟨23, 0, .rwl⟩], fun _ => 0⟩
/-- WDG_PRE (R495). -/
def WDG_PRE : Reg := ⟨33, 0x10013008, [(16, 0x20)],
  [⟨23, 0, .rwl⟩], fun _ => 0⟩
/-- WDG_FIRST (R495). -/
def WDG_FIRST : Reg := ⟨34, 0x1001300C, [(16, 0x20)],
  [⟨23, 0, .rwl⟩], fun _ => 0x7a120⟩
/-- WDG_KICK (R495). -/
def WDG_KICK : Reg := ⟨35, 0x10013010, [(16, 0x20)],
  [⟨7, 0, .wo⟩], fun _ => 0⟩
/-- WDG_STAT (R495). -/
def WDG_STAT : Reg := ⟨36, 0x10013014, [(16, 0x20)],
  [⟨31, 30, .ro⟩, ⟨29, 29, .ro⟩, ⟨28, 28, .ro⟩, ⟨23, 0, .ro⟩], fun _ => 0⟩
/-- WDG_CNT (R495). -/
def WDG_CNT : Reg := ⟨37, 0x10013018, [(16, 0x20)],
  [⟨31, 0, .ro⟩], fun _ => 0⟩

end R

namespace F

def TOC_ID_BLOCK : Fld := ⟨R.TOC_ID, 31, 16⟩
def TOC_ID_VERSION : Fld := ⟨R.TOC_ID, 15, 0⟩
def TOC_STAT_ERRN_LOW : Fld := ⟨R.TOC_STAT, 31, 31⟩
def TOC_STAT_MAXCLASS : Fld := ⟨R.TOC_STAT, 30, 28⟩
def TOC_ERRN_RELEASE : Fld := ⟨R.TOC_ERRN, 31, 31⟩
def TOC_LOG_SEL_SRC : Fld := ⟨R.TOC_LOG_SEL, 24, 16⟩
def TOC_LOG_SEL_IDX : Fld := ⟨R.TOC_LOG_SEL, 3, 0⟩
def TOC_LOG_INFO_SEQ : Fld := ⟨R.TOC_LOG_INFO, 31, 16⟩
def TOC_LOG_INFO_DEPTH : Fld := ⟨R.TOC_LOG_INFO, 4, 0⟩
def TOC_LOG_W_DATA : Fld := ⟨R.TOC_LOG_W, 31, 0⟩
def TOC_SWRAISE_VALUE : Fld := ⟨R.TOC_SWRAISE, 31, 16⟩
def TOC_SWRAISE_SRC : Fld := ⟨R.TOC_SWRAISE, 8, 0⟩
def TOC_SWINT_M : Fld := ⟨R.TOC_SWINT, 5, 0⟩
def TOC_SWINT_PEND_PEND : Fld := ⟨R.TOC_SWINT_PEND, 31, 0⟩
def TOC_RSTCAUSE_VALID : Fld := ⟨R.TOC_RSTCAUSE, 31, 31⟩
def TOC_RSTCAUSE_CLASS : Fld := ⟨R.TOC_RSTCAUSE, 30, 28⟩
def TOC_RSTCAUSE_SRC : Fld := ⟨R.TOC_RSTCAUSE, 8, 0⟩
def TOC_RSTBEAT_BEAT : Fld := ⟨R.TOC_RSTBEAT, 31, 0⟩
def TOC_PEND_PEND : Fld := ⟨R.TOC_PEND, 31, 0⟩
def TOC_SRC_REACT : Fld := ⟨R.TOC_SRC, 31, 29⟩
def TOC_SRC_MIN : Fld := ⟨R.TOC_SRC, 28, 26⟩
def TOC_SRC_GROUPS : Fld := ⟨R.TOC_SRC, 25, 18⟩
def TOC_SRC_PART : Fld := ⟨R.TOC_SRC, 17, 14⟩
def TOC_SRC_ERRN_EN : Fld := ⟨R.TOC_SRC, 13, 13⟩
def TOC_SRC_NMI_TGT : Fld := ⟨R.TOC_SRC, 2, 0⟩
def TOC_CNT_CNT : Fld := ⟨R.TOC_CNT, 31, 0⟩
def WDG_CFG_EN : Fld := ⟨R.WDG_CFG, 31, 31⟩
def WDG_CFG_TMO : Fld := ⟨R.WDG_CFG, 23, 0⟩
def WDG_WIN_OPEN : Fld := ⟨R.WDG_WIN, 23, 0⟩
def WDG_PRE_PRE : Fld := ⟨R.WDG_PRE, 23, 0⟩
def WDG_FIRST_FIRST : Fld := ⟨R.WDG_FIRST, 23, 0⟩
def WDG_KICK_TOKEN : Fld := ⟨R.WDG_KICK, 7, 0⟩
def WDG_STAT_LAST : Fld := ⟨R.WDG_STAT, 31, 30⟩
def WDG_STAT_RUNNING : Fld := ⟨R.WDG_STAT, 29, 29⟩
def WDG_STAT_NEXT : Fld := ⟨R.WDG_STAT, 28, 28⟩
def WDG_STAT_REM : Fld := ⟨R.WDG_STAT, 23, 0⟩
def WDG_CNT_CNT : Fld := ⟨R.WDG_CNT, 31, 0⟩

end F

/-- The register families of block TOCSIN. -/
def regsTOCSIN : List Reg :=
  [R.TOC_ID, R.TOC_STAT, R.TOC_ERRN, R.TOC_LOG_SEL, R.TOC_LOG_INFO, R.TOC_LOG_W,
   R.TOC_SWRAISE, R.TOC_SWINT, R.TOC_SWINT_PEND, R.TOC_RSTCAUSE, R.TOC_RSTBEAT, R.TOC_PEND,
   R.TOC_SRC, R.TOC_CNT, R.WDG_CFG, R.WDG_WIN, R.WDG_PRE, R.WDG_FIRST,
   R.WDG_KICK, R.WDG_STAT, R.WDG_CNT]

/-- First and one-past-last family number of block TOCSIN. -/
def idsTOCSIN : Nat × Nat := (17, 38)

namespace R

/-- KN_ID (R496). -/
def KN_ID : Reg := ⟨38, 0x10020000, [],
  [⟨31, 16, .ro⟩, ⟨15, 0, .ro⟩], fun _ => 0x4e1100b1⟩
/-- KN_GRP (R496). -/
def KN_GRP : Reg := ⟨39, 0x10020010, [(8, 0x4)],
  [⟨31, 21, .rwl⟩, ⟨20, 18, .rwl⟩, ⟨17, 15, .rwl⟩], fun _ => 0xffe10000⟩
/-- KN_GSTAT (R496). -/
def KN_GSTAT : Reg := ⟨40, 0x10020030, [(8, 0x4)],
  [⟨31, 30, .ro⟩, ⟨29, 29, .ro⟩, ⟨28, 28, .ro⟩, ⟨27, 27, .ro⟩, ⟨26, 26, .ro⟩, ⟨25, 25, .ro⟩, ⟨24, 24, .ro⟩, ⟨23, 23, .ro⟩, ⟨22, 22, .ro⟩, ⟨21, 19, .ro⟩], fun _ => 0⟩
/-- KN_STAT (R496). -/
def KN_STAT : Reg := ⟨41, 0x10020050, [],
  [⟨31, 31, .ro⟩, ⟨30, 30, .w1c⟩, ⟨29, 29, .w1c⟩, ⟨23, 16, .w1c⟩, ⟨7, 0, .ro⟩], fun _ => 0⟩
/-- KN_CNT (R496). -/
def KN_CNT : Reg := ⟨42, 0x10020060, [(8, 0x4)],
  [⟨31, 0, .ro⟩], fun _ => 0⟩

end R

namespace F

def KN_ID_BLOCK : Fld := ⟨R.KN_ID, 31, 16⟩
def KN_ID_VERSION : Fld := ⟨R.KN_ID, 15, 0⟩
def KN_GRP_PROD : Fld := ⟨R.KN_GRP, 31, 21⟩
def KN_GRP_HOLD : Fld := ⟨R.KN_GRP, 20, 18⟩
def KN_GRP_REL_BEATS : Fld := ⟨R.KN_GRP, 17, 15⟩
def KN_GSTAT_STATE : Fld := ⟨R.KN_GSTAT, 31, 30⟩
def KN_GSTAT_TOCSIN : Fld := ⟨R.KN_GSTAT, 29, 29⟩
def KN_GSTAT_TWIN_REQ : Fld := ⟨R.KN_GSTAT, 28, 28⟩
def KN_GSTAT_TWIN_SAFE : Fld := ⟨R.KN_GSTAT, 27, 27⟩
def KN_GSTAT_LINK : Fld := ⟨R.KN_GSTAT, 26, 26⟩
def KN_GSTAT_KSUP : Fld := ⟨R.KN_GSTAT, 25, 25⟩
def KN_GSTAT_KCLK : Fld := ⟨R.KN_GSTAT, 24, 24⟩
def KN_GSTAT_RAIL : Fld := ⟨R.KN_GSTAT, 23, 23⟩
def KN_GSTAT_HOSC : Fld := ⟨R.KN_GSTAT, 22, 22⟩
def KN_GSTAT_REL_CNT : Fld := ⟨R.KN_GSTAT, 21, 19⟩
def KN_STAT_HALT : Fld := ⟨R.KN_STAT, 31, 31⟩
def KN_STAT_HOSC_LOST : Fld := ⟨R.KN_STAT, 30, 30⟩
def KN_STAT_KLOSS : Fld := ⟨R.KN_STAT, 29, 29⟩
def KN_STAT_RAIL_FAULT : Fld := ⟨R.KN_STAT, 23, 16⟩
def KN_STAT_SAFE : Fld := ⟨R.KN_STAT, 7, 0⟩
def KN_CNT_CNT : Fld := ⟨R.KN_CNT, 31, 0⟩

end F

/-- The register families of block KNELL. -/
def regsKNELL : List Reg :=
  [R.KN_ID, R.KN_GRP, R.KN_GSTAT, R.KN_STAT, R.KN_CNT]

/-- First and one-past-last family number of block KNELL. -/
def idsKNELL : Nat × Nat := (38, 43)

namespace R

/-- BIST_ID (R497). -/
def BIST_ID : Reg := ⟨43, 0x10900000, [],
  [⟨31, 16, .ro⟩, ⟨15, 0, .ro⟩], fun _ => 0xb15700b1⟩
/-- BIST_CTRL (R497). -/
def BIST_CTRL : Reg := ⟨44, 0x10900004, [],
  [⟨31, 31, .rwl⟩, ⟨5, 1, .rwl⟩], fun _ => 0x8000003e⟩
/-- BIST_TASK (R497). -/
def BIST_TASK : Reg := ⟨45, 0x10900010, [(5, 0x4)],
  [⟨31, 16, .rwl⟩, ⟨15, 0, .rwl⟩], fun i => bistTaskReset i⟩
/-- BIST_STAT (R497). -/
def BIST_STAT : Reg := ⟨46, 0x10900030, [(5, 0x10)],
  [⟨31, 16, .ro⟩, ⟨15, 0, .ro⟩], fun _ => 0⟩
/-- BIST_STAT1 (R497). -/
def BIST_STAT1 : Reg := ⟨47, 0x10900034, [(5, 0x10)],
  [⟨31, 16, .ro⟩, ⟨15, 0, .ro⟩], fun _ => 0⟩
/-- BIST_STAT2 (R497). -/
def BIST_STAT2 : Reg := ⟨48, 0x10900038, [(5, 0x10)],
  [⟨31, 0, .ro⟩], fun _ => 0⟩
/-- BIST_SLICE (R497). -/
def BIST_SLICE : Reg := ⟨49, 0x10900080, [],
  [⟨31, 16, .ro⟩, ⟨3, 0, .ro⟩], fun _ => 0⟩
/-- BIST_PRBS_CTRL (R497). -/
def BIST_PRBS_CTRL : Reg := ⟨50, 0x10900100, [],
  [⟨31, 31, .w1s⟩, ⟨30, 30, .w1s⟩, ⟨29, 27, .rw⟩, ⟨26, 25, .rw⟩, ⟨24, 24, .rw⟩, ⟨23, 21, .rw⟩, ⟨20, 16, .rw⟩, ⟨15, 0, .rw⟩], fun _ => 0x70003e8⟩
/-- BIST_PRBS_STAT (R497). -/
def BIST_PRBS_STAT : Reg := ⟨51, 0x10900104, [],
  [⟨31, 31, .ro⟩, ⟨30, 30, .w1c⟩, ⟨29, 29, .ro⟩, ⟨28, 26, .ro⟩, ⟨15, 0, .ro⟩], fun _ => 0⟩
/-- BIST_PRBS_BITS_LO (R497). -/
def BIST_PRBS_BITS_LO : Reg := ⟨52, 0x10900108, [],
  [⟨31, 0, .ro⟩], fun _ => 0⟩
/-- BIST_PRBS_BITS_HI (R497). -/
def BIST_PRBS_BITS_HI : Reg := ⟨53, 0x1090010C, [],
  [⟨31, 0, .ro⟩], fun _ => 0⟩
/-- BIST_PRBS_ERRS (R497). -/
def BIST_PRBS_ERRS : Reg := ⟨54, 0x10900110, [],
  [⟨31, 0, .ro⟩], fun _ => 0⟩

end R

namespace F

def BIST_ID_BLOCK : Fld := ⟨R.BIST_ID, 31, 16⟩
def BIST_ID_VERSION : Fld := ⟨R.BIST_ID, 15, 0⟩
def BIST_CTRL_EN : Fld := ⟨R.BIST_CTRL, 31, 31⟩
def BIST_CTRL_TASK_EN : Fld := ⟨R.BIST_CTRL, 5, 1⟩
def BIST_TASK_MAX_AGE : Fld := ⟨R.BIST_TASK, 31, 16⟩
def BIST_TASK_PERIOD : Fld := ⟨R.BIST_TASK, 15, 0⟩
def BIST_STAT_FAILS : Fld := ⟨R.BIST_STAT, 31, 16⟩
def BIST_STAT_NEXT : Fld := ⟨R.BIST_STAT, 15, 0⟩
def BIST_STAT1_SKIPS : Fld := ⟨R.BIST_STAT1, 31, 16⟩
def BIST_STAT1_LAST_FAIL : Fld := ⟨R.BIST_STAT1, 15, 0⟩
def BIST_STAT2_PASSES : Fld := ⟨R.BIST_STAT2, 31, 0⟩
def BIST_SLICE_LB_SLICES : Fld := ⟨R.BIST_SLICE, 31, 16⟩
def BIST_SLICE_LAST_TASK : Fld := ⟨R.BIST_SLICE, 3, 0⟩
def BIST_PRBS_CTRL_GO : Fld := ⟨R.BIST_PRBS_CTRL, 31, 31⟩
def BIST_PRBS_CTRL_STOP : Fld := ⟨R.BIST_PRBS_CTRL, 30, 30⟩
def BIST_PRBS_CTRL_POLY : Fld := ⟨R.BIST_PRBS_CTRL, 29, 27⟩
def BIST_PRBS_CTRL_DIR : Fld := ⟨R.BIST_PRBS_CTRL, 26, 25⟩
def BIST_PRBS_CTRL_LOOP : Fld := ⟨R.BIST_PRBS_CTRL, 24, 24⟩
def BIST_PRBS_CTRL_KIND : Fld := ⟨R.BIST_PRBS_CTRL, 23, 21⟩
def BIST_PRBS_CTRL_INDEX : Fld := ⟨R.BIST_PRBS_CTRL, 20, 16⟩
def BIST_PRBS_CTRL_DUR : Fld := ⟨R.BIST_PRBS_CTRL, 15, 0⟩
def BIST_PRBS_STAT_RUNNING : Fld := ⟨R.BIST_PRBS_STAT, 31, 31⟩
def BIST_PRBS_STAT_DONE : Fld := ⟨R.BIST_PRBS_STAT, 30, 30⟩
def BIST_PRBS_STAT_LOCKED : Fld := ⟨R.BIST_PRBS_STAT, 29, 29⟩
def BIST_PRBS_STAT_RESULT : Fld := ⟨R.BIST_PRBS_STAT, 28, 26⟩
def BIST_PRBS_STAT_LOCK_LOSSES : Fld := ⟨R.BIST_PRBS_STAT, 15, 0⟩
def BIST_PRBS_BITS_LO_W : Fld := ⟨R.BIST_PRBS_BITS_LO, 31, 0⟩
def BIST_PRBS_BITS_HI_W : Fld := ⟨R.BIST_PRBS_BITS_HI, 31, 0⟩
def BIST_PRBS_ERRS_ERRS : Fld := ⟨R.BIST_PRBS_ERRS, 31, 0⟩

end F

/-- The register families of block BIST. -/
def regsBIST : List Reg :=
  [R.BIST_ID, R.BIST_CTRL, R.BIST_TASK, R.BIST_STAT, R.BIST_STAT1, R.BIST_STAT2,
   R.BIST_SLICE, R.BIST_PRBS_CTRL, R.BIST_PRBS_STAT, R.BIST_PRBS_BITS_LO, R.BIST_PRBS_BITS_HI, R.BIST_PRBS_ERRS]

/-- First and one-past-last family number of block BIST. -/
def idsBIST : Nat × Nat := (43, 55)

namespace R

/-- CLK_ID (R517). -/
def CLK_ID : Reg := ⟨55, 0x10030000, [],
  [⟨31, 16, .ro⟩, ⟨15, 0, .ro⟩], fun _ => 0xc10c00b1⟩
/-- CLK_CTRL (R517). -/
def CLK_CTRL : Reg := ⟨56, 0x10030004, [],
  [⟨31, 31, .w1s⟩], fun _ => 0⟩
/-- CLK_STAT (R517). -/
def CLK_STAT : Reg := ⟨57, 0x10030008, [],
  [⟨31, 31, .ro⟩, ⟨30, 30, .ro⟩, ⟨29, 29, .ro⟩, ⟨28, 28, .ro⟩, ⟨23, 16, .ro⟩, ⟨15, 15, .ro⟩], fun _ => 0⟩
/-- CLK_MON_CFG (R517). -/
def CLK_MON_CFG : Reg := ⟨58, 0x1003000C, [],
  [⟨31, 28, .rwl⟩, ⟨15, 0, .rwl⟩], fun _ => 0x200003e8⟩
/-- CLK_MON (R517). -/
def CLK_MON : Reg := ⟨59, 0x10030010, [],
  [⟨29, 16, .ro⟩, ⟨9, 0, .ro⟩], fun _ => 0⟩
/-- CLK_MON_CNT (R517). -/
def CLK_MON_CNT : Reg := ⟨60, 0x10030014, [],
  [⟨31, 16, .ro⟩, ⟨15, 0, .ro⟩], fun _ => 0⟩
/-- CLK_PLL (R517). -/
def CLK_PLL : Reg := ⟨61, 0x10030020, [(4, 0x4)],
  [⟨31, 31, .ro⟩, ⟨30, 30, .ro⟩, ⟨29, 29, .ro⟩, ⟨28, 28, .ro⟩, ⟨15, 0, .ro⟩], fun _ => 0⟩
/-- CLK_EVT (R517). -/
def CLK_EVT : Reg := ⟨62, 0x10030040, [],
  [⟨31, 31, .w1c⟩, ⟨30, 30, .w1c⟩, ⟨29, 29, .w1c⟩, ⟨28, 28, .w1c⟩, ⟨27, 27, .w1c⟩, ⟨26, 26, .w1c⟩, ⟨25, 25, .w1c⟩], fun _ => 0⟩
/-- CLK_IE (R517). -/
def CLK_IE : Reg := ⟨63, 0x10030044, [],
  [⟨31, 25, .rw⟩], fun _ => 0⟩
/-- CLK_DOM (R517). -/
def CLK_DOM : Reg := ⟨64, 0x10030100, [(20, 0x8)],
  [⟨31, 31, .ro⟩, ⟨30, 30, .w1c⟩, ⟨29, 28, .ro⟩, ⟨27, 26, .rw⟩], fun _ => 0⟩
/-- CLK_DOMLOST (R517). -/
def CLK_DOMLOST : Reg := ⟨65, 0x10030104, [(20, 0x8)],
  [⟨31, 16, .ro⟩, ⟨15, 0, .ro⟩], fun _ => 0⟩

end R

namespace F

def CLK_ID_BLOCK : Fld := ⟨R.CLK_ID, 31, 16⟩
def CLK_ID_VERSION : Fld := ⟨R.CLK_ID, 15, 0⟩
def CLK_CTRL_RESTORE : Fld := ⟨R.CLK_CTRL, 31, 31⟩
def CLK_STAT_QUAL : Fld := ⟨R.CLK_STAT, 31, 31⟩
def CLK_STAT_FREQ : Fld := ⟨R.CLK_STAT, 30, 30⟩
def CLK_STAT_FALLBACK : Fld := ⟨R.CLK_STAT, 29, 29⟩
def CLK_STAT_CLKIN_OK : Fld := ⟨R.CLK_STAT, 28, 28⟩
def CLK_STAT_OSC_DLY : Fld := ⟨R.CLK_STAT, 23, 16⟩
def CLK_STAT_DLY_SRC : Fld := ⟨R.CLK_STAT, 15, 15⟩
def CLK_MON_CFG_FAIL_WIN : Fld := ⟨R.CLK_MON_CFG, 31, 28⟩
def CLK_MON_CFG_OK_WIN : Fld := ⟨R.CLK_MON_CFG, 15, 0⟩
def CLK_MON_CAL : Fld := ⟨R.CLK_MON, 29, 16⟩
def CLK_MON_LAST : Fld := ⟨R.CLK_MON, 9, 0⟩
def CLK_MON_CNT_BAD_WIN : Fld := ⟨R.CLK_MON_CNT, 31, 16⟩
def CLK_MON_CNT_FALLBACKS : Fld := ⟨R.CLK_MON_CNT, 15, 0⟩
def CLK_PLL_LOCK : Fld := ⟨R.CLK_PLL, 31, 31⟩
def CLK_PLL_DEAD : Fld := ⟨R.CLK_PLL, 30, 30⟩
def CLK_PLL_REF : Fld := ⟨R.CLK_PLL, 29, 29⟩
def CLK_PLL_HOLD : Fld := ⟨R.CLK_PLL, 28, 28⟩
def CLK_PLL_UNLOCKS : Fld := ⟨R.CLK_PLL, 15, 0⟩
def CLK_EVT_CLKIN_FAIL : Fld := ⟨R.CLK_EVT, 31, 31⟩
def CLK_EVT_CLKIN_OK : Fld := ⟨R.CLK_EVT, 30, 30⟩
def CLK_EVT_RESTORED : Fld := ⟨R.CLK_EVT, 29, 29⟩
def CLK_EVT_PLL_DEAD : Fld := ⟨R.CLK_EVT, 28, 28⟩
def CLK_EVT_FORCED : Fld := ⟨R.CLK_EVT, 27, 27⟩
def CLK_EVT_CAL_LIMIT : Fld := ⟨R.CLK_EVT, 26, 26⟩
def CLK_EVT_SW_DONE : Fld := ⟨R.CLK_EVT, 25, 25⟩
def CLK_IE_IE : Fld := ⟨R.CLK_IE, 31, 25⟩
def CLK_DOM_BUSY : Fld := ⟨R.CLK_DOM, 31, 31⟩
def CLK_DOM_OLD_DEAD : Fld := ⟨R.CLK_DOM, 30, 30⟩
def CLK_DOM_SRC : Fld := ⟨R.CLK_DOM, 29, 28⟩
def CLK_DOM_DIV : Fld := ⟨R.CLK_DOM, 27, 26⟩
def CLK_DOMLOST_SWITCHES : Fld := ⟨R.CLK_DOMLOST, 31, 16⟩
def CLK_DOMLOST_GAP : Fld := ⟨R.CLK_DOMLOST, 15, 0⟩

end F

/-- The register families of block CLK. -/
def regsCLK : List Reg :=
  [R.CLK_ID, R.CLK_CTRL, R.CLK_STAT, R.CLK_MON_CFG, R.CLK_MON, R.CLK_MON_CNT,
   R.CLK_PLL, R.CLK_EVT, R.CLK_IE, R.CLK_DOM, R.CLK_DOMLOST]

/-- First and one-past-last family number of block CLK. -/
def idsCLK : Nat × Nat := (55, 66)

namespace R

/-- PM_ID (R365). -/
def PM_ID : Reg := ⟨66, 0x10040000, [],
  [⟨31, 16, .ro⟩, ⟨15, 0, .ro⟩], fun _ => 0x604700b1⟩
/-- PM_REQ (R365). -/
def PM_REQ : Reg := ⟨67, 0x10040004, [],
  [⟨31, 31, .w1s⟩, ⟨2, 0, .rw⟩], fun _ => 0⟩
/-- PM_STAT (R365). -/
def PM_STAT : Reg := ⟨68, 0x10040008, [],
  [⟨31, 29, .ro⟩, ⟨28, 28, .ro⟩, ⟨27, 24, .ro⟩], fun _ => 0⟩
/-- PM_GATE (R365). -/
def PM_GATE : Reg := ⟨69, 0x10040010, [(17, 0x4)],
  [⟨2, 2, .rw⟩, ⟨1, 1, .rw⟩, ⟨0, 0, .rw⟩], fun i => pmGateReset i⟩
/-- GONG_CFG (R365). -/
def GONG_CFG : Reg := ⟨70, 0x10040080, [],
  [⟨31, 31, .rw⟩, ⟨15, 0, .rw⟩], fun _ => 0⟩
/-- GONG_WAKE_EN (R365). -/
def GONG_WAKE_EN : Reg := ⟨71, 0x10040084, [],
  [⟨31, 31, .rw⟩, ⟨30, 30, .rw⟩, ⟨29, 29, .rw⟩, ⟨28, 28, .rw⟩, ⟨7, 0, .rw⟩], fun _ => 0xff⟩
/-- GONG_WLCFG (R365). -/
def GONG_WLCFG : Reg := ⟨72, 0x10040088, [],
  [⟨15, 0, .rw⟩], fun _ => 0⟩
/-- GONG_WLSTAT (R365). -/
def GONG_WLSTAT : Reg := ⟨73, 0x1004008C, [],
  [⟨7, 0, .ro⟩], fun _ => 0⟩
/-- GONG_TIMER_CNT (R365). -/
def GONG_TIMER_CNT : Reg := ⟨74, 0x10040090, [],
  [⟨31, 0, .rw⟩], fun _ => 0⟩
/-- GONG_TIMER_CFG (R365). -/
def GONG_TIMER_CFG : Reg := ⟨75, 0x10040094, [],
  [⟨3, 0, .rw⟩], fun _ => 0⟩
/-- GONG_LRC_CAL (R365). -/
def GONG_LRC_CAL : Reg := ⟨76, 0x10040098, [],
  [⟨15, 0, .ro⟩], fun _ => 0xccd⟩
/-- GONG_CAUSE (R365). -/
def GONG_CAUSE : Reg := ⟨77, 0x100400A0, [],
  [⟨31, 31, .ro⟩, ⟨30, 28, .ro⟩, ⟨26, 20, .ro⟩, ⟨15, 8, .ro⟩, ⟨2, 0, .ro⟩], fun _ => 0x70000004⟩
/-- GONG_CAUSE_T (R365). -/
def GONG_CAUSE_T : Reg := ⟨78, 0x100400A4, [],
  [⟨31, 0, .ro⟩], fun _ => 0⟩
/-- GONG_QUAL (R365). -/
def GONG_QUAL : Reg := ⟨79, 0x100400A8, [],
  [⟨4, 0, .rw⟩], fun _ => 0x11⟩
/-- GONG_FWT (R365). -/
def GONG_FWT : Reg := ⟨80, 0x100400AC, [],
  [⟨31, 16, .rw⟩, ⟨15, 0, .rw⟩], fun _ => 0x6400c8⟩
/-- GONG_CTRL (R365). -/
def GONG_CTRL : Reg := ⟨81, 0x100400B0, [],
  [⟨31, 31, .w1s⟩, ⟨30, 30, .w1s⟩], fun _ => 0⟩
/-- GONG_TRX (R365). -/
def GONG_TRX : Reg := ⟨82, 0x100400B4, [],
  [⟨15, 0, .rw⟩], fun _ => 0x1f4⟩
/-- GONG_BOOT (R365). -/
def GONG_BOOT : Reg := ⟨83, 0x100400B8, [],
  [⟨31, 16, .rw⟩, ⟨3, 0, .ro⟩], fun _ => 0x1f40000⟩
/-- GONG_KEEP (R365). -/
def GONG_KEEP : Reg := ⟨84, 0x100400C0, [(3, 0x4)],
  [⟨31, 0, .rw⟩], fun _ => 0⟩
/-- GONG_CNT (R365). -/
def GONG_CNT : Reg := ⟨85, 0x100400D0, [(6, 0x4)],
  [⟨31, 0, .ro⟩], fun _ => 0⟩
/-- GONG_RETAIN (R365). -/
def GONG_RETAIN : Reg := ⟨86, 0x10040100, [(8, 0x4)],
  [⟨31, 0, .rw⟩], fun _ => 0⟩
/-- GONG_MODE_RET (R365). -/
def GONG_MODE_RET : Reg := ⟨87, 0x10040120, [],
  [⟨3, 0, .ro⟩], fun _ => 0xf⟩

end R

namespace F

def PM_ID_BLOCK : Fld := ⟨R.PM_ID, 31, 16⟩
def PM_ID_VERSION : Fld := ⟨R.PM_ID, 15, 0⟩
def PM_REQ_GO : Fld := ⟨R.PM_REQ, 31, 31⟩
def PM_REQ_TARGET : Fld := ⟨R.PM_REQ, 2, 0⟩
def PM_STAT_MODE : Fld := ⟨R.PM_STAT, 31, 29⟩
def PM_STAT_PENDING : Fld := ⟨R.PM_STAT, 28, 28⟩
def PM_STAT_RESULT : Fld := ⟨R.PM_STAT, 27, 24⟩
def PM_GATE_DSLEEP_EN : Fld := ⟨R.PM_GATE, 2, 2⟩
def PM_GATE_SLEEP_EN : Fld := ⟨R.PM_GATE, 1, 1⟩
def PM_GATE_RUN_EN : Fld := ⟨R.PM_GATE, 0, 0⟩
def GONG_CFG_AUTO_RUN : Fld := ⟨R.GONG_CFG, 31, 31⟩
def GONG_CFG_CAN_MASK : Fld := ⟨R.GONG_CFG, 15, 0⟩
def GONG_WAKE_EN_TIMER : Fld := ⟨R.GONG_WAKE_EN, 31, 31⟩
def GONG_WAKE_EN_TC10 : Fld := ⟨R.GONG_WAKE_EN, 30, 30⟩
def GONG_WAKE_EN_CAN : Fld := ⟨R.GONG_WAKE_EN, 29, 29⟩
def GONG_WAKE_EN_MFI : Fld := ⟨R.GONG_WAKE_EN, 28, 28⟩
def GONG_WAKE_EN_LINES : Fld := ⟨R.GONG_WAKE_EN, 7, 0⟩
def GONG_WLCFG_TRIG : Fld := ⟨R.GONG_WLCFG, 15, 0⟩
def GONG_WLSTAT_LEVEL : Fld := ⟨R.GONG_WLSTAT, 7, 0⟩
def GONG_TIMER_CNT_CNT : Fld := ⟨R.GONG_TIMER_CNT, 31, 0⟩
def GONG_TIMER_CFG_PRE : Fld := ⟨R.GONG_TIMER_CFG, 3, 0⟩
def GONG_LRC_CAL_CNT : Fld := ⟨R.GONG_LRC_CAL, 15, 0⟩
def GONG_CAUSE_VALID : Fld := ⟨R.GONG_CAUSE, 31, 31⟩
def GONG_CAUSE_KIND : Fld := ⟨R.GONG_CAUSE, 30, 28⟩
def GONG_CAUSE_INDEX : Fld := ⟨R.GONG_CAUSE, 26, 20⟩
def GONG_CAUSE_KINDS : Fld := ⟨R.GONG_CAUSE, 15, 8⟩
def GONG_CAUSE_FROM : Fld := ⟨R.GONG_CAUSE, 2, 0⟩
def GONG_CAUSE_T_TICKS : Fld := ⟨R.GONG_CAUSE_T, 31, 0⟩
def GONG_QUAL_QUAL : Fld := ⟨R.GONG_QUAL, 4, 0⟩
def GONG_FWT_GRACE : Fld := ⟨R.GONG_FWT, 31, 16⟩
def GONG_FWT_TMO : Fld := ⟨R.GONG_FWT, 15, 0⟩
def GONG_CTRL_STAY : Fld := ⟨R.GONG_CTRL, 31, 31⟩
def GONG_CTRL_BOOT_DONE : Fld := ⟨R.GONG_CTRL, 30, 30⟩
def GONG_TRX_TRX_TMO : Fld := ⟨R.GONG_TRX, 15, 0⟩
def GONG_BOOT_BOOT_TMO : Fld := ⟨R.GONG_BOOT, 31, 16⟩
def GONG_BOOT_FAIL_RUN : Fld := ⟨R.GONG_BOOT, 3, 0⟩
def GONG_KEEP_KEEP : Fld := ⟨R.GONG_KEEP, 31, 0⟩
def GONG_CNT_CNT : Fld := ⟨R.GONG_CNT, 31, 0⟩
def GONG_RETAIN_DATA : Fld := ⟨R.GONG_RETAIN, 31, 0⟩
def GONG_MODE_RET_BOOT_MODE : Fld := ⟨R.GONG_MODE_RET, 3, 0⟩

end F

/-- The register families of block PMODE. -/
def regsPMODE : List Reg :=
  [R.PM_ID, R.PM_REQ, R.PM_STAT, R.PM_GATE, R.GONG_CFG, R.GONG_WAKE_EN,
   R.GONG_WLCFG, R.GONG_WLSTAT, R.GONG_TIMER_CNT, R.GONG_TIMER_CFG, R.GONG_LRC_CAL, R.GONG_CAUSE,
   R.GONG_CAUSE_T, R.GONG_QUAL, R.GONG_FWT, R.GONG_CTRL, R.GONG_TRX, R.GONG_BOOT,
   R.GONG_KEEP, R.GONG_CNT, R.GONG_RETAIN, R.GONG_MODE_RET]

/-- First and one-past-last family number of block PMODE. -/
def idsPMODE : Nat × Nat := (66, 88)

namespace R

/-- BEAT_ID (R130). -/
def BEAT_ID : Reg := ⟨88, 0x10050000, [],
  [⟨31, 16, .ro⟩, ⟨15, 0, .ro⟩], fun _ => 0xbea700b1⟩
/-- BEAT_CTRL (R130). -/
def BEAT_CTRL : Reg := ⟨89, 0x10050004, [],
  [⟨31, 31, .w1s⟩, ⟨0, 0, .rw⟩], fun _ => 0⟩
/-- BEAT_PERIOD (R130). -/
def BEAT_PERIOD : Reg := ⟨90, 0x10050008, [],
  [⟨20, 0, .rwl⟩], fun _ => 0x3d090⟩
/-- BEAT_PHASE (R130). -/
def BEAT_PHASE : Reg := ⟨91, 0x1005000C, [],
  [⟨20, 0, .rwl⟩], fun _ => 0⟩
/-- BEAT_STAT (R130). -/
def BEAT_STAT : Reg := ⟨92, 0x10050010, [],
  [⟨31, 30, .ro⟩, ⟨29, 29, .w1c⟩, ⟨28, 28, .w1c⟩, ⟨15, 0, .ro⟩], fun _ => 0⟩
/-- BEAT_CUTS (R130). -/
def BEAT_CUTS : Reg := ⟨93, 0x10050014, [],
  [⟨31, 0, .ro⟩], fun _ => 0⟩
/-- BEAT_NUM_LO (R130). -/
def BEAT_NUM_LO : Reg := ⟨94, 0x10050018, [],
  [⟨31, 0, .ro⟩], fun _ => 0⟩
/-- BEAT_NUM_HI (R130). -/
def BEAT_NUM_HI : Reg := ⟨95, 0x1005001C, [],
  [⟨31, 0, .ro⟩], fun _ => 0⟩
/-- BEAT_NBI_LO (R130). -/
def BEAT_NBI_LO : Reg := ⟨96, 0x10050020, [],
  [⟨31, 0, .ro⟩], fun _ => 0⟩
/-- BEAT_NBI_HI (R130). -/
def BEAT_NBI_HI : Reg := ⟨97, 0x10050024, [],
  [⟨31, 0, .ro⟩], fun _ => 0⟩
/-- BEAT_BIST_OFS (R130). -/
def BEAT_BIST_OFS : Reg := ⟨98, 0x10050028, [],
  [⟨17, 0, .rwl⟩], fun _ => 0xfa⟩
/-- BEAT_BIST_LEN (R130). -/
def BEAT_BIST_LEN : Reg := ⟨99, 0x1005002C, [],
  [⟨15, 0, .rwl⟩], fun _ => 0x4e20⟩
/-- BEAT_LAST_LO (R130). -/
def BEAT_LAST_LO : Reg := ⟨100, 0x10050030, [],
  [⟨31, 0, .ro⟩], fun _ => 0⟩
/-- BEAT_LAST_HI (R130). -/
def BEAT_LAST_HI : Reg := ⟨101, 0x10050034, [],
  [⟨31, 0, .ro⟩], fun _ => 0⟩
/-- BEAT_PUB (R130). -/
def BEAT_PUB : Reg := ⟨102, 0x10050040, [],
  [⟨31, 16, .wo⟩, ⟨9, 0, .wo⟩], fun _ => 0⟩
/-- BEAT_SLOT_PROD (R130). -/
def BEAT_SLOT_PROD : Reg := ⟨103, 0x10052000, [(512, 0x4)],
  [⟨10, 0, .rwl⟩], fun _ => 0x7ff⟩

end R

namespace F

def BEAT_ID_BLOCK : Fld := ⟨R.BEAT_ID, 31, 16⟩
def BEAT_ID_VERSION : Fld := ⟨R.BEAT_ID, 15, 0⟩
def BEAT_CTRL_EN : Fld := ⟨R.BEAT_CTRL, 31, 31⟩
def BEAT_CTRL_TICK_IE : Fld := ⟨R.BEAT_CTRL, 0, 0⟩
def BEAT_PERIOD_PERIOD : Fld := ⟨R.BEAT_PERIOD, 20, 0⟩
def BEAT_PHASE_PHASE : Fld := ⟨R.BEAT_PHASE, 20, 0⟩
def BEAT_STAT_STATE : Fld := ⟨R.BEAT_STAT, 31, 30⟩
def BEAT_STAT_REALIGN : Fld := ⟨R.BEAT_STAT, 29, 29⟩
def BEAT_STAT_OVERRUN : Fld := ⟨R.BEAT_STAT, 28, 28⟩
def BEAT_STAT_ENG_CUT : Fld := ⟨R.BEAT_STAT, 15, 0⟩
def BEAT_CUTS_CUTS : Fld := ⟨R.BEAT_CUTS, 31, 0⟩
def BEAT_NUM_LO_W : Fld := ⟨R.BEAT_NUM_LO, 31, 0⟩
def BEAT_NUM_HI_W : Fld := ⟨R.BEAT_NUM_HI, 31, 0⟩
def BEAT_NBI_LO_W : Fld := ⟨R.BEAT_NBI_LO, 31, 0⟩
def BEAT_NBI_HI_W : Fld := ⟨R.BEAT_NBI_HI, 31, 0⟩
def BEAT_BIST_OFS_OFS : Fld := ⟨R.BEAT_BIST_OFS, 17, 0⟩
def BEAT_BIST_LEN_LEN : Fld := ⟨R.BEAT_BIST_LEN, 15, 0⟩
def BEAT_LAST_LO_W : Fld := ⟨R.BEAT_LAST_LO, 31, 0⟩
def BEAT_LAST_HI_W : Fld := ⟨R.BEAT_LAST_HI, 31, 0⟩
def BEAT_PUB_SLOT : Fld := ⟨R.BEAT_PUB, 31, 16⟩
def BEAT_PUB_V : Fld := ⟨R.BEAT_PUB, 9, 0⟩
def BEAT_SLOT_PROD_PROD : Fld := ⟨R.BEAT_SLOT_PROD, 10, 0⟩

end F

/-- The register families of block BEAT. -/
def regsBEAT : List Reg :=
  [R.BEAT_ID, R.BEAT_CTRL, R.BEAT_PERIOD, R.BEAT_PHASE, R.BEAT_STAT, R.BEAT_CUTS,
   R.BEAT_NUM_LO, R.BEAT_NUM_HI, R.BEAT_NBI_LO, R.BEAT_NBI_HI, R.BEAT_BIST_OFS, R.BEAT_BIST_LEN,
   R.BEAT_LAST_LO, R.BEAT_LAST_HI, R.BEAT_PUB, R.BEAT_SLOT_PROD]

/-- First and one-past-last family number of block BEAT. -/
def idsBEAT : Nat × Nat := (88, 104)

namespace R

/-- TABLA_CTRL (R131). -/
def TABLA_CTRL : Reg := ⟨104, 0x10060000, [(16, 0x1000)],
  [⟨31, 31, .rw⟩, ⟨30, 30, .w1s⟩, ⟨29, 29, .rw⟩, ⟨27, 24, .ro⟩, ⟨7, 0, .rw⟩], fun _ => 5⟩
/-- TABLA_STAT (R131). -/
def TABLA_STAT : Reg := ⟨105, 0x10060004, [(16, 0x1000)],
  [⟨31, 31, .ro⟩, ⟨30, 30, .ro⟩, ⟨29, 29, .w1c⟩, ⟨28, 28, .w1c⟩, ⟨27, 27, .w1c⟩, ⟨26, 26, .w1c⟩, ⟨25, 25, .w1c⟩, ⟨24, 24, .w1c⟩, ⟨23, 23, .w1c⟩, ⟨22, 22, .ro⟩, ⟨11, 0, .ro⟩], fun _ => 0⟩
/-- TABLA_LD_IDX (R131). -/
def TABLA_LD_IDX : Reg := ⟨106, 0x10060010, [(16, 0x1000)],
  [⟨11, 0, .rw⟩], fun _ => 0⟩
/-- TABLA_LD_LO (R131). -/
def TABLA_LD_LO : Reg := ⟨107, 0x10060014, [(16, 0x1000)],
  [⟨31, 0, .rw⟩], fun _ => 0⟩
/-- TABLA_LD_HI (R131). -/
def TABLA_LD_HI : Reg := ⟨108, 0x10060018, [(16, 0x1000)],
  [⟨31, 0, .wo⟩], fun _ => 0⟩
/-- TABLA_LDSTAT (R131). -/
def TABLA_LDSTAT : Reg := ⟨109, 0x1006001C, [(16, 0x1000)],
  [⟨31, 31, .ro⟩, ⟨23, 16, .ro⟩, ⟨11, 0, .ro⟩], fun _ => 0⟩
/-- TABLA_SKIP (R131). -/
def TABLA_SKIP : Reg := ⟨110, 0x10060020, [(16, 0x1000)],
  [⟨31, 0, .ro⟩], fun _ => 0⟩
/-- TABLA_OVR (R131). -/
def TABLA_OVR : Reg := ⟨111, 0x10060024, [(16, 0x1000)],
  [⟨31, 0, .ro⟩], fun _ => 0⟩
/-- TABLA_LATE (R131). -/
def TABLA_LATE : Reg := ⟨112, 0x10060028, [(16, 0x1000)],
  [⟨31, 0, .ro⟩], fun _ => 0⟩
/-- TABLA_ERRCNT (R131). -/
def TABLA_ERRCNT : Reg := ⟨113, 0x1006002C, [(16, 0x1000)],
  [⟨31, 0, .ro⟩], fun _ => 0⟩
/-- TABLA_WREG (R131). -/
def TABLA_WREG : Reg := ⟨114, 0x10060100, [(16, 0x1000), (16, 0x4)],
  [⟨9, 0, .rw⟩], fun _ => 0⟩

end R

namespace F

def TABLA_CTRL_RUN : Fld := ⟨R.TABLA_CTRL, 31, 31⟩
def TABLA_CTRL_ARM : Fld := ⟨R.TABLA_CTRL, 30, 30⟩
def TABLA_CTRL_CLR_ON_SWAP : Fld := ⟨R.TABLA_CTRL, 29, 29⟩
def TABLA_CTRL_PART : Fld := ⟨R.TABLA_CTRL, 27, 24⟩
def TABLA_CTRL_LATE_TOL : Fld := ⟨R.TABLA_CTRL, 7, 0⟩
def TABLA_STAT_ACTIVE : Fld := ⟨R.TABLA_STAT, 31, 31⟩
def TABLA_STAT_ARMED : Fld := ⟨R.TABLA_STAT, 30, 30⟩
def TABLA_STAT_SWAPPED : Fld := ⟨R.TABLA_STAT, 29, 29⟩
def TABLA_STAT_ARM_LOST : Fld := ⟨R.TABLA_STAT, 28, 28⟩
def TABLA_STAT_CUT : Fld := ⟨R.TABLA_STAT, 27, 27⟩
def TABLA_STAT_SAT : Fld := ⟨R.TABLA_STAT, 26, 26⟩
def TABLA_STAT_LATE : Fld := ⟨R.TABLA_STAT, 25, 25⟩
def TABLA_STAT_INV : Fld := ⟨R.TABLA_STAT, 24, 24⟩
def TABLA_STAT_SAFE : Fld := ⟨R.TABLA_STAT, 23, 23⟩
def TABLA_STAT_LD_BUSY : Fld := ⟨R.TABLA_STAT, 22, 22⟩
def TABLA_STAT_LAST_IDX : Fld := ⟨R.TABLA_STAT, 11, 0⟩
def TABLA_LD_IDX_IDX : Fld := ⟨R.TABLA_LD_IDX, 11, 0⟩
def TABLA_LD_LO_LO : Fld := ⟨R.TABLA_LD_LO, 31, 0⟩
def TABLA_LD_HI_HI : Fld := ⟨R.TABLA_LD_HI, 31, 0⟩
def TABLA_LDSTAT_ERR : Fld := ⟨R.TABLA_LDSTAT, 31, 31⟩
def TABLA_LDSTAT_CODE : Fld := ⟨R.TABLA_LDSTAT, 23, 16⟩
def TABLA_LDSTAT_ERR_IDX : Fld := ⟨R.TABLA_LDSTAT, 11, 0⟩
def TABLA_SKIP_SKIP : Fld := ⟨R.TABLA_SKIP, 31, 0⟩
def TABLA_OVR_OVR : Fld := ⟨R.TABLA_OVR, 31, 0⟩
def TABLA_LATE_LATE_CNT : Fld := ⟨R.TABLA_LATE, 31, 0⟩
def TABLA_ERRCNT_ERR_CNT : Fld := ⟨R.TABLA_ERRCNT, 31, 0⟩
def TABLA_WREG_W : Fld := ⟨R.TABLA_WREG, 9, 0⟩

end F

/-- The register families of block TABLA. -/
def regsTABLA : List Reg :=
  [R.TABLA_CTRL, R.TABLA_STAT, R.TABLA_LD_IDX, R.TABLA_LD_LO, R.TABLA_LD_HI, R.TABLA_LDSTAT,
   R.TABLA_SKIP, R.TABLA_OVR, R.TABLA_LATE, R.TABLA_ERRCNT, R.TABLA_WREG]

/-- First and one-past-last family number of block TABLA. -/
def idsTABLA : Nat × Nat := (104, 115)

namespace R

/-- PWR_CH_CFG (R164). -/
def PWR_CH_CFG : Reg := ⟨115, 0x10080000, [(72, 0x400)],
  [⟨31, 30, .rwl⟩, ⟨29, 27, .rwl⟩, ⟨26, 26, .rwl⟩, ⟨25, 25, .rwl⟩, ⟨23, 20, .rwl⟩, ⟨19, 16, .rwl⟩, ⟨15, 0, .rwl⟩], fun _ => 0xf001f4⟩
/-- PWR_CH_PROD (R164). -/
def PWR_CH_PROD : Reg := ⟨116, 0x10080004, [(72, 0x400)],
  [⟨30, 28, .rwl⟩, ⟨26, 16, .rwl⟩, ⟨14, 12, .rwl⟩, ⟨10, 0, .rwl⟩], fun _ => 0x7ff07ff⟩
/-- PWR_CMD_PUB (R164). -/
def PWR_CMD_PUB : Reg := ⟨117, 0x10080008, [(72, 0x400)],
  [⟨9, 0, .wo⟩], fun _ => 0⟩
/-- PWR_LIM_PUB (R164). -/
def PWR_LIM_PUB : Reg := ⟨118, 0x1008000C, [(72, 0x400)],
  [⟨9, 0, .wo⟩], fun _ => 0⟩
/-- PWR_CMD_VIS (R164). -/
def PWR_CMD_VIS : Reg := ⟨119, 0x10080010, [(72, 0x400)],
  [⟨31, 0, .ro⟩], fun _ => 0xffff0000⟩
/-- PWR_LIM_VIS (R164). -/
def PWR_LIM_VIS : Reg := ⟨120, 0x10080014, [(72, 0x400)],
  [⟨31, 0, .ro⟩], fun _ => 0xffff0000⟩
/-- PWR_POLICY (R164). -/
def PWR_POLICY : Reg := ⟨121, 0x10080020, [(72, 0x400)],
  [⟨31, 31, .rw⟩, ⟨30, 28, .rw⟩, ⟨25, 16, .rw⟩, ⟨9, 0, .rw⟩], fun _ => 0xf3ff03ff⟩
/-- PWR_PROT (R164). -/
def PWR_PROT : Reg := ⟨122, 0x10080024, [(72, 0x400)],
  [⟨31, 30, .rw⟩, ⟨25, 16, .rw⟩, ⟨15, 8, .rw⟩], fun _ => 0x413d1400⟩
/-- PWR_RETRY (R164). -/
def PWR_RETRY : Reg := ⟨123, 0x10080028, [(72, 0x400)],
  [⟨31, 16, .rw⟩, ⟨3, 0, .rw⟩], fun _ => 0xfa00000⟩
/-- PWR_TAU (R164). -/
def PWR_TAU : Reg := ⟨124, 0x1008002C, [(72, 0x400)],
  [⟨8, 0, .rw⟩], fun _ => 0x100⟩
/-- PWR_GATE (R164). -/
def PWR_GATE : Reg := ⟨125, 0x10080030, [(72, 0x400)],
  [⟨6, 4, .rw⟩, ⟨2, 0, .rw⟩], fun _ => 0x33⟩
/-- PWR_PRE (R164). -/
def PWR_PRE : Reg := ⟨126, 0x10080034, [(72, 0x400)],
  [⟨31, 24, .rw⟩, ⟨23, 16, .rw⟩, ⟨9, 0, .rw⟩], fun _ => 0x141402c0⟩
/-- PWR_DIAG (R164). -/
def PWR_DIAG : Reg := ⟨127, 0x10080038, [(72, 0x400)],
  [⟨31, 31, .rw⟩, ⟨30, 24, .rw⟩, ⟨19, 10, .rw⟩, ⟨9, 0, .rw⟩], fun _ => 0x100678a4⟩
/-- PWR_FETF (R164). -/
def PWR_FETF : Reg := ⟨128, 0x1008003C, [(72, 0x400)],
  [⟨25, 16, .rw⟩, ⟨9, 0, .rw⟩], fun _ => 0x17d00a4⟩
/-- PWR_IE (R164). -/
def PWR_IE : Reg := ⟨129, 0x10080040, [(72, 0x400)],
  [⟨4, 4, .rw⟩, ⟨3, 3, .rw⟩, ⟨2, 2, .rw⟩, ⟨1, 1, .rw⟩, ⟨0, 0, .rw⟩], fun _ => 0⟩
/-- PWR_STATE (R164). -/
def PWR_STATE : Reg := ⟨130, 0x10080050, [(72, 0x400)],
  [⟨31, 31, .ro⟩, ⟨30, 30, .ro⟩, ⟨29, 29, .ro⟩, ⟨28, 28, .ro⟩, ⟨27, 27, .ro⟩, ⟨26, 26, .ro⟩, ⟨25, 25, .ro⟩, ⟨24, 24, .ro⟩, ⟨23, 23, .ro⟩, ⟨22, 22, .ro⟩, ⟨21, 21, .ro⟩, ⟨20, 20, .ro⟩, ⟨19, 16, .ro⟩, ⟨8, 4, .ro⟩, ⟨3, 0, .ro⟩], fun _ => 0x10⟩
/-- PWR_STATUS (R164). -/
def PWR_STATUS : Reg := ⟨131, 0x10080054, [(72, 0x400)],
  [⟨31, 31, .w1c⟩, ⟨30, 30, .w1c⟩, ⟨29, 29, .w1c⟩, ⟨28, 28, .w1c⟩, ⟨27, 27, .w1c⟩, ⟨26, 26, .w1c⟩, ⟨25, 25, .w1c⟩, ⟨24, 24, .w1c⟩, ⟨23, 23, .w1c⟩, ⟨22, 22, .w1c⟩, ⟨21, 21, .w1c⟩, ⟨20, 20, .w1c⟩, ⟨19, 19, .w1c⟩, ⟨18, 18, .w1c⟩, ⟨17, 17, .w1c⟩, ⟨16, 16, .w1c⟩], fun _ => 0⟩
/-- PWR_STATE_BEAT (R164). -/
def PWR_STATE_BEAT : Reg := ⟨132, 0x10080058, [(72, 0x400)],
  [⟨31, 0, .ro⟩], fun _ => 0⟩
/-- PWR_EFF (R164). -/
def PWR_EFF : Reg := ⟨133, 0x1008005C, [(72, 0x400)],
  [⟨31, 31, .ro⟩, ⟨30, 30, .ro⟩, ⟨25, 16, .ro⟩, ⟨9, 0, .ro⟩], fun _ => 0x824e024e⟩
/-- PWR_EFF2 (R164). -/
def PWR_EFF2 : Reg := ⟨134, 0x10080060, [(72, 0x400)],
  [⟨25, 16, .ro⟩, ⟨9, 0, .ro⟩], fun _ => 0x30e030e⟩
/-- PWR_MODEL (R164). -/
def PWR_MODEL : Reg := ⟨135, 0x10080070, [(72, 0x400)],
  [⟨27, 16, .ro⟩, ⟨9, 0, .ro⟩], fun _ => 0x3480000⟩
/-- PWR_TAU_EFF (R164). -/
def PWR_TAU_EFF : Reg := ⟨136, 0x10080074, [(72, 0x400)],
  [⟨23, 0, .ro⟩], fun _ => 0xfa0⟩
/-- PWR_COOL_REM (R164). -/
def PWR_COOL_REM : Reg := ⟨137, 0x10080078, [(72, 0x400)],
  [⟨31, 0, .ro⟩], fun _ => 0⟩
/-- PWR_TRIP_REC0 (R164). -/
def PWR_TRIP_REC0 : Reg := ⟨138, 0x10080080, [(72, 0x400)],
  [⟨31, 31, .ro⟩, ⟨28, 24, .ro⟩, ⟨19, 16, .ro⟩, ⟨9, 0, .ro⟩], fun _ => 0⟩
/-- PWR_TRIP_REC1 (R164). -/
def PWR_TRIP_REC1 : Reg := ⟨139, 0x10080084, [(72, 0x400)],
  [⟨25, 16, .ro⟩, ⟨9, 0, .ro⟩], fun _ => 0⟩
/-- PWR_TRIP_REC2 (R164). -/
def PWR_TRIP_REC2 : Reg := ⟨140, 0x10080088, [(72, 0x400)],
  [⟨31, 0, .ro⟩], fun _ => 0⟩
/-- PWR_TRIP_REC3 (R164). -/
def PWR_TRIP_REC3 : Reg := ⟨141, 0x1008008C, [(72, 0x400)],
  [⟨31, 0, .ro⟩], fun _ => 0⟩
/-- PWR_I (R164). -/
def PWR_I : Reg := ⟨142, 0x10080064, [(72, 0x400)],
  [⟨31, 31, .ro⟩, ⟨26, 26, .ro⟩, ⟨25, 16, .ro⟩, ⟨15, 0, .ro⟩], fun _ => 0⟩
/-- PWR_VOUT (R164). -/
def PWR_VOUT : Reg := ⟨143, 0x10080068, [(72, 0x400)],
  [⟨31, 31, .ro⟩, ⟨26, 26, .ro⟩, ⟨25, 16, .ro⟩, ⟨15, 0, .ro⟩], fun _ => 0⟩
/-- PWR_VDS (R164). -/
def PWR_VDS : Reg := ⟨144, 0x1008006C, [(72, 0x400)],
  [⟨31, 31, .ro⟩, ⟨26, 26, .ro⟩, ⟨25, 16, .ro⟩, ⟨15, 0, .ro⟩], fun _ => 0⟩
/-- PWR_CNT (R164). -/
def PWR_CNT : Reg := ⟨145, 0x10080090, [(72, 0x400), (6, 0x4)],
  [⟨31, 0, .ro⟩], fun _ => 0⟩
/-- PWR_Q_LO (R164). -/
def PWR_Q_LO : Reg := ⟨146, 0x100800B0, [(72, 0x400)],
  [⟨31, 0, .ro⟩], fun _ => 0⟩
/-- PWR_Q_HI (R164). -/
def PWR_Q_HI : Reg := ⟨147, 0x100800B4, [(72, 0x400)],
  [⟨31, 0, .ro⟩], fun _ => 0⟩

end R

namespace F

def PWR_CH_CFG_SAFE_ACTION : Fld := ⟨R.PWR_CH_CFG, 31, 30⟩
def PWR_CH_CFG_KNELL_GRP : Fld := ⟨R.PWR_CH_CFG, 29, 27⟩
def PWR_CH_CFG_PRE_EN : Fld := ⟨R.PWR_CH_CFG, 26, 26⟩
def PWR_CH_CFG_SENSE_MODE : Fld := ⟨R.PWR_CH_CFG, 25, 25⟩
def PWR_CH_CFG_AMB_SEL : Fld := ⟨R.PWR_CH_CFG, 23, 20⟩
def PWR_CH_CFG_CLASS : Fld := ⟨R.PWR_CH_CFG, 19, 16⟩
def PWR_CH_CFG_R_EQ : Fld := ⟨R.PWR_CH_CFG, 15, 0⟩
def PWR_CH_PROD_LIM_HOLD : Fld := ⟨R.PWR_CH_PROD, 30, 28⟩
def PWR_CH_PROD_LIM_PROD : Fld := ⟨R.PWR_CH_PROD, 26, 16⟩
def PWR_CH_PROD_CMD_HOLD : Fld := ⟨R.PWR_CH_PROD, 14, 12⟩
def PWR_CH_PROD_CMD_PROD : Fld := ⟨R.PWR_CH_PROD, 10, 0⟩
def PWR_CMD_PUB_V : Fld := ⟨R.PWR_CMD_PUB, 9, 0⟩
def PWR_LIM_PUB_V : Fld := ⟨R.PWR_LIM_PUB, 9, 0⟩
def PWR_CMD_VIS_WORD : Fld := ⟨R.PWR_CMD_VIS, 31, 0⟩
def PWR_LIM_VIS_WORD : Fld := ⟨R.PWR_LIM_VIS, 31, 0⟩
def PWR_POLICY_MODE_EN : Fld := ⟨R.PWR_POLICY, 31, 31⟩
def PWR_POLICY_TIER : Fld := ⟨R.PWR_POLICY, 30, 28⟩
def PWR_POLICY_TRIP_I : Fld := ⟨R.PWR_POLICY, 25, 16⟩
def PWR_POLICY_SHORT_I : Fld := ⟨R.PWR_POLICY, 9, 0⟩
def PWR_PROT_FILT : Fld := ⟨R.PWR_PROT, 31, 30⟩
def PWR_PROT_SHORT_VDS : Fld := ⟨R.PWR_PROT, 25, 16⟩
def PWR_PROT_VDS_BLANK : Fld := ⟨R.PWR_PROT, 15, 8⟩
def PWR_RETRY_RETRY_CLR : Fld := ⟨R.PWR_RETRY, 31, 16⟩
def PWR_RETRY_RETRY_MAX : Fld := ⟨R.PWR_RETRY, 3, 0⟩
def PWR_TAU_TAU_TRIM : Fld := ⟨R.PWR_TAU, 8, 0⟩
def PWR_GATE_OFF_SLEW : Fld := ⟨R.PWR_GATE, 6, 4⟩
def PWR_GATE_ON_SLEW : Fld := ⟨R.PWR_GATE, 2, 0⟩
def PWR_PRE_PRE_TMAX : Fld := ⟨R.PWR_PRE, 31, 24⟩
def PWR_PRE_PRE_SLOPE : Fld := ⟨R.PWR_PRE, 23, 16⟩
def PWR_PRE_PRE_I : Fld := ⟨R.PWR_PRE, 9, 0⟩
def PWR_DIAG_OL_OFF_EN : Fld := ⟨R.PWR_DIAG, 31, 31⟩
def PWR_DIAG_OL_BEATS : Fld := ⟨R.PWR_DIAG, 30, 24⟩
def PWR_DIAG_OL_OFF_V : Fld := ⟨R.PWR_DIAG, 19, 10⟩
def PWR_DIAG_OL_ON_I : Fld := ⟨R.PWR_DIAG, 9, 0⟩
def PWR_FETF_FETF_I : Fld := ⟨R.PWR_FETF, 25, 16⟩
def PWR_FETF_FETF_VDS : Fld := ⟨R.PWR_FETF, 9, 0⟩
def PWR_IE_FET_IE : Fld := ⟨R.PWR_IE, 4, 4⟩
def PWR_IE_OL_IE : Fld := ⟨R.PWR_IE, 3, 3⟩
def PWR_IE_TRIP_IE : Fld := ⟨R.PWR_IE, 2, 2⟩
def PWR_IE_FORCE_IE : Fld := ⟨R.PWR_IE, 1, 1⟩
def PWR_IE_STATE_IE : Fld := ⟨R.PWR_IE, 0, 0⟩
def PWR_STATE_ENG_CMD : Fld := ⟨R.PWR_STATE, 31, 31⟩
def PWR_STATE_ENG_LIM : Fld := ⟨R.PWR_STATE, 30, 30⟩
def PWR_STATE_KNELL_FORCED : Fld := ⟨R.PWR_STATE, 29, 29⟩
def PWR_STATE_TWIN_CMD_F : Fld := ⟨R.PWR_STATE, 28, 28⟩
def PWR_STATE_TWIN_LIM_F : Fld := ⟨R.PWR_STATE, 27, 27⟩
def PWR_STATE_SHED_PEND : Fld := ⟨R.PWR_STATE, 26, 26⟩
def PWR_STATE_GATE_ON : Fld := ⟨R.PWR_STATE, 25, 25⟩
def PWR_STATE_OPEN_LOAD : Fld := ⟨R.PWR_STATE, 24, 24⟩
def PWR_STATE_OUT_HIGH : Fld := ⟨R.PWR_STATE, 23, 23⟩
def PWR_STATE_SENSE_FAULT : Fld := ⟨R.PWR_STATE, 22, 22⟩
def PWR_STATE_AMB_FAULT : Fld := ⟨R.PWR_STATE, 21, 21⟩
def PWR_STATE_LINK_DOWN : Fld := ⟨R.PWR_STATE, 20, 20⟩
def PWR_STATE_RETRY_CNT : Fld := ⟨R.PWR_STATE, 19, 16⟩
def PWR_STATE_CAUSE : Fld := ⟨R.PWR_STATE, 8, 4⟩
def PWR_STATE_STATE : Fld := ⟨R.PWR_STATE, 3, 0⟩
def PWR_STATUS_POLICY_CLAMPED : Fld := ⟨R.PWR_STATUS, 31, 31⟩
def PWR_STATUS_SHORT_CLAMPED : Fld := ⟨R.PWR_STATUS, 30, 30⟩
def PWR_STATUS_TAU_CLAMPED : Fld := ⟨R.PWR_STATUS, 29, 29⟩
def PWR_STATUS_SHORT_TRIP : Fld := ⟨R.PWR_STATUS, 28, 28⟩
def PWR_STATUS_WIRE_TRIP : Fld := ⟨R.PWR_STATUS, 27, 27⟩
def PWR_STATUS_FET_FAULT : Fld := ⟨R.PWR_STATUS, 26, 26⟩
def PWR_STATUS_OL_ON : Fld := ⟨R.PWR_STATUS, 25, 25⟩
def PWR_STATUS_OL_OFF : Fld := ⟨R.PWR_STATUS, 24, 24⟩
def PWR_STATUS_OUT_HIGH : Fld := ⟨R.PWR_STATUS, 23, 23⟩
def PWR_STATUS_PRE_FAIL : Fld := ⟨R.PWR_STATUS, 22, 22⟩
def PWR_STATUS_SENSE_FAULT : Fld := ⟨R.PWR_STATUS, 21, 21⟩
def PWR_STATUS_AMB_FAULT : Fld := ⟨R.PWR_STATUS, 20, 20⟩
def PWR_STATUS_CMD_INVALID : Fld := ⟨R.PWR_STATUS, 19, 19⟩
def PWR_STATUS_FORCED : Fld := ⟨R.PWR_STATUS, 18, 18⟩
def PWR_STATUS_SHED : Fld := ⟨R.PWR_STATUS, 17, 17⟩
def PWR_STATUS_STATE_CHG : Fld := ⟨R.PWR_STATUS, 16, 16⟩
def PWR_STATE_BEAT_BEAT : Fld := ⟨R.PWR_STATE_BEAT, 31, 0⟩
def PWR_EFF_AT_CEIL : Fld := ⟨R.PWR_EFF, 31, 31⟩
def PWR_EFF_LIM_USED : Fld := ⟨R.PWR_EFF, 30, 30⟩
def PWR_EFF_LVL : Fld := ⟨R.PWR_EFF, 25, 16⟩
def PWR_EFF_CEIL : Fld := ⟨R.PWR_EFF, 9, 0⟩
def PWR_EFF2_SHORT_EFF : Fld := ⟨R.PWR_EFF2, 25, 16⟩
def PWR_EFF2_SHORT_MAX : Fld := ⟨R.PWR_EFF2, 9, 0⟩
def PWR_MODEL_T_AMB : Fld := ⟨R.PWR_MODEL, 27, 16⟩
def PWR_MODEL_I_TH : Fld := ⟨R.PWR_MODEL, 9, 0⟩
def PWR_TAU_EFF_TAU_H : Fld := ⟨R.PWR_TAU_EFF, 23, 0⟩
def PWR_COOL_REM_REM : Fld := ⟨R.PWR_COOL_REM, 31, 0⟩
def PWR_TRIP_REC0_VALID : Fld := ⟨R.PWR_TRIP_REC0, 31, 31⟩
def PWR_TRIP_REC0_CAUSE : Fld := ⟨R.PWR_TRIP_REC0, 28, 24⟩
def PWR_TRIP_REC0_STATE : Fld := ⟨R.PWR_TRIP_REC0, 19, 16⟩
def PWR_TRIP_REC0_PEAK_I : Fld := ⟨R.PWR_TRIP_REC0, 9, 0⟩
def PWR_TRIP_REC1_LET_I2T : Fld := ⟨R.PWR_TRIP_REC1, 25, 16⟩
def PWR_TRIP_REC1_I_TH : Fld := ⟨R.PWR_TRIP_REC1, 9, 0⟩
def PWR_TRIP_REC2_BEAT : Fld := ⟨R.PWR_TRIP_REC2, 31, 0⟩
def PWR_TRIP_REC3_OFS : Fld := ⟨R.PWR_TRIP_REC3, 31, 0⟩
def PWR_I_VALID : Fld := ⟨R.PWR_I, 31, 31⟩
def PWR_I_DIR : Fld := ⟨R.PWR_I, 26, 26⟩
def PWR_I_CHIME : Fld := ⟨R.PWR_I, 25, 16⟩
def PWR_I_RAW : Fld := ⟨R.PWR_I, 15, 0⟩
def PWR_VOUT_VALID : Fld := ⟨R.PWR_VOUT, 31, 31⟩
def PWR_VOUT_DIR : Fld := ⟨R.PWR_VOUT, 26, 26⟩
def PWR_VOUT_CHIME : Fld := ⟨R.PWR_VOUT, 25, 16⟩
def PWR_VOUT_RAW : Fld := ⟨R.PWR_VOUT, 15, 0⟩
def PWR_VDS_VALID : Fld := ⟨R.PWR_VDS, 31, 31⟩
def PWR_VDS_DIR : Fld := ⟨R.PWR_VDS, 26, 26⟩
def PWR_VDS_CHIME : Fld := ⟨R.PWR_VDS, 25, 16⟩
def PWR_VDS_RAW : Fld := ⟨R.PWR_VDS, 15, 0⟩
def PWR_CNT_CNT : Fld := ⟨R.PWR_CNT, 31, 0⟩
def PWR_Q_LO_W : Fld := ⟨R.PWR_Q_LO, 31, 0⟩
def PWR_Q_HI_W : Fld := ⟨R.PWR_Q_HI, 31, 0⟩

end F

/-- The register families of block PWR. -/
def regsPWR : List Reg :=
  [R.PWR_CH_CFG, R.PWR_CH_PROD, R.PWR_CMD_PUB, R.PWR_LIM_PUB, R.PWR_CMD_VIS, R.PWR_LIM_VIS,
   R.PWR_POLICY, R.PWR_PROT, R.PWR_RETRY, R.PWR_TAU, R.PWR_GATE, R.PWR_PRE,
   R.PWR_DIAG, R.PWR_FETF, R.PWR_IE, R.PWR_STATE, R.PWR_STATUS, R.PWR_STATE_BEAT,
   R.PWR_EFF, R.PWR_EFF2, R.PWR_MODEL, R.PWR_TAU_EFF, R.PWR_COOL_REM, R.PWR_TRIP_REC0,
   R.PWR_TRIP_REC1, R.PWR_TRIP_REC2, R.PWR_TRIP_REC3, R.PWR_I, R.PWR_VOUT, R.PWR_VDS,
   R.PWR_CNT, R.PWR_Q_LO, R.PWR_Q_HI]

/-- First and one-past-last family number of block PWR. -/
def idsPWR : Nat × Nat := (115, 148)

namespace R

/-- FEED_CFG (R185). -/
def FEED_CFG : Reg := ⟨148, 0x10092000, [(2, 0x400)],
  [⟨31, 31, .rwl⟩, ⟨30, 28, .rwl⟩, ⟨26, 24, .rwl⟩, ⟨15, 0, .rwl⟩], fun _ => 0x1000064⟩
/-- FEED_BUDGET (R185). -/
def FEED_BUDGET : Reg := ⟨149, 0x10092004, [(2, 0x400)],
  [⟨25, 16, .rw⟩, ⟨9, 0, .rw⟩], fun _ => 0x2c003ff⟩
/-- FEED_FAST (R185). -/
def FEED_FAST : Reg := ⟨150, 0x10092008, [(2, 0x400)],
  [⟨31, 31, .rw⟩, ⟨30, 28, .rw⟩, ⟨27, 24, .rw⟩, ⟨9, 0, .rw⟩], fun _ => 0x420003ff⟩
/-- FEED_RESTORE (R185). -/
def FEED_RESTORE : Reg := ⟨151, 0x1009200C, [(2, 0x400)],
  [⟨31, 16, .rw⟩], fun _ => 0x1900000⟩
/-- FEED_LEDGER (R185). -/
def FEED_LEDGER : Reg := ⟨152, 0x10092010, [(2, 0x400)],
  [⟨31, 31, .rw⟩, ⟨23, 16, .rw⟩, ⟨9, 0, .rw⟩], fun _ => 0x80080240⟩
/-- FEED_QUIESC (R185). -/
def FEED_QUIESC : Reg := ⟨153, 0x10092014, [(2, 0x400)],
  [⟨9, 0, .rw⟩], fun _ => 0⟩
/-- FEED_STAT (R185). -/
def FEED_STAT : Reg := ⟨154, 0x10092020, [(2, 0x400)],
  [⟨31, 28, .ro⟩, ⟨27, 27, .ro⟩, ⟨26, 26, .ro⟩, ⟨25, 16, .ro⟩, ⟨15, 8, .ro⟩, ⟨7, 7, .ro⟩, ⟨6, 6, .ro⟩], fun _ => 0x80000000⟩
/-- FEED_EVT (R185). -/
def FEED_EVT : Reg := ⟨155, 0x10092024, [(2, 0x400)],
  [⟨31, 31, .w1c⟩, ⟨30, 30, .w1c⟩, ⟨29, 29, .w1c⟩, ⟨28, 28, .w1c⟩, ⟨27, 27, .w1c⟩, ⟨26, 26, .w1c⟩, ⟨25, 25, .w1c⟩, ⟨24, 24, .w1c⟩], fun _ => 0⟩
/-- FEED_IE (R185). -/
def FEED_IE : Reg := ⟨156, 0x10092028, [(2, 0x400)],
  [⟨31, 24, .rw⟩], fun _ => 0⟩
/-- FEED_AVG (R185). -/
def FEED_AVG : Reg := ⟨157, 0x10092038, [(2, 0x400)],
  [⟨31, 31, .ro⟩, ⟨25, 16, .ro⟩, ⟨9, 0, .ro⟩], fun _ => 0⟩
/-- FEED_NCONV (R185). -/
def FEED_NCONV : Reg := ⟨158, 0x1009203C, [(2, 0x400)],
  [⟨15, 0, .ro⟩], fun _ => 0⟩
/-- FEED_SHED_BEAT (R185). -/
def FEED_SHED_BEAT : Reg := ⟨159, 0x10092040, [(2, 0x400)],
  [⟨31, 0, .ro⟩], fun _ => 0⟩
/-- FEED_I (R185). -/
def FEED_I : Reg := ⟨160, 0x10092030, [(2, 0x400)],
  [⟨31, 31, .ro⟩, ⟨26, 26, .ro⟩, ⟨25, 16, .ro⟩, ⟨15, 0, .ro⟩], fun _ => 0⟩
/-- FEED_V (R185). -/
def FEED_V : Reg := ⟨161, 0x10092034, [(2, 0x400)],
  [⟨31, 31, .ro⟩, ⟨26, 26, .ro⟩, ⟨25, 16, .ro⟩, ⟨15, 0, .ro⟩], fun _ => 0⟩
/-- FEED_TIER_EST (R185). -/
def FEED_TIER_EST : Reg := ⟨162, 0x10092044, [(2, 0x400), (7, 0x4)],
  [⟨9, 0, .ro⟩], fun _ => 0⟩
/-- FEED_MAP_BUD (R185). -/
def FEED_MAP_BUD : Reg := ⟨163, 0x10092060, [(2, 0x400), (2, 0x4)],
  [⟨31, 0, .ro⟩], fun _ => 0⟩
/-- FEED_MAP_KN (R185). -/
def FEED_MAP_KN : Reg := ⟨164, 0x10092068, [(2, 0x400), (2, 0x4)],
  [⟨31, 0, .ro⟩], fun _ => 0⟩
/-- FEED_MAP_MODE (R185). -/
def FEED_MAP_MODE : Reg := ⟨165, 0x10092070, [(2, 0x400), (2, 0x4)],
  [⟨31, 0, .ro⟩], fun _ => 0⟩
/-- FEED_QF_LO (R185). -/
def FEED_QF_LO : Reg := ⟨166, 0x10092080, [(2, 0x400)],
  [⟨31, 0, .ro⟩], fun _ => 0⟩
/-- FEED_QF_HI (R185). -/
def FEED_QF_HI : Reg := ⟨167, 0x10092084, [(2, 0x400)],
  [⟨31, 0, .ro⟩], fun _ => 0⟩
/-- FEED_QR_LO (R185). -/
def FEED_QR_LO : Reg := ⟨168, 0x10092088, [(2, 0x400)],
  [⟨31, 0, .ro⟩], fun _ => 0⟩
/-- FEED_QR_HI (R185). -/
def FEED_QR_HI : Reg := ⟨169, 0x1009208C, [(2, 0x400)],
  [⟨31, 0, .ro⟩], fun _ => 0⟩
/-- FEED_CHQF_LO (R185). -/
def FEED_CHQF_LO : Reg := ⟨170, 0x10092090, [(2, 0x400)],
  [⟨31, 0, .ro⟩], fun _ => 0⟩
/-- FEED_CHQF_HI (R185). -/
def FEED_CHQF_HI : Reg := ⟨171, 0x10092094, [(2, 0x400)],
  [⟨31, 0, .ro⟩], fun _ => 0⟩
/-- FEED_CHQR_LO (R185). -/
def FEED_CHQR_LO : Reg := ⟨172, 0x10092098, [(2, 0x400)],
  [⟨31, 0, .ro⟩], fun _ => 0⟩
/-- FEED_CHQR_HI (R185). -/
def FEED_CHQR_HI : Reg := ⟨173, 0x1009209C, [(2, 0x400)],
  [⟨31, 0, .ro⟩], fun _ => 0⟩
/-- FEED_QQ_LO (R185). -/
def FEED_QQ_LO : Reg := ⟨174, 0x100920A0, [(2, 0x400)],
  [⟨31, 0, .ro⟩], fun _ => 0⟩
/-- FEED_QQ_HI (R185). -/
def FEED_QQ_HI : Reg := ⟨175, 0x100920A4, [(2, 0x400)],
  [⟨31, 0, .ro⟩], fun _ => 0⟩
/-- FEED_CNT (R185). -/
def FEED_CNT : Reg := ⟨176, 0x100920B0, [(2, 0x400), (6, 0x4)],
  [⟨31, 0, .ro⟩], fun _ => 0⟩

end R

namespace F

def FEED_CFG_KN_EN : Fld := ⟨R.FEED_CFG, 31, 31⟩
def FEED_CFG_KN_GRP : Fld := ⟨R.FEED_CFG, 30, 28⟩
def FEED_CFG_KN_TIER : Fld := ⟨R.FEED_CFG, 26, 24⟩
def FEED_CFG_R_EQ : Fld := ⟨R.FEED_CFG, 15, 0⟩
def FEED_BUDGET_HYST : Fld := ⟨R.FEED_BUDGET, 25, 16⟩
def FEED_BUDGET_BUDGET : Fld := ⟨R.FEED_BUDGET, 9, 0⟩
def FEED_FAST_EN : Fld := ⟨R.FEED_FAST, 31, 31⟩
def FEED_FAST_TIER : Fld := ⟨R.FEED_FAST, 30, 28⟩
def FEED_FAST_CNT : Fld := ⟨R.FEED_FAST, 27, 24⟩
def FEED_FAST_FAST_I : Fld := ⟨R.FEED_FAST, 9, 0⟩
def FEED_RESTORE_MIN_OFF : Fld := ⟨R.FEED_RESTORE, 31, 16⟩
def FEED_LEDGER_EN : Fld := ⟨R.FEED_LEDGER, 31, 31⟩
def FEED_LEDGER_PERSIST : Fld := ⟨R.FEED_LEDGER, 23, 16⟩
def FEED_LEDGER_LIMIT : Fld := ⟨R.FEED_LEDGER, 9, 0⟩
def FEED_QUIESC_QUIESC_I : Fld := ⟨R.FEED_QUIESC, 9, 0⟩
def FEED_STAT_SHED_LVL : Fld := ⟨R.FEED_STAT, 31, 28⟩
def FEED_STAT_JUDGED : Fld := ⟨R.FEED_STAT, 27, 27⟩
def FEED_STAT_IMB_NEG : Fld := ⟨R.FEED_STAT, 26, 26⟩
def FEED_STAT_IMB : Fld := ⟨R.FEED_STAT, 25, 16⟩
def FEED_STAT_PERSIST_CNT : Fld := ⟨R.FEED_STAT, 15, 8⟩
def FEED_STAT_KN_ACT : Fld := ⟨R.FEED_STAT, 7, 7⟩
def FEED_STAT_LINK_DOWN : Fld := ⟨R.FEED_STAT, 6, 6⟩
def FEED_EVT_SHED : Fld := ⟨R.FEED_EVT, 31, 31⟩
def FEED_EVT_FAST : Fld := ⟨R.FEED_EVT, 30, 30⟩
def FEED_EVT_EXHAUSTED : Fld := ⟨R.FEED_EVT, 29, 29⟩
def FEED_EVT_LEAK : Fld := ⟨R.FEED_EVT, 28, 28⟩
def FEED_EVT_RESTORE : Fld := ⟨R.FEED_EVT, 27, 27⟩
def FEED_EVT_SENSE_FAULT : Fld := ⟨R.FEED_EVT, 26, 26⟩
def FEED_EVT_GAP : Fld := ⟨R.FEED_EVT, 25, 25⟩
def FEED_EVT_AUDIT : Fld := ⟨R.FEED_EVT, 24, 24⟩
def FEED_IE_IE : Fld := ⟨R.FEED_IE, 31, 24⟩
def FEED_AVG_VALID : Fld := ⟨R.FEED_AVG, 31, 31⟩
def FEED_AVG_AVG : Fld := ⟨R.FEED_AVG, 25, 16⟩
def FEED_AVG_PROJ : Fld := ⟨R.FEED_AVG, 9, 0⟩
def FEED_NCONV_N : Fld := ⟨R.FEED_NCONV, 15, 0⟩
def FEED_SHED_BEAT_BEAT : Fld := ⟨R.FEED_SHED_BEAT, 31, 0⟩
def FEED_I_VALID : Fld := ⟨R.FEED_I, 31, 31⟩
def FEED_I_DIR : Fld := ⟨R.FEED_I, 26, 26⟩
def FEED_I_CHIME : Fld := ⟨R.FEED_I, 25, 16⟩
def FEED_I_RAW : Fld := ⟨R.FEED_I, 15, 0⟩
def FEED_V_VALID : Fld := ⟨R.FEED_V, 31, 31⟩
def FEED_V_DIR : Fld := ⟨R.FEED_V, 26, 26⟩
def FEED_V_CHIME : Fld := ⟨R.FEED_V, 25, 16⟩
def FEED_V_RAW : Fld := ⟨R.FEED_V, 15, 0⟩
def FEED_TIER_EST_EST : Fld := ⟨R.FEED_TIER_EST, 9, 0⟩
def FEED_MAP_BUD_MAP : Fld := ⟨R.FEED_MAP_BUD, 31, 0⟩
def FEED_MAP_KN_MAP : Fld := ⟨R.FEED_MAP_KN, 31, 0⟩
def FEED_MAP_MODE_MAP : Fld := ⟨R.FEED_MAP_MODE, 31, 0⟩
def FEED_QF_LO_W : Fld := ⟨R.FEED_QF_LO, 31, 0⟩
def FEED_QF_HI_W : Fld := ⟨R.FEED_QF_HI, 31, 0⟩
def FEED_QR_LO_W : Fld := ⟨R.FEED_QR_LO, 31, 0⟩
def FEED_QR_HI_W : Fld := ⟨R.FEED_QR_HI, 31, 0⟩
def FEED_CHQF_LO_W : Fld := ⟨R.FEED_CHQF_LO, 31, 0⟩
def FEED_CHQF_HI_W : Fld := ⟨R.FEED_CHQF_HI, 31, 0⟩
def FEED_CHQR_LO_W : Fld := ⟨R.FEED_CHQR_LO, 31, 0⟩
def FEED_CHQR_HI_W : Fld := ⟨R.FEED_CHQR_HI, 31, 0⟩
def FEED_QQ_LO_W : Fld := ⟨R.FEED_QQ_LO, 31, 0⟩
def FEED_QQ_HI_W : Fld := ⟨R.FEED_QQ_HI, 31, 0⟩
def FEED_CNT_CNT : Fld := ⟨R.FEED_CNT, 31, 0⟩

end F

/-- The register families of block FEED. -/
def regsFEED : List Reg :=
  [R.FEED_CFG, R.FEED_BUDGET, R.FEED_FAST, R.FEED_RESTORE, R.FEED_LEDGER, R.FEED_QUIESC,
   R.FEED_STAT, R.FEED_EVT, R.FEED_IE, R.FEED_AVG, R.FEED_NCONV, R.FEED_SHED_BEAT,
   R.FEED_I, R.FEED_V, R.FEED_TIER_EST, R.FEED_MAP_BUD, R.FEED_MAP_KN, R.FEED_MAP_MODE,
   R.FEED_QF_LO, R.FEED_QF_HI, R.FEED_QR_LO, R.FEED_QR_HI, R.FEED_CHQF_LO, R.FEED_CHQF_HI,
   R.FEED_CHQR_LO, R.FEED_CHQR_HI, R.FEED_QQ_LO, R.FEED_QQ_HI, R.FEED_CNT]

/-- First and one-past-last family number of block FEED. -/
def idsFEED : Nat × Nat := (148, 177)

namespace R

/-- IOX_ID (R215). -/
def IOX_ID : Reg := ⟨177, 0x100C0000, [],
  [⟨31, 16, .ro⟩, ⟨15, 0, .ro⟩], fun _ => 0x10c000b1⟩
/-- IOX_STAT (R215). -/
def IOX_STAT : Reg := ⟨178, 0x100C0004, [],
  [⟨31, 31, .ro⟩], fun _ => 0⟩
/-- IOX_MFI_DIG (R215). -/
def IOX_MFI_DIG : Reg := ⟨179, 0x100C0010, [(3, 0x4)],
  [⟨31, 0, .ro⟩], fun _ => 0⟩
/-- IOX_MFI_EDGE (R215). -/
def IOX_MFI_EDGE : Reg := ⟨180, 0x100C0020, [(3, 0x4)],
  [⟨31, 0, .w1c⟩], fun _ => 0⟩
/-- IOX_MFI_IE (R215). -/
def IOX_MFI_IE : Reg := ⟨181, 0x100C0030, [(3, 0x4)],
  [⟨31, 0, .rw⟩], fun _ => 0⟩
/-- IOX_MFI_WAKECFG (R215). -/
def IOX_MFI_WAKECFG : Reg := ⟨182, 0x100C0040, [],
  [⟨31, 29, .rw⟩, ⟨28, 27, .rw⟩], fun _ => 0x68000000⟩
/-- IOX_MFI_CFG (R215). -/
def IOX_MFI_CFG : Reg := ⟨183, 0x100C1000, [(96, 0x10)],
  [⟨31, 30, .rw⟩, ⟨29, 29, .rw⟩, ⟨28, 26, .rw⟩, ⟨25, 22, .rw⟩, ⟨21, 14, .rw⟩, ⟨13, 13, .rw⟩, ⟨12, 11, .rw⟩, ⟨10, 10, .w1c⟩], fun _ => 0x10000⟩
/-- IOX_MFI_TH (R215). -/
def IOX_MFI_TH : Reg := ⟨184, 0x100C1004, [(96, 0x10)],
  [⟨25, 16, .rw⟩, ⟨9, 0, .rw⟩], fun _ => 0x1de01bd⟩
/-- IOX_MFI_AN (R215). -/
def IOX_MFI_AN : Reg := ⟨185, 0x100C1008, [(96, 0x10)],
  [⟨31, 31, .ro⟩, ⟨26, 26, .ro⟩, ⟨25, 16, .ro⟩, ⟨15, 0, .ro⟩], fun _ => 0⟩
/-- IOX_RAI_CFG (R215). -/
def IOX_RAI_CFG : Reg := ⟨186, 0x100C2000, [(16, 0x10)],
  [⟨31, 28, .rw⟩, ⟨27, 26, .rw⟩, ⟨25, 25, .w1c⟩], fun _ => 0x80000000⟩
/-- IOX_RAI_V (R215). -/
def IOX_RAI_V : Reg := ⟨187, 0x100C2004, [(16, 0x10)],
  [⟨31, 31, .ro⟩, ⟨26, 26, .ro⟩, ⟨25, 16, .ro⟩, ⟨15, 0, .ro⟩], fun _ => 0⟩
/-- IOX_SSUP_CTRL (R215). -/
def IOX_SSUP_CTRL : Reg := ⟨188, 0x100C2200, [(8, 0x10)],
  [⟨31, 30, .rwl⟩, ⟨29, 27, .rwl⟩, ⟨26, 22, .rwl⟩, ⟨0, 0, .rw⟩], fun _ => 0x7c00000⟩
/-- IOX_SSUP_STAT (R215). -/
def IOX_SSUP_STAT : Reg := ⟨189, 0x100C2204, [(8, 0x10)],
  [⟨31, 31, .w1c⟩, ⟨30, 30, .w1c⟩, ⟨29, 29, .ro⟩, ⟨26, 24, .ro⟩], fun _ => 0⟩
/-- IOX_SSUP_V (R215). -/
def IOX_SSUP_V : Reg := ⟨190, 0x100C2208, [(8, 0x10)],
  [⟨31, 31, .ro⟩, ⟨26, 26, .ro⟩, ⟨25, 16, .ro⟩, ⟨15, 0, .ro⟩], fun _ => 0⟩
/-- IOX_SSUP_I (R215). -/
def IOX_SSUP_I : Reg := ⟨191, 0x100C220C, [(8, 0x10)],
  [⟨31, 31, .ro⟩, ⟨26, 26, .ro⟩, ⟨25, 16, .ro⟩, ⟨15, 0, .ro⟩], fun _ => 0⟩
/-- IOX_TEMP_CFG (R215). -/
def IOX_TEMP_CFG : Reg := ⟨192, 0x100C2400, [(8, 0x80)],
  [⟨31, 30, .rw⟩, ⟨22, 16, .rw⟩, ⟨3, 0, .rw⟩], fun _ => 0⟩
/-- IOX_TEMP (R215). -/
def IOX_TEMP : Reg := ⟨193, 0x100C2404, [(8, 0x80)],
  [⟨31, 31, .ro⟩, ⟨30, 30, .ro⟩, ⟨11, 0, .ro⟩], fun _ => 0⟩
/-- IOX_TEMP_PT (R215). -/
def IOX_TEMP_PT : Reg := ⟨194, 0x100C2440, [(8, 0x80), (16, 0x4)],
  [⟨31, 16, .rw⟩, ⟨11, 0, .rw⟩], fun _ => 0⟩
/-- IOX_LSO_CFG (R215). -/
def IOX_LSO_CFG : Reg := ⟨195, 0x100C3000, [(32, 0x10)],
  [⟨31, 30, .rwl⟩, ⟨29, 27, .rwl⟩, ⟨26, 22, .rwl⟩, ⟨21, 21, .rw⟩, ⟨20, 20, .rw⟩, ⟨9, 0, .rw⟩], fun _ => 0x7c00014⟩
/-- IOX_LSO_DUTY (R215). -/
def IOX_LSO_DUTY : Reg := ⟨196, 0x100C3004, [(32, 0x10)],
  [⟨9, 0, .rw⟩], fun _ => 0⟩
/-- IOX_LSO_STAT (R215). -/
def IOX_LSO_STAT : Reg := ⟨197, 0x100C3008, [(32, 0x10)],
  [⟨31, 31, .w1c⟩, ⟨30, 30, .w1c⟩, ⟨29, 29, .w1c⟩, ⟨28, 28, .w1c⟩, ⟨27, 27, .ro⟩, ⟨26, 26, .ro⟩, ⟨9, 0, .ro⟩], fun _ => 0⟩
/-- IOX_LSO_PWM (R215). -/
def IOX_LSO_PWM : Reg := ⟨198, 0x100C3400, [(4, 0x4)],
  [⟨13, 0, .rw⟩], fun _ => 0x3e8⟩
/-- IOX_BR_CFG (R215). -/
def IOX_BR_CFG : Reg := ⟨199, 0x100C4000, [(6, 0x40)],
  [⟨31, 30, .rwl⟩, ⟨29, 27, .rwl⟩, ⟨26, 22, .rwl⟩, ⟨21, 21, .rw⟩, ⟨20, 20, .rw⟩, ⟨15, 0, .rwl⟩], fun _ => 0x7e003e8⟩
/-- IOX_BR_PWM (R215). -/
def IOX_BR_PWM : Reg := ⟨200, 0x100C4008, [(6, 0x40)],
  [⟨31, 26, .rw⟩, ⟨25, 18, .rw⟩, ⟨16, 0, .rw⟩], fun _ => 0x10501388⟩
/-- IOX_BR_CMD (R215). -/
def IOX_BR_CMD : Reg := ⟨201, 0x100C400C, [(6, 0x40)],
  [⟨11, 10, .rw⟩, ⟨9, 0, .rw⟩], fun _ => 0⟩
/-- IOX_BR_ILIM (R215). -/
def IOX_BR_ILIM : Reg := ⟨202, 0x100C4010, [(6, 0x40)],
  [⟨31, 24, .rw⟩, ⟨23, 16, .rw⟩, ⟨9, 0, .rw⟩], fun _ => 0x100a02c0⟩
/-- IOX_BR_STAT (R215). -/
def IOX_BR_STAT : Reg := ⟨203, 0x100C4014, [(6, 0x40)],
  [⟨31, 31, .w1c⟩, ⟨30, 30, .w1c⟩, ⟨29, 29, .w1c⟩, ⟨28, 28, .w1s⟩, ⟨27, 27, .ro⟩, ⟨26, 24, .ro⟩, ⟨23, 22, .ro⟩, ⟨9, 0, .ro⟩], fun _ => 0⟩
/-- IOX_BR_CNT (R215). -/
def IOX_BR_CNT : Reg := ⟨204, 0x100C4020, [(6, 0x40)],
  [⟨31, 16, .ro⟩, ⟨15, 0, .ro⟩], fun _ => 0⟩
/-- IOX_BR_PROT (R215). -/
def IOX_BR_PROT : Reg := ⟨205, 0x100C4024, [(6, 0x40)],
  [⟨25, 16, .rw⟩, ⟨7, 0, .rw⟩], fun _ => 0x13d0002⟩
/-- IOX_BR_I (R215). -/
def IOX_BR_I : Reg := ⟨206, 0x100C4018, [(6, 0x40)],
  [⟨31, 31, .ro⟩, ⟨26, 26, .ro⟩, ⟨25, 16, .ro⟩, ⟨15, 0, .ro⟩], fun _ => 0⟩
/-- IOX_BR_VS (R215). -/
def IOX_BR_VS : Reg := ⟨207, 0x100C401C, [(6, 0x40)],
  [⟨31, 31, .ro⟩, ⟨26, 26, .ro⟩, ⟨25, 16, .ro⟩, ⟨15, 0, .ro⟩], fun _ => 0⟩

end R

namespace F

def IOX_ID_BLOCK : Fld := ⟨R.IOX_ID, 31, 16⟩
def IOX_ID_VERSION : Fld := ⟨R.IOX_ID, 15, 0⟩
def IOX_STAT_LINK_DOWN : Fld := ⟨R.IOX_STAT, 31, 31⟩
def IOX_MFI_DIG_STATE : Fld := ⟨R.IOX_MFI_DIG, 31, 0⟩
def IOX_MFI_EDGE_EDGE : Fld := ⟨R.IOX_MFI_EDGE, 31, 0⟩
def IOX_MFI_IE_IE : Fld := ⟨R.IOX_MFI_IE, 31, 0⟩
def IOX_MFI_WAKECFG_POLL : Fld := ⟨R.IOX_MFI_WAKECFG, 31, 29⟩
def IOX_MFI_WAKECFG_WDEB : Fld := ⟨R.IOX_MFI_WAKECFG, 28, 27⟩
def IOX_MFI_CFG_MODE : Fld := ⟨R.IOX_MFI_CFG, 31, 30⟩
def IOX_MFI_CFG_PULL : Fld := ⟨R.IOX_MFI_CFG, 29, 29⟩
def IOX_MFI_CFG_WET : Fld := ⟨R.IOX_MFI_CFG, 28, 26⟩
def IOX_MFI_CFG_BOOST_MS : Fld := ⟨R.IOX_MFI_CFG, 25, 22⟩
def IOX_MFI_CFG_DEB : Fld := ⟨R.IOX_MFI_CFG, 21, 14⟩
def IOX_MFI_CFG_WAKE_EN : Fld := ⟨R.IOX_MFI_CFG, 13, 13⟩
def IOX_MFI_CFG_WAKE_EDGE : Fld := ⟨R.IOX_MFI_CFG, 12, 11⟩
def IOX_MFI_CFG_OV : Fld := ⟨R.IOX_MFI_CFG, 10, 10⟩
def IOX_MFI_TH_TH_RISE : Fld := ⟨R.IOX_MFI_TH, 25, 16⟩
def IOX_MFI_TH_TH_FALL : Fld := ⟨R.IOX_MFI_TH, 9, 0⟩
def IOX_MFI_AN_VALID : Fld := ⟨R.IOX_MFI_AN, 31, 31⟩
def IOX_MFI_AN_DIR : Fld := ⟨R.IOX_MFI_AN, 26, 26⟩
def IOX_MFI_AN_CHIME : Fld := ⟨R.IOX_MFI_AN, 25, 16⟩
def IOX_MFI_AN_RAW : Fld := ⟨R.IOX_MFI_AN, 15, 0⟩
def IOX_RAI_CFG_REF : Fld := ⟨R.IOX_RAI_CFG, 31, 28⟩
def IOX_RAI_CFG_PULL : Fld := ⟨R.IOX_RAI_CFG, 27, 26⟩
def IOX_RAI_CFG_OVR : Fld := ⟨R.IOX_RAI_CFG, 25, 25⟩
def IOX_RAI_V_VALID : Fld := ⟨R.IOX_RAI_V, 31, 31⟩
def IOX_RAI_V_DIR : Fld := ⟨R.IOX_RAI_V, 26, 26⟩
def IOX_RAI_V_CHIME : Fld := ⟨R.IOX_RAI_V, 25, 16⟩
def IOX_RAI_V_RAW : Fld := ⟨R.IOX_RAI_V, 15, 0⟩
def IOX_SSUP_CTRL_SAFE_ACTION : Fld := ⟨R.IOX_SSUP_CTRL, 31, 30⟩
def IOX_SSUP_CTRL_KNELL_GRP : Fld := ⟨R.IOX_SSUP_CTRL, 29, 27⟩
def IOX_SSUP_CTRL_DRV : Fld := ⟨R.IOX_SSUP_CTRL, 26, 22⟩
def IOX_SSUP_CTRL_EN : Fld := ⟨R.IOX_SSUP_CTRL, 0, 0⟩
def IOX_SSUP_STAT_OVL : Fld := ⟨R.IOX_SSUP_STAT, 31, 31⟩
def IOX_SSUP_STAT_BACKFEED : Fld := ⟨R.IOX_SSUP_STAT, 30, 30⟩
def IOX_SSUP_STAT_FORCED : Fld := ⟨R.IOX_SSUP_STAT, 29, 29⟩
def IOX_SSUP_STAT_STATE : Fld := ⟨R.IOX_SSUP_STAT, 26, 24⟩
def IOX_SSUP_V_VALID : Fld := ⟨R.IOX_SSUP_V, 31, 31⟩
def IOX_SSUP_V_DIR : Fld := ⟨R.IOX_SSUP_V, 26, 26⟩
def IOX_SSUP_V_CHIME : Fld := ⟨R.IOX_SSUP_V, 25, 16⟩
def IOX_SSUP_V_RAW : Fld := ⟨R.IOX_SSUP_V, 15, 0⟩
def IOX_SSUP_I_VALID : Fld := ⟨R.IOX_SSUP_I, 31, 31⟩
def IOX_SSUP_I_DIR : Fld := ⟨R.IOX_SSUP_I, 26, 26⟩
def IOX_SSUP_I_CHIME : Fld := ⟨R.IOX_SSUP_I, 25, 16⟩
def IOX_SSUP_I_RAW : Fld := ⟨R.IOX_SSUP_I, 15, 0⟩
def IOX_TEMP_CFG_SRC_KIND : Fld := ⟨R.IOX_TEMP_CFG, 31, 30⟩
def IOX_TEMP_CFG_SRC_IDX : Fld := ⟨R.IOX_TEMP_CFG, 22, 16⟩
def IOX_TEMP_CFG_NPTS : Fld := ⟨R.IOX_TEMP_CFG, 3, 0⟩
def IOX_TEMP_VALID : Fld := ⟨R.IOX_TEMP, 31, 31⟩
def IOX_TEMP_RANGE : Fld := ⟨R.IOX_TEMP, 30, 30⟩
def IOX_TEMP_T : Fld := ⟨R.IOX_TEMP, 11, 0⟩
def IOX_TEMP_PT_RAW : Fld := ⟨R.IOX_TEMP_PT, 31, 16⟩
def IOX_TEMP_PT_T : Fld := ⟨R.IOX_TEMP_PT, 11, 0⟩
def IOX_LSO_CFG_SAFE_ACTION : Fld := ⟨R.IOX_LSO_CFG, 31, 30⟩
def IOX_LSO_CFG_KNELL_GRP : Fld := ⟨R.IOX_LSO_CFG, 29, 27⟩
def IOX_LSO_CFG_DRV : Fld := ⟨R.IOX_LSO_CFG, 26, 22⟩
def IOX_LSO_CFG_OL_OFF_EN : Fld := ⟨R.IOX_LSO_CFG, 21, 21⟩
def IOX_LSO_CFG_IE : Fld := ⟨R.IOX_LSO_CFG, 20, 20⟩
def IOX_LSO_CFG_OL_ON_I : Fld := ⟨R.IOX_LSO_CFG, 9, 0⟩
def IOX_LSO_DUTY_DUTY : Fld := ⟨R.IOX_LSO_DUTY, 9, 0⟩
def IOX_LSO_STAT_OC : Fld := ⟨R.IOX_LSO_STAT, 31, 31⟩
def IOX_LSO_STAT_OT : Fld := ⟨R.IOX_LSO_STAT, 30, 30⟩
def IOX_LSO_STAT_OL_ON : Fld := ⟨R.IOX_LSO_STAT, 29, 29⟩
def IOX_LSO_STAT_OL_OFF : Fld := ⟨R.IOX_LSO_STAT, 28, 28⟩
def IOX_LSO_STAT_FORCED : Fld := ⟨R.IOX_LSO_STAT, 27, 27⟩
def IOX_LSO_STAT_LATCHED : Fld := ⟨R.IOX_LSO_STAT, 26, 26⟩
def IOX_LSO_STAT_I : Fld := ⟨R.IOX_LSO_STAT, 9, 0⟩
def IOX_LSO_PWM_PER : Fld := ⟨R.IOX_LSO_PWM, 13, 0⟩
def IOX_BR_CFG_SAFE_ACTION : Fld := ⟨R.IOX_BR_CFG, 31, 30⟩
def IOX_BR_CFG_KNELL_GRP : Fld := ⟨R.IOX_BR_CFG, 29, 27⟩
def IOX_BR_CFG_DRV : Fld := ⟨R.IOX_BR_CFG, 26, 22⟩
def IOX_BR_CFG_SYNC : Fld := ⟨R.IOX_BR_CFG, 21, 21⟩
def IOX_BR_CFG_IE : Fld := ⟨R.IOX_BR_CFG, 20, 20⟩
def IOX_BR_CFG_R_EQ : Fld := ⟨R.IOX_BR_CFG, 15, 0⟩
def IOX_BR_PWM_DT : Fld := ⟨R.IOX_BR_PWM, 31, 26⟩
def IOX_BR_PWM_DIR_GAP : Fld := ⟨R.IOX_BR_PWM, 25, 18⟩
def IOX_BR_PWM_PER : Fld := ⟨R.IOX_BR_PWM, 16, 0⟩
def IOX_BR_CMD_MODE : Fld := ⟨R.IOX_BR_CMD, 11, 10⟩
def IOX_BR_CMD_DUTY : Fld := ⟨R.IOX_BR_CMD, 9, 0⟩
def IOX_BR_ILIM_PERSIST : Fld := ⟨R.IOX_BR_ILIM, 31, 24⟩
def IOX_BR_ILIM_BLANK : Fld := ⟨R.IOX_BR_ILIM, 23, 16⟩
def IOX_BR_ILIM_ILIM : Fld := ⟨R.IOX_BR_ILIM, 9, 0⟩
def IOX_BR_STAT_SHORT : Fld := ⟨R.IOX_BR_STAT, 31, 31⟩
def IOX_BR_STAT_UV : Fld := ⟨R.IOX_BR_STAT, 30, 30⟩
def IOX_BR_STAT_LIM_PERSIST : Fld := ⟨R.IOX_BR_STAT, 29, 29⟩
def IOX_BR_STAT_CLR : Fld := ⟨R.IOX_BR_STAT, 28, 28⟩
def IOX_BR_STAT_FORCED : Fld := ⟨R.IOX_BR_STAT, 27, 27⟩
def IOX_BR_STAT_STATE : Fld := ⟨R.IOX_BR_STAT, 26, 24⟩
def IOX_BR_STAT_MODE_OUT : Fld := ⟨R.IOX_BR_STAT, 23, 22⟩
def IOX_BR_STAT_DUTY_OUT : Fld := ⟨R.IOX_BR_STAT, 9, 0⟩
def IOX_BR_CNT_LIM_CNT : Fld := ⟨R.IOX_BR_CNT, 31, 16⟩
def IOX_BR_CNT_FAULT_CNT : Fld := ⟨R.IOX_BR_CNT, 15, 0⟩
def IOX_BR_PROT_VDS_TH : Fld := ⟨R.IOX_BR_PROT, 25, 16⟩
def IOX_BR_PROT_VDS_BLANK : Fld := ⟨R.IOX_BR_PROT, 7, 0⟩
def IOX_BR_I_VALID : Fld := ⟨R.IOX_BR_I, 31, 31⟩
def IOX_BR_I_DIR : Fld := ⟨R.IOX_BR_I, 26, 26⟩
def IOX_BR_I_CHIME : Fld := ⟨R.IOX_BR_I, 25, 16⟩
def IOX_BR_I_RAW : Fld := ⟨R.IOX_BR_I, 15, 0⟩
def IOX_BR_VS_VALID : Fld := ⟨R.IOX_BR_VS, 31, 31⟩
def IOX_BR_VS_DIR : Fld := ⟨R.IOX_BR_VS, 26, 26⟩
def IOX_BR_VS_CHIME : Fld := ⟨R.IOX_BR_VS, 25, 16⟩
def IOX_BR_VS_RAW : Fld := ⟨R.IOX_BR_VS, 15, 0⟩

end F

/-- The register families of block IOX. -/
def regsIOX : List Reg :=
  [R.IOX_ID, R.IOX_STAT, R.IOX_MFI_DIG, R.IOX_MFI_EDGE, R.IOX_MFI_IE, R.IOX_MFI_WAKECFG,
   R.IOX_MFI_CFG, R.IOX_MFI_TH, R.IOX_MFI_AN, R.IOX_RAI_CFG, R.IOX_RAI_V, R.IOX_SSUP_CTRL,
   R.IOX_SSUP_STAT, R.IOX_SSUP_V, R.IOX_SSUP_I, R.IOX_TEMP_CFG, R.IOX_TEMP, R.IOX_TEMP_PT,
   R.IOX_LSO_CFG, R.IOX_LSO_DUTY, R.IOX_LSO_STAT, R.IOX_LSO_PWM, R.IOX_BR_CFG, R.IOX_BR_PWM,
   R.IOX_BR_CMD, R.IOX_BR_ILIM, R.IOX_BR_STAT, R.IOX_BR_CNT, R.IOX_BR_PROT, R.IOX_BR_I,
   R.IOX_BR_VS]

/-- First and one-past-last family number of block IOX. -/
def idsIOX : Nat × Nat := (177, 208)

namespace R

/-- SENT_ID (R216). -/
def SENT_ID : Reg := ⟨208, 0x10360000, [],
  [⟨31, 16, .ro⟩, ⟨15, 0, .ro⟩], fun _ => 0x5e0700b1⟩
/-- SENT_CFG (R216). -/
def SENT_CFG : Reg := ⟨209, 0x10360100, [(8, 0x40)],
  [⟨31, 31, .rw⟩, ⟨30, 30, .rw⟩, ⟨29, 29, .rw⟩, ⟨28, 28, .rw⟩, ⟨27, 26, .rw⟩, ⟨25, 25, .rw⟩, ⟨24, 22, .rw⟩, ⟨21, 20, .rw⟩, ⟨19, 19, .rw⟩, ⟨18, 18, .rw⟩, ⟨17, 17, .w1s⟩, ⟨16, 8, .rw⟩, ⟨7, 0, .rw⟩], fun _ => 0x23800c0a⟩
/-- SENT_STAT (R216). -/
def SENT_STAT : Reg := ⟨210, 0x10360104, [(8, 0x40)],
  [⟨31, 31, .ro⟩, ⟨30, 30, .w1c⟩, ⟨29, 27, .ro⟩, ⟨23, 20, .ro⟩, ⟨19, 0, .ro⟩], fun _ => 0xfffff⟩
/-- SENT_FC (R216). -/
def SENT_FC : Reg := ⟨211, 0x10360108, [(8, 0x40), (2, 0x4)],
  [⟨31, 31, .ro⟩, ⟨15, 0, .ro⟩], fun _ => 0⟩
/-- SENT_SLOW (R216). -/
def SENT_SLOW : Reg := ⟨212, 0x10360110, [(8, 0x40)],
  [⟨31, 31, .ro⟩, ⟨30, 30, .w1c⟩, ⟨23, 16, .ro⟩, ⟨15, 0, .ro⟩], fun _ => 0⟩
/-- SENT_CNT (R216). -/
def SENT_CNT : Reg := ⟨213, 0x10360114, [(8, 0x40)],
  [⟨31, 16, .ro⟩, ⟨15, 0, .ro⟩], fun _ => 0⟩

end R

namespace F

def SENT_ID_BLOCK : Fld := ⟨R.SENT_ID, 31, 16⟩
def SENT_ID_VERSION : Fld := ⟨R.SENT_ID, 15, 0⟩
def SENT_CFG_EN : Fld := ⟨R.SENT_CFG, 31, 31⟩
def SENT_CFG_CRC_LEGACY : Fld := ⟨R.SENT_CFG, 30, 30⟩
def SENT_CFG_PAUSE : Fld := ⟨R.SENT_CFG, 29, 29⟩
def SENT_CFG_SPC : Fld := ⟨R.SENT_CFG, 28, 28⟩
def SENT_CFG_LAYOUT : Fld := ⟨R.SENT_CFG, 27, 26⟩
def SENT_CFG_FC2_REV : Fld := ⟨R.SENT_CFG, 25, 25⟩
def SENT_CFG_NIB : Fld := ⟨R.SENT_CFG, 24, 22⟩
def SENT_CFG_SLOW : Fld := ⟨R.SENT_CFG, 21, 20⟩
def SENT_CFG_IE_ERR : Fld := ⟨R.SENT_CFG, 19, 19⟩
def SENT_CFG_IE_SLOW : Fld := ⟨R.SENT_CFG, 18, 18⟩
def SENT_CFG_TRIG : Fld := ⟨R.SENT_CFG, 17, 17⟩
def SENT_CFG_TICK : Fld := ⟨R.SENT_CFG, 16, 8⟩
def SENT_CFG_TMO : Fld := ⟨R.SENT_CFG, 7, 0⟩
def SENT_STAT_VALID : Fld := ⟨R.SENT_STAT, 31, 31⟩
def SENT_STAT_ERR : Fld := ⟨R.SENT_STAT, 30, 30⟩
def SENT_STAT_LAST_ERR : Fld := ⟨R.SENT_STAT, 29, 27⟩
def SENT_STAT_STATUS : Fld := ⟨R.SENT_STAT, 23, 20⟩
def SENT_STAT_AGE : Fld := ⟨R.SENT_STAT, 19, 0⟩
def SENT_FC_VALID : Fld := ⟨R.SENT_FC, 31, 31⟩
def SENT_FC_DATA : Fld := ⟨R.SENT_FC, 15, 0⟩
def SENT_SLOW_VALID : Fld := ⟨R.SENT_SLOW, 31, 31⟩
def SENT_SLOW_NEW : Fld := ⟨R.SENT_SLOW, 30, 30⟩
def SENT_SLOW_ID : Fld := ⟨R.SENT_SLOW, 23, 16⟩
def SENT_SLOW_DATA : Fld := ⟨R.SENT_SLOW, 15, 0⟩
def SENT_CNT_FRAMES : Fld := ⟨R.SENT_CNT, 31, 16⟩
def SENT_CNT_ERRORS : Fld := ⟨R.SENT_CNT, 15, 0⟩

end F

/-- The register families of block SENT. -/
def regsSENT : List Reg :=
  [R.SENT_ID, R.SENT_CFG, R.SENT_STAT, R.SENT_FC, R.SENT_SLOW, R.SENT_CNT]

/-- First and one-past-last family number of block SENT. -/
def idsSENT : Nat × Nat := (208, 214)

end Sys2Proof.Machine
end

