-- ==== Sys2Proof/Machine/RegMapB.lean ====
section
/-!
DEFINITION. The register map: one `Reg` per register family of the spec's register tables
and one `Fld` per field (namespaces `R` and `F`).  Written from the tables of spec/; each family
names its table's rule.  A family with several units or entries is indexed by one flat index
(first dimension outermost).
-/

namespace Sys2Proof.Machine


namespace R

/-- SW_ID (R252). -/
def SW_ID : Reg := ⟨214, 0x10100000, [],
  [⟨31, 16, .ro⟩, ⟨15, 0, .ro⟩], fun _ => 0x5c0e00b1⟩
/-- SW_CTRL (R252). -/
def SW_CTRL : Reg := ⟨215, 0x10100004, [],
  [⟨31, 31, .ro⟩, ⟨0, 0, .w1s⟩], fun _ => 0⟩
/-- SW_STAT (R252). -/
def SW_STAT : Reg := ⟨216, 0x10100008, [],
  [⟨31, 31, .ro⟩, ⟨30, 30, .ro⟩, ⟨29, 29, .ro⟩, ⟨28, 26, .ro⟩, ⟨20, 16, .ro⟩], fun _ => 0⟩
/-- SW_POOL (R252). -/
def SW_POOL : Reg := ⟨217, 0x1010000C, [],
  [⟨17, 0, .ro⟩], fun _ => 0⟩
/-- SW_RSV (R252). -/
def SW_RSV : Reg := ⟨218, 0x10100010, [],
  [⟨17, 0, .ro⟩], fun _ => 0⟩
/-- SW_SHFREE (R252). -/
def SW_SHFREE : Reg := ⟨219, 0x10100014, [],
  [⟨17, 0, .ro⟩], fun _ => 0⟩
/-- SW_INUSE (R252). -/
def SW_INUSE : Reg := ⟨220, 0x10100018, [],
  [⟨17, 0, .ro⟩], fun _ => 0⟩
/-- SW_ALPHA (R252). -/
def SW_ALPHA : Reg := ⟨221, 0x1010001C, [],
  [⟨30, 28, .rwl⟩, ⟨26, 24, .rwl⟩, ⟨22, 20, .rwl⟩, ⟨18, 16, .rwl⟩, ⟨14, 12, .rwl⟩, ⟨10, 8, .rwl⟩, ⟨6, 4, .rwl⟩, ⟨2, 0, .rwl⟩], fun _ => 0x44444444⟩
/-- SW_AUDIT (R252). -/
def SW_AUDIT : Reg := ⟨222, 0x10100020, [],
  [⟨31, 31, .w1c⟩, ⟨30, 30, .w1c⟩, ⟨15, 0, .ro⟩], fun _ => 0⟩
/-- SW_AUDIT_DETAIL (R252). -/
def SW_AUDIT_DETAIL : Reg := ⟨223, 0x10100024, [],
  [⟨31, 28, .ro⟩, ⟨27, 23, .ro⟩, ⟨17, 0, .ro⟩], fun _ => 0⟩
/-- SW_ECC (R252). -/
def SW_ECC : Reg := ⟨224, 0x10100028, [],
  [⟨31, 16, .ro⟩, ⟨15, 0, .ro⟩], fun _ => 0⟩
/-- SW_FDB_CFG (R252). -/
def SW_FDB_CFG : Reg := ⟨225, 0x10100030, [],
  [⟨15, 0, .rw⟩], fun _ => 0x12c⟩
/-- SW_FDB_CMD (R252). -/
def SW_FDB_CMD : Reg := ⟨226, 0x10100034, [],
  [⟨31, 31, .w1s⟩, ⟨30, 28, .rw⟩, ⟨20, 16, .rw⟩, ⟨13, 0, .rw⟩], fun _ => 0⟩
/-- SW_FDB_MAC_LO (R252). -/
def SW_FDB_MAC_LO : Reg := ⟨227, 0x10100038, [],
  [⟨31, 0, .rw⟩], fun _ => 0⟩
/-- SW_FDB_KEY (R252). -/
def SW_FDB_KEY : Reg := ⟨228, 0x1010003C, [],
  [⟨27, 16, .rw⟩, ⟨15, 0, .rw⟩], fun _ => 0⟩
/-- SW_FDB_DATA (R252). -/
def SW_FDB_DATA : Reg := ⟨229, 0x10100040, [],
  [⟨31, 31, .rw⟩, ⟨30, 30, .rw⟩, ⟨29, 29, .ro⟩, ⟨23, 0, .rw⟩], fun _ => 0⟩
/-- SW_FDB_STAT (R252). -/
def SW_FDB_STAT : Reg := ⟨230, 0x10100044, [],
  [⟨31, 31, .w1c⟩, ⟨30, 28, .ro⟩, ⟨27, 14, .ro⟩, ⟨13, 0, .ro⟩], fun _ => 0⟩
/-- SW_FDB_USED (R252). -/
def SW_FDB_USED : Reg := ⟨231, 0x10100048, [],
  [⟨14, 0, .ro⟩], fun _ => 0⟩
/-- SW_EVT (R252). -/
def SW_EVT : Reg := ⟨232, 0x10100050, [],
  [⟨31, 31, .w1c⟩, ⟨30, 30, .w1c⟩, ⟨29, 29, .w1c⟩, ⟨28, 28, .w1c⟩, ⟨27, 27, .w1c⟩, ⟨26, 26, .w1c⟩, ⟨0, 0, .w1c⟩], fun _ => 0⟩
/-- SW_IE (R252). -/
def SW_IE : Reg := ⟨233, 0x10100054, [],
  [⟨31, 26, .rw⟩, ⟨0, 0, .rw⟩], fun _ => 0⟩
/-- SW_PORT_CFG (R252). -/
def SW_PORT_CFG : Reg := ⟨234, 0x10101000, [(24, 0x40)],
  [⟨31, 31, .rwl⟩, ⟨30, 30, .rw⟩, ⟨29, 29, .rw⟩, ⟨28, 28, .rw⟩, ⟨27, 27, .rw⟩, ⟨26, 26, .rw⟩, ⟨25, 25, .rwl⟩, ⟨23, 12, .rw⟩], fun i => swPortCfgReset i⟩
/-- SW_PORT_AGE (R252). -/
def SW_PORT_AGE : Reg := ⟨235, 0x10101004, [(24, 0x40)],
  [⟨31, 31, .rw⟩, ⟨30, 30, .rw⟩, ⟨23, 0, .rw⟩], fun _ => 0x40002710⟩
/-- SW_PORT_PCP (R252). -/
def SW_PORT_PCP : Reg := ⟨236, 0x10101008, [(24, 0x40)],
  [⟨26, 24, .rw⟩, ⟨23, 21, .rw⟩, ⟨20, 18, .rw⟩, ⟨17, 15, .rw⟩, ⟨14, 12, .rw⟩, ⟨11, 9, .rw⟩, ⟨8, 6, .rw⟩, ⟨5, 3, .rw⟩, ⟨2, 0, .rw⟩], fun _ => 0xfac688⟩
/-- SW_PORT_HDRM (R252). -/
def SW_PORT_HDRM : Reg := ⟨237, 0x1010100C, [(24, 0x40)],
  [⟨23, 16, .ro⟩, ⟨13, 0, .rwl⟩], fun _ => 0x180600⟩
/-- SW_PORT_STAT (R252). -/
def SW_PORT_STAT : Reg := ⟨238, 0x10101010, [(24, 0x40)],
  [⟨31, 31, .ro⟩, ⟨30, 30, .ro⟩, ⟨17, 0, .ro⟩], fun _ => 0⟩
/-- SW_CT_RX (R252). -/
def SW_CT_RX : Reg := ⟨239, 0x10101014, [(24, 0x40)],
  [⟨31, 0, .ro⟩], fun _ => 0⟩
/-- SW_CT_TX (R252). -/
def SW_CT_TX : Reg := ⟨240, 0x10101018, [(24, 0x40)],
  [⟨31, 0, .ro⟩], fun _ => 0⟩
/-- SW_CT_CNT (R252). -/
def SW_CT_CNT : Reg := ⟨241, 0x1010101C, [(24, 0x40)],
  [⟨31, 0, .ro⟩], fun _ => 0⟩
/-- SW_Q_MIN (R252). -/
def SW_Q_MIN : Reg := ⟨242, 0x10102000, [(24, 0x100), (8, 0x20)],
  [⟨17, 0, .rwl⟩], fun _ => 0x10⟩
/-- SW_Q_LIMIT (R252). -/
def SW_Q_LIMIT : Reg := ⟨243, 0x10102004, [(24, 0x100), (8, 0x20)],
  [⟨17, 0, .rwl⟩], fun _ => 0x297⟩
/-- SW_Q_OCC (R252). -/
def SW_Q_OCC : Reg := ⟨244, 0x10102008, [(24, 0x100), (8, 0x20)],
  [⟨17, 0, .ro⟩], fun _ => 0⟩
/-- SW_Q_SH (R252). -/
def SW_Q_SH : Reg := ⟨245, 0x1010200C, [(24, 0x100), (8, 0x20)],
  [⟨17, 0, .ro⟩], fun _ => 0⟩
/-- SW_Q_PEAK (R252). -/
def SW_Q_PEAK : Reg := ⟨246, 0x10102010, [(24, 0x100), (8, 0x20)],
  [⟨17, 0, .ro⟩], fun _ => 0⟩
/-- SW_ICR_STAT (R252). -/
def SW_ICR_STAT : Reg := ⟨247, 0x10104000, [(4, 0x10)],
  [⟨29, 20, .ro⟩, ⟨19, 10, .ro⟩, ⟨9, 0, .ro⟩], fun _ => 0x20080000⟩
/-- SW_VLAN0 (R252). -/
def SW_VLAN0 : Reg := ⟨248, 0x10110000, [(4096, 0x10)],
  [⟨31, 31, .rwl⟩, ⟨30, 30, .rwl⟩, ⟨23, 0, .rwl⟩], fun i => swVlan0Reset i⟩
/-- SW_VLAN1 (R252). -/
def SW_VLAN1 : Reg := ⟨249, 0x10110004, [(4096, 0x10)],
  [⟨23, 0, .rwl⟩], fun i => swVlan1Reset i⟩
/-- SW_VLAN2 (R252). -/
def SW_VLAN2 : Reg := ⟨250, 0x10110008, [(4096, 0x10)],
  [⟨11, 0, .rwl⟩], fun i => swVlan2Reset i⟩
/-- SW_DROP (R252). -/
def SW_DROP : Reg := ⟨251, 0x10120000, [(24, 0x200), (8, 0x40), (16, 0x4)],
  [⟨31, 0, .ro⟩], fun _ => 0⟩

end R

namespace F

def SW_ID_BLOCK : Fld := ⟨R.SW_ID, 31, 16⟩
def SW_ID_VERSION : Fld := ⟨R.SW_ID, 15, 0⟩
def SW_CTRL_EN : Fld := ⟨R.SW_CTRL, 31, 31⟩
def SW_CTRL_CLR_PEAK : Fld := ⟨R.SW_CTRL, 0, 0⟩
def SW_STAT_RUNNING : Fld := ⟨R.SW_STAT, 31, 31⟩
def SW_STAT_MAP : Fld := ⟨R.SW_STAT, 30, 30⟩
def SW_STAT_CFG_ERR : Fld := ⟨R.SW_STAT, 29, 29⟩
def SW_STAT_ERR_CODE : Fld := ⟨R.SW_STAT, 28, 26⟩
def SW_STAT_NPORTS : Fld := ⟨R.SW_STAT, 20, 16⟩
def SW_POOL_SHARED_SIZE : Fld := ⟨R.SW_POOL, 17, 0⟩
def SW_RSV_RESERVE : Fld := ⟨R.SW_RSV, 17, 0⟩
def SW_SHFREE_SH_FREE : Fld := ⟨R.SW_SHFREE, 17, 0⟩
def SW_INUSE_INUSE : Fld := ⟨R.SW_INUSE, 17, 0⟩
def SW_ALPHA_A7 : Fld := ⟨R.SW_ALPHA, 30, 28⟩
def SW_ALPHA_A6 : Fld := ⟨R.SW_ALPHA, 26, 24⟩
def SW_ALPHA_A5 : Fld := ⟨R.SW_ALPHA, 22, 20⟩
def SW_ALPHA_A4 : Fld := ⟨R.SW_ALPHA, 18, 16⟩
def SW_ALPHA_A3 : Fld := ⟨R.SW_ALPHA, 14, 12⟩
def SW_ALPHA_A2 : Fld := ⟨R.SW_ALPHA, 10, 8⟩
def SW_ALPHA_A1 : Fld := ⟨R.SW_ALPHA, 6, 4⟩
def SW_ALPHA_A0 : Fld := ⟨R.SW_ALPHA, 2, 0⟩
def SW_AUDIT_MISMATCH : Fld := ⟨R.SW_AUDIT, 31, 31⟩
def SW_AUDIT_CREDIT : Fld := ⟨R.SW_AUDIT, 30, 30⟩
def SW_AUDIT_AUDITS : Fld := ⟨R.SW_AUDIT, 15, 0⟩
def SW_AUDIT_DETAIL_KIND : Fld := ⟨R.SW_AUDIT_DETAIL, 31, 28⟩
def SW_AUDIT_DETAIL_PORT : Fld := ⟨R.SW_AUDIT_DETAIL, 27, 23⟩
def SW_AUDIT_DETAIL_DIFF : Fld := ⟨R.SW_AUDIT_DETAIL, 17, 0⟩
def SW_ECC_UE_CNT : Fld := ⟨R.SW_ECC, 31, 16⟩
def SW_ECC_CE_CNT : Fld := ⟨R.SW_ECC, 15, 0⟩
def SW_FDB_CFG_AGE_S : Fld := ⟨R.SW_FDB_CFG, 15, 0⟩
def SW_FDB_CMD_GO : Fld := ⟨R.SW_FDB_CMD, 31, 31⟩
def SW_FDB_CMD_OP : Fld := ⟨R.SW_FDB_CMD, 30, 28⟩
def SW_FDB_CMD_PORT : Fld := ⟨R.SW_FDB_CMD, 20, 16⟩
def SW_FDB_CMD_INDEX : Fld := ⟨R.SW_FDB_CMD, 13, 0⟩
def SW_FDB_MAC_LO_MAC : Fld := ⟨R.SW_FDB_MAC_LO, 31, 0⟩
def SW_FDB_KEY_FID : Fld := ⟨R.SW_FDB_KEY, 27, 16⟩
def SW_FDB_KEY_MAC_HI : Fld := ⟨R.SW_FDB_KEY, 15, 0⟩
def SW_FDB_DATA_VALID : Fld := ⟨R.SW_FDB_DATA, 31, 31⟩
def SW_FDB_DATA_STATIC : Fld := ⟨R.SW_FDB_DATA, 30, 30⟩
def SW_FDB_DATA_HIT : Fld := ⟨R.SW_FDB_DATA, 29, 29⟩
def SW_FDB_DATA_PORTS : Fld := ⟨R.SW_FDB_DATA, 23, 0⟩
def SW_FDB_STAT_DONE : Fld := ⟨R.SW_FDB_STAT, 31, 31⟩
def SW_FDB_STAT_RESULT : Fld := ⟨R.SW_FDB_STAT, 30, 28⟩
def SW_FDB_STAT_LEARN_FAIL : Fld := ⟨R.SW_FDB_STAT, 27, 14⟩
def SW_FDB_STAT_INDEX : Fld := ⟨R.SW_FDB_STAT, 13, 0⟩
def SW_FDB_USED_USED : Fld := ⟨R.SW_FDB_USED, 14, 0⟩
def SW_EVT_AUDIT : Fld := ⟨R.SW_EVT, 31, 31⟩
def SW_EVT_CREDIT : Fld := ⟨R.SW_EVT, 30, 30⟩
def SW_EVT_POOL_EMPTY : Fld := ⟨R.SW_EVT, 29, 29⟩
def SW_EVT_LEARN_FAIL : Fld := ⟨R.SW_EVT, 28, 28⟩
def SW_EVT_ABANDON : Fld := ⟨R.SW_EVT, 27, 27⟩
def SW_EVT_ECC_UE : Fld := ⟨R.SW_EVT, 26, 26⟩
def SW_EVT_FDB_DONE : Fld := ⟨R.SW_EVT, 0, 0⟩
def SW_IE_IE : Fld := ⟨R.SW_IE, 31, 26⟩
def SW_IE_FDB_IE : Fld := ⟨R.SW_IE, 0, 0⟩
def SW_PORT_CFG_EN : Fld := ⟨R.SW_PORT_CFG, 31, 31⟩
def SW_PORT_CFG_CT_EN : Fld := ⟨R.SW_PORT_CFG, 30, 30⟩
def SW_PORT_CFG_LEARN : Fld := ⟨R.SW_PORT_CFG, 29, 29⟩
def SW_PORT_CFG_UNK_UC : Fld := ⟨R.SW_PORT_CFG, 28, 28⟩
def SW_PORT_CFG_UNK_MC : Fld := ⟨R.SW_PORT_CFG, 27, 27⟩
def SW_PORT_CFG_DROP_UNTAG : Fld := ⟨R.SW_PORT_CFG, 26, 26⟩
def SW_PORT_CFG_HAIRPIN : Fld := ⟨R.SW_PORT_CFG, 25, 25⟩
def SW_PORT_CFG_PVID : Fld := ⟨R.SW_PORT_CFG, 23, 12⟩
def SW_PORT_AGE_DISCARD_AGE : Fld := ⟨R.SW_PORT_AGE, 31, 31⟩
def SW_PORT_AGE_FLUSH_ON_DOWN : Fld := ⟨R.SW_PORT_AGE, 30, 30⟩
def SW_PORT_AGE_AGE_LIMIT : Fld := ⟨R.SW_PORT_AGE, 23, 0⟩
def SW_PORT_PCP_DEF_PCP : Fld := ⟨R.SW_PORT_PCP, 26, 24⟩
def SW_PORT_PCP_CLASS7 : Fld := ⟨R.SW_PORT_PCP, 23, 21⟩
def SW_PORT_PCP_CLASS6 : Fld := ⟨R.SW_PORT_PCP, 20, 18⟩
def SW_PORT_PCP_CLASS5 : Fld := ⟨R.SW_PORT_PCP, 17, 15⟩
def SW_PORT_PCP_CLASS4 : Fld := ⟨R.SW_PORT_PCP, 14, 12⟩
def SW_PORT_PCP_CLASS3 : Fld := ⟨R.SW_PORT_PCP, 11, 9⟩
def SW_PORT_PCP_CLASS2 : Fld := ⟨R.SW_PORT_PCP, 8, 6⟩
def SW_PORT_PCP_CLASS1 : Fld := ⟨R.SW_PORT_PCP, 5, 3⟩
def SW_PORT_PCP_CLASS0 : Fld := ⟨R.SW_PORT_PCP, 2, 0⟩
def SW_PORT_HDRM_HDRM : Fld := ⟨R.SW_PORT_HDRM, 23, 16⟩
def SW_PORT_HDRM_MAX_FRAME : Fld := ⟨R.SW_PORT_HDRM, 13, 0⟩
def SW_PORT_STAT_LINK_UP : Fld := ⟨R.SW_PORT_STAT, 31, 31⟩
def SW_PORT_STAT_FLUSHING : Fld := ⟨R.SW_PORT_STAT, 30, 30⟩
def SW_PORT_STAT_HR_USED : Fld := ⟨R.SW_PORT_STAT, 17, 0⟩
def SW_CT_RX_STOMPS : Fld := ⟨R.SW_CT_RX, 31, 0⟩
def SW_CT_TX_STOMPS : Fld := ⟨R.SW_CT_TX, 31, 0⟩
def SW_CT_CNT_CT_FRAMES : Fld := ⟨R.SW_CT_CNT, 31, 0⟩
def SW_Q_MIN_MIN : Fld := ⟨R.SW_Q_MIN, 17, 0⟩
def SW_Q_LIMIT_LIMIT : Fld := ⟨R.SW_Q_LIMIT, 17, 0⟩
def SW_Q_OCC_OCC : Fld := ⟨R.SW_Q_OCC, 17, 0⟩
def SW_Q_SH_SH_OCC : Fld := ⟨R.SW_Q_SH, 17, 0⟩
def SW_Q_PEAK_PEAK : Fld := ⟨R.SW_Q_PEAK, 17, 0⟩
def SW_ICR_STAT_TX_CRED : Fld := ⟨R.SW_ICR_STAT, 29, 20⟩
def SW_ICR_STAT_RX_FREE : Fld := ⟨R.SW_ICR_STAT, 19, 10⟩
def SW_ICR_STAT_REINIT_CNT : Fld := ⟨R.SW_ICR_STAT, 9, 0⟩
def SW_VLAN0_VALID : Fld := ⟨R.SW_VLAN0, 31, 31⟩
def SW_VLAN0_LEARN : Fld := ⟨R.SW_VLAN0, 30, 30⟩
def SW_VLAN0_MEMBER : Fld := ⟨R.SW_VLAN0, 23, 0⟩
def SW_VLAN1_UNTAG : Fld := ⟨R.SW_VLAN1, 23, 0⟩
def SW_VLAN2_FID : Fld := ⟨R.SW_VLAN2, 11, 0⟩
def SW_DROP_CNT : Fld := ⟨R.SW_DROP, 31, 0⟩

end F

/-- The register families of block SWITCH. -/
def regsSWITCH : List Reg :=
  [R.SW_ID, R.SW_CTRL, R.SW_STAT, R.SW_POOL, R.SW_RSV, R.SW_SHFREE,
   R.SW_INUSE, R.SW_ALPHA, R.SW_AUDIT, R.SW_AUDIT_DETAIL, R.SW_ECC, R.SW_FDB_CFG,
   R.SW_FDB_CMD, R.SW_FDB_MAC_LO, R.SW_FDB_KEY, R.SW_FDB_DATA, R.SW_FDB_STAT, R.SW_FDB_USED,
   R.SW_EVT, R.SW_IE, R.SW_PORT_CFG, R.SW_PORT_AGE, R.SW_PORT_PCP, R.SW_PORT_HDRM,
   R.SW_PORT_STAT, R.SW_CT_RX, R.SW_CT_TX, R.SW_CT_CNT, R.SW_Q_MIN, R.SW_Q_LIMIT,
   R.SW_Q_OCC, R.SW_Q_SH, R.SW_Q_PEAK, R.SW_ICR_STAT, R.SW_VLAN0, R.SW_VLAN1,
   R.SW_VLAN2, R.SW_DROP]

/-- First and one-past-last family number of block SWITCH. -/
def idsSWITCH : Nat × Nat := (214, 252)

namespace R

/-- EP_ID (R283). -/
def EP_ID : Reg := ⟨252, 0x10200000, [(24, 0x4000)],
  [⟨31, 16, .ro⟩, ⟨15, 8, .ro⟩, ⟨7, 0, .ro⟩], fun i => 3909550257 + i * 256⟩
/-- EP_CFG (R283). -/
def EP_CFG : Reg := ⟨253, 0x10200004, [(24, 0x4000)],
  [⟨30, 28, .rwl⟩, ⟨27, 26, .rwl⟩, ⟨25, 25, .rwl⟩, ⟨24, 24, .rw⟩], fun _ => 0⟩
/-- EP_STAT (R283). -/
def EP_STAT : Reg := ⟨254, 0x10200008, [(24, 0x4000)],
  [⟨31, 31, .ro⟩, ⟨30, 28, .ro⟩, ⟨27, 27, .ro⟩, ⟨26, 24, .ro⟩, ⟨23, 21, .ro⟩, ⟨15, 0, .ro⟩], fun _ => 0⟩
/-- EP_EVT (R283). -/
def EP_EVT : Reg := ⟨255, 0x1020000C, [(24, 0x4000)],
  [⟨31, 31, .w1c⟩, ⟨30, 30, .w1c⟩, ⟨29, 29, .w1c⟩, ⟨28, 28, .w1c⟩, ⟨27, 27, .w1c⟩, ⟨26, 26, .w1c⟩, ⟨25, 25, .w1c⟩, ⟨24, 24, .w1c⟩, ⟨23, 23, .w1c⟩], fun _ => 0⟩
/-- EP_IE (R283). -/
def EP_IE : Reg := ⟨256, 0x10200010, [(24, 0x4000)],
  [⟨31, 23, .rw⟩], fun _ => 0⟩
/-- EP_PLCA (R283). -/
def EP_PLCA : Reg := ⟨257, 0x10200014, [(24, 0x4000)],
  [⟨31, 31, .rwl⟩, ⟨30, 24, .rwl⟩, ⟨23, 16, .rwl⟩, ⟨15, 8, .rwl⟩, ⟨7, 0, .rwl⟩], fun _ => 0x820⟩
/-- EP_TC10 (R283). -/
def EP_TC10 : Reg := ⟨258, 0x10200018, [(24, 0x4000)],
  [⟨31, 31, .rwl⟩, ⟨30, 30, .w1s⟩, ⟨29, 29, .w1s⟩, ⟨28, 28, .rwl⟩, ⟨19, 0, .rw⟩], fun _ => 0⟩
/-- EP_TEST (R283). -/
def EP_TEST : Reg := ⟨259, 0x1020001C, [(24, 0x4000)],
  [⟨31, 28, .rw⟩], fun _ => 0⟩
/-- EP_GCL_CTRL (R283). -/
def EP_GCL_CTRL : Reg := ⟨260, 0x10200040, [(24, 0x4000)],
  [⟨31, 31, .rw⟩, ⟨30, 30, .rw⟩, ⟨29, 29, .w1s⟩, ⟨16, 8, .rw⟩, ⟨7, 0, .rw⟩], fun _ => 0x40000101⟩
/-- EP_GCL_CYCLE (R283). -/
def EP_GCL_CYCLE : Reg := ⟨261, 0x10200044, [(24, 0x4000)],
  [⟨31, 0, .rw⟩], fun _ => 0⟩
/-- EP_GCL_BASE_LO (R283). -/
def EP_GCL_BASE_LO : Reg := ⟨262, 0x10200048, [(24, 0x4000)],
  [⟨31, 0, .rw⟩], fun _ => 0⟩
/-- EP_GCL_BASE_HI (R283). -/
def EP_GCL_BASE_HI : Reg := ⟨263, 0x1020004C, [(24, 0x4000)],
  [⟨31, 0, .rw⟩], fun _ => 0⟩
/-- EP_GCL_STAT (R283). -/
def EP_GCL_STAT : Reg := ⟨264, 0x10200050, [(24, 0x4000)],
  [⟨31, 31, .ro⟩, ⟨30, 30, .w1c⟩, ⟨29, 29, .w1c⟩, ⟨28, 28, .w1c⟩, ⟨24, 16, .ro⟩, ⟨15, 8, .ro⟩, ⟨7, 0, .ro⟩], fun _ => 0x1ff00⟩
/-- EP_CBS_SLOPE (R283). -/
def EP_CBS_SLOPE : Reg := ⟨265, 0x10200100, [(24, 0x4000), (8, 0x20)],
  [⟨31, 31, .rw⟩, ⟨24, 0, .rw⟩], fun _ => 0⟩
/-- EP_CBS_MAXINT (R283). -/
def EP_CBS_MAXINT : Reg := ⟨266, 0x10200104, [(24, 0x4000), (8, 0x20)],
  [⟨13, 0, .rw⟩], fun _ => 0x614⟩
/-- EP_CBS_CREDIT (R283). -/
def EP_CBS_CREDIT : Reg := ⟨267, 0x10200108, [(24, 0x4000), (8, 0x20)],
  [⟨31, 0, .ro⟩], fun _ => 0⟩
/-- EP_CBS_HICRED (R283). -/
def EP_CBS_HICRED : Reg := ⟨268, 0x1020010C, [(24, 0x4000), (8, 0x20)],
  [⟨31, 0, .ro⟩], fun _ => 0⟩
/-- EP_CBS_LOCRED (R283). -/
def EP_CBS_LOCRED : Reg := ⟨269, 0x10200110, [(24, 0x4000), (8, 0x20)],
  [⟨31, 0, .ro⟩], fun _ => 0⟩
/-- EP_POL_RATE (R283). -/
def EP_POL_RATE : Reg := ⟨270, 0x10200200, [(24, 0x4000), (8, 0x8)],
  [⟨31, 31, .rw⟩, ⟨24, 0, .rw⟩], fun _ => 0⟩
/-- EP_POL_BURST (R283). -/
def EP_POL_BURST : Reg := ⟨271, 0x10200204, [(24, 0x4000), (8, 0x8)],
  [⟨19, 0, .rw⟩], fun _ => 0x2600⟩
/-- EP_MSEC_CTRL (R283). -/
def EP_MSEC_CTRL : Reg := ⟨272, 0x10200300, [(24, 0x4000)],
  [⟨31, 31, .rwl⟩, ⟨30, 30, .rw⟩, ⟨29, 28, .rw⟩, ⟨27, 27, .rw⟩, ⟨26, 26, .rw⟩, ⟨25, 24, .rw⟩, ⟨23, 23, .rw⟩, ⟨22, 22, .rw⟩, ⟨1, 0, .rw⟩], fun _ => 0x6cc00000⟩
/-- EP_MSEC_TXSCI_LO (R283). -/
def EP_MSEC_TXSCI_LO : Reg := ⟨273, 0x10200304, [(24, 0x4000)],
  [⟨31, 0, .rw⟩], fun _ => 0⟩
/-- EP_MSEC_TXSCI_HI (R283). -/
def EP_MSEC_TXSCI_HI : Reg := ⟨274, 0x10200308, [(24, 0x4000)],
  [⟨31, 0, .rw⟩], fun _ => 0⟩
/-- EP_MSEC_WIN (R283). -/
def EP_MSEC_WIN : Reg := ⟨275, 0x1020030C, [(24, 0x4000)],
  [⟨31, 0, .rw⟩], fun _ => 0⟩
/-- EP_MSEC_PNTHR (R283). -/
def EP_MSEC_PNTHR : Reg := ⟨276, 0x10200310, [(24, 0x4000)],
  [⟨31, 0, .rw⟩], fun _ => 0xc0000000⟩
/-- EP_TXSA_CTRL (R283). -/
def EP_TXSA_CTRL : Reg := ⟨277, 0x10200320, [(24, 0x4000), (4, 0x10)],
  [⟨31, 31, .ro⟩, ⟨5, 0, .wo⟩], fun _ => 0⟩
/-- EP_TXSA_SSCI (R283). -/
def EP_TXSA_SSCI : Reg := ⟨278, 0x10200324, [(24, 0x4000), (4, 0x10)],
  [⟨31, 0, .rw⟩], fun _ => 0⟩
/-- EP_TXSA_PN_LO (R283). -/
def EP_TXSA_PN_LO : Reg := ⟨279, 0x10200328, [(24, 0x4000), (4, 0x10)],
  [⟨31, 0, .rw⟩], fun _ => 1⟩
/-- EP_TXSA_PN_HI (R283). -/
def EP_TXSA_PN_HI : Reg := ⟨280, 0x1020032C, [(24, 0x4000), (4, 0x10)],
  [⟨31, 0, .rw⟩], fun _ => 0⟩
/-- EP_RXSC_SCI_LO (R283). -/
def EP_RXSC_SCI_LO : Reg := ⟨281, 0x10200400, [(24, 0x4000), (8, 0x80)],
  [⟨31, 0, .rw⟩], fun _ => 0⟩
/-- EP_RXSC_SCI_HI (R283). -/
def EP_RXSC_SCI_HI : Reg := ⟨282, 0x10200404, [(24, 0x4000), (8, 0x80)],
  [⟨31, 0, .rw⟩], fun _ => 0⟩
/-- EP_RXSC_CTRL (R283). -/
def EP_RXSC_CTRL : Reg := ⟨283, 0x10200408, [(24, 0x4000), (8, 0x80)],
  [⟨31, 31, .rw⟩], fun _ => 0⟩
/-- EP_RXSA_CTRL (R283). -/
def EP_RXSA_CTRL : Reg := ⟨284, 0x10200410, [(24, 0x4000), (8, 0x80), (4, 0x10)],
  [⟨31, 31, .ro⟩, ⟨5, 0, .wo⟩], fun _ => 0⟩
/-- EP_RXSA_SSCI (R283). -/
def EP_RXSA_SSCI : Reg := ⟨285, 0x10200414, [(24, 0x4000), (8, 0x80), (4, 0x10)],
  [⟨31, 0, .rw⟩], fun _ => 0⟩
/-- EP_RXSA_PN_LO (R283). -/
def EP_RXSA_PN_LO : Reg := ⟨286, 0x10200418, [(24, 0x4000), (8, 0x80), (4, 0x10)],
  [⟨31, 0, .rw⟩], fun _ => 1⟩
/-- EP_RXSA_PN_HI (R283). -/
def EP_RXSA_PN_HI : Reg := ⟨287, 0x1020041C, [(24, 0x4000), (8, 0x80), (4, 0x10)],
  [⟨31, 0, .rw⟩], fun _ => 0⟩
/-- EP_CNT (R283). -/
def EP_CNT : Reg := ⟨288, 0x10200800, [(24, 0x4000), (12, 0x4)],
  [⟨31, 0, .ro⟩], fun _ => 0⟩
/-- EP_GCL_ADMIN (R283). -/
def EP_GCL_ADMIN : Reg := ⟨289, 0x10201000, [(24, 0x4000), (256, 0x4)],
  [⟨31, 24, .rw⟩, ⟨23, 0, .rw⟩], fun _ => 0xff000000⟩
/-- EP_GCL_OPER (R283). -/
def EP_GCL_OPER : Reg := ⟨290, 0x10201400, [(24, 0x4000), (256, 0x4)],
  [⟨31, 24, .ro⟩, ⟨23, 0, .ro⟩], fun _ => 0xff000000⟩
/-- EP_TBL_CMD (R283). -/
def EP_TBL_CMD : Reg := ⟨291, 0x10202000, [(24, 0x4000)],
  [⟨31, 31, .w1s⟩, ⟨30, 30, .rw⟩, ⟨29, 27, .rw⟩, ⟨12, 0, .rw⟩], fun _ => 0⟩
/-- EP_TBL_STAT (R283). -/
def EP_TBL_STAT : Reg := ⟨292, 0x10202004, [(24, 0x4000)],
  [⟨31, 31, .w1c⟩, ⟨30, 28, .ro⟩], fun _ => 0⟩
/-- EP_TBL_DATA (R283). -/
def EP_TBL_DATA : Reg := ⟨293, 0x10202010, [(24, 0x4000), (4, 0x4)],
  [⟨31, 0, .rw⟩], fun _ => 0⟩

end R

namespace F

def EP_ID_BLOCK : Fld := ⟨R.EP_ID, 31, 16⟩
def EP_ID_PORT : Fld := ⟨R.EP_ID, 15, 8⟩
def EP_ID_VERSION : Fld := ⟨R.EP_ID, 7, 0⟩
def EP_CFG_SPEED : Fld := ⟨R.EP_CFG, 30, 28⟩
def EP_CFG_ROLE : Fld := ⟨R.EP_CFG, 27, 26⟩
def EP_CFG_AN_EN : Fld := ⟨R.EP_CFG, 25, 25⟩
def EP_CFG_RTAG_STRIP : Fld := ⟨R.EP_CFG, 24, 24⟩
def EP_STAT_LINK_UP : Fld := ⟨R.EP_STAT, 31, 31⟩
def EP_STAT_SPEED_ACT : Fld := ⟨R.EP_STAT, 30, 28⟩
def EP_STAT_ROLE_ACT : Fld := ⟨R.EP_STAT, 27, 27⟩
def EP_STAT_SQI : Fld := ⟨R.EP_STAT, 26, 24⟩
def EP_STAT_TC10_STATE : Fld := ⟨R.EP_STAT, 23, 21⟩
def EP_STAT_DOWN_CNT : Fld := ⟨R.EP_STAT, 15, 0⟩
def EP_EVT_LINK_CHG : Fld := ⟨R.EP_EVT, 31, 31⟩
def EP_EVT_GCL_SWAP : Fld := ⟨R.EP_EVT, 30, 30⟩
def EP_EVT_CBS_CLAMP : Fld := ⟨R.EP_EVT, 29, 29⟩
def EP_EVT_PN_THR : Fld := ⟨R.EP_EVT, 28, 28⟩
def EP_EVT_PN_EXH : Fld := ⟨R.EP_EVT, 27, 27⟩
def EP_EVT_KEY_REF : Fld := ⟨R.EP_EVT, 26, 26⟩
def EP_EVT_WAKE : Fld := ⟨R.EP_EVT, 25, 25⟩
def EP_EVT_SLEEP_FORCED : Fld := ⟨R.EP_EVT, 24, 24⟩
def EP_EVT_PLCA_LOST : Fld := ⟨R.EP_EVT, 23, 23⟩
def EP_IE_IE : Fld := ⟨R.EP_IE, 31, 23⟩
def EP_PLCA_EN : Fld := ⟨R.EP_PLCA, 31, 31⟩
def EP_PLCA_BURST_CNT : Fld := ⟨R.EP_PLCA, 30, 24⟩
def EP_PLCA_NODE_ID : Fld := ⟨R.EP_PLCA, 23, 16⟩
def EP_PLCA_NODE_CNT : Fld := ⟨R.EP_PLCA, 15, 8⟩
def EP_PLCA_TO_TIMER : Fld := ⟨R.EP_PLCA, 7, 0⟩
def EP_TC10_EN : Fld := ⟨R.EP_TC10, 31, 31⟩
def EP_TC10_SLEEP_REQ : Fld := ⟨R.EP_TC10, 30, 30⟩
def EP_TC10_WAKE_REQ : Fld := ⟨R.EP_TC10, 29, 29⟩
def EP_TC10_WAKE_DS : Fld := ⟨R.EP_TC10, 28, 28⟩
def EP_TC10_FWD_MASK : Fld := ⟨R.EP_TC10, 19, 0⟩
def EP_TEST_MODE : Fld := ⟨R.EP_TEST, 31, 28⟩
def EP_GCL_CTRL_EN : Fld := ⟨R.EP_GCL_CTRL, 31, 31⟩
def EP_GCL_CTRL_BEAT_LOCK : Fld := ⟨R.EP_GCL_CTRL, 30, 30⟩
def EP_GCL_CTRL_CHANGE : Fld := ⟨R.EP_GCL_CTRL, 29, 29⟩
def EP_GCL_CTRL_ADMIN_LEN : Fld := ⟨R.EP_GCL_CTRL, 16, 8⟩
def EP_GCL_CTRL_CYCLE_BEATS : Fld := ⟨R.EP_GCL_CTRL, 7, 0⟩
def EP_GCL_CYCLE_CYCLE_NS : Fld := ⟨R.EP_GCL_CYCLE, 31, 0⟩
def EP_GCL_BASE_LO_W : Fld := ⟨R.EP_GCL_BASE_LO, 31, 0⟩
def EP_GCL_BASE_HI_W : Fld := ⟨R.EP_GCL_BASE_HI, 31, 0⟩
def EP_GCL_STAT_PENDING : Fld := ⟨R.EP_GCL_STAT, 31, 31⟩
def EP_GCL_STAT_TRUNC : Fld := ⟨R.EP_GCL_STAT, 30, 30⟩
def EP_GCL_STAT_REALIGN : Fld := ⟨R.EP_GCL_STAT, 29, 29⟩
def EP_GCL_STAT_CFG_ERR : Fld := ⟨R.EP_GCL_STAT, 28, 28⟩
def EP_GCL_STAT_OPER_LEN : Fld := ⟨R.EP_GCL_STAT, 24, 16⟩
def EP_GCL_STAT_GATES : Fld := ⟨R.EP_GCL_STAT, 15, 8⟩
def EP_GCL_STAT_IDX : Fld := ⟨R.EP_GCL_STAT, 7, 0⟩
def EP_CBS_SLOPE_EN : Fld := ⟨R.EP_CBS_SLOPE, 31, 31⟩
def EP_CBS_SLOPE_IDLE : Fld := ⟨R.EP_CBS_SLOPE, 24, 0⟩
def EP_CBS_MAXINT_MAX_INT : Fld := ⟨R.EP_CBS_MAXINT, 13, 0⟩
def EP_CBS_CREDIT_VALUE : Fld := ⟨R.EP_CBS_CREDIT, 31, 0⟩
def EP_CBS_HICRED_VALUE : Fld := ⟨R.EP_CBS_HICRED, 31, 0⟩
def EP_CBS_LOCRED_VALUE : Fld := ⟨R.EP_CBS_LOCRED, 31, 0⟩
def EP_POL_RATE_EN : Fld := ⟨R.EP_POL_RATE, 31, 31⟩
def EP_POL_RATE_RATE : Fld := ⟨R.EP_POL_RATE, 24, 0⟩
def EP_POL_BURST_BURST : Fld := ⟨R.EP_POL_BURST, 19, 0⟩
def EP_MSEC_CTRL_EN : Fld := ⟨R.EP_MSEC_CTRL, 31, 31⟩
def EP_MSEC_CTRL_PROTECT : Fld := ⟨R.EP_MSEC_CTRL, 30, 30⟩
def EP_MSEC_CTRL_VALIDATE : Fld := ⟨R.EP_MSEC_CTRL, 29, 28⟩
def EP_MSEC_CTRL_REPLAY_PROTECT : Fld := ⟨R.EP_MSEC_CTRL, 27, 27⟩
def EP_MSEC_CTRL_PTP_BYPASS : Fld := ⟨R.EP_MSEC_CTRL, 26, 26⟩
def EP_MSEC_CTRL_CONF_OFS : Fld := ⟨R.EP_MSEC_CTRL, 25, 24⟩
def EP_MSEC_CTRL_CONFIDENTIAL : Fld := ⟨R.EP_MSEC_CTRL, 23, 23⟩
def EP_MSEC_CTRL_INCLUDE_SCI : Fld := ⟨R.EP_MSEC_CTRL, 22, 22⟩
def EP_MSEC_CTRL_TX_AN : Fld := ⟨R.EP_MSEC_CTRL, 1, 0⟩
def EP_MSEC_TXSCI_LO_W : Fld := ⟨R.EP_MSEC_TXSCI_LO, 31, 0⟩
def EP_MSEC_TXSCI_HI_W : Fld := ⟨R.EP_MSEC_TXSCI_HI, 31, 0⟩
def EP_MSEC_WIN_WINDOW : Fld := ⟨R.EP_MSEC_WIN, 31, 0⟩
def EP_MSEC_PNTHR_THR : Fld := ⟨R.EP_MSEC_PNTHR, 31, 0⟩
def EP_TXSA_CTRL_VALID : Fld := ⟨R.EP_TXSA_CTRL, 31, 31⟩
def EP_TXSA_CTRL_KEY : Fld := ⟨R.EP_TXSA_CTRL, 5, 0⟩
def EP_TXSA_SSCI_SSCI : Fld := ⟨R.EP_TXSA_SSCI, 31, 0⟩
def EP_TXSA_PN_LO_W : Fld := ⟨R.EP_TXSA_PN_LO, 31, 0⟩
def EP_TXSA_PN_HI_W : Fld := ⟨R.EP_TXSA_PN_HI, 31, 0⟩
def EP_RXSC_SCI_LO_W : Fld := ⟨R.EP_RXSC_SCI_LO, 31, 0⟩
def EP_RXSC_SCI_HI_W : Fld := ⟨R.EP_RXSC_SCI_HI, 31, 0⟩
def EP_RXSC_CTRL_VALID : Fld := ⟨R.EP_RXSC_CTRL, 31, 31⟩
def EP_RXSA_CTRL_VALID : Fld := ⟨R.EP_RXSA_CTRL, 31, 31⟩
def EP_RXSA_CTRL_KEY : Fld := ⟨R.EP_RXSA_CTRL, 5, 0⟩
def EP_RXSA_SSCI_SSCI : Fld := ⟨R.EP_RXSA_SSCI, 31, 0⟩
def EP_RXSA_PN_LO_W : Fld := ⟨R.EP_RXSA_PN_LO, 31, 0⟩
def EP_RXSA_PN_HI_W : Fld := ⟨R.EP_RXSA_PN_HI, 31, 0⟩
def EP_CNT_CNT : Fld := ⟨R.EP_CNT, 31, 0⟩
def EP_GCL_ADMIN_GATES : Fld := ⟨R.EP_GCL_ADMIN, 31, 24⟩
def EP_GCL_ADMIN_INTERVAL : Fld := ⟨R.EP_GCL_ADMIN, 23, 0⟩
def EP_GCL_OPER_GATES : Fld := ⟨R.EP_GCL_OPER, 31, 24⟩
def EP_GCL_OPER_INTERVAL : Fld := ⟨R.EP_GCL_OPER, 23, 0⟩
def EP_TBL_CMD_GO : Fld := ⟨R.EP_TBL_CMD, 31, 31⟩
def EP_TBL_CMD_WRITE : Fld := ⟨R.EP_TBL_CMD, 30, 30⟩
def EP_TBL_CMD_TABLE : Fld := ⟨R.EP_TBL_CMD, 29, 27⟩
def EP_TBL_CMD_INDEX : Fld := ⟨R.EP_TBL_CMD, 12, 0⟩
def EP_TBL_STAT_DONE : Fld := ⟨R.EP_TBL_STAT, 31, 31⟩
def EP_TBL_STAT_RESULT : Fld := ⟨R.EP_TBL_STAT, 30, 28⟩
def EP_TBL_DATA_DATA : Fld := ⟨R.EP_TBL_DATA, 31, 0⟩

end F

/-- The register families of block EPORT. -/
def regsEPORT : List Reg :=
  [R.EP_ID, R.EP_CFG, R.EP_STAT, R.EP_EVT, R.EP_IE, R.EP_PLCA,
   R.EP_TC10, R.EP_TEST, R.EP_GCL_CTRL, R.EP_GCL_CYCLE, R.EP_GCL_BASE_LO, R.EP_GCL_BASE_HI,
   R.EP_GCL_STAT, R.EP_CBS_SLOPE, R.EP_CBS_MAXINT, R.EP_CBS_CREDIT, R.EP_CBS_HICRED, R.EP_CBS_LOCRED,
   R.EP_POL_RATE, R.EP_POL_BURST, R.EP_MSEC_CTRL, R.EP_MSEC_TXSCI_LO, R.EP_MSEC_TXSCI_HI, R.EP_MSEC_WIN,
   R.EP_MSEC_PNTHR, R.EP_TXSA_CTRL, R.EP_TXSA_SSCI, R.EP_TXSA_PN_LO, R.EP_TXSA_PN_HI, R.EP_RXSC_SCI_LO,
   R.EP_RXSC_SCI_HI, R.EP_RXSC_CTRL, R.EP_RXSA_CTRL, R.EP_RXSA_SSCI, R.EP_RXSA_PN_LO, R.EP_RXSA_PN_HI,
   R.EP_CNT, R.EP_GCL_ADMIN, R.EP_GCL_OPER, R.EP_TBL_CMD, R.EP_TBL_STAT, R.EP_TBL_DATA]

/-- First and one-past-last family number of block EPORT. -/
def idsEPORT : Nat × Nat := (252, 294)

namespace R

/-- TIME_ID (R307). -/
def TIME_ID : Reg := ⟨294, 0x10300000, [],
  [⟨31, 16, .ro⟩, ⟨15, 0, .ro⟩], fun _ => 0x71ae00b1⟩
/-- TIME_CTRL (R307). -/
def TIME_CTRL : Reg := ⟨295, 0x10300004, [],
  [⟨31, 31, .w1s⟩, ⟨30, 30, .w1s⟩, ⟨29, 29, .w1s⟩, ⟨28, 28, .rw⟩, ⟨27, 27, .rw⟩, ⟨15, 0, .rwl⟩], fun _ => 0x3e8⟩
/-- TIME_STAT (R307). -/
def TIME_STAT : Reg := ⟨296, 0x10300008, [],
  [⟨31, 30, .ro⟩, ⟨29, 29, .ro⟩, ⟨28, 26, .ro⟩, ⟨25, 25, .w1c⟩, ⟨24, 24, .w1c⟩, ⟨23, 16, .ro⟩, ⟨15, 0, .ro⟩], fun _ => 0xc0000000⟩
/-- TIME_NOW_FRAC (R307). -/
def TIME_NOW_FRAC : Reg := ⟨297, 0x10300010, [],
  [⟨31, 0, .ro⟩], fun _ => 0⟩
/-- TIME_NOW_LO (R307). -/
def TIME_NOW_LO : Reg := ⟨298, 0x10300014, [],
  [⟨31, 0, .ro⟩], fun _ => 0⟩
/-- TIME_NOW_HI (R307). -/
def TIME_NOW_HI : Reg := ⟨299, 0x10300018, [],
  [⟨31, 0, .ro⟩], fun _ => 0⟩
/-- TIME_INC_LO (R307). -/
def TIME_INC_LO : Reg := ⟨300, 0x10300020, [],
  [⟨31, 0, .rw⟩], fun _ => 0⟩
/-- TIME_INC_HI (R307). -/
def TIME_INC_HI : Reg := ⟨301, 0x10300024, [],
  [⟨7, 0, .rw⟩], fun _ => 2⟩
/-- TIME_STEP_FRAC (R307). -/
def TIME_STEP_FRAC : Reg := ⟨302, 0x10300030, [],
  [⟨31, 0, .wo⟩], fun _ => 0⟩
/-- TIME_STEP_LO (R307). -/
def TIME_STEP_LO : Reg := ⟨303, 0x10300034, [],
  [⟨31, 0, .wo⟩], fun _ => 0⟩
/-- TIME_STEP_HI (R307). -/
def TIME_STEP_HI : Reg := ⟨304, 0x10300038, [],
  [⟨31, 0, .wo⟩], fun _ => 0⟩
/-- TIME_LASTSTEP_LO (R307). -/
def TIME_LASTSTEP_LO : Reg := ⟨305, 0x10300040, [],
  [⟨31, 0, .ro⟩], fun _ => 0⟩
/-- TIME_LASTSTEP_HI (R307). -/
def TIME_LASTSTEP_HI : Reg := ⟨306, 0x10300044, [],
  [⟨31, 0, .ro⟩], fun _ => 0⟩
/-- TIME_CLKID_LO (R307). -/
def TIME_CLKID_LO : Reg := ⟨307, 0x10300050, [],
  [⟨31, 0, .rwl⟩], fun _ => 0⟩
/-- TIME_CLKID_HI (R307). -/
def TIME_CLKID_HI : Reg := ⟨308, 0x10300054, [],
  [⟨31, 0, .rwl⟩], fun _ => 0⟩
/-- TIME_HO_CFG (R307). -/
def TIME_HO_CFG : Reg := ⟨309, 0x10300060, [],
  [⟨15, 0, .rwl⟩], fun _ => 0x3e8⟩
/-- TIME_HO_CTRL (R307). -/
def TIME_HO_CTRL : Reg := ⟨310, 0x10300070, [(2, 0x10)],
  [⟨31, 31, .rwl⟩, ⟨30, 30, .w1s⟩, ⟨29, 29, .w1s⟩, ⟨28, 28, .w1s⟩, ⟨27, 27, .rw⟩], fun _ => 0⟩
/-- TIME_HO_STAT (R307). -/
def TIME_HO_STAT : Reg := ⟨311, 0x10300074, [(2, 0x10)],
  [⟨31, 28, .ro⟩, ⟨27, 27, .w1c⟩, ⟨15, 0, .ro⟩], fun _ => 0⟩
/-- TIME_HO_PEER_LO (R307). -/
def TIME_HO_PEER_LO : Reg := ⟨312, 0x10300078, [(2, 0x10)],
  [⟨31, 0, .ro⟩], fun _ => 0⟩
/-- TIME_HO_PEER_HI (R307). -/
def TIME_HO_PEER_HI : Reg := ⟨313, 0x1030007C, [(2, 0x10)],
  [⟨31, 0, .ro⟩], fun _ => 0⟩
/-- TIME_ECHO_DROP (R307). -/
def TIME_ECHO_DROP : Reg := ⟨314, 0x103000C0, [(4, 0x4)],
  [⟨31, 0, .ro⟩], fun _ => 0⟩
/-- TIME_CANLAT_SEQ (R307). -/
def TIME_CANLAT_SEQ : Reg := ⟨315, 0x10300100, [],
  [⟨31, 0, .ro⟩], fun _ => 0⟩
/-- TIME_CANLAT (R307). -/
def TIME_CANLAT : Reg := ⟨316, 0x10300140, [(16, 0x4)],
  [⟨31, 0, .ro⟩], fun _ => 0⟩
/-- TIME_PORT_CFG (R307). -/
def TIME_PORT_CFG : Reg := ⟨317, 0x10300400, [(24, 0x10)],
  [⟨31, 31, .rw⟩, ⟨30, 30, .rw⟩], fun _ => 0x80000000⟩
/-- TIME_PORT_LAT (R307). -/
def TIME_PORT_LAT : Reg := ⟨318, 0x10300404, [(24, 0x10)],
  [⟨31, 16, .rw⟩, ⟨15, 0, .rw⟩], fun _ => 0⟩
/-- TIME_PORT_ONESTEP (R307). -/
def TIME_PORT_ONESTEP : Reg := ⟨319, 0x10300408, [(24, 0x10)],
  [⟨31, 0, .ro⟩], fun _ => 0⟩
/-- TIME_PORT_SKIP (R307). -/
def TIME_PORT_SKIP : Reg := ⟨320, 0x1030040C, [(24, 0x10)],
  [⟨31, 28, .ro⟩, ⟨27, 0, .ro⟩], fun _ => 0⟩

end R

namespace F

def TIME_ID_BLOCK : Fld := ⟨R.TIME_ID, 31, 16⟩
def TIME_ID_VERSION : Fld := ⟨R.TIME_ID, 15, 0⟩
def TIME_CTRL_LOCK : Fld := ⟨R.TIME_CTRL, 31, 31⟩
def TIME_CTRL_UNLOCK : Fld := ⟨R.TIME_CTRL, 30, 30⟩
def TIME_CTRL_KEEP : Fld := ⟨R.TIME_CTRL, 29, 29⟩
def TIME_CTRL_STATE_IE : Fld := ⟨R.TIME_CTRL, 28, 28⟩
def TIME_CTRL_STEP_IE : Fld := ⟨R.TIME_CTRL, 27, 27⟩
def TIME_CTRL_SYNC_TMO : Fld := ⟨R.TIME_CTRL, 15, 0⟩
def TIME_STAT_STATE : Fld := ⟨R.TIME_STAT, 31, 30⟩
def TIME_STAT_CLK_FALLBACK : Fld := ⟨R.TIME_STAT, 29, 29⟩
def TIME_STAT_HO_CAUSE : Fld := ⟨R.TIME_STAT, 28, 26⟩
def TIME_STAT_INC_CLAMP : Fld := ⟨R.TIME_STAT, 25, 25⟩
def TIME_STAT_STEP_ERR : Fld := ⟨R.TIME_STAT, 24, 24⟩
def TIME_STAT_STEP_GEN : Fld := ⟨R.TIME_STAT, 23, 16⟩
def TIME_STAT_STEP_CNT : Fld := ⟨R.TIME_STAT, 15, 0⟩
def TIME_NOW_FRAC_FRAC : Fld := ⟨R.TIME_NOW_FRAC, 31, 0⟩
def TIME_NOW_LO_W : Fld := ⟨R.TIME_NOW_LO, 31, 0⟩
def TIME_NOW_HI_W : Fld := ⟨R.TIME_NOW_HI, 31, 0⟩
def TIME_INC_LO_FRAC : Fld := ⟨R.TIME_INC_LO, 31, 0⟩
def TIME_INC_HI_INT : Fld := ⟨R.TIME_INC_HI, 7, 0⟩
def TIME_STEP_FRAC_FRAC : Fld := ⟨R.TIME_STEP_FRAC, 31, 0⟩
def TIME_STEP_LO_W : Fld := ⟨R.TIME_STEP_LO, 31, 0⟩
def TIME_STEP_HI_W : Fld := ⟨R.TIME_STEP_HI, 31, 0⟩
def TIME_LASTSTEP_LO_W : Fld := ⟨R.TIME_LASTSTEP_LO, 31, 0⟩
def TIME_LASTSTEP_HI_W : Fld := ⟨R.TIME_LASTSTEP_HI, 31, 0⟩
def TIME_CLKID_LO_W : Fld := ⟨R.TIME_CLKID_LO, 31, 0⟩
def TIME_CLKID_HI_W : Fld := ⟨R.TIME_CLKID_HI, 31, 0⟩
def TIME_HO_CFG_HO_TMO : Fld := ⟨R.TIME_HO_CFG, 15, 0⟩
def TIME_HO_CTRL_EN : Fld := ⟨R.TIME_HO_CTRL, 31, 31⟩
def TIME_HO_CTRL_REQ : Fld := ⟨R.TIME_HO_CTRL, 30, 30⟩
def TIME_HO_CTRL_GRANT : Fld := ⟨R.TIME_HO_CTRL, 29, 29⟩
def TIME_HO_CTRL_REFUSE : Fld := ⟨R.TIME_HO_CTRL, 28, 28⟩
def TIME_HO_CTRL_IE : Fld := ⟨R.TIME_HO_CTRL, 27, 27⟩
def TIME_HO_STAT_STATE : Fld := ⟨R.TIME_HO_STAT, 31, 28⟩
def TIME_HO_STAT_EQUAL_ID : Fld := ⟨R.TIME_HO_STAT, 27, 27⟩
def TIME_HO_STAT_SEQ : Fld := ⟨R.TIME_HO_STAT, 15, 0⟩
def TIME_HO_PEER_LO_W : Fld := ⟨R.TIME_HO_PEER_LO, 31, 0⟩
def TIME_HO_PEER_HI_W : Fld := ⟨R.TIME_HO_PEER_HI, 31, 0⟩
def TIME_ECHO_DROP_CNT : Fld := ⟨R.TIME_ECHO_DROP, 31, 0⟩
def TIME_CANLAT_SEQ_BEAT : Fld := ⟨R.TIME_CANLAT_SEQ, 31, 0⟩
def TIME_CANLAT_CNT : Fld := ⟨R.TIME_CANLAT, 31, 0⟩
def TIME_PORT_CFG_ONESTEP_EN : Fld := ⟨R.TIME_PORT_CFG, 31, 31⟩
def TIME_PORT_CFG_TC_EN : Fld := ⟨R.TIME_PORT_CFG, 30, 30⟩
def TIME_PORT_LAT_TXLAT : Fld := ⟨R.TIME_PORT_LAT, 31, 16⟩
def TIME_PORT_LAT_RXLAT : Fld := ⟨R.TIME_PORT_LAT, 15, 0⟩
def TIME_PORT_ONESTEP_CNT : Fld := ⟨R.TIME_PORT_ONESTEP, 31, 0⟩
def TIME_PORT_SKIP_LAST_REASON : Fld := ⟨R.TIME_PORT_SKIP, 31, 28⟩
def TIME_PORT_SKIP_CNT : Fld := ⟨R.TIME_PORT_SKIP, 27, 0⟩

end F

/-- The register families of block TIME. -/
def regsTIME : List Reg :=
  [R.TIME_ID, R.TIME_CTRL, R.TIME_STAT, R.TIME_NOW_FRAC, R.TIME_NOW_LO, R.TIME_NOW_HI,
   R.TIME_INC_LO, R.TIME_INC_HI, R.TIME_STEP_FRAC, R.TIME_STEP_LO, R.TIME_STEP_HI, R.TIME_LASTSTEP_LO,
   R.TIME_LASTSTEP_HI, R.TIME_CLKID_LO, R.TIME_CLKID_HI, R.TIME_HO_CFG, R.TIME_HO_CTRL, R.TIME_HO_STAT,
   R.TIME_HO_PEER_LO, R.TIME_HO_PEER_HI, R.TIME_ECHO_DROP, R.TIME_CANLAT_SEQ, R.TIME_CANLAT, R.TIME_PORT_CFG,
   R.TIME_PORT_LAT, R.TIME_PORT_ONESTEP, R.TIME_PORT_SKIP]

/-- First and one-past-last family number of block TIME. -/
def idsTIME : Nat × Nat := (294, 321)

namespace R

/-- CAN_ID (R340). -/
def CAN_ID : Reg := ⟨321, 0x10310000, [(16, 0x4000)],
  [⟨31, 16, .ro⟩, ⟨15, 8, .ro⟩, ⟨7, 0, .ro⟩], fun i => 3393192113 + i * 256⟩
/-- CAN_CTRL (R340). -/
def CAN_CTRL : Reg := ⟨322, 0x10310004, [(16, 0x4000)],
  [⟨31, 31, .rw⟩, ⟨30, 30, .rwl⟩, ⟨29, 29, .rwl⟩, ⟨28, 28, .rwl⟩, ⟨27, 27, .rwl⟩], fun _ => 0x40000000⟩
/-- CAN_CMD (R340). -/
def CAN_CMD : Reg := ⟨323, 0x10310008, [(16, 0x4000)],
  [⟨31, 31, .w1s⟩], fun _ => 0⟩
/-- CAN_STAT (R340). -/
def CAN_STAT : Reg := ⟨324, 0x1031000C, [(16, 0x4000)],
  [⟨31, 29, .ro⟩, ⟨24, 16, .ro⟩, ⟨15, 8, .ro⟩], fun _ => 0⟩
/-- CAN_NBT (R340). -/
def CAN_NBT : Reg := ⟨325, 0x10310010, [(16, 0x4000)],
  [⟨31, 24, .rwl⟩, ⟨23, 16, .rwl⟩, ⟨15, 9, .rwl⟩, ⟨8, 2, .rwl⟩], fun _ => 0x17e3e7c⟩
/-- CAN_TDC (R340). -/
def CAN_TDC : Reg := ⟨326, 0x1031001C, [(16, 0x4000)],
  [⟨31, 31, .rwl⟩, ⟨14, 8, .rwl⟩, ⟨6, 0, .ro⟩], fun _ => 0x80000800⟩
/-- CAN_XLPWM (R340). -/
def CAN_XLPWM : Reg := ⟨327, 0x10310020, [(16, 0x4000)],
  [⟨21, 16, .rwl⟩, ⟨13, 8, .rwl⟩, ⟨5, 0, .rwl⟩], fun _ => 0⟩
/-- CAN_EVT (R340). -/
def CAN_EVT : Reg := ⟨328, 0x10310024, [(16, 0x4000)],
  [⟨31, 31, .w1c⟩, ⟨30, 30, .w1c⟩, ⟨29, 29, .w1c⟩, ⟨28, 28, .w1c⟩, ⟨27, 27, .w1c⟩, ⟨26, 26, .w1c⟩, ⟨25, 25, .w1c⟩, ⟨24, 24, .w1c⟩], fun _ => 0⟩
/-- CAN_IE (R340). -/
def CAN_IE : Reg := ⟨329, 0x10310028, [(16, 0x4000)],
  [⟨31, 24, .rw⟩], fun _ => 0⟩
/-- CAN_TRX_CTRL (R340). -/
def CAN_TRX_CTRL : Reg := ⟨330, 0x10310030, [(16, 0x4000)],
  [⟨31, 29, .rw⟩, ⟨28, 28, .rwl⟩, ⟨27, 26, .rwl⟩], fun _ => 0x8000000⟩
/-- CAN_TRX_STAT (R340). -/
def CAN_TRX_STAT : Reg := ⟨331, 0x10310034, [(16, 0x4000)],
  [⟨31, 30, .ro⟩, ⟨29, 29, .ro⟩, ⟨26, 24, .ro⟩, ⟨5, 0, .ro⟩], fun _ => 0⟩
/-- CAN_WUF_ID (R340). -/
def CAN_WUF_ID : Reg := ⟨332, 0x10310038, [(16, 0x4000)],
  [⟨31, 31, .rwl⟩, ⟨28, 0, .rwl⟩], fun _ => 0⟩
/-- CAN_WUF_MASK (R340). -/
def CAN_WUF_MASK : Reg := ⟨333, 0x1031003C, [(16, 0x4000)],
  [⟨28, 0, .rwl⟩], fun _ => 0⟩
/-- CAN_DBT (R340). -/
def CAN_DBT : Reg := ⟨334, 0x10310014, [(16, 0x4000)],
  [⟨31, 27, .rwl⟩, ⟨26, 21, .rwl⟩, ⟨20, 16, .rwl⟩, ⟨15, 11, .rwl⟩], fun _ => 0xb894800⟩
/-- CAN_XBT (R340). -/
def CAN_XBT : Reg := ⟨335, 0x10310018, [(16, 0x4000)],
  [⟨31, 27, .rwl⟩, ⟨26, 21, .rwl⟩, ⟨20, 16, .rwl⟩, ⟨15, 11, .rwl⟩], fun _ => 0x1a42000⟩
/-- CAN_WUF_DATA_LO (R340). -/
def CAN_WUF_DATA_LO : Reg := ⟨336, 0x10310040, [(16, 0x4000)],
  [⟨31, 0, .rwl⟩], fun _ => 0⟩
/-- CAN_WUF_DATA_HI (R340). -/
def CAN_WUF_DATA_HI : Reg := ⟨337, 0x10310044, [(16, 0x4000)],
  [⟨31, 0, .rwl⟩], fun _ => 0⟩
/-- CAN_WUF_DMASK_LO (R340). -/
def CAN_WUF_DMASK_LO : Reg := ⟨338, 0x10310048, [(16, 0x4000)],
  [⟨31, 0, .rwl⟩], fun _ => 0⟩
/-- CAN_WUF_DMASK_HI (R340). -/
def CAN_WUF_DMASK_HI : Reg := ⟨339, 0x1031004C, [(16, 0x4000)],
  [⟨31, 0, .rwl⟩], fun _ => 0⟩
/-- CAN_WUF_CFG (R340). -/
def CAN_WUF_CFG : Reg := ⟨340, 0x10310050, [(16, 0x4000)],
  [⟨31, 31, .rwl⟩, ⟨3, 0, .rwl⟩], fun _ => 0⟩
/-- CAN_CNT (R340). -/
def CAN_CNT : Reg := ⟨341, 0x10310060, [(16, 0x4000), (8, 0x4)],
  [⟨31, 0, .ro⟩], fun _ => 0⟩
/-- CAN_FLT0 (R340). -/
def CAN_FLT0 : Reg := ⟨342, 0x10310100, [(16, 0x4000), (64, 0x8)],
  [⟨31, 31, .rw⟩, ⟨30, 29, .rw⟩, ⟨28, 0, .rw⟩], fun _ => 0⟩
/-- CAN_FLT1 (R340). -/
def CAN_FLT1 : Reg := ⟨343, 0x10310104, [(16, 0x4000), (64, 0x8)],
  [⟨31, 24, .rw⟩, ⟨23, 23, .rw⟩, ⟨22, 15, .rw⟩, ⟨10, 0, .rw⟩], fun _ => 0⟩
/-- CAN_SLOT_CFG (R340). -/
def CAN_SLOT_CFG : Reg := ⟨344, 0x10311000, [(16, 0x4000), (8, 0x100)],
  [⟨31, 31, .rw⟩, ⟨30, 30, .rw⟩, ⟨29, 28, .rw⟩, ⟨27, 24, .rw⟩, ⟨9, 0, .rw⟩], fun _ => 0x1f000000⟩
/-- CAN_RXBASE (R340). -/
def CAN_RXBASE : Reg := ⟨345, 0x10311004, [(16, 0x4000), (8, 0x100)],
  [⟨22, 0, .rw⟩], fun _ => 0⟩
/-- CAN_TXBASE (R340). -/
def CAN_TXBASE : Reg := ⟨346, 0x10311008, [(16, 0x4000), (8, 0x100)],
  [⟨22, 0, .rw⟩], fun _ => 0⟩
/-- CAN_CQBASE (R340). -/
def CAN_CQBASE : Reg := ⟨347, 0x1031100C, [(16, 0x4000), (8, 0x100)],
  [⟨22, 0, .rw⟩], fun _ => 0⟩
/-- CAN_RXWI (R340). -/
def CAN_RXWI : Reg := ⟨348, 0x10311010, [(16, 0x4000), (8, 0x100)],
  [⟨8, 8, .ro⟩, ⟨7, 0, .ro⟩], fun _ => 0⟩
/-- CAN_CQWI (R340). -/
def CAN_CQWI : Reg := ⟨349, 0x10311018, [(16, 0x4000), (8, 0x100)],
  [⟨8, 8, .ro⟩, ⟨7, 0, .ro⟩], fun _ => 0⟩
/-- CAN_RXAI (R340). -/
def CAN_RXAI : Reg := ⟨350, 0x10311014, [(16, 0x4000), (8, 0x100)],
  [⟨7, 0, .rw⟩], fun _ => 0⟩
/-- CAN_CQAI (R340). -/
def CAN_CQAI : Reg := ⟨351, 0x1031101C, [(16, 0x4000), (8, 0x100)],
  [⟨7, 0, .rw⟩], fun _ => 0⟩
/-- CAN_TXSUB (R340). -/
def CAN_TXSUB : Reg := ⟨352, 0x10311020, [(16, 0x4000), (8, 0x100)],
  [⟨5, 0, .wo⟩], fun _ => 0⟩
/-- CAN_TXABORT (R340). -/
def CAN_TXABORT : Reg := ⟨353, 0x10311024, [(16, 0x4000), (8, 0x100)],
  [⟨5, 0, .wo⟩], fun _ => 0⟩
/-- CAN_TXFLT (R340). -/
def CAN_TXFLT : Reg := ⟨354, 0x10311028, [(16, 0x4000), (8, 0x100)],
  [⟨31, 30, .rw⟩, ⟨29, 11, .rw⟩, ⟨10, 0, .rw⟩], fun _ => 0xc0000000⟩
/-- CAN_SLOT_STAT (R340). -/
def CAN_SLOT_STAT : Reg := ⟨355, 0x1031102C, [(16, 0x4000), (8, 0x100)],
  [⟨31, 31, .w1c⟩, ⟨30, 30, .w1c⟩, ⟨29, 29, .w1c⟩, ⟨28, 28, .w1c⟩, ⟨27, 27, .w1c⟩, ⟨6, 0, .ro⟩], fun _ => 0⟩
/-- CAN_SLOT_IE (R340). -/
def CAN_SLOT_IE : Reg := ⟨356, 0x10311030, [(16, 0x4000), (8, 0x100)],
  [⟨31, 27, .rw⟩, ⟨2, 0, .rw⟩], fun _ => 0⟩
/-- CAN_SLOT_OVR (R340). -/
def CAN_SLOT_OVR : Reg := ⟨357, 0x10311034, [(16, 0x4000), (8, 0x100)],
  [⟨31, 0, .ro⟩], fun _ => 0⟩
/-- CAN_SLOT_TOOLONG (R340). -/
def CAN_SLOT_TOOLONG : Reg := ⟨358, 0x10311038, [(16, 0x4000), (8, 0x100)],
  [⟨31, 0, .ro⟩], fun _ => 0⟩
/-- CAN_SLOT_TXDONE (R340). -/
def CAN_SLOT_TXDONE : Reg := ⟨359, 0x1031103C, [(16, 0x4000), (8, 0x100)],
  [⟨31, 0, .ro⟩], fun _ => 0⟩

end R

namespace F

def CAN_ID_BLOCK : Fld := ⟨R.CAN_ID, 31, 16⟩
def CAN_ID_CH : Fld := ⟨R.CAN_ID, 15, 8⟩
def CAN_ID_VERSION : Fld := ⟨R.CAN_ID, 7, 0⟩
def CAN_CTRL_EN : Fld := ⟨R.CAN_CTRL, 31, 31⟩
def CAN_CTRL_FD_EN : Fld := ⟨R.CAN_CTRL, 30, 30⟩
def CAN_CTRL_XL_EN : Fld := ⟨R.CAN_CTRL, 29, 29⟩
def CAN_CTRL_XL_TMS : Fld := ⟨R.CAN_CTRL, 28, 28⟩
def CAN_CTRL_PXHD : Fld := ⟨R.CAN_CTRL, 27, 27⟩
def CAN_CMD_BUSOFF_RECOVER : Fld := ⟨R.CAN_CMD, 31, 31⟩
def CAN_STAT_STATE : Fld := ⟨R.CAN_STAT, 31, 29⟩
def CAN_STAT_TEC : Fld := ⟨R.CAN_STAT, 24, 16⟩
def CAN_STAT_REC : Fld := ⟨R.CAN_STAT, 15, 8⟩
def CAN_NBT_BRP : Fld := ⟨R.CAN_NBT, 31, 24⟩
def CAN_NBT_TSEG1 : Fld := ⟨R.CAN_NBT, 23, 16⟩
def CAN_NBT_TSEG2 : Fld := ⟨R.CAN_NBT, 15, 9⟩
def CAN_NBT_SJW : Fld := ⟨R.CAN_NBT, 8, 2⟩
def CAN_TDC_EN : Fld := ⟨R.CAN_TDC, 31, 31⟩
def CAN_TDC_TDCO : Fld := ⟨R.CAN_TDC, 14, 8⟩
def CAN_TDC_TDCV : Fld := ⟨R.CAN_TDC, 6, 0⟩
def CAN_XLPWM_PWMS : Fld := ⟨R.CAN_XLPWM, 21, 16⟩
def CAN_XLPWM_PWML : Fld := ⟨R.CAN_XLPWM, 13, 8⟩
def CAN_XLPWM_PWMO : Fld := ⟨R.CAN_XLPWM, 5, 0⟩
def CAN_EVT_BUS_OFF : Fld := ⟨R.CAN_EVT, 31, 31⟩
def CAN_EVT_ERR_PASSIVE : Fld := ⟨R.CAN_EVT, 30, 30⟩
def CAN_EVT_RECOVERED : Fld := ⟨R.CAN_EVT, 29, 29⟩
def CAN_EVT_PEX : Fld := ⟨R.CAN_EVT, 28, 28⟩
def CAN_EVT_WAKE : Fld := ⟨R.CAN_EVT, 27, 27⟩
def CAN_EVT_TRX_FAULT : Fld := ⟨R.CAN_EVT, 26, 26⟩
def CAN_EVT_CFG_ERR : Fld := ⟨R.CAN_EVT, 25, 25⟩
def CAN_EVT_LINK_LOST : Fld := ⟨R.CAN_EVT, 24, 24⟩
def CAN_IE_IE : Fld := ⟨R.CAN_IE, 31, 24⟩
def CAN_TRX_CTRL_MODE : Fld := ⟨R.CAN_TRX_CTRL, 31, 29⟩
def CAN_TRX_CTRL_WAKE_MODE : Fld := ⟨R.CAN_TRX_CTRL, 28, 28⟩
def CAN_TRX_CTRL_SW_RATE : Fld := ⟨R.CAN_TRX_CTRL, 27, 26⟩
def CAN_TRX_STAT_WAKE_CAUSE : Fld := ⟨R.CAN_TRX_STAT, 31, 30⟩
def CAN_TRX_STAT_TRX_FAULT : Fld := ⟨R.CAN_TRX_STAT, 29, 29⟩
def CAN_TRX_STAT_MODE_ACT : Fld := ⟨R.CAN_TRX_STAT, 26, 24⟩
def CAN_TRX_STAT_FEC : Fld := ⟨R.CAN_TRX_STAT, 5, 0⟩
def CAN_WUF_ID_WUF_IDE : Fld := ⟨R.CAN_WUF_ID, 31, 31⟩
def CAN_WUF_ID_WUF_ID : Fld := ⟨R.CAN_WUF_ID, 28, 0⟩
def CAN_WUF_MASK_WUF_MASK : Fld := ⟨R.CAN_WUF_MASK, 28, 0⟩
def CAN_DBT_BRP : Fld := ⟨R.CAN_DBT, 31, 27⟩
def CAN_DBT_TSEG1 : Fld := ⟨R.CAN_DBT, 26, 21⟩
def CAN_DBT_TSEG2 : Fld := ⟨R.CAN_DBT, 20, 16⟩
def CAN_DBT_SJW : Fld := ⟨R.CAN_DBT, 15, 11⟩
def CAN_XBT_BRP : Fld := ⟨R.CAN_XBT, 31, 27⟩
def CAN_XBT_TSEG1 : Fld := ⟨R.CAN_XBT, 26, 21⟩
def CAN_XBT_TSEG2 : Fld := ⟨R.CAN_XBT, 20, 16⟩
def CAN_XBT_SJW : Fld := ⟨R.CAN_XBT, 15, 11⟩
def CAN_WUF_DATA_LO_W : Fld := ⟨R.CAN_WUF_DATA_LO, 31, 0⟩
def CAN_WUF_DATA_HI_W : Fld := ⟨R.CAN_WUF_DATA_HI, 31, 0⟩
def CAN_WUF_DMASK_LO_W : Fld := ⟨R.CAN_WUF_DMASK_LO, 31, 0⟩
def CAN_WUF_DMASK_HI_W : Fld := ⟨R.CAN_WUF_DMASK_HI, 31, 0⟩
def CAN_WUF_CFG_DLC_MATCH : Fld := ⟨R.CAN_WUF_CFG, 31, 31⟩
def CAN_WUF_CFG_WUF_DLC : Fld := ⟨R.CAN_WUF_CFG, 3, 0⟩
def CAN_CNT_CNT : Fld := ⟨R.CAN_CNT, 31, 0⟩
def CAN_FLT0_VALID : Fld := ⟨R.CAN_FLT0, 31, 31⟩
def CAN_FLT0_FMT : Fld := ⟨R.CAN_FLT0, 30, 29⟩
def CAN_FLT0_FID : Fld := ⟨R.CAN_FLT0, 28, 0⟩
def CAN_FLT1_SLOTS : Fld := ⟨R.CAN_FLT1, 31, 24⟩
def CAN_FLT1_VCID_EN : Fld := ⟨R.CAN_FLT1, 23, 23⟩
def CAN_FLT1_VCID : Fld := ⟨R.CAN_FLT1, 22, 15⟩
def CAN_FLT1_MASK : Fld := ⟨R.CAN_FLT1, 10, 0⟩
def CAN_SLOT_CFG_EN : Fld := ⟨R.CAN_SLOT_CFG, 31, 31⟩
def CAN_SLOT_CFG_LOCAL_RX : Fld := ⟨R.CAN_SLOT_CFG, 30, 30⟩
def CAN_SLOT_CFG_DATA_CAP : Fld := ⟨R.CAN_SLOT_CFG, 29, 28⟩
def CAN_SLOT_CFG_RETRY_LIMIT : Fld := ⟨R.CAN_SLOT_CFG, 27, 24⟩
def CAN_SLOT_CFG_VE : Fld := ⟨R.CAN_SLOT_CFG, 9, 0⟩
def CAN_RXBASE_BASE : Fld := ⟨R.CAN_RXBASE, 22, 0⟩
def CAN_TXBASE_BASE : Fld := ⟨R.CAN_TXBASE, 22, 0⟩
def CAN_CQBASE_BASE : Fld := ⟨R.CAN_CQBASE, 22, 0⟩
def CAN_RXWI_FULL : Fld := ⟨R.CAN_RXWI, 8, 8⟩
def CAN_RXWI_WI : Fld := ⟨R.CAN_RXWI, 7, 0⟩
def CAN_CQWI_FULL : Fld := ⟨R.CAN_CQWI, 8, 8⟩
def CAN_CQWI_WI : Fld := ⟨R.CAN_CQWI, 7, 0⟩
def CAN_RXAI_AI : Fld := ⟨R.CAN_RXAI, 7, 0⟩
def CAN_CQAI_AI : Fld := ⟨R.CAN_CQAI, 7, 0⟩
def CAN_TXSUB_ENTRY : Fld := ⟨R.CAN_TXSUB, 5, 0⟩
def CAN_TXABORT_ENTRY : Fld := ⟨R.CAN_TXABORT, 5, 0⟩
def CAN_TXFLT_FMT : Fld := ⟨R.CAN_TXFLT, 31, 30⟩
def CAN_TXFLT_TXMASK : Fld := ⟨R.CAN_TXFLT, 29, 11⟩
def CAN_TXFLT_TXID : Fld := ⟨R.CAN_TXFLT, 10, 0⟩
def CAN_SLOT_STAT_OVR : Fld := ⟨R.CAN_SLOT_STAT, 31, 31⟩
def CAN_SLOT_STAT_DMA_ERR : Fld := ⟨R.CAN_SLOT_STAT, 30, 30⟩
def CAN_SLOT_STAT_IDX_ERR : Fld := ⟨R.CAN_SLOT_STAT, 29, 29⟩
def CAN_SLOT_STAT_SUB_ERR : Fld := ⟨R.CAN_SLOT_STAT, 28, 28⟩
def CAN_SLOT_STAT_CFG_ERR : Fld := ⟨R.CAN_SLOT_STAT, 27, 27⟩
def CAN_SLOT_STAT_PENDING : Fld := ⟨R.CAN_SLOT_STAT, 6, 0⟩
def CAN_SLOT_IE_IE : Fld := ⟨R.CAN_SLOT_IE, 31, 27⟩
def CAN_SLOT_IE_VEC : Fld := ⟨R.CAN_SLOT_IE, 2, 0⟩
def CAN_SLOT_OVR_CNT : Fld := ⟨R.CAN_SLOT_OVR, 31, 0⟩
def CAN_SLOT_TOOLONG_CNT : Fld := ⟨R.CAN_SLOT_TOOLONG, 31, 0⟩
def CAN_SLOT_TXDONE_CNT : Fld := ⟨R.CAN_SLOT_TXDONE, 31, 0⟩

end F

/-- The register families of block CAN. -/
def regsCAN : List Reg :=
  [R.CAN_ID, R.CAN_CTRL, R.CAN_CMD, R.CAN_STAT, R.CAN_NBT, R.CAN_TDC,
   R.CAN_XLPWM, R.CAN_EVT, R.CAN_IE, R.CAN_TRX_CTRL, R.CAN_TRX_STAT, R.CAN_WUF_ID,
   R.CAN_WUF_MASK, R.CAN_DBT, R.CAN_XBT, R.CAN_WUF_DATA_LO, R.CAN_WUF_DATA_HI, R.CAN_WUF_DMASK_LO,
   R.CAN_WUF_DMASK_HI, R.CAN_WUF_CFG, R.CAN_CNT, R.CAN_FLT0, R.CAN_FLT1, R.CAN_SLOT_CFG,
   R.CAN_RXBASE, R.CAN_TXBASE, R.CAN_CQBASE, R.CAN_RXWI, R.CAN_CQWI, R.CAN_RXAI,
   R.CAN_CQAI, R.CAN_TXSUB, R.CAN_TXABORT, R.CAN_TXFLT, R.CAN_SLOT_STAT, R.CAN_SLOT_IE,
   R.CAN_SLOT_OVR, R.CAN_SLOT_TOOLONG, R.CAN_SLOT_TXDONE]

/-- First and one-past-last family number of block CAN. -/
def idsCAN : Nat × Nat := (321, 360)

namespace R

/-- LIN_ID (R341). -/
def LIN_ID : Reg := ⟨360, 0x10350000, [(12, 0x1000)],
  [⟨31, 16, .ro⟩, ⟨15, 8, .ro⟩, ⟨7, 0, .ro⟩], fun i => 1900937393 + i * 256⟩
/-- LIN_CFG (R341). -/
def LIN_CFG : Reg := ⟨361, 0x10350004, [(12, 0x1000)],
  [⟨31, 30, .rwl⟩, ⟨29, 29, .rwl⟩, ⟨14, 0, .rwl⟩], fun _ => 0x4b00⟩
/-- LIN_CTRL (R341). -/
def LIN_CTRL : Reg := ⟨362, 0x10350008, [(12, 0x1000)],
  [⟨31, 31, .rw⟩, ⟨30, 29, .rw⟩, ⟨28, 28, .w1s⟩, ⟨27, 27, .w1s⟩, ⟨15, 8, .rw⟩], fun _ => 0x6400⟩
/-- LIN_STAT (R341). -/
def LIN_STAT : Reg := ⟨363, 0x1035000C, [(12, 0x1000)],
  [⟨31, 30, .ro⟩, ⟨29, 29, .ro⟩, ⟨7, 0, .ro⟩], fun _ => 0⟩
/-- LIN_EVT (R341). -/
def LIN_EVT : Reg := ⟨364, 0x10350010, [(12, 0x1000)],
  [⟨31, 31, .w1c⟩, ⟨30, 30, .w1c⟩, ⟨29, 29, .w1c⟩, ⟨28, 28, .w1c⟩], fun _ => 0⟩
/-- LIN_IE (R341). -/
def LIN_IE : Reg := ⟨365, 0x10350014, [(12, 0x1000)],
  [⟨31, 28, .rw⟩], fun _ => 0⟩
/-- LIN_TIMING (R341). -/
def LIN_TIMING : Reg := ⟨366, 0x10350018, [(12, 0x1000)],
  [⟨31, 16, .rw⟩, ⟨15, 0, .rw⟩], fun _ => 0x3e80002⟩
/-- LIN_CNT (R341). -/
def LIN_CNT : Reg := ⟨367, 0x10350020, [(12, 0x1000), (8, 0x4)],
  [⟨31, 0, .ro⟩], fun _ => 0⟩
/-- LIN_TBL (R341). -/
def LIN_TBL : Reg := ⟨368, 0x10350040, [(12, 0x1000), (4, 0x4)],
  [⟨23, 16, .rw⟩, ⟨8, 0, .rw⟩], fun _ => 0⟩
/-- LIN_SCHED (R341). -/
def LIN_SCHED : Reg := ⟨369, 0x10350400, [(12, 0x1000), (256, 0x4)],
  [⟨31, 30, .rw⟩, ⟨29, 28, .rw⟩, ⟨27, 22, .rw⟩, ⟨21, 6, .rw⟩], fun _ => 0⟩
/-- LIN_FRAME_CFG (R341). -/
def LIN_FRAME_CFG : Reg := ⟨370, 0x10350800, [(12, 0x1000), (64, 0x10)],
  [⟨31, 30, .rw⟩, ⟨29, 29, .rw⟩, ⟨28, 25, .rw⟩], fun _ => 0x30000000⟩
/-- LIN_FRAME_STAT (R341). -/
def LIN_FRAME_STAT : Reg := ⟨371, 0x10350804, [(12, 0x1000), (64, 0x10)],
  [⟨31, 31, .w1c⟩, ⟨30, 30, .w1c⟩, ⟨29, 27, .ro⟩, ⟨26, 26, .w1c⟩, ⟨23, 0, .ro⟩], fun _ => 0⟩
/-- LIN_FRAME_DATA_LO (R341). -/
def LIN_FRAME_DATA_LO : Reg := ⟨372, 0x10350808, [(12, 0x1000), (64, 0x10)],
  [⟨31, 0, .rw⟩], fun _ => 0⟩
/-- LIN_FRAME_DATA_HI (R341). -/
def LIN_FRAME_DATA_HI : Reg := ⟨373, 0x1035080C, [(12, 0x1000), (64, 0x10)],
  [⟨31, 0, .rw⟩], fun _ => 0⟩

end R

namespace F

def LIN_ID_BLOCK : Fld := ⟨R.LIN_ID, 31, 16⟩
def LIN_ID_CH : Fld := ⟨R.LIN_ID, 15, 8⟩
def LIN_ID_VERSION : Fld := ⟨R.LIN_ID, 7, 0⟩
def LIN_CFG_MODE : Fld := ⟨R.LIN_CFG, 31, 30⟩
def LIN_CFG_SCHED_SRC : Fld := ⟨R.LIN_CFG, 29, 29⟩
def LIN_CFG_BAUD : Fld := ⟨R.LIN_CFG, 14, 0⟩
def LIN_CTRL_RUN : Fld := ⟨R.LIN_CTRL, 31, 31⟩
def LIN_CTRL_SCHED_SEL : Fld := ⟨R.LIN_CTRL, 30, 29⟩
def LIN_CTRL_SLEEP_TX : Fld := ⟨R.LIN_CTRL, 28, 28⟩
def LIN_CTRL_WAKE_TX : Fld := ⟨R.LIN_CTRL, 27, 27⟩
def LIN_CTRL_WAKE_GAP : Fld := ⟨R.LIN_CTRL, 15, 8⟩
def LIN_STAT_STATE : Fld := ⟨R.LIN_STAT, 31, 30⟩
def LIN_STAT_TRX_FAULT : Fld := ⟨R.LIN_STAT, 29, 29⟩
def LIN_STAT_ENTRY : Fld := ⟨R.LIN_STAT, 7, 0⟩
def LIN_EVT_SLOT_OVR : Fld := ⟨R.LIN_EVT, 31, 31⟩
def LIN_EVT_WAKE_RX : Fld := ⟨R.LIN_EVT, 30, 30⟩
def LIN_EVT_FRAME_ERR : Fld := ⟨R.LIN_EVT, 29, 29⟩
def LIN_EVT_COLLISION : Fld := ⟨R.LIN_EVT, 28, 28⟩
def LIN_IE_IE : Fld := ⟨R.LIN_IE, 31, 28⟩
def LIN_TIMING_WAKE_US : Fld := ⟨R.LIN_TIMING, 31, 16⟩
def LIN_TIMING_HDR_OFS : Fld := ⟨R.LIN_TIMING, 15, 0⟩
def LIN_CNT_CNT : Fld := ⟨R.LIN_CNT, 31, 0⟩
def LIN_TBL_START : Fld := ⟨R.LIN_TBL, 23, 16⟩
def LIN_TBL_LEN : Fld := ⟨R.LIN_TBL, 8, 0⟩
def LIN_SCHED_TYPE : Fld := ⟨R.LIN_SCHED, 31, 30⟩
def LIN_SCHED_RES_TBL : Fld := ⟨R.LIN_SCHED, 29, 28⟩
def LIN_SCHED_ID : Fld := ⟨R.LIN_SCHED, 27, 22⟩
def LIN_SCHED_DELAY : Fld := ⟨R.LIN_SCHED, 21, 6⟩
def LIN_FRAME_CFG_DIR : Fld := ⟨R.LIN_FRAME_CFG, 31, 30⟩
def LIN_FRAME_CFG_ENH : Fld := ⟨R.LIN_FRAME_CFG, 29, 29⟩
def LIN_FRAME_CFG_LEN : Fld := ⟨R.LIN_FRAME_CFG, 28, 25⟩
def LIN_FRAME_STAT_NEW : Fld := ⟨R.LIN_FRAME_STAT, 31, 31⟩
def LIN_FRAME_STAT_ERR : Fld := ⟨R.LIN_FRAME_STAT, 30, 30⟩
def LIN_FRAME_STAT_LAST_ERR : Fld := ⟨R.LIN_FRAME_STAT, 29, 27⟩
def LIN_FRAME_STAT_OVERWRITE : Fld := ⟨R.LIN_FRAME_STAT, 26, 26⟩
def LIN_FRAME_STAT_BEAT : Fld := ⟨R.LIN_FRAME_STAT, 23, 0⟩
def LIN_FRAME_DATA_LO_W : Fld := ⟨R.LIN_FRAME_DATA_LO, 31, 0⟩
def LIN_FRAME_DATA_HI_W : Fld := ⟨R.LIN_FRAME_DATA_HI, 31, 0⟩

end F

/-- The register families of block LIN. -/
def regsLIN : List Reg :=
  [R.LIN_ID, R.LIN_CFG, R.LIN_CTRL, R.LIN_STAT, R.LIN_EVT, R.LIN_IE,
   R.LIN_TIMING, R.LIN_CNT, R.LIN_TBL, R.LIN_SCHED, R.LIN_FRAME_CFG, R.LIN_FRAME_STAT,
   R.LIN_FRAME_DATA_LO, R.LIN_FRAME_DATA_HI]

/-- First and one-past-last family number of block LIN. -/
def idsLIN : Nat × Nat := (360, 374)

namespace R

/-- CAR_ID (R386). -/
def CAR_ID : Reg := ⟨374, 0x10400000, [],
  [⟨31, 16, .ro⟩, ⟨15, 0, .ro⟩], fun _ => 0xca7100b1⟩
/-- CAR_BOOT (R386). -/
def CAR_BOOT : Reg := ⟨375, 0x10400004, [],
  [⟨1, 1, .ro⟩, ⟨0, 0, .ro⟩], fun _ => 0⟩
/-- CAR_CTRL (R386). -/
def CAR_CTRL : Reg := ⟨376, 0x10400100, [(2, 0x100)],
  [⟨31, 31, .rwl⟩, ⟨23, 16, .rwl⟩, ⟨15, 0, .rwl⟩], fun _ => 0x80640fa0⟩
/-- CAR_STAT (R386). -/
def CAR_STAT : Reg := ⟨377, 0x10400104, [(2, 0x100)],
  [⟨31, 29, .ro⟩, ⟨28, 27, .ro⟩, ⟨26, 24, .ro⟩, ⟨23, 23, .ro⟩, ⟨22, 22, .ro⟩], fun _ => 0xf8000000⟩
/-- CAR_EVT (R386). -/
def CAR_EVT : Reg := ⟨378, 0x10400108, [(2, 0x100)],
  [⟨31, 31, .w1c⟩, ⟨30, 30, .w1c⟩, ⟨29, 29, .w1c⟩, ⟨28, 28, .w1c⟩, ⟨27, 27, .w1c⟩, ⟨26, 26, .w1c⟩, ⟨25, 25, .w1c⟩, ⟨24, 24, .w1c⟩, ⟨23, 23, .w1c⟩], fun _ => 0⟩
/-- CAR_IE (R386). -/
def CAR_IE : Reg := ⟨379, 0x1040010C, [(2, 0x100)],
  [⟨31, 23, .rw⟩], fun _ => 0⟩
/-- CAR_MM0 (R386). -/
def CAR_MM0 : Reg := ⟨380, 0x10400110, [(2, 0x100)],
  [⟨31, 31, .ro⟩, ⟨30, 29, .ro⟩, ⟨28, 26, .ro⟩, ⟨25, 25, .ro⟩, ⟨11, 0, .ro⟩], fun _ => 0⟩
/-- CAR_MM1 (R386). -/
def CAR_MM1 : Reg := ⟨381, 0x10400114, [(2, 0x100)],
  [⟨31, 0, .ro⟩], fun _ => 0⟩
/-- CAR_MM2 (R386). -/
def CAR_MM2 : Reg := ⟨382, 0x10400118, [(2, 0x100)],
  [⟨31, 0, .ro⟩], fun _ => 0⟩
/-- CAR_STALL (R386). -/
def CAR_STALL : Reg := ⟨383, 0x1040011C, [(2, 0x100)],
  [⟨31, 16, .ro⟩, ⟨15, 0, .ro⟩], fun _ => 0⟩
/-- CAR_LBIST (R386). -/
def CAR_LBIST : Reg := ⟨384, 0x10400124, [(2, 0x100)],
  [⟨31, 30, .ro⟩, ⟨29, 28, .ro⟩, ⟨27, 27, .ro⟩, ⟨15, 0, .ro⟩], fun _ => 0⟩
/-- CAR_LBIST_BEAT (R386). -/
def CAR_LBIST_BEAT : Reg := ⟨385, 0x10400128, [(2, 0x100)],
  [⟨31, 0, .ro⟩], fun _ => 0⟩
/-- CAR_TCM_ECC (R386). -/
def CAR_TCM_ECC : Reg := ⟨386, 0x10400150, [(2, 0x100)],
  [⟨31, 16, .ro⟩, ⟨15, 0, .ro⟩], fun _ => 0⟩
/-- CAR_TCM_ADDR (R386). -/
def CAR_TCM_ADDR : Reg := ⟨387, 0x10400154, [(2, 0x100)],
  [⟨19, 0, .ro⟩], fun _ => 0⟩
/-- CAR_CNT (R386). -/
def CAR_CNT : Reg := ⟨388, 0x10400130, [(2, 0x100), (7, 0x4)],
  [⟨31, 0, .ro⟩], fun _ => 0⟩
/-- CAR_IC_CTRL (R386). -/
def CAR_IC_CTRL : Reg := ⟨389, 0x10404000, [(2, 0x4000), (2, 0x10)],
  [⟨3, 0, .rw⟩], fun _ => 0⟩
/-- CAR_IC_CLAIM (R386). -/
def CAR_IC_CLAIM : Reg := ⟨390, 0x10404004, [(2, 0x4000), (2, 0x10)],
  [⟨9, 0, .rw⟩], fun _ => 0⟩
/-- CAR_IC_EN (R386). -/
def CAR_IC_EN : Reg := ⟨391, 0x10404080, [(2, 0x4000), (2, 0x80), (32, 0x4)],
  [⟨31, 0, .rw⟩], fun _ => 0⟩
/-- CAR_IC_PEND (R386). -/
def CAR_IC_PEND : Reg := ⟨392, 0x10404180, [(2, 0x4000), (32, 0x4)],
  [⟨31, 0, .ro⟩], fun _ => 0⟩
/-- CAR_IC_PRIO (R386). -/
def CAR_IC_PRIO : Reg := ⟨393, 0x10404400, [(2, 0x4000), (128, 0x4)],
  [⟨31, 0, .rw⟩], fun _ => 0⟩

end R

namespace F

def CAR_ID_BLOCK : Fld := ⟨R.CAR_ID, 31, 16⟩
def CAR_ID_VERSION : Fld := ⟨R.CAR_ID, 15, 0⟩
def CAR_BOOT_SPLIT1 : Fld := ⟨R.CAR_BOOT, 1, 1⟩
def CAR_BOOT_SPLIT0 : Fld := ⟨R.CAR_BOOT, 0, 0⟩
def CAR_CTRL_LBIST_EN : Fld := ⟨R.CAR_CTRL, 31, 31⟩
def CAR_CTRL_GUARD : Fld := ⟨R.CAR_CTRL, 23, 16⟩
def CAR_CTRL_ROT_BEATS : Fld := ⟨R.CAR_CTRL, 15, 0⟩
def CAR_STAT_STATE : Fld := ⟨R.CAR_STAT, 31, 29⟩
def CAR_STAT_OUT : Fld := ⟨R.CAR_STAT, 28, 27⟩
def CAR_STAT_RETIRED : Fld := ⟨R.CAR_STAT, 26, 24⟩
def CAR_STAT_CHK_FAULT : Fld := ⟨R.CAR_STAT, 23, 23⟩
def CAR_STAT_LB_RETIRED : Fld := ⟨R.CAR_STAT, 22, 22⟩
def CAR_EVT_MISMATCH : Fld := ⟨R.CAR_EVT, 31, 31⟩
def CAR_EVT_REJOIN : Fld := ⟨R.CAR_EVT, 30, 30⟩
def CAR_EVT_TRIO_FAIL : Fld := ⟨R.CAR_EVT, 29, 29⟩
def CAR_EVT_CHECKER_FAULT : Fld := ⟨R.CAR_EVT, 28, 28⟩
def CAR_EVT_RETIRED : Fld := ⟨R.CAR_EVT, 27, 27⟩
def CAR_EVT_LBIST_FAIL : Fld := ⟨R.CAR_EVT, 26, 26⟩
def CAR_EVT_LBIST_DONE : Fld := ⟨R.CAR_EVT, 25, 25⟩
def CAR_EVT_TCM_CE : Fld := ⟨R.CAR_EVT, 24, 24⟩
def CAR_EVT_TCM_UE : Fld := ⟨R.CAR_EVT, 23, 23⟩
def CAR_IE_IE : Fld := ⟨R.CAR_IE, 31, 23⟩
def CAR_MM0_VALID : Fld := ⟨R.CAR_MM0, 31, 31⟩
def CAR_MM0_KIND : Fld := ⟨R.CAR_MM0, 30, 29⟩
def CAR_MM0_CORES : Fld := ⟨R.CAR_MM0, 28, 26⟩
def CAR_MM0_DUPLEX : Fld := ⟨R.CAR_MM0, 25, 25⟩
def CAR_MM0_CSR : Fld := ⟨R.CAR_MM0, 11, 0⟩
def CAR_MM1_ADDR : Fld := ⟨R.CAR_MM1, 31, 0⟩
def CAR_MM2_BEAT : Fld := ⟨R.CAR_MM2, 31, 0⟩
def CAR_STALL_STALL_MAX : Fld := ⟨R.CAR_STALL, 31, 16⟩
def CAR_STALL_STALL_LAST : Fld := ⟨R.CAR_STALL, 15, 0⟩
def CAR_LBIST_NEXT : Fld := ⟨R.CAR_LBIST, 31, 30⟩
def CAR_LBIST_LAST_CORE : Fld := ⟨R.CAR_LBIST, 29, 28⟩
def CAR_LBIST_LAST_PASS : Fld := ⟨R.CAR_LBIST, 27, 27⟩
def CAR_LBIST_SLICES : Fld := ⟨R.CAR_LBIST, 15, 0⟩
def CAR_LBIST_BEAT_BEAT : Fld := ⟨R.CAR_LBIST_BEAT, 31, 0⟩
def CAR_TCM_ECC_UE_CNT : Fld := ⟨R.CAR_TCM_ECC, 31, 16⟩
def CAR_TCM_ECC_CE_CNT : Fld := ⟨R.CAR_TCM_ECC, 15, 0⟩
def CAR_TCM_ADDR_OFS : Fld := ⟨R.CAR_TCM_ADDR, 19, 0⟩
def CAR_CNT_CNT : Fld := ⟨R.CAR_CNT, 31, 0⟩
def CAR_IC_CTRL_THRESH : Fld := ⟨R.CAR_IC_CTRL, 3, 0⟩
def CAR_IC_CLAIM_ID : Fld := ⟨R.CAR_IC_CLAIM, 9, 0⟩
def CAR_IC_EN_EN : Fld := ⟨R.CAR_IC_EN, 31, 0⟩
def CAR_IC_PEND_PEND : Fld := ⟨R.CAR_IC_PEND, 31, 0⟩
def CAR_IC_PRIO_PRIO : Fld := ⟨R.CAR_IC_PRIO, 31, 0⟩

end F

/-- The register families of block CARILLON. -/
def regsCARILLON : List Reg :=
  [R.CAR_ID, R.CAR_BOOT, R.CAR_CTRL, R.CAR_STAT, R.CAR_EVT, R.CAR_IE,
   R.CAR_MM0, R.CAR_MM1, R.CAR_MM2, R.CAR_STALL, R.CAR_LBIST, R.CAR_LBIST_BEAT,
   R.CAR_TCM_ECC, R.CAR_TCM_ADDR, R.CAR_CNT, R.CAR_IC_CTRL, R.CAR_IC_CLAIM, R.CAR_IC_EN,
   R.CAR_IC_PEND, R.CAR_IC_PRIO]

/-- First and one-past-last family number of block CARILLON. -/
def idsCARILLON : Nat × Nat := (374, 394)

namespace R

/-- IOMMU_VX_ID (R411). -/
def IOMMU_VX_ID : Reg := ⟨394, 0x10501000, [],
  [⟨31, 16, .ro⟩, ⟨15, 0, .ro⟩], fun _ => 0x10aa00b1⟩
/-- IOMMU_VX_LOGWI (R411). -/
def IOMMU_VX_LOGWI : Reg := ⟨395, 0x10501004, [],
  [⟨5, 5, .ro⟩, ⟨4, 0, .ro⟩], fun _ => 0⟩
/-- IOMMU_VX_LOGAI (R411). -/
def IOMMU_VX_LOGAI : Reg := ⟨396, 0x10501008, [],
  [⟨4, 0, .rw⟩], fun _ => 0⟩
/-- IOMMU_VX_CNT (R411). -/
def IOMMU_VX_CNT : Reg := ⟨397, 0x10501010, [(4, 0x4)],
  [⟨31, 0, .ro⟩], fun _ => 0⟩
/-- IOMMU_VX_E0 (R411). -/
def IOMMU_VX_E0 : Reg := ⟨398, 0x10501100, [(32, 0x10)],
  [⟨31, 31, .ro⟩, ⟨30, 30, .ro⟩, ⟨29, 29, .ro⟩, ⟨28, 28, .ro⟩, ⟨27, 26, .ro⟩, ⟨25, 24, .ro⟩, ⟨10, 0, .ro⟩], fun _ => 0⟩
/-- IOMMU_VX_E1 (R411). -/
def IOMMU_VX_E1 : Reg := ⟨399, 0x10501104, [(32, 0x10)],
  [⟨31, 0, .ro⟩], fun _ => 0⟩
/-- IOMMU_VX_E2 (R411). -/
def IOMMU_VX_E2 : Reg := ⟨400, 0x10501108, [(32, 0x10)],
  [⟨31, 16, .ro⟩, ⟨7, 0, .ro⟩], fun _ => 0⟩
/-- IOMMU_VX_E3 (R411). -/
def IOMMU_VX_E3 : Reg := ⟨401, 0x1050110C, [(32, 0x10)],
  [⟨31, 0, .ro⟩], fun _ => 0⟩

end R

namespace F

def IOMMU_VX_ID_BLOCK : Fld := ⟨R.IOMMU_VX_ID, 31, 16⟩
def IOMMU_VX_ID_VERSION : Fld := ⟨R.IOMMU_VX_ID, 15, 0⟩
def IOMMU_VX_LOGWI_FULL : Fld := ⟨R.IOMMU_VX_LOGWI, 5, 5⟩
def IOMMU_VX_LOGWI_WI : Fld := ⟨R.IOMMU_VX_LOGWI, 4, 0⟩
def IOMMU_VX_LOGAI_AI : Fld := ⟨R.IOMMU_VX_LOGAI, 4, 0⟩
def IOMMU_VX_CNT_CNT : Fld := ⟨R.IOMMU_VX_CNT, 31, 0⟩
def IOMMU_VX_E0_VALID : Fld := ⟨R.IOMMU_VX_E0, 31, 31⟩
def IOMMU_VX_E0_IO : Fld := ⟨R.IOMMU_VX_E0, 30, 30⟩
def IOMMU_VX_E0_SECURE : Fld := ⟨R.IOMMU_VX_E0, 29, 29⟩
def IOMMU_VX_E0_ECC : Fld := ⟨R.IOMMU_VX_E0, 28, 28⟩
def IOMMU_VX_E0_STAGE : Fld := ⟨R.IOMMU_VX_E0, 27, 26⟩
def IOMMU_VX_E0_LEVEL : Fld := ⟨R.IOMMU_VX_E0, 25, 24⟩
def IOMMU_VX_E0_DID : Fld := ⟨R.IOMMU_VX_E0, 10, 0⟩
def IOMMU_VX_E1_ADDR_LO : Fld := ⟨R.IOMMU_VX_E1, 31, 0⟩
def IOMMU_VX_E2_FQ_IDX : Fld := ⟨R.IOMMU_VX_E2, 31, 16⟩
def IOMMU_VX_E2_ADDR_HI : Fld := ⟨R.IOMMU_VX_E2, 7, 0⟩
def IOMMU_VX_E3_BEAT : Fld := ⟨R.IOMMU_VX_E3, 31, 0⟩

end F

/-- The register families of block IOMMU. -/
def regsIOMMU : List Reg :=
  [R.IOMMU_VX_ID, R.IOMMU_VX_LOGWI, R.IOMMU_VX_LOGAI, R.IOMMU_VX_CNT, R.IOMMU_VX_E0, R.IOMMU_VX_E1,
   R.IOMMU_VX_E2, R.IOMMU_VX_E3]

/-- First and one-past-last family number of block IOMMU. -/
def idsIOMMU : Nat × Nat := (394, 402)

namespace R

/-- mfabricerr (R412). -/
def mfabricerr : Reg := ⟨402, 0x20000000000, [(8, 0x1000)],
  [⟨2, 0, .ro⟩], fun _ => 0⟩
/-- sfabricerr (R412). -/
def sfabricerr : Reg := ⟨403, 0x20000000004, [(8, 0x1000)],
  [⟨2, 0, .ro⟩], fun _ => 0⟩
/-- spflush (R412). -/
def spflush : Reg := ⟨404, 0x20000000008, [(8, 0x1000)],
  [⟨1, 1, .wo⟩, ⟨0, 0, .wo⟩], fun _ => 0⟩
/-- mkzctl (R412). -/
def mkzctl : Reg := ⟨405, 0x2000000000C, [(8, 0x1000)],
  [⟨31, 16, .rw⟩, ⟨0, 0, .rw⟩], fun _ => 0⟩
/-- mcacheerr_LO (R412). -/
def mcacheerr_LO : Reg := ⟨406, 0x20000000010, [(8, 0x1000)],
  [⟨31, 16, .ro⟩, ⟨15, 8, .ro⟩], fun _ => 0⟩
/-- mcacheerr_HI (R412). -/
def mcacheerr_HI : Reg := ⟨407, 0x20000000014, [(8, 0x1000)],
  [⟨31, 0, .rw⟩], fun _ => 0⟩

end R

namespace F

def mfabricerr_CODE : Fld := ⟨R.mfabricerr, 2, 0⟩
def sfabricerr_CODE : Fld := ⟨R.sfabricerr, 2, 0⟩
def spflush_PF : Fld := ⟨R.spflush, 1, 1⟩
def spflush_BP : Fld := ⟨R.spflush, 0, 0⟩
def mkzctl_CE_THR : Fld := ⟨R.mkzctl, 31, 16⟩
def mkzctl_AUTO_FLUSH : Fld := ⟨R.mkzctl, 0, 0⟩
def mcacheerr_LO_UE_CNT : Fld := ⟨R.mcacheerr_LO, 31, 16⟩
def mcacheerr_LO_UE_LVL : Fld := ⟨R.mcacheerr_LO, 15, 8⟩
def mcacheerr_HI_CE_CNT : Fld := ⟨R.mcacheerr_HI, 31, 0⟩

end F

/-- The register families of block CSR. -/
def regsCSR : List Reg :=
  [R.mfabricerr, R.sfabricerr, R.spflush, R.mkzctl, R.mcacheerr_LO, R.mcacheerr_HI]

/-- First and one-past-last family number of block CSR. -/
def idsCSR : Nat × Nat := (402, 408)

end Sys2Proof.Machine
end

