-- ==== Sys2Proof/Machine/RegMapC.lean ====
section
/-!
DEFINITION. The register map: one `Reg` per register family of the spec's register tables
and one `Fld` per field (namespaces `R` and `F`).  Written from the tables of spec/; each family
names its table's rule.  A family with several units or entries is indexed by one flat index
(first dimension outermost).
-/

namespace Sys2Proof.Machine


namespace R

/-- VEMGR_ID (R436). -/
def VEMGR_ID : Reg := ⟨408, 0x10600000, [],
  [⟨31, 16, .ro⟩, ⟨15, 0, .ro⟩], fun _ => 0x7e0600b1⟩
/-- VEMGR_MODID_LO (R436). -/
def VEMGR_MODID_LO : Reg := ⟨409, 0x10600008, [],
  [⟨31, 0, .ro⟩], fun _ => 0⟩
/-- VEMGR_MODID_HI (R436). -/
def VEMGR_MODID_HI : Reg := ⟨410, 0x1060000C, [],
  [⟨31, 0, .ro⟩], fun _ => 0⟩
/-- VEMGR_MGRCFG (R436). -/
def VEMGR_MGRCFG : Reg := ⟨411, 0x10600010, [(4, 0x4)],
  [⟨31, 31, .rwl⟩, ⟨3, 0, .rwl⟩], fun _ => 0⟩
/-- VEMGR_NOVE (R436). -/
def VEMGR_NOVE : Reg := ⟨412, 0x10600020, [(3, 0x4)],
  [⟨31, 0, .ro⟩], fun _ => 0⟩
/-- VEMGR_VEASSIGN (R436). -/
def VEMGR_VEASSIGN : Reg := ⟨413, 0x10601000, [(1024, 0x4)],
  [⟨31, 31, .rwl⟩, ⟨30, 30, .rwl⟩, ⟨29, 28, .rwl⟩, ⟨27, 24, .rwl⟩], fun _ => 0⟩
/-- MGR_CMD (R436). -/
def MGR_CMD : Reg := ⟨414, 0x10602000, [(4, 0x1000)],
  [⟨31, 31, .w1s⟩, ⟨27, 24, .rw⟩, ⟨9, 0, .rw⟩], fun _ => 0⟩
/-- MGR_ARG (R436). -/
def MGR_ARG : Reg := ⟨415, 0x10602004, [(4, 0x1000), (3, 0x4)],
  [⟨31, 0, .rw⟩], fun _ => 0⟩
/-- MGR_RES (R436). -/
def MGR_RES : Reg := ⟨416, 0x10602014, [(4, 0x1000)],
  [⟨31, 31, .w1c⟩, ⟨7, 0, .ro⟩], fun _ => 0⟩
/-- MGR_IE (R436). -/
def MGR_IE : Reg := ⟨417, 0x10602018, [(4, 0x1000)],
  [⟨1, 1, .rw⟩, ⟨0, 0, .rw⟩], fun _ => 0⟩
/-- MGR_SUM (R436). -/
def MGR_SUM : Reg := ⟨418, 0x1060201C, [(4, 0x1000)],
  [⟨31, 31, .ro⟩, ⟨30, 30, .ro⟩], fun _ => 0⟩
/-- MGR_DBPEND (R436). -/
def MGR_DBPEND : Reg := ⟨419, 0x10602100, [(4, 0x1000), (32, 0x4)],
  [⟨31, 0, .w1c⟩], fun _ => 0⟩
/-- MGR_STPEND (R436). -/
def MGR_STPEND : Reg := ⟨420, 0x10602200, [(4, 0x1000), (32, 0x4)],
  [⟨31, 0, .w1c⟩], fun _ => 0⟩

end R

namespace F

def VEMGR_ID_BLOCK : Fld := ⟨R.VEMGR_ID, 31, 16⟩
def VEMGR_ID_VERSION : Fld := ⟨R.VEMGR_ID, 15, 0⟩
def VEMGR_MODID_LO_W : Fld := ⟨R.VEMGR_MODID_LO, 31, 0⟩
def VEMGR_MODID_HI_W : Fld := ⟨R.VEMGR_MODID_HI, 31, 0⟩
def VEMGR_MGRCFG_VALID : Fld := ⟨R.VEMGR_MGRCFG, 31, 31⟩
def VEMGR_MGRCFG_PART : Fld := ⟨R.VEMGR_MGRCFG, 3, 0⟩
def VEMGR_NOVE_CNT : Fld := ⟨R.VEMGR_NOVE, 31, 0⟩
def VEMGR_VEASSIGN_VALID : Fld := ⟨R.VEMGR_VEASSIGN, 31, 31⟩
def VEMGR_VEASSIGN_SECURE : Fld := ⟨R.VEMGR_VEASSIGN, 30, 30⟩
def VEMGR_VEASSIGN_MGR : Fld := ⟨R.VEMGR_VEASSIGN, 29, 28⟩
def VEMGR_VEASSIGN_PART : Fld := ⟨R.VEMGR_VEASSIGN, 27, 24⟩
def MGR_CMD_GO : Fld := ⟨R.MGR_CMD, 31, 31⟩
def MGR_CMD_OP : Fld := ⟨R.MGR_CMD, 27, 24⟩
def MGR_CMD_VE : Fld := ⟨R.MGR_CMD, 9, 0⟩
def MGR_ARG_ARG : Fld := ⟨R.MGR_ARG, 31, 0⟩
def MGR_RES_DONE : Fld := ⟨R.MGR_RES, 31, 31⟩
def MGR_RES_RESULT : Fld := ⟨R.MGR_RES, 7, 0⟩
def MGR_IE_DB_IE : Fld := ⟨R.MGR_IE, 1, 1⟩
def MGR_IE_ST_IE : Fld := ⟨R.MGR_IE, 0, 0⟩
def MGR_SUM_DB_ANY : Fld := ⟨R.MGR_SUM, 31, 31⟩
def MGR_SUM_ST_ANY : Fld := ⟨R.MGR_SUM, 30, 30⟩
def MGR_DBPEND_PEND : Fld := ⟨R.MGR_DBPEND, 31, 0⟩
def MGR_STPEND_PEND : Fld := ⟨R.MGR_STPEND, 31, 0⟩

end F

/-- The register families of block VEMGR. -/
def regsVEMGR : List Reg :=
  [R.VEMGR_ID, R.VEMGR_MODID_LO, R.VEMGR_MODID_HI, R.VEMGR_MGRCFG, R.VEMGR_NOVE, R.VEMGR_VEASSIGN,
   R.MGR_CMD, R.MGR_ARG, R.MGR_RES, R.MGR_IE, R.MGR_SUM, R.MGR_DBPEND,
   R.MGR_STPEND]

/-- First and one-past-last family number of block VEMGR. -/
def idsVEMGR : Nat × Nat := (408, 421)

namespace R

/-- VE_ID (R437). -/
def VE_ID : Reg := ⟨421, 0x30000000, [(1024, 0x1000)],
  [⟨31, 24, .ro⟩, ⟨23, 16, .ro⟩, ⟨15, 10, .ro⟩, ⟨9, 0, .ro⟩], fun i => 50176 + i * 1⟩
/-- VE_STAT (R437). -/
def VE_STAT : Reg := ⟨422, 0x30000004, [(1024, 0x1000)],
  [⟨31, 29, .ro⟩, ⟨28, 25, .ro⟩, ⟨24, 23, .ro⟩], fun _ => 0⟩
/-- VE_EVT (R437). -/
def VE_EVT : Reg := ⟨423, 0x30000008, [(1024, 0x1000)],
  [⟨7, 0, .w1c⟩], fun _ => 0⟩
/-- VE_VMAP (R437). -/
def VE_VMAP : Reg := ⟨424, 0x3000000C, [(1024, 0x1000)],
  [⟨31, 0, .rw⟩], fun _ => 0⟩
/-- VE_ERR (R437). -/
def VE_ERR : Reg := ⟨425, 0x30000010, [(1024, 0x1000)],
  [⟨31, 31, .w1c⟩, ⟨30, 28, .ro⟩, ⟨27, 25, .ro⟩, ⟨24, 24, .w1c⟩, ⟨23, 23, .w1c⟩, ⟨22, 22, .ro⟩], fun _ => 0⟩
/-- VE_ERR_ADDR_LO (R437). -/
def VE_ERR_ADDR_LO : Reg := ⟨426, 0x30000018, [(1024, 0x1000)],
  [⟨31, 0, .ro⟩], fun _ => 0⟩
/-- VE_ERR_ADDR_HI (R437). -/
def VE_ERR_ADDR_HI : Reg := ⟨427, 0x3000001C, [(1024, 0x1000)],
  [⟨31, 0, .ro⟩], fun _ => 0⟩
/-- VE_CMDRES (R437). -/
def VE_CMDRES : Reg := ⟨428, 0x30000020, [(1024, 0x1000)],
  [⟨31, 24, .ro⟩, ⟨23, 16, .ro⟩], fun _ => 0⟩
/-- VE_LASTNBI_LO (R437). -/
def VE_LASTNBI_LO : Reg := ⟨429, 0x30000028, [(1024, 0x1000)],
  [⟨31, 0, .ro⟩], fun _ => 0⟩
/-- VE_LASTNBI_HI (R437). -/
def VE_LASTNBI_HI : Reg := ⟨430, 0x3000002C, [(1024, 0x1000)],
  [⟨31, 0, .ro⟩], fun _ => 0⟩
/-- VE_QRES (R437). -/
def VE_QRES : Reg := ⟨431, 0x30000030, [(1024, 0x1000), (4, 0x4)],
  [⟨31, 0, .ro⟩], fun _ => 0⟩
/-- MBX_CFG (R437). -/
def MBX_CFG : Reg := ⟨432, 0x30000040, [(1024, 0x1000)],
  [⟨15, 8, .rw⟩, ⟨7, 0, .rw⟩], fun _ => 0x404⟩
/-- MBX_UP_WI (R437). -/
def MBX_UP_WI : Reg := ⟨433, 0x30000044, [(1024, 0x1000)],
  [⟨15, 0, .rw⟩], fun _ => 0⟩
/-- MBX_UP_AI (R437). -/
def MBX_UP_AI : Reg := ⟨434, 0x30000048, [(1024, 0x1000)],
  [⟨15, 0, .rw⟩], fun _ => 0⟩
/-- MBX_DN_WI (R437). -/
def MBX_DN_WI : Reg := ⟨435, 0x3000004C, [(1024, 0x1000)],
  [⟨15, 0, .rw⟩], fun _ => 0⟩
/-- MBX_DN_AI (R437). -/
def MBX_DN_AI : Reg := ⟨436, 0x30000050, [(1024, 0x1000)],
  [⟨15, 0, .rw⟩], fun _ => 0⟩
/-- MBX_UP_BASE_LO (R437). -/
def MBX_UP_BASE_LO : Reg := ⟨437, 0x30000058, [(1024, 0x1000)],
  [⟨31, 0, .rw⟩], fun _ => 0⟩
/-- MBX_UP_BASE_HI (R437). -/
def MBX_UP_BASE_HI : Reg := ⟨438, 0x3000005C, [(1024, 0x1000)],
  [⟨31, 0, .rw⟩], fun _ => 0⟩
/-- MBX_DN_BASE_LO (R437). -/
def MBX_DN_BASE_LO : Reg := ⟨439, 0x30000060, [(1024, 0x1000)],
  [⟨31, 0, .rw⟩], fun _ => 0⟩
/-- MBX_DN_BASE_HI (R437). -/
def MBX_DN_BASE_HI : Reg := ⟨440, 0x30000064, [(1024, 0x1000)],
  [⟨31, 0, .rw⟩], fun _ => 0⟩
/-- VEC_ADDR_LO (R437). -/
def VEC_ADDR_LO : Reg := ⟨441, 0x30000100, [(1024, 0x1000), (8, 0x10)],
  [⟨31, 0, .rw⟩], fun _ => 0⟩
/-- VEC_ADDR_HI (R437). -/
def VEC_ADDR_HI : Reg := ⟨442, 0x30000104, [(1024, 0x1000), (8, 0x10)],
  [⟨31, 0, .rw⟩], fun _ => 0⟩
/-- VEC_DATA (R437). -/
def VEC_DATA : Reg := ⟨443, 0x30000108, [(1024, 0x1000), (8, 0x10)],
  [⟨31, 0, .rw⟩], fun _ => 0⟩
/-- VEC_CTRL (R437). -/
def VEC_CTRL : Reg := ⟨444, 0x3000010C, [(1024, 0x1000), (8, 0x10)],
  [⟨31, 31, .rw⟩, ⟨30, 30, .ro⟩], fun _ => 0x80000000⟩

end R

namespace F

def VE_ID_TYPE : Fld := ⟨R.VE_ID, 31, 24⟩
def VE_ID_SUBTYPE : Fld := ⟨R.VE_ID, 23, 16⟩
def VE_ID_VERSION : Fld := ⟨R.VE_ID, 15, 10⟩
def VE_ID_VE : Fld := ⟨R.VE_ID, 9, 0⟩
def VE_STAT_STATE : Fld := ⟨R.VE_STAT, 31, 29⟩
def VE_STAT_PART : Fld := ⟨R.VE_STAT, 28, 25⟩
def VE_STAT_MGR : Fld := ⟨R.VE_STAT, 24, 23⟩
def VE_EVT_EVT : Fld := ⟨R.VE_EVT, 7, 0⟩
def VE_VMAP_MAP : Fld := ⟨R.VE_VMAP, 31, 0⟩
def VE_ERR_VALID : Fld := ⟨R.VE_ERR, 31, 31⟩
def VE_ERR_CODE : Fld := ⟨R.VE_ERR, 30, 28⟩
def VE_ERR_SRC : Fld := ⟨R.VE_ERR, 27, 25⟩
def VE_ERR_IDX_ERR : Fld := ⟨R.VE_ERR, 24, 24⟩
def VE_ERR_WSTATE : Fld := ⟨R.VE_ERR, 23, 23⟩
def VE_ERR_AUDIT : Fld := ⟨R.VE_ERR, 22, 22⟩
def VE_ERR_ADDR_LO_W : Fld := ⟨R.VE_ERR_ADDR_LO, 31, 0⟩
def VE_ERR_ADDR_HI_W : Fld := ⟨R.VE_ERR_ADDR_HI, 31, 0⟩
def VE_CMDRES_OP : Fld := ⟨R.VE_CMDRES, 31, 24⟩
def VE_CMDRES_RESULT : Fld := ⟨R.VE_CMDRES, 23, 16⟩
def VE_LASTNBI_LO_W : Fld := ⟨R.VE_LASTNBI_LO, 31, 0⟩
def VE_LASTNBI_HI_W : Fld := ⟨R.VE_LASTNBI_HI, 31, 0⟩
def VE_QRES_CNT : Fld := ⟨R.VE_QRES, 31, 0⟩
def MBX_CFG_DN_LOG2 : Fld := ⟨R.MBX_CFG, 15, 8⟩
def MBX_CFG_UP_LOG2 : Fld := ⟨R.MBX_CFG, 7, 0⟩
def MBX_UP_WI_IDX : Fld := ⟨R.MBX_UP_WI, 15, 0⟩
def MBX_UP_AI_IDX : Fld := ⟨R.MBX_UP_AI, 15, 0⟩
def MBX_DN_WI_IDX : Fld := ⟨R.MBX_DN_WI, 15, 0⟩
def MBX_DN_AI_IDX : Fld := ⟨R.MBX_DN_AI, 15, 0⟩
def MBX_UP_BASE_LO_W : Fld := ⟨R.MBX_UP_BASE_LO, 31, 0⟩
def MBX_UP_BASE_HI_W : Fld := ⟨R.MBX_UP_BASE_HI, 31, 0⟩
def MBX_DN_BASE_LO_W : Fld := ⟨R.MBX_DN_BASE_LO, 31, 0⟩
def MBX_DN_BASE_HI_W : Fld := ⟨R.MBX_DN_BASE_HI, 31, 0⟩
def VEC_ADDR_LO_W : Fld := ⟨R.VEC_ADDR_LO, 31, 0⟩
def VEC_ADDR_HI_W : Fld := ⟨R.VEC_ADDR_HI, 31, 0⟩
def VEC_DATA_DATA : Fld := ⟨R.VEC_DATA, 31, 0⟩
def VEC_CTRL_MASK : Fld := ⟨R.VEC_CTRL, 31, 31⟩
def VEC_CTRL_PEND : Fld := ⟨R.VEC_CTRL, 30, 30⟩

end F

/-- The register families of block VE. -/
def regsVE : List Reg :=
  [R.VE_ID, R.VE_STAT, R.VE_EVT, R.VE_VMAP, R.VE_ERR, R.VE_ERR_ADDR_LO,
   R.VE_ERR_ADDR_HI, R.VE_CMDRES, R.VE_LASTNBI_LO, R.VE_LASTNBI_HI, R.VE_QRES, R.MBX_CFG,
   R.MBX_UP_WI, R.MBX_UP_AI, R.MBX_DN_WI, R.MBX_DN_AI, R.MBX_UP_BASE_LO, R.MBX_UP_BASE_HI,
   R.MBX_DN_BASE_LO, R.MBX_DN_BASE_HI, R.VEC_ADDR_LO, R.VEC_ADDR_HI, R.VEC_DATA, R.VEC_CTRL]

/-- First and one-past-last family number of block VE. -/
def idsVE : Nat × Nat := (421, 445)

namespace R

/-- ETH_BIND (R437). -/
def ETH_BIND : Reg := ⟨445, 0x30000400, [(1024, 0x1000)],
  [⟨31, 31, .rw⟩, ⟨4, 0, .rw⟩], fun _ => 0x80000014⟩
/-- ETH_FLT0 (R437). -/
def ETH_FLT0 : Reg := ⟨446, 0x30000408, [(1024, 0x1000), (8, 0x8)],
  [⟨31, 0, .rw⟩], fun _ => 0⟩
/-- ETH_FLT1 (R437). -/
def ETH_FLT1 : Reg := ⟨447, 0x3000040C, [(1024, 0x1000), (8, 0x8)],
  [⟨31, 31, .rw⟩, ⟨27, 16, .rw⟩, ⟨15, 0, .rw⟩], fun _ => 0xfff0000⟩
/-- ETH_TX_BASE_LO (R437). -/
def ETH_TX_BASE_LO : Reg := ⟨448, 0x30000800, [(1024, 0x1000)],
  [⟨31, 0, .rw⟩], fun _ => 0⟩
/-- ETH_TX_BASE_HI (R437). -/
def ETH_TX_BASE_HI : Reg := ⟨449, 0x30000804, [(1024, 0x1000)],
  [⟨31, 0, .rw⟩], fun _ => 0⟩
/-- ETH_TX_CFG (R437). -/
def ETH_TX_CFG : Reg := ⟨450, 0x30000808, [(1024, 0x1000)],
  [⟨3, 0, .rw⟩], fun _ => 6⟩
/-- ETH_TXC_BASE_LO (R437). -/
def ETH_TXC_BASE_LO : Reg := ⟨451, 0x30000820, [(1024, 0x1000)],
  [⟨31, 0, .rw⟩], fun _ => 0⟩
/-- ETH_TXC_BASE_HI (R437). -/
def ETH_TXC_BASE_HI : Reg := ⟨452, 0x30000824, [(1024, 0x1000)],
  [⟨31, 0, .rw⟩], fun _ => 0⟩
/-- ETH_TXC_CFG (R437). -/
def ETH_TXC_CFG : Reg := ⟨453, 0x30000828, [(1024, 0x1000)],
  [⟨3, 0, .rw⟩], fun _ => 6⟩
/-- ETH_RX_BASE_LO (R437). -/
def ETH_RX_BASE_LO : Reg := ⟨454, 0x30000840, [(1024, 0x1000)],
  [⟨31, 0, .rw⟩], fun _ => 0⟩
/-- ETH_RX_BASE_HI (R437). -/
def ETH_RX_BASE_HI : Reg := ⟨455, 0x30000844, [(1024, 0x1000)],
  [⟨31, 0, .rw⟩], fun _ => 0⟩
/-- ETH_RX_CFG (R437). -/
def ETH_RX_CFG : Reg := ⟨456, 0x30000848, [(1024, 0x1000)],
  [⟨3, 0, .rw⟩], fun _ => 6⟩
/-- ETH_TX_TAIL (R437). -/
def ETH_TX_TAIL : Reg := ⟨457, 0x3000080C, [(1024, 0x1000)],
  [⟨15, 0, .rw⟩], fun _ => 0⟩
/-- ETH_RX_TAIL (R437). -/
def ETH_RX_TAIL : Reg := ⟨458, 0x3000084C, [(1024, 0x1000)],
  [⟨15, 0, .rw⟩], fun _ => 0⟩
/-- ETH_TX_HEAD (R437). -/
def ETH_TX_HEAD : Reg := ⟨459, 0x30000810, [(1024, 0x1000)],
  [⟨15, 0, .ro⟩], fun _ => 0⟩
/-- ETH_RX_HEAD (R437). -/
def ETH_RX_HEAD : Reg := ⟨460, 0x30000850, [(1024, 0x1000)],
  [⟨15, 0, .ro⟩], fun _ => 0⟩
/-- ETH_TXC_WI (R437). -/
def ETH_TXC_WI : Reg := ⟨461, 0x3000082C, [(1024, 0x1000)],
  [⟨15, 0, .ro⟩], fun _ => 0⟩
/-- ETH_TXC_AI (R437). -/
def ETH_TXC_AI : Reg := ⟨462, 0x30000830, [(1024, 0x1000)],
  [⟨15, 0, .rw⟩], fun _ => 0⟩
/-- ETH_CNT (R437). -/
def ETH_CNT : Reg := ⟨463, 0x30000860, [(1024, 0x1000), (8, 0x4)],
  [⟨31, 0, .ro⟩], fun _ => 0⟩

end R

namespace F

def ETH_BIND_BCAST : Fld := ⟨R.ETH_BIND, 31, 31⟩
def ETH_BIND_PORT : Fld := ⟨R.ETH_BIND, 4, 0⟩
def ETH_FLT0_MAC_LO : Fld := ⟨R.ETH_FLT0, 31, 0⟩
def ETH_FLT1_VALID : Fld := ⟨R.ETH_FLT1, 31, 31⟩
def ETH_FLT1_VID : Fld := ⟨R.ETH_FLT1, 27, 16⟩
def ETH_FLT1_MAC_HI : Fld := ⟨R.ETH_FLT1, 15, 0⟩
def ETH_TX_BASE_LO_W : Fld := ⟨R.ETH_TX_BASE_LO, 31, 0⟩
def ETH_TX_BASE_HI_W : Fld := ⟨R.ETH_TX_BASE_HI, 31, 0⟩
def ETH_TX_CFG_LOG2 : Fld := ⟨R.ETH_TX_CFG, 3, 0⟩
def ETH_TXC_BASE_LO_W : Fld := ⟨R.ETH_TXC_BASE_LO, 31, 0⟩
def ETH_TXC_BASE_HI_W : Fld := ⟨R.ETH_TXC_BASE_HI, 31, 0⟩
def ETH_TXC_CFG_LOG2 : Fld := ⟨R.ETH_TXC_CFG, 3, 0⟩
def ETH_RX_BASE_LO_W : Fld := ⟨R.ETH_RX_BASE_LO, 31, 0⟩
def ETH_RX_BASE_HI_W : Fld := ⟨R.ETH_RX_BASE_HI, 31, 0⟩
def ETH_RX_CFG_LOG2 : Fld := ⟨R.ETH_RX_CFG, 3, 0⟩
def ETH_TX_TAIL_TAIL : Fld := ⟨R.ETH_TX_TAIL, 15, 0⟩
def ETH_RX_TAIL_TAIL : Fld := ⟨R.ETH_RX_TAIL, 15, 0⟩
def ETH_TX_HEAD_HEAD : Fld := ⟨R.ETH_TX_HEAD, 15, 0⟩
def ETH_RX_HEAD_HEAD : Fld := ⟨R.ETH_RX_HEAD, 15, 0⟩
def ETH_TXC_WI_WI : Fld := ⟨R.ETH_TXC_WI, 15, 0⟩
def ETH_TXC_AI_AI : Fld := ⟨R.ETH_TXC_AI, 15, 0⟩
def ETH_CNT_CNT : Fld := ⟨R.ETH_CNT, 31, 0⟩

end F

/-- The register families of block VE_ETH. -/
def regsVE_ETH : List Reg :=
  [R.ETH_BIND, R.ETH_FLT0, R.ETH_FLT1, R.ETH_TX_BASE_LO, R.ETH_TX_BASE_HI, R.ETH_TX_CFG,
   R.ETH_TXC_BASE_LO, R.ETH_TXC_BASE_HI, R.ETH_TXC_CFG, R.ETH_RX_BASE_LO, R.ETH_RX_BASE_HI, R.ETH_RX_CFG,
   R.ETH_TX_TAIL, R.ETH_RX_TAIL, R.ETH_TX_HEAD, R.ETH_RX_HEAD, R.ETH_TXC_WI, R.ETH_TXC_AI,
   R.ETH_CNT]

/-- First and one-past-last family number of block VE_ETH. -/
def idsVE_ETH : Nat × Nat := (445, 464)

namespace R

/-- CANV_BIND (R437). -/
def CANV_BIND : Reg := ⟨464, 0x30000400, [(1024, 0x1000)],
  [⟨19, 16, .rw⟩, ⟨14, 12, .rw⟩, ⟨4, 0, .rw⟩], fun _ => 0x14⟩
/-- CANV_STREAM_LO (R437). -/
def CANV_STREAM_LO : Reg := ⟨465, 0x30000408, [(1024, 0x1000)],
  [⟨31, 0, .rw⟩], fun _ => 0⟩
/-- CANV_STREAM_HI (R437). -/
def CANV_STREAM_HI : Reg := ⟨466, 0x3000040C, [(1024, 0x1000)],
  [⟨31, 0, .rw⟩], fun _ => 0⟩
/-- CANV_TUN_DMAC_LO (R437). -/
def CANV_TUN_DMAC_LO : Reg := ⟨467, 0x30000410, [(1024, 0x1000)],
  [⟨31, 0, .rw⟩], fun _ => 0⟩
/-- CANV_TUN_DMAC_HI (R437). -/
def CANV_TUN_DMAC_HI : Reg := ⟨468, 0x30000414, [(1024, 0x1000)],
  [⟨31, 0, .rw⟩], fun _ => 0⟩
/-- CANV_TUN_TAG (R437). -/
def CANV_TUN_TAG : Reg := ⟨469, 0x30000418, [(1024, 0x1000)],
  [⟨14, 12, .rw⟩, ⟨11, 0, .rw⟩], fun _ => 1⟩
/-- CAN1_RXBASE_LO (R437). -/
def CAN1_RXBASE_LO : Reg := ⟨470, 0x30000800, [(1024, 0x1000)],
  [⟨31, 0, .rw⟩], fun _ => 0⟩
/-- CAN1_RXBASE_HI (R437). -/
def CAN1_RXBASE_HI : Reg := ⟨471, 0x30000804, [(1024, 0x1000)],
  [⟨31, 0, .rw⟩], fun _ => 0⟩
/-- CAN1_TXBASE_LO (R437). -/
def CAN1_TXBASE_LO : Reg := ⟨472, 0x30000808, [(1024, 0x1000)],
  [⟨31, 0, .rw⟩], fun _ => 0⟩
/-- CAN1_TXBASE_HI (R437). -/
def CAN1_TXBASE_HI : Reg := ⟨473, 0x3000080C, [(1024, 0x1000)],
  [⟨31, 0, .rw⟩], fun _ => 0⟩
/-- CAN1_CQBASE_LO (R437). -/
def CAN1_CQBASE_LO : Reg := ⟨474, 0x30000810, [(1024, 0x1000)],
  [⟨31, 0, .rw⟩], fun _ => 0⟩
/-- CAN1_CQBASE_HI (R437). -/
def CAN1_CQBASE_HI : Reg := ⟨475, 0x30000814, [(1024, 0x1000)],
  [⟨31, 0, .rw⟩], fun _ => 0⟩
/-- CAN1_RXWI (R437). -/
def CAN1_RXWI : Reg := ⟨476, 0x30000818, [(1024, 0x1000)],
  [⟨8, 8, .ro⟩, ⟨7, 0, .ro⟩], fun _ => 0⟩
/-- CAN1_RXAI (R437). -/
def CAN1_RXAI : Reg := ⟨477, 0x3000081C, [(1024, 0x1000)],
  [⟨7, 0, .rw⟩], fun _ => 0⟩
/-- CAN1_CQWI (R437). -/
def CAN1_CQWI : Reg := ⟨478, 0x30000820, [(1024, 0x1000)],
  [⟨8, 8, .ro⟩, ⟨7, 0, .ro⟩], fun _ => 0⟩
/-- CAN1_CQAI (R437). -/
def CAN1_CQAI : Reg := ⟨479, 0x30000824, [(1024, 0x1000)],
  [⟨7, 0, .rw⟩], fun _ => 0⟩
/-- CAN1_TXSUB (R437). -/
def CAN1_TXSUB : Reg := ⟨480, 0x30000828, [(1024, 0x1000)],
  [⟨5, 0, .wo⟩], fun _ => 0⟩
/-- CAN1_TXABORT (R437). -/
def CAN1_TXABORT : Reg := ⟨481, 0x3000082C, [(1024, 0x1000)],
  [⟨5, 0, .wo⟩], fun _ => 0⟩

end R

namespace F

def CANV_BIND_CTRL : Fld := ⟨R.CANV_BIND, 19, 16⟩
def CANV_BIND_SLOT : Fld := ⟨R.CANV_BIND, 14, 12⟩
def CANV_BIND_PORT : Fld := ⟨R.CANV_BIND, 4, 0⟩
def CANV_STREAM_LO_W : Fld := ⟨R.CANV_STREAM_LO, 31, 0⟩
def CANV_STREAM_HI_W : Fld := ⟨R.CANV_STREAM_HI, 31, 0⟩
def CANV_TUN_DMAC_LO_W : Fld := ⟨R.CANV_TUN_DMAC_LO, 31, 0⟩
def CANV_TUN_DMAC_HI_W : Fld := ⟨R.CANV_TUN_DMAC_HI, 31, 0⟩
def CANV_TUN_TAG_PCP : Fld := ⟨R.CANV_TUN_TAG, 14, 12⟩
def CANV_TUN_TAG_VID : Fld := ⟨R.CANV_TUN_TAG, 11, 0⟩
def CAN1_RXBASE_LO_W : Fld := ⟨R.CAN1_RXBASE_LO, 31, 0⟩
def CAN1_RXBASE_HI_W : Fld := ⟨R.CAN1_RXBASE_HI, 31, 0⟩
def CAN1_TXBASE_LO_W : Fld := ⟨R.CAN1_TXBASE_LO, 31, 0⟩
def CAN1_TXBASE_HI_W : Fld := ⟨R.CAN1_TXBASE_HI, 31, 0⟩
def CAN1_CQBASE_LO_W : Fld := ⟨R.CAN1_CQBASE_LO, 31, 0⟩
def CAN1_CQBASE_HI_W : Fld := ⟨R.CAN1_CQBASE_HI, 31, 0⟩
def CAN1_RXWI_FULL : Fld := ⟨R.CAN1_RXWI, 8, 8⟩
def CAN1_RXWI_WI : Fld := ⟨R.CAN1_RXWI, 7, 0⟩
def CAN1_RXAI_AI : Fld := ⟨R.CAN1_RXAI, 7, 0⟩
def CAN1_CQWI_FULL : Fld := ⟨R.CAN1_CQWI, 8, 8⟩
def CAN1_CQWI_WI : Fld := ⟨R.CAN1_CQWI, 7, 0⟩
def CAN1_CQAI_AI : Fld := ⟨R.CAN1_CQAI, 7, 0⟩
def CAN1_TXSUB_ENTRY : Fld := ⟨R.CAN1_TXSUB, 5, 0⟩
def CAN1_TXABORT_ENTRY : Fld := ⟨R.CAN1_TXABORT, 5, 0⟩

end F

/-- The register families of block VE_CAN. -/
def regsVE_CAN : List Reg :=
  [R.CANV_BIND, R.CANV_STREAM_LO, R.CANV_STREAM_HI, R.CANV_TUN_DMAC_LO, R.CANV_TUN_DMAC_HI, R.CANV_TUN_TAG,
   R.CAN1_RXBASE_LO, R.CAN1_RXBASE_HI, R.CAN1_TXBASE_LO, R.CAN1_TXBASE_HI, R.CAN1_CQBASE_LO, R.CAN1_CQBASE_HI,
   R.CAN1_RXWI, R.CAN1_RXAI, R.CAN1_CQWI, R.CAN1_CQAI, R.CAN1_TXSUB, R.CAN1_TXABORT]

/-- First and one-past-last family number of block VE_CAN. -/
def idsVE_CAN : Nat × Nat := (464, 482)

namespace R

/-- LINV_BIND (R437). -/
def LINV_BIND : Reg := ⟨482, 0x30000400, [(1024, 0x1000)],
  [⟨3, 0, .rw⟩], fun _ => 0⟩

end R

namespace F

def LINV_BIND_CH : Fld := ⟨R.LINV_BIND, 3, 0⟩

end F

/-- The register families of block VE_LIN. -/
def regsVE_LIN : List Reg :=
  [R.LINV_BIND]

/-- First and one-past-last family number of block VE_LIN. -/
def idsVE_LIN : Nat × Nat := (482, 483)

namespace R

/-- IOG_IN_MASK (R437). -/
def IOG_IN_MASK : Reg := ⟨483, 0x30000400, [(1024, 0x1000), (3, 0x4)],
  [⟨31, 0, .rw⟩], fun _ => 0⟩
/-- IOG_OUT (R437). -/
def IOG_OUT : Reg := ⟨484, 0x30000410, [(1024, 0x1000), (16, 0x4)],
  [⟨31, 31, .rw⟩, ⟨29, 28, .rw⟩, ⟨5, 0, .rw⟩], fun _ => 0⟩
/-- IOG_IN (R437). -/
def IOG_IN : Reg := ⟨485, 0x30000800, [(1024, 0x1000), (3, 0x4)],
  [⟨31, 0, .ro⟩], fun _ => 0⟩
/-- IOG_EDGE (R437). -/
def IOG_EDGE : Reg := ⟨486, 0x30000810, [(1024, 0x1000), (3, 0x4)],
  [⟨31, 0, .w1c⟩], fun _ => 0⟩
/-- IOG_OUTVAL (R437). -/
def IOG_OUTVAL : Reg := ⟨487, 0x30000840, [(1024, 0x1000), (16, 0x4)],
  [⟨11, 0, .rw⟩], fun _ => 0⟩

end R

namespace F

def IOG_IN_MASK_MASK : Fld := ⟨R.IOG_IN_MASK, 31, 0⟩
def IOG_OUT_VALID : Fld := ⟨R.IOG_OUT, 31, 31⟩
def IOG_OUT_KIND : Fld := ⟨R.IOG_OUT, 29, 28⟩
def IOG_OUT_INDEX : Fld := ⟨R.IOG_OUT, 5, 0⟩
def IOG_IN_STATE : Fld := ⟨R.IOG_IN, 31, 0⟩
def IOG_EDGE_EDGE : Fld := ⟨R.IOG_EDGE, 31, 0⟩
def IOG_OUTVAL_VALUE : Fld := ⟨R.IOG_OUTVAL, 11, 0⟩

end F

/-- The register families of block VE_IOG. -/
def regsVE_IOG : List Reg :=
  [R.IOG_IN_MASK, R.IOG_OUT, R.IOG_IN, R.IOG_EDGE, R.IOG_OUTVAL]

/-- First and one-past-last family number of block VE_IOG. -/
def idsVE_IOG : Nat × Nat := (483, 488)

namespace R

/-- PWG_CH (R437). -/
def PWG_CH : Reg := ⟨488, 0x30000400, [(1024, 0x1000), (16, 0x4)],
  [⟨31, 31, .rw⟩, ⟨6, 0, .rw⟩], fun _ => 0⟩
/-- PWG_CFG (R437). -/
def PWG_CFG : Reg := ⟨489, 0x30000440, [(1024, 0x1000)],
  [⟨17, 16, .rw⟩, ⟨15, 0, .rw⟩], fun _ => 0x20000⟩
/-- PWG_CMD (R437). -/
def PWG_CMD : Reg := ⟨490, 0x30000800, [(1024, 0x1000), (16, 0x4)],
  [⟨9, 0, .rw⟩], fun _ => 0⟩
/-- PWG_KICK (R437). -/
def PWG_KICK : Reg := ⟨491, 0x30000840, [(1024, 0x1000)],
  [⟨0, 0, .w1s⟩], fun _ => 0⟩

end R

namespace F

def PWG_CH_VALID : Fld := ⟨R.PWG_CH, 31, 31⟩
def PWG_CH_CH : Fld := ⟨R.PWG_CH, 6, 0⟩
def PWG_CFG_QCMD : Fld := ⟨R.PWG_CFG, 17, 16⟩
def PWG_CFG_KICK_BEATS : Fld := ⟨R.PWG_CFG, 15, 0⟩
def PWG_CMD_V : Fld := ⟨R.PWG_CMD, 9, 0⟩
def PWG_KICK_KICK : Fld := ⟨R.PWG_KICK, 0, 0⟩

end F

/-- The register families of block VE_PWG. -/
def regsVE_PWG : List Reg :=
  [R.PWG_CH, R.PWG_CFG, R.PWG_CMD, R.PWG_KICK]

/-- First and one-past-last family number of block VE_PWG. -/
def idsVE_PWG : Nat × Nat := (488, 492)

namespace R

/-- TMR_CFG (R437). -/
def TMR_CFG : Reg := ⟨492, 0x30000400, [(1024, 0x1000)],
  [⟨31, 16, .rw⟩, ⟨15, 0, .rw⟩], fun _ => 0⟩
/-- TMR_NBI_LO (R437). -/
def TMR_NBI_LO : Reg := ⟨493, 0x30000800, [(1024, 0x1000)],
  [⟨31, 0, .ro⟩], fun _ => 0⟩
/-- TMR_NBI_HI (R437). -/
def TMR_NBI_HI : Reg := ⟨494, 0x30000804, [(1024, 0x1000)],
  [⟨31, 0, .ro⟩], fun _ => 0⟩

end R

namespace F

def TMR_CFG_PHASE : Fld := ⟨R.TMR_CFG, 31, 16⟩
def TMR_CFG_PERIOD : Fld := ⟨R.TMR_CFG, 15, 0⟩
def TMR_NBI_LO_W : Fld := ⟨R.TMR_NBI_LO, 31, 0⟩
def TMR_NBI_HI_W : Fld := ⟨R.TMR_NBI_HI, 31, 0⟩

end F

/-- The register families of block VE_TMR. -/
def regsVE_TMR : List Reg :=
  [R.TMR_CFG, R.TMR_NBI_LO, R.TMR_NBI_HI]

/-- First and one-past-last family number of block VE_TMR. -/
def idsVE_TMR : Nat × Nat := (492, 495)

namespace R

/-- CRY_REQ_BASE_LO (R437). -/
def CRY_REQ_BASE_LO : Reg := ⟨495, 0x30000800, [(1024, 0x1000)],
  [⟨31, 0, .rw⟩], fun _ => 0⟩
/-- CRY_REQ_BASE_HI (R437). -/
def CRY_REQ_BASE_HI : Reg := ⟨496, 0x30000804, [(1024, 0x1000)],
  [⟨31, 0, .rw⟩], fun _ => 0⟩
/-- CRY_CPL_BASE_LO (R437). -/
def CRY_CPL_BASE_LO : Reg := ⟨497, 0x30000808, [(1024, 0x1000)],
  [⟨31, 0, .rw⟩], fun _ => 0⟩
/-- CRY_CPL_BASE_HI (R437). -/
def CRY_CPL_BASE_HI : Reg := ⟨498, 0x3000080C, [(1024, 0x1000)],
  [⟨31, 0, .rw⟩], fun _ => 0⟩
/-- CRY_CFG (R437). -/
def CRY_CFG : Reg := ⟨499, 0x30000810, [(1024, 0x1000)],
  [⟨7, 4, .rw⟩, ⟨3, 0, .rw⟩], fun _ => 0x44⟩
/-- CRY_REQ_TAIL (R437). -/
def CRY_REQ_TAIL : Reg := ⟨500, 0x30000814, [(1024, 0x1000)],
  [⟨15, 0, .rw⟩], fun _ => 0⟩
/-- CRY_REQ_HEAD (R437). -/
def CRY_REQ_HEAD : Reg := ⟨501, 0x30000818, [(1024, 0x1000)],
  [⟨15, 0, .ro⟩], fun _ => 0⟩
/-- CRY_CPL_WI (R437). -/
def CRY_CPL_WI : Reg := ⟨502, 0x3000081C, [(1024, 0x1000)],
  [⟨15, 0, .ro⟩], fun _ => 0⟩
/-- CRY_CPL_AI (R437). -/
def CRY_CPL_AI : Reg := ⟨503, 0x30000820, [(1024, 0x1000)],
  [⟨15, 0, .rw⟩], fun _ => 0⟩

end R

namespace F

def CRY_REQ_BASE_LO_W : Fld := ⟨R.CRY_REQ_BASE_LO, 31, 0⟩
def CRY_REQ_BASE_HI_W : Fld := ⟨R.CRY_REQ_BASE_HI, 31, 0⟩
def CRY_CPL_BASE_LO_W : Fld := ⟨R.CRY_CPL_BASE_LO, 31, 0⟩
def CRY_CPL_BASE_HI_W : Fld := ⟨R.CRY_CPL_BASE_HI, 31, 0⟩
def CRY_CFG_CPL_LOG2 : Fld := ⟨R.CRY_CFG, 7, 4⟩
def CRY_CFG_REQ_LOG2 : Fld := ⟨R.CRY_CFG, 3, 0⟩
def CRY_REQ_TAIL_IDX : Fld := ⟨R.CRY_REQ_TAIL, 15, 0⟩
def CRY_REQ_HEAD_IDX : Fld := ⟨R.CRY_REQ_HEAD, 15, 0⟩
def CRY_CPL_WI_IDX : Fld := ⟨R.CRY_CPL_WI, 15, 0⟩
def CRY_CPL_AI_IDX : Fld := ⟨R.CRY_CPL_AI, 15, 0⟩

end F

/-- The register families of block VE_CRY. -/
def regsVE_CRY : List Reg :=
  [R.CRY_REQ_BASE_LO, R.CRY_REQ_BASE_HI, R.CRY_CPL_BASE_LO, R.CRY_CPL_BASE_HI, R.CRY_CFG, R.CRY_REQ_TAIL,
   R.CRY_REQ_HEAD, R.CRY_CPL_WI, R.CRY_CPL_AI]

/-- First and one-past-last family number of block VE_CRY. -/
def idsVE_CRY : Nat × Nat := (495, 504)

namespace R

/-- BSEC_ID (R467). -/
def BSEC_ID : Reg := ⟨504, 0x10700000, [],
  [⟨31, 16, .ro⟩, ⟨15, 0, .ro⟩], fun _ => 0xbe1f00b1⟩
/-- BSEC_LC (R467). -/
def BSEC_LC : Reg := ⟨505, 0x10700004, [],
  [⟨31, 31, .ro⟩, ⟨30, 28, .ro⟩, ⟨2, 0, .ro⟩], fun _ => 0⟩
/-- BSEC_LOCK (R467). -/
def BSEC_LOCK : Reg := ⟨506, 0x10700008, [],
  [⟨31, 31, .rws⟩, ⟨30, 30, .rws⟩], fun _ => 0⟩
/-- BSEC_SSRAM_WM (R467). -/
def BSEC_SSRAM_WM : Reg := ⟨507, 0x10700010, [],
  [⟨7, 0, .rws⟩], fun _ => 0⟩
/-- BSEC_DRAM_WM (R467). -/
def BSEC_DRAM_WM : Reg := ⟨508, 0x10700014, [],
  [⟨13, 0, .rws⟩], fun _ => 0⟩
/-- BSEC_ASG_SEL (R467). -/
def BSEC_ASG_SEL : Reg := ⟨509, 0x10700020, [],
  [⟨20, 16, .rws⟩, ⟨11, 0, .rws⟩], fun _ => 0⟩
/-- BSEC_ASG_DATA (R467). -/
def BSEC_ASG_DATA : Reg := ⟨510, 0x10700024, [],
  [⟨31, 28, .rws⟩, ⟨27, 24, .rws⟩, ⟨23, 20, .rws⟩, ⟨19, 16, .rws⟩, ⟨15, 12, .rws⟩, ⟨11, 8, .rws⟩, ⟨7, 4, .rws⟩, ⟨3, 0, .rws⟩], fun _ => 0xffffffff⟩
/-- BSEC_DENY0 (R467). -/
def BSEC_DENY0 : Reg := ⟨511, 0x10700028, [],
  [⟨31, 31, .w1c⟩, ⟨30, 30, .ro⟩, ⟨29, 26, .ro⟩, ⟨10, 0, .ro⟩], fun _ => 0⟩
/-- BSEC_DENY1 (R467). -/
def BSEC_DENY1 : Reg := ⟨512, 0x1070002C, [],
  [⟨31, 0, .ro⟩], fun _ => 0⟩
/-- BSEC_DENY2 (R467). -/
def BSEC_DENY2 : Reg := ⟨513, 0x10700030, [],
  [⟨31, 16, .ro⟩, ⟨7, 0, .ro⟩], fun _ => 0⟩
/-- BSEC_PARTCFG (R467). -/
def BSEC_PARTCFG : Reg := ⟨514, 0x10700040, [(16, 0x4)],
  [⟨31, 31, .rws⟩, ⟨30, 30, .rws⟩, ⟨29, 29, .rws⟩, ⟨28, 27, .rws⟩], fun _ => 0⟩
/-- BSEC_VMIDMAP (R467). -/
def BSEC_VMIDMAP : Reg := ⟨515, 0x10700080, [(16, 0x4)],
  [⟨31, 28, .rws⟩, ⟨27, 14, .rws⟩, ⟨13, 0, .rws⟩], fun _ => 0xf0000000⟩
/-- BSEC_DEBUG (R467). -/
def BSEC_DEBUG : Reg := ⟨516, 0x107000C0, [],
  [⟨3, 0, .ro⟩], fun _ => 0xF⟩
/-- BDBG_CTRL (R467). -/
def BDBG_CTRL : Reg := ⟨517, 0x107000C4, [],
  [⟨31, 31, .w1s⟩, ⟨29, 16, .rw⟩, ⟨3, 0, .wo⟩], fun _ => 0⟩
/-- BDBG_STAT (R467). -/
def BDBG_STAT : Reg := ⟨518, 0x107000C8, [],
  [⟨31, 31, .w1c⟩, ⟨30, 30, .ro⟩, ⟨23, 16, .ro⟩, ⟨15, 0, .ro⟩], fun _ => 0⟩
/-- BDBG_CHAL (R467). -/
def BDBG_CHAL : Reg := ⟨519, 0x107000D0, [(4, 0x4)],
  [⟨31, 0, .ro⟩], fun _ => 0⟩
/-- BWDG_CTRL (R467). -/
def BWDG_CTRL : Reg := ⟨520, 0x10700100, [],
  [⟨15, 0, .rws⟩], fun _ => 1000⟩
/-- BWDG_STAT (R467). -/
def BWDG_STAT : Reg := ⟨521, 0x10700104, [],
  [⟨15, 0, .ro⟩], fun _ => 1000⟩
/-- BWDG_KICK (R467). -/
def BWDG_KICK : Reg := ⟨522, 0x10700108, [],
  [⟨31, 0, .wo⟩], fun _ => 0⟩
/-- BRNG_STAT (R467). -/
def BRNG_STAT : Reg := ⟨523, 0x10700110, [],
  [⟨31, 30, .ro⟩, ⟨29, 28, .ro⟩, ⟨15, 0, .ro⟩], fun _ => 0⟩
/-- BSEC_SCAN (R467). -/
def BSEC_SCAN : Reg := ⟨524, 0x10700120, [],
  [⟨31, 31, .ro⟩, ⟨30, 30, .ro⟩], fun _ => 0⟩
/-- BDBG_BUF (R467). -/
def BDBG_BUF : Reg := ⟨525, 0x10700200, [(128, 0x4)],
  [⟨31, 0, .rw⟩], fun _ => 0⟩
/-- BSEC_PMEM0 (R467). -/
def BSEC_PMEM0 : Reg := ⟨526, 0x10700400, [(16, 0x20), (4, 0x8)],
  [⟨31, 8, .rws⟩], fun _ => 0⟩
/-- BSEC_PMEM1 (R467). -/
def BSEC_PMEM1 : Reg := ⟨527, 0x10700404, [(16, 0x20), (4, 0x8)],
  [⟨31, 31, .rws⟩, ⟨23, 0, .rws⟩], fun _ => 0⟩
/-- BMBX_CTRL (R467). -/
def BMBX_CTRL : Reg := ⟨528, 0x10701000, [(16, 0x100)],
  [⟨31, 31, .w1s⟩, ⟨30, 30, .rw⟩], fun _ => 0⟩
/-- BMBX_STAT (R467). -/
def BMBX_STAT : Reg := ⟨529, 0x10701004, [(16, 0x100)],
  [⟨31, 31, .w1c⟩, ⟨30, 30, .ro⟩, ⟨15, 0, .ro⟩], fun _ => 0⟩
/-- BMBX_REQ (R467). -/
def BMBX_REQ : Reg := ⟨530, 0x10701040, [(16, 0x100), (16, 0x4)],
  [⟨31, 0, .rw⟩], fun _ => 0⟩
/-- BMBX_RPL (R467). -/
def BMBX_RPL : Reg := ⟨531, 0x10701080, [(16, 0x100), (16, 0x4)],
  [⟨31, 0, .ro⟩], fun _ => 0⟩

end R

namespace F

def BSEC_ID_BLOCK : Fld := ⟨R.BSEC_ID, 31, 16⟩
def BSEC_ID_VERSION : Fld := ⟨R.BSEC_ID, 15, 0⟩
def BSEC_LC_PENDING : Fld := ⟨R.BSEC_LC, 31, 31⟩
def BSEC_LC_PEND_STATE : Fld := ⟨R.BSEC_LC, 30, 28⟩
def BSEC_LC_STATE : Fld := ⟨R.BSEC_LC, 2, 0⟩
def BSEC_LOCK_ASG : Fld := ⟨R.BSEC_LOCK, 31, 31⟩
def BSEC_LOCK_BOOT : Fld := ⟨R.BSEC_LOCK, 30, 30⟩
def BSEC_SSRAM_WM_WM : Fld := ⟨R.BSEC_SSRAM_WM, 7, 0⟩
def BSEC_DRAM_WM_WM : Fld := ⟨R.BSEC_DRAM_WM, 13, 0⟩
def BSEC_ASG_SEL_CLASS : Fld := ⟨R.BSEC_ASG_SEL, 20, 16⟩
def BSEC_ASG_SEL_INDEX : Fld := ⟨R.BSEC_ASG_SEL, 11, 0⟩
def BSEC_ASG_DATA_PART7 : Fld := ⟨R.BSEC_ASG_DATA, 31, 28⟩
def BSEC_ASG_DATA_PART6 : Fld := ⟨R.BSEC_ASG_DATA, 27, 24⟩
def BSEC_ASG_DATA_PART5 : Fld := ⟨R.BSEC_ASG_DATA, 23, 20⟩
def BSEC_ASG_DATA_PART4 : Fld := ⟨R.BSEC_ASG_DATA, 19, 16⟩
def BSEC_ASG_DATA_PART3 : Fld := ⟨R.BSEC_ASG_DATA, 15, 12⟩
def BSEC_ASG_DATA_PART2 : Fld := ⟨R.BSEC_ASG_DATA, 11, 8⟩
def BSEC_ASG_DATA_PART1 : Fld := ⟨R.BSEC_ASG_DATA, 7, 4⟩
def BSEC_ASG_DATA_PART0 : Fld := ⟨R.BSEC_ASG_DATA, 3, 0⟩
def BSEC_DENY0_VALID : Fld := ⟨R.BSEC_DENY0, 31, 31⟩
def BSEC_DENY0_WM : Fld := ⟨R.BSEC_DENY0, 30, 30⟩
def BSEC_DENY0_PART : Fld := ⟨R.BSEC_DENY0, 29, 26⟩
def BSEC_DENY0_INIT : Fld := ⟨R.BSEC_DENY0, 10, 0⟩
def BSEC_DENY1_ADDR_LO : Fld := ⟨R.BSEC_DENY1, 31, 0⟩
def BSEC_DENY2_CNT : Fld := ⟨R.BSEC_DENY2, 31, 16⟩
def BSEC_DENY2_ADDR_HI : Fld := ⟨R.BSEC_DENY2, 7, 0⟩
def BSEC_PARTCFG_VALID : Fld := ⟨R.BSEC_PARTCFG, 31, 31⟩
def BSEC_PARTCFG_SECURE : Fld := ⟨R.BSEC_PARTCFG, 30, 30⟩
def BSEC_PARTCFG_MANAGER : Fld := ⟨R.BSEC_PARTCFG, 29, 29⟩
def BSEC_PARTCFG_KIND : Fld := ⟨R.BSEC_PARTCFG, 28, 27⟩
def BSEC_VMIDMAP_PART : Fld := ⟨R.BSEC_VMIDMAP, 31, 28⟩
def BSEC_VMIDMAP_HI : Fld := ⟨R.BSEC_VMIDMAP, 27, 14⟩
def BSEC_VMIDMAP_LO : Fld := ⟨R.BSEC_VMIDMAP, 13, 0⟩
def BSEC_DEBUG_EN : Fld := ⟨R.BSEC_DEBUG, 3, 0⟩
def BDBG_CTRL_SUBMIT : Fld := ⟨R.BDBG_CTRL, 31, 31⟩
def BDBG_CTRL_CHUNK : Fld := ⟨R.BDBG_CTRL, 29, 16⟩
def BDBG_CTRL_CLOSE : Fld := ⟨R.BDBG_CTRL, 3, 0⟩
def BDBG_STAT_DONE : Fld := ⟨R.BDBG_STAT, 31, 31⟩
def BDBG_STAT_BUSY : Fld := ⟨R.BDBG_STAT, 30, 30⟩
def BDBG_STAT_RESULT : Fld := ⟨R.BDBG_STAT, 23, 16⟩
def BDBG_STAT_REFUSALS : Fld := ⟨R.BDBG_STAT, 15, 0⟩
def BDBG_CHAL_CHAL : Fld := ⟨R.BDBG_CHAL, 31, 0⟩
def BWDG_CTRL_TMO : Fld := ⟨R.BWDG_CTRL, 15, 0⟩
def BWDG_STAT_REM : Fld := ⟨R.BWDG_STAT, 15, 0⟩
def BWDG_KICK_KICK : Fld := ⟨R.BWDG_KICK, 31, 0⟩
def BRNG_STAT_STATE : Fld := ⟨R.BRNG_STAT, 31, 30⟩
def BRNG_STAT_RESTARTS : Fld := ⟨R.BRNG_STAT, 29, 28⟩
def BRNG_STAT_HEALTH_FAILS : Fld := ⟨R.BRNG_STAT, 15, 0⟩
def BSEC_SCAN_CLEARED : Fld := ⟨R.BSEC_SCAN, 31, 31⟩
def BSEC_SCAN_ENABLED : Fld := ⟨R.BSEC_SCAN, 30, 30⟩
def BDBG_BUF_DATA : Fld := ⟨R.BDBG_BUF, 31, 0⟩
def BSEC_PMEM0_BASE : Fld := ⟨R.BSEC_PMEM0, 31, 8⟩
def BSEC_PMEM1_VALID : Fld := ⟨R.BSEC_PMEM1, 31, 31⟩
def BSEC_PMEM1_SIZE : Fld := ⟨R.BSEC_PMEM1, 23, 0⟩
def BMBX_CTRL_RING : Fld := ⟨R.BMBX_CTRL, 31, 31⟩
def BMBX_CTRL_IE : Fld := ⟨R.BMBX_CTRL, 30, 30⟩
def BMBX_STAT_DONE : Fld := ⟨R.BMBX_STAT, 31, 31⟩
def BMBX_STAT_BUSY : Fld := ⟨R.BMBX_STAT, 30, 30⟩
def BMBX_STAT_CALLS : Fld := ⟨R.BMBX_STAT, 15, 0⟩
def BMBX_REQ_DATA : Fld := ⟨R.BMBX_REQ, 31, 0⟩
def BMBX_RPL_DATA : Fld := ⟨R.BMBX_RPL, 31, 0⟩

end F

/-- The register families of block BELFRY. -/
def regsBELFRY : List Reg :=
  [R.BSEC_ID, R.BSEC_LC, R.BSEC_LOCK, R.BSEC_SSRAM_WM, R.BSEC_DRAM_WM, R.BSEC_ASG_SEL,
   R.BSEC_ASG_DATA, R.BSEC_DENY0, R.BSEC_DENY1, R.BSEC_DENY2, R.BSEC_PARTCFG, R.BSEC_VMIDMAP,
   R.BSEC_DEBUG, R.BDBG_CTRL, R.BDBG_STAT, R.BDBG_CHAL, R.BWDG_CTRL, R.BWDG_STAT,
   R.BWDG_KICK, R.BRNG_STAT, R.BSEC_SCAN, R.BDBG_BUF, R.BSEC_PMEM0, R.BSEC_PMEM1,
   R.BMBX_CTRL, R.BMBX_STAT, R.BMBX_REQ, R.BMBX_RPL]

/-- First and one-past-last family number of block BELFRY. -/
def idsBELFRY : Nat × Nat := (504, 532)

namespace R

/-- DICT_ID (R102). -/
def DICT_ID : Reg := ⟨532, 0x10800000, [],
  [⟨31, 16, .ro⟩, ⟨15, 0, .ro⟩], fun _ => 0xd1c700b1⟩
/-- DICT_STAT (R102). -/
def DICT_STAT : Reg := ⟨533, 0x10800004, [],
  [⟨31, 31, .ro⟩, ⟨30, 30, .ro⟩, ⟨14, 0, .ro⟩], fun _ => 0⟩
/-- DICT_MODE (R102). -/
def DICT_MODE : Reg := ⟨534, 0x10800010, [],
  [⟨31, 31, .ro⟩, ⟨23, 20, .ro⟩, ⟨19, 16, .ro⟩, ⟨15, 8, .ro⟩, ⟨3, 0, .ro⟩], fun _ => 0xff000f⟩
/-- DICT_SLOT (R102). -/
def DICT_SLOT : Reg := ⟨535, 0x10800020, [],
  [⟨31, 31, .w1s⟩, ⟨24, 24, .ro⟩, ⟨23, 21, .ro⟩, ⟨20, 18, .ro⟩, ⟨15, 0, .ro⟩], fun _ => 0⟩
/-- DICT_CNT_AUTH (R102). -/
def DICT_CNT_AUTH : Reg := ⟨536, 0x10800030, [],
  [⟨31, 0, .ro⟩], fun _ => 0⟩
/-- DICT_CNT_REPLAY (R102). -/
def DICT_CNT_REPLAY : Reg := ⟨537, 0x10800034, [],
  [⟨31, 0, .ro⟩], fun _ => 0⟩
/-- DICT_CNT_DROP (R102). -/
def DICT_CNT_DROP : Reg := ⟨538, 0x10800038, [],
  [⟨31, 0, .ro⟩], fun _ => 0⟩
/-- DICT_WCMD (R102). -/
def DICT_WCMD : Reg := ⟨539, 0x10801000, [(16, 0x800)],
  [⟨31, 31, .w1s⟩, ⟨23, 16, .rw⟩, ⟨15, 0, .rw⟩], fun _ => 0⟩
/-- DICT_WOBJ (R102). -/
def DICT_WOBJ : Reg := ⟨540, 0x10801004, [(16, 0x800)],
  [⟨23, 0, .rw⟩], fun _ => 0⟩
/-- DICT_WSTAT (R102). -/
def DICT_WSTAT : Reg := ⟨541, 0x10801008, [(16, 0x800)],
  [⟨31, 31, .w1c⟩, ⟨30, 30, .ro⟩, ⟨26, 16, .rw⟩, ⟨7, 0, .ro⟩], fun _ => 0⟩
/-- DICT_WIRQ (R102). -/
def DICT_WIRQ : Reg := ⟨542, 0x1080100C, [(16, 0x800)],
  [⟨0, 0, .rw⟩], fun _ => 0⟩
/-- DICT_WDATA (R102). -/
def DICT_WDATA : Reg := ⟨543, 0x10801400, [(16, 0x800), (256, 0x4)],
  [⟨31, 0, .rw⟩], fun _ => 0⟩

end R

namespace F

def DICT_ID_BLOCK : Fld := ⟨R.DICT_ID, 31, 16⟩
def DICT_ID_VERSION : Fld := ⟨R.DICT_ID, 15, 0⟩
def DICT_STAT_READY : Fld := ⟨R.DICT_STAT, 31, 31⟩
def DICT_STAT_BASE_VALID : Fld := ⟨R.DICT_STAT, 30, 30⟩
def DICT_STAT_OVL_VALID : Fld := ⟨R.DICT_STAT, 14, 0⟩
def DICT_MODE_PENDING : Fld := ⟨R.DICT_MODE, 31, 31⟩
def DICT_MODE_PEND_MODE : Fld := ⟨R.DICT_MODE, 23, 20⟩
def DICT_MODE_BOOT_MODE : Fld := ⟨R.DICT_MODE, 19, 16⟩
def DICT_MODE_CHG_CNT : Fld := ⟨R.DICT_MODE, 15, 8⟩
def DICT_MODE_MODE : Fld := ⟨R.DICT_MODE, 3, 0⟩
def DICT_SLOT_CONFIRM : Fld := ⟨R.DICT_SLOT, 31, 31⟩
def DICT_SLOT_ACTIVE : Fld := ⟨R.DICT_SLOT, 24, 24⟩
def DICT_SLOT_STATE_A : Fld := ⟨R.DICT_SLOT, 23, 21⟩
def DICT_SLOT_STATE_B : Fld := ⟨R.DICT_SLOT, 20, 18⟩
def DICT_SLOT_GEN : Fld := ⟨R.DICT_SLOT, 15, 0⟩
def DICT_CNT_AUTH_AUTH : Fld := ⟨R.DICT_CNT_AUTH, 31, 0⟩
def DICT_CNT_REPLAY_REPLAY : Fld := ⟨R.DICT_CNT_REPLAY, 31, 0⟩
def DICT_CNT_DROP_DROP : Fld := ⟨R.DICT_CNT_DROP, 31, 0⟩
def DICT_WCMD_GO : Fld := ⟨R.DICT_WCMD, 31, 31⟩
def DICT_WCMD_SVC : Fld := ⟨R.DICT_WCMD, 23, 16⟩
def DICT_WCMD_PARAM : Fld := ⟨R.DICT_WCMD, 15, 0⟩
def DICT_WOBJ_OBJ : Fld := ⟨R.DICT_WOBJ, 23, 0⟩
def DICT_WSTAT_DONE : Fld := ⟨R.DICT_WSTAT, 31, 31⟩
def DICT_WSTAT_BUSY : Fld := ⟨R.DICT_WSTAT, 30, 30⟩
def DICT_WSTAT_LEN : Fld := ⟨R.DICT_WSTAT, 26, 16⟩
def DICT_WSTAT_STATUS : Fld := ⟨R.DICT_WSTAT, 7, 0⟩
def DICT_WIRQ_IE : Fld := ⟨R.DICT_WIRQ, 0, 0⟩
def DICT_WDATA_DATA : Fld := ⟨R.DICT_WDATA, 31, 0⟩

end F

/-- The register families of block DICT. -/
def regsDICT : List Reg :=
  [R.DICT_ID, R.DICT_STAT, R.DICT_MODE, R.DICT_SLOT, R.DICT_CNT_AUTH, R.DICT_CNT_REPLAY,
   R.DICT_CNT_DROP, R.DICT_WCMD, R.DICT_WOBJ, R.DICT_WSTAT, R.DICT_WIRQ, R.DICT_WDATA]

/-- First and one-past-last family number of block DICT. -/
def idsDICT : Nat × Nat := (532, 544)

namespace R

/-- RESET_CAUSE (R532). -/
def RESET_CAUSE : Reg := ⟨544, 0x20000100000, [],
  [⟨31, 28, .ro⟩, ⟨27, 25, .ro⟩, ⟨24, 16, .ro⟩, ⟨15, 15, .ro⟩, ⟨14, 14, .ro⟩], fun _ => 0⟩

end R

namespace F

def RESET_CAUSE_TYPE : Fld := ⟨R.RESET_CAUSE, 31, 28⟩
def RESET_CAUSE_ORIGIN : Fld := ⟨R.RESET_CAUSE, 27, 25⟩
def RESET_CAUSE_SRC : Fld := ⟨R.RESET_CAUSE, 24, 16⟩
def RESET_CAUSE_BROWNOUT : Fld := ⟨R.RESET_CAUSE, 15, 15⟩
def RESET_CAUSE_STRAP_DIS : Fld := ⟨R.RESET_CAUSE, 14, 14⟩

end F

/-- The register families of block ISLAND. -/
def regsISLAND : List Reg :=
  [R.RESET_CAUSE]

/-- First and one-past-last family number of block ISLAND. -/
def idsISLAND : Nat × Nat := (544, 545)

end Sys2Proof.Machine
end

