-- ==== Sys2Proof/Machine/State.lean ====
section
/-!
DEFINITION. The machine's state as plain data, the ways a step can stop, and the state right after reset.
Register words live in `State.regs` (families in RegMapA, RegMapB and RegMapC); what no register shows
lives in one structure per chapter of the spec.
-/

namespace Sys2Proof.Machine

/-- A sparse register map: (family, index) pairs strictly rising in lexicographic order with their words; a
word that is not listed holds its reset value (R10). -/
abbrev RegMap := List ((Nat × Nat) × Word)

/-- Something that leaves the device, in the order in which it left. -/
inductive Out where
  /-- A Usest message to a UDP address and port (R78). -/
  | usest (addr port : Nat) (octets : List Nat)
  /-- A frame handed to the line of an Ethernet port: port, octets, stomped FCS. -/
  | frame (port : Nat) (octets : List Nat) (stomped : Bool)
  /-- A CAN frame transmitted by a controller: words of its header and its data octets. -/
  | can (ctrl : Nat) (hdr : List Nat) (data : List Nat)
  /-- A LIN response transmitted by a channel: identifier and octets. -/
  | lin (ch id : Nat) (data : List Nat)
  /-- A message-signalled interrupt: address and data. -/
  | msi (addr data : Nat)
  /-- An exception that a core takes, by its INIT: cause and trap value (R369, R391, R395). -/
  | trap (core cause tval : Nat)
  /-- The response that ends a read without its data: initiator, address and code of Table 1-4 (R22). -/
  | response (init addr code : Nat)
  /-- A pulse, level or wave on a pin, named by a number of the owning chapter. -/
  | pin (what index value : Nat)
  deriving DecidableEq, Repr

/-- One target port (R15, R25): the causes in force, the cause that placed it in FENCED, its count of
requests ended by TARGET_RESET, and whether FS106 was raised for this fence.  `shut` stays true from the entry
into FENCED until the block signals ready with no cause left. -/
structure PortSt where
  shut   : Bool
  causes : List Nat
  reason : Nat
  treset : Nat
  stuck  : Bool
  deriving DecidableEq, Repr

/-- A port after reset: open. -/
def PortSt.init : PortSt := ⟨false, [], 0, 0, false⟩

/-- The ports that lie behind the spine link while it is not UP: fenced for the link (R36, R483). -/
def linkShut : Tab PortSt := [(0x002, ⟨true, [5], 5, 0, false⟩), (0x004, ⟨true, [5], 5, 0, false⟩), (0x1006, ⟨true, [5], 5, 0, false⟩)]

/-- The fabric's state that no register shows (chapter 1). -/
structure FabSt where
  /-- Target ports by canonical port number. -/
  ports : Tab PortSt
  /-- Consecutive CRC failures of the flit in the buffer (R35). -/
  crcFails : Nat
  /-- Failed retrains in a row (R35). -/
  retrainFails : Nat
  /-- A flit has been received without a CRC error since the last retrain (R35). -/
  goodSince : Bool
  /-- Replays in the present beat (FS99). -/
  replaysBeat : Nat
  /-- The hold value copied to the H-die at the last link-up, in 100 µs steps (R37). -/
  holdInForce : Nat
  /-- Knell's hold timer runs (R36); SPINE_STAT.HOLDING shows it but after a reset of the FABRIC block (R43). -/
  holding : Bool
  /-- The H-die's functional blocks have been reset and have not restarted at a link-up. -/
  hdieReset : Bool
  /-- The H-die has left reset since. -/
  released : Bool
  /-- The H-die was reset otherwise than by power-on or RESET_CHIP, so that the channels restart under R162 and not under R163. -/
  restart : Bool
  deriving DecidableEq, Repr

/-- A publication slot (R55 to R58): its visible word, the value written in this beat, and the word the
far side of the spine link holds. -/
structure SlotSt where
  visible : Nat
  pendV   : Option Nat
  far     : Nat
  deriving DecidableEq, Repr

/-- A slot after reset (R59): visible word 0xFFFF_0000. -/
def SlotSt.init : SlotSt := ⟨0xFFFF0000, none, 0xFFFF0000⟩

/-- A twin-word consumer (R60 to R63). -/
structure ConsSt where
  vGood : Nat
  sLast : Nat
  bLast : Nat
  /-- Consecutive checks without a good word. -/
  held  : Nat
  /-- The reference state of R61. -/
  ref   : Bool
  /-- The safe action has been taken. -/
  safe  : Bool
  /-- The word of the last check was good. -/
  good  : Bool
  deriving DecidableEq, Repr

/-- A consumer after reset: in the reference state (R61). -/
def ConsSt.init : ConsSt := ⟨0, 0, 0, 0, true, false, false⟩

/-- Publication slots and their consumers (chapter 2). -/
structure TwinSt where
  slots : Tab SlotSt
  /-- Consumers by consumer number. -/
  cons  : Tab ConsSt
  /-- KN_GRPg.PROD as the BEAT block copied it at the boot lock (R59). -/
  knProd : Tab Nat
  deriving DecidableEq, Repr

/-- Where a dictionary request comes from: a DICT window (with whether Belfry wrote it), a UDP session (with its address and port, and the path back: the 16 octets of the
device's own address and the Ethernet header of a reply without its EtherType),
or a CAN peer slot. -/
inductive DSrc where
  | win (w : Nat) (belfry : Bool)
  | udp (addr port : Nat) (path : List Nat)
  | can (slot : Nat)
  deriving DecidableEq, Repr

/-- An accepted dictionary request (R75, Table 3-4). -/
structure DReq where
  src : DSrc
  /-- Session of a Usest request; 0 for a window. -/
  sess : Nat
  svc : Nat
  seq : Nat
  obj : Nat
  param : Nat
  data : List Nat
  deriving DecidableEq, Repr

/-- A request whose writes have not all reached their final status (R82): the status of each write by position, none where it
is open. -/
structure DOpen where
  id : Nat
  req : DReq
  objs : List Nat
  sts : List (Option Nat)
  deriving DecidableEq, Repr

/-- A staged NEXT_BEAT write (R76): object, value, boundaries to pass before its own, request and position. -/
structure DStaged where
  obj : Nat
  val : Nat
  skip : Nat
  id : Nat
  pos : Nat
  deriving DecidableEq, Repr

/-- A subscription (R88): boundaries until its next NOTIFY. -/
structure DSub where
  src : DSrc
  sess : Nat
  obj : Nat
  period : Nat
  left : Nat
  deriving DecidableEq, Repr

/-- A Usest session (R83, R84, R86): its 36 octets of key and salt, highest accepted sequence, which of the 64 up to it have
been accepted, and the next NOTIFY sequence. -/
structure DSess where
  key : List Nat
  hi : Nat
  seen : Nat
  note : Nat
  deriving DecidableEq, Repr

/-- A session at boot. -/
def DSess.init : DSess := ⟨[], 0, 0, 1⟩

/-- A validated overlay (R90): its records, ENTRY_RIGHTS and ENTRY_FROM. -/
structure DOvl where
  recs : List (Nat × Nat)
  rights : Nat
  from_ : Nat
  deriving DecidableEq, Repr

/-- An IMAGE_LOAD in progress (R92): kind, overlay number, slot and next chunk. -/
structure DLoad where
  kind : Nat
  num : Nat
  slot : Nat
  next : Nat
  deriving DecidableEq, Repr

/-- The dictionary engine (chapter 3). -/
structure DictSt where
  /-- Values of objects that no register holds, by object number. -/
  vals : Tab Nat
  /-- Accepted requests, oldest first (R75). -/
  queue : List DReq
  open_ : List DOpen
  nextId : Nat
  staged : List DStaged
  /-- The pending mode change (R96): target, boundaries to pass before its own, its request. -/
  pend : Option (Nat × Nat × Nat)
  /-- Values of the base image's records, and the valid overlays (R69). -/
  base : Tab (Option Nat)
  ovl : Tab (Option DOvl)
  /-- Overlays committed in this beat, which may be requested from the next one (R92). -/
  newOvl : List Nat
  subs : List DSub
  sess : Tab DSess
  /-- Partial CAN messages by peer slot: next segment index and octets (R79). -/
  part : Tab (Nat × List Nat)
  load : Option DLoad
  nonce : List Nat
  baseHash : List Nat
  baseSec : Nat
  /-- Mode changes since reset. -/
  changes : Nat
  /-- SPINE_HOLD of the base image, written at the first commit (R45). -/
  hold : Option Nat
  /-- The slot records in flash, kept through every reset (R91): state and generation of slots A and B. -/
  slotSt : Tab Nat
  slotGen : Tab Nat
  deriving DecidableEq, Repr

/-- The dictionary engine after reset, with the slot records that flash holds. -/
def DictSt.fresh (slotSt slotGen : Tab Nat) : DictSt :=
  ⟨[], [], [], 0, [], none, [], [], [], [], [], [], none, [], [], 0, 0, none, slotSt, slotGen⟩

/-- The dictionary engine at first power-up: no slot holds an image. -/
def DictSt.init : DictSt := DictSt.fresh [] []

/-- A Tabla engine (chapter 4). -/
structure EngSt where
  /-- The two table buffers, stroke by position; an unlisted position is empty. -/
  buf0 : Tab (Option Nat)
  buf1 : Tab (Option Nat)
  /-- The engine runs in this beat (R118). -/
  live : Bool
  /-- The active table has executed its END (R115). -/
  done : Bool
  /-- Flags C, SAT, INV and SAFE. -/
  c : Bool
  sat : Bool
  inv : Bool
  safe : Bool
  /-- Position of the next stroke, and the last one executed in this beat. -/
  pc : Nat
  last : Option Nat
  /-- WRO values issued and not yet applied, oldest first: class, index, value (R121). -/
  posts : List (Nat × Nat × Nat)
  /-- The library table being loaded (R126). -/
  load : Option Nat
  /-- The library table in the armed buffer, and in the active one. -/
  armLib : Option Nat
  actLib : Option Nat
  /-- Software has loaded strokes into the inactive buffer (R127). -/
  soft : Bool
  /-- The load waits for the boundary that applies a pending mode change (R126). -/
  hold : Bool
  /-- The selected table is reloaded at the next boundary (R128). -/
  reload : Bool
  /-- TABLA_SELn in force (R126). -/
  sel : Nat
  deriving DecidableEq, Repr

/-- An engine after reset: both buffers empty. -/
def EngSt.init : EngSt :=
  { buf0 := [], buf1 := [], live := false, done := false, c := false, sat := false, inv := false, safe := false,
    pc := 0, last := none, posts := [], load := none, armLib := none, actLib := none, soft := false, hold := false,
    reload := false, sel := 0xFF }

/-- Beat and Tabla engines (chapter 4). -/
structure TablaSt where
  eng : Tab EngSt
  /-- The table library: strokes of each table up to the last chunk present (R132). -/
  lib : Tab (List Nat)
  /-- The first boundary has occurred (R107). -/
  started : Bool
  /-- A step of network time has taken effect in this beat (R110). -/
  realigned : Bool
  /-- The local elapsed time at the write of BEAT_CTRL.EN, then at the start of the present beat (R107, R110). -/
  mark : Nat
  /-- The local elapsed time at the last step. -/
  stepAt : Nat
  deriving DecidableEq, Repr

/-- A power channel on the H-die (chapter 5).  `word` is the channel's own state in the layout of PWR_STATE, which
the K-die register mirrors while the spine link is UP (R162). -/
structure ChSt where
  word : Nat
  /-- The wire model's X in steps of 2^-16 A² (R146). -/
  x : Nat
  /-- Beats the channel has stayed in ON, or in FORCED_SAFE with the gate on (R152). -/
  onBeats : Nat
  /-- Consecutive good ON commands in ON (R152). -/
  goodOn : Nat
  /-- Consecutive beats with the current below OL_ON_I in ON (R158). -/
  olBeats : Nat
  /-- Values in force since the last evaluation: LVL, CEIL_I, TAU_TRIM and RETRY_MAX (R142, R152). -/
  lvl : Nat
  ceil : Nat
  trim : Nat
  retryMax : Nat
  /-- The last conversion on the H-die: current code and direction, V_OUT and V_DS codes. -/
  iCode : Nat
  iDir : Bool
  vout : Nat
  vds : Nat
  /-- Charge counted so far and as last latched, and the change over the beat just closed, in 2^-32 µC (R170, R171). -/
  acc : Nat
  lat : Nat
  dq : Nat
  /-- A_i of the last judged beat as charge, with its N (R179). -/
  lastQ : Nat
  lastN : Nat
  /-- PWR_POLICY, PWR_DIAG, PWR_FETF and PWR_IE as the last evaluation took them (R152). -/
  pol : Nat
  diag : Nat
  fetf : Nat
  ie : Nat
  /-- The channel was in ON or PRECHARGE at the last evaluation (R176). -/
  elig : Bool
  deriving DecidableEq, Repr

/-- A channel after reset: OFF with cause NOT_ENGAGED (R163). -/
def ChSt.init : ChSt := 
  ⟨0x10, 0, 0, 0, 0, 0x24E, 0x24E, 256, 0, 0, false, 0, 0, 0, 0, 0, 0, 0, 0xF3FF03FF, 0x100678A4, 0x17D00A4, 0, false⟩

/-- The five charge accumulators of a feed, in 2^-32 µC (R170). -/
structure Charges where
  qf : Nat
  qr : Nat
  chqf : Nat
  chqr : Nat
  qq : Nat
  deriving DecidableEq, Repr

/-- A feed (chapter 6). -/
structure FeedSt where
  acc : Charges
  lat : Charges
  /-- The changes over the beat just closed (step 2 of Table 4-1). -/
  d : Charges
  /-- Conversion intervals of the present beat, and of the beat just closed. -/
  n : Nat
  dn : Nat
  /-- The present beat, and the beat just closed, had an invalid feed conversion. -/
  badFeed : Bool
  dBadFeed : Bool
  /-- The same for a conversion of an accumulating channel. -/
  badCh : Bool
  dBadCh : Bool
  /-- The link was not UP in a part of the present beat, and of the beat just closed. -/
  gap : Bool
  dGap : Bool
  /-- Boundaries seen since the beat started: 0, or 1 and more (R171). -/
  bounds : Nat
  /-- Run of conversions above FAST_I (R179). -/
  run : Nat
  /-- The shed level the H-die's fast path holds, and the level before step 7 of the last boundary (R182). -/
  liveL : Nat
  lastL : Nat
  /-- Current-sense fault of the feed (R169). -/
  sense : Bool
  /-- The last imbalance, signed, in counts (R186). -/
  imb : Int
  deriving DecidableEq, Repr

/-- A feed after reset. -/
def FeedSt.init : FeedSt :=
  ⟨⟨0, 0, 0, 0, 0⟩, ⟨0, 0, 0, 0, 0⟩, ⟨0, 0, 0, 0, 0⟩, 0, 0, false, false, false, false, false, false, 0, 0, 8, 8, false, 0⟩

/-- Die temperatures in 0.125 °C and the state of their sensors and thresholds (R542). -/
structure TempSt where
  k : Int
  h : Int
  kFault : Bool
  hFault : Bool
  kWarn : Bool
  kLimit : Bool
  hWarn : Bool
  hLimit : Bool
  deriving DecidableEq, Repr

/-- An effect on the K-die of something the H-die's power logic did; it waits for link-up while the link is not UP. -/
inductive KEff where
  /-- A bit of PWR_STATUS of a channel. -/
  | status (ch bit : Nat)
  /-- Counter `k` of a channel. -/
  | cnt (ch k : Nat)
  /-- The beat of a channel's state change. -/
  | changed (ch beat : Nat)
  /-- The trip record of a channel. -/
  | trip (ch w0 w1 w2 w3 : Nat)
  /-- A condition of PWR_IE of a channel. -/
  | irq (ch bit : Nat)
  /-- A raise of a fault source with its record. -/
  | fault (n w0 w1 w2 w3 : Nat)
  /-- A bit of FEED_EVT of a feed. -/
  | feedEvt (f bit : Nat)
  /-- Counter `k` of a feed. -/
  | feedCnt (f k : Nat)
  /-- The shed level of a feed after a decrease, with its beat. -/
  | feedLvl (f lvl beat : Nat)
  /-- The estimate of a tier of a feed. -/
  | est (f tier code : Nat)
  /-- A platform interrupt. -/
  | int (n : Nat)
  deriving DecidableEq, Repr

/-- A multifunction input (R195, R196): the comparator's previous sample, how many samples in a row differ from the
debounced state, and whether the last conversion was above full scale. -/
structure MfiSt where
  samp : Bool
  run : Nat
  above : Bool
  boostEnd : Nat
  deriving DecidableEq, Repr

/-- An input after reset. -/
def MfiSt.init : MfiSt := ⟨false, 0, false, 0⟩

/-- A low-side output (R192, R203): the duty in force from its driver or held, overtemperature, and the local elapsed time before
which an on-phase that has ended does not restart. -/
structure LsoSt where
  out : Nat
  hot : Bool
  stop : Nat
  deriving DecidableEq, Repr

/-- An output after reset: off. -/
def LsoSt.init : LsoSt := ⟨0, false, 0⟩

/-- A PWM group (R202): the period in µs that runs until a local elapsed time, at which IOX_LSO_PWMg.PER takes effect. -/
structure PwmGrp where
  old : Nat
  start : Nat
  deriving DecidableEq, Repr

/-- A group after reset. -/
def PwmGrp.init : PwmGrp := ⟨1000, 0⟩

/-- A bridge (R205 to R210): the mode and duty in force or pending, consecutive limited periods, whether the current limit has ended
the on-phase of the running period, how many 10 ns ticks of it the samples at DUTY 0x3FF have covered, and the local
elapsed time at which Knell last forced it while a FET was driven on. -/
structure BrSt where
  mode : Nat
  duty : Nat
  limRun : Nat
  limited : Bool
  span : Nat
  forcedAt : Option Nat
  deriving DecidableEq, Repr

/-- A bridge after reset: coast. -/
def BrSt.init : BrSt := ⟨0, 0, 0, false, 0, none⟩

/-- A SENT receiver (R211 to R213): tick in ns that the previous frame's calibration pulse implied, whether a triggered frame is
under way, the local elapsed time of the last valid frame, and the status nibbles of the last valid frames in a row, at
most 18, the newest last. -/
structure SentSt where
  prevTick : Option Nat
  busy : Bool
  seen : Option Nat
  serial : List Nat
  deriving DecidableEq, Repr

/-- A receiver after reset. -/
def SentSt.init : SentSt := ⟨none, false, none, []⟩

/-- The I/O front ends' state that no register shows (chapter 7). -/
structure IoSt where
  mfi : Tab MfiSt
  lso : Tab LsoSt
  pwm : Tab PwmGrp
  br : Tab BrSt
  sent : Tab SentSt
  deriving DecidableEq, Repr

/-- A MACsec SA as a frame uses it (R274 to R276): SAK and salt (44 octets), SSCI and packet number, AN, the SCI where the SecTAG
carries it, and whether the frame is encrypted, from which octet after the addresses on. -/
structure MsecSa where
  key : List Nat
  ssci : Nat
  pn : Nat
  an : Nat
  sci : Option Nat
  conf : Bool
  ofs : Nat
  deriving DecidableEq, Repr

/-- A copy of a frame on its way to one egress port (R221, Table 8-3).  `st` is 0 in its VOQ, 1 in the egress queue,
2 in transmission; a resolved copy is no longer listed. -/
structure SwCopy where
  port : Nat
  st : Nat
  /-- Cut through (R240). -/
  cut : Bool
  /-- Cells that have crossed the crossbar. -/
  crossed : Nat
  /-- Charges held, by pool (R233). -/
  mins : Nat
  shared : Nat
  head : Nat
  /-- The gate of its class has been open at some instant since the first cell arrived (R242). -/
  opened : Bool
  /-- Order of entry into the egress queue. -/
  qseq : Nat
  /-- Network time at the start of transmission and the time spent in the device until then, in 2^-32 ns, with STEP_GEN and the last
  step as they are at that instant (R294, R297, R298). -/
  t0 : Nat
  dwell : Int
  g0 : Nat
  step0 : Int
  /-- The SA that protects the copy, where MACsec does (R275). -/
  sa : Option MsecSa
  /-- Cells that have gone to the endpoint of an internal port (R246). -/
  out : Nat
  deriving DecidableEq, Repr

/-- A frame in the shared buffer or still arriving. -/
structure SwFrame where
  ingress : Nat
  cls : Nat
  /-- Bytes received so far, FCS included. -/
  octets : List Nat
  /-- L of R220. -/
  len : Nat
  /-- Cells received, and the numbers of the cells that it holds in the shared buffer. -/
  cells : Nat
  held : List Nat
  ended : Bool
  vid : Nat
  pcp : Nat
  /-- Arrival time and unstepped count in 2^-32 ns, with STEP_GEN (R295). -/
  t : Nat
  mono : Nat
  gen : Nat
  origin : Option TxOrigin
  /-- Its SecTAG, the SA that deciphers it, and its octets as received (R276). -/
  sec : Option SecTag
  sa : Option MsecSa
  raw : List Nat
  /-- The port's own frame: a handover frame (R304). -/
  own : Bool
  /-- Recovery function and number held as tentative (R273). -/
  frer : Option (Nat × Nat)
  /-- R-TAG to insert: egress ports and number (R273). -/
  rtag : Option (Nat × Nat)
  copies : List SwCopy
  /-- Copies sent, and the drop of the lowest-numbered egress port (R231). -/
  sent : Nat
  drop : Option (Nat × Nat)
  /-- The end-of-frame checks failed (R241). -/
  bad : Bool
  deriving DecidableEq, Repr

/-- No frame. -/
def SwFrame.none : SwFrame :=
  ⟨0, 0, [], 0, 0, [], true, 0, 0, 0, 0, 0, Option.none, Option.none, Option.none, [], false, Option.none, Option.none, [], 0,
   Option.none, false⟩

/-- An entry of the forwarding database (R224): `hit` since the last scan, and the scans it has been idle for (R227). -/
structure FdbEnt where
  fid : Nat
  mac : Nat
  static : Bool
  hit : Bool
  ports : Nat
  idle : Nat
  deriving DecidableEq, Repr

/-- A frame that has reached the endpoint of an internal port: what ETH_RX_FRAME delivers (R428). -/
structure SwRx where
  octets : List Nat
  cells : Nat
  ingress : Nat
  cls : Nat
  t : Nat
  gen : Nat
  fcsErr : Bool
  /-- ETH and tunnelling VEs whose QUIESCE was accepted after the frame reached the endpoint (R434). -/
  due : List Nat
  deriving DecidableEq, Repr

/-- The switch core's state that no register shows (chapter 8). -/
structure SwSt where
  frames : Tab SwFrame
  /-- Number of the next frame. -/
  next : Nat
  /-- The frame that is arriving at a port, plus one; 0 for none. -/
  arriving : Tab Nat
  /-- MIN_USED by queue 8 e + c (R233). -/
  minUsed : Tab Nat
  /-- Allocations, releases and cells off the free list (R248), and the allocated bit of each cell (R247). -/
  allocs : Nat
  rels : Nat
  used : Nat
  taken : Tab Bool
  /-- An uncorrectable error has struck the link memory since the last audit (R248). -/
  struck : Bool
  fdb : Tab (Option FdbEnt)
  /-- Grant and accept pointers (R238). -/
  g : Tab Nat
  a : Tab Nat
  qseq : Nat
  /-- Frames at the endpoint of an internal port, oldest first. -/
  rxq : Tab (List SwRx)
  /-- Matched and passed frames by stream filter (R269). -/
  filtM : Tab Nat
  filtP : Tab Nat
  /-- FS259 and FS261 have been raised in this beat. -/
  said259 : Bool
  said261 : Bool
  deriving DecidableEq, Repr

/-- The switch after reset. -/
def SwSt.init : SwSt := ⟨[], 0, [], [], 0, 0, 0, [], false, [], [], [], 0, [], [], [], false, false⟩


/-- A gate control list with its cycle (R262, R263): entries as words of GATES and INTERVAL. -/
structure Gcl where
  beatLock : Bool
  cycleBeats : Nat
  cycleNs : Nat
  base : Nat
  list : List Nat
  deriving DecidableEq, Repr

/-- The list in force after reset: one entry with every gate open. -/
def Gcl.init : Gcl := ⟨true, 1, 0, 0, [0xFF000000]⟩

/-- A credit-based shaper (R266): credit in 2^-32 × 10^-6 bit, the unstepped count of its last update, and wire bits of
the transmission under way that have not been charged, in bit × 2^32 × 10^9. -/
structure CbsSt where
  credit : Int
  at_ : Nat
  txLeft : Option Nat
  deriving DecidableEq, Repr

/-- A shaper after reset. -/
def CbsSt.init : CbsSt := ⟨0, 0, none⟩

/-- A token bucket: tokens in 2^-32 × 10^-9 byte missing from the full bucket, and the unstepped count of its last update. -/
structure Bucket where
  missing : Nat
  at_ : Nat
  deriving DecidableEq, Repr

/-- A full bucket. -/
def Bucket.init : Bucket := ⟨0, 0⟩

/-- A port's state that no register shows (chapter 9). -/
structure EpSt where
  /-- The operating list, and the copy that waits for adoption with the boundaries and the unstepped count since its write. -/
  oper : Gcl
  pend : Option Gcl
  pendBeats : Nat
  pendAt : Nat
  /-- Start of the present cycle and end of the present entry in network ns (R262). -/
  cycleAt : Nat
  entryEnd : Nat
  /-- Gate states are kept until the next cycle start after a step (R265). -/
  hold : Bool
  cbs : Tab CbsSt
  pol : Tab Bucket
  /-- Transmit and receive SAs whose PN has reached the threshold or is exhausted (R275). -/
  thrSaid : List Nat
  exh : List Nat
  /-- Key-slot handle, SAK and salt loaded into an SA: 0 to 3 transmit, 4 + 4 s + a receive (R277). -/
  keys : Tab (Option (Nat × List Nat))
  /-- FS281 has been raised in this beat. -/
  said281 : Bool
  /-- CSMA/CD fallback of a PLCA node (R258). -/
  noBeacon : Bool
  deriving DecidableEq, Repr

/-- A port after reset. -/
def EpSt.init : EpSt :=
  ⟨Gcl.init, none, 0, 0, 0, 0, false, [], [], [], [], [], false, false⟩

/-- A stream gate (R270): the list in force since the last cycle start, the entry in force, its end in network ns, and the
start of the cycle. -/
structure SgSt where
  list : List Nat
  idx : Nat
  cycleAt : Nat
  entryEnd : Nat
  deriving DecidableEq, Repr

/-- A stream gate after reset: no cycle has started. -/
def SgSt.init : SgSt := ⟨[], 0, 0, 0⟩

/-- A recovery function (R272): history as a bit set with bit 0 for the last accepted number, whether the next number is
accepted whatever it is, resets counted, and whether FS278 has been raised in this beat. -/
structure FrerSt where
  hist : Nat
  any : Bool
  resets : Nat
  said : Bool
  deriving DecidableEq, Repr

/-- A recovery function after reset. -/
def FrerSt.init : FrerSt := ⟨0, true, 0, false⟩

/-- Ports and shared stream tables (chapter 9). -/
structure PortsSt where
  ep : Tab EpSt
  /-- Entries of the shared tables as 128-bit numbers, keyed 8192 × table + index (Table 9-6). -/
  tbl : Tab Nat
  sg : Tab SgSt
  /-- Committed and excess buckets of the flow meters (R271). -/
  mc : Tab Bucket
  me : Tab Bucket
  frer : Tab FrerSt
  deriving DecidableEq, Repr

/-- Ports after reset. -/
def PortsSt.init : PortsSt := ⟨[], [], [], [], [], []⟩


/-- A transmit time echo on its way to the VE that asked for it (R301): what its receive descriptor says, and its octets. -/
structure Echo where
  ve : Nat
  tag : Nat
  cls : Nat
  port : Nat
  gen : Nat
  t : Nat
  vid : Nat
  appended : Bool
  stomped : Bool
  octets : List Nat
  deriving DecidableEq, Repr

/-- Time-master handover on one backbone port (R305): COLLIDE sent for the present request, SEQ of the peer's request. -/
structure HoSt where
  collided : Bool
  peerSeq : Nat
  deriving DecidableEq, Repr

/-- A handover port after reset. -/
def HoSt.init : HoSt := ⟨false, 0⟩

/-- The time unit's state that no register shows (chapter 10). -/
structure TimeSt where
  /-- The counter has started (R288). -/
  run : Bool
  /-- Network time in 2^-32 ns. -/
  now : Nat
  /-- The unstepped internal count in 2^-32 ns (R297). -/
  mono : Nat
  /-- Steps written and not yet applied, oldest first, in 2^-32 ns (R291). -/
  steps : List Int
  /-- Fraction of the last step (R298). -/
  lastFrac : Nat
  /-- HOLDOVER entries counted (R293). -/
  entries : Nat
  /-- Nominal ns of the SPLL since the counters of R302 started. -/
  spll : Nat
  /-- Nominal ns for which the time clock has run (R107, R512). -/
  elapsed : Nat
  ho : Tab HoSt
  /-- Echoes in the path of an internal port, oldest first (R301). -/
  echo : Tab (List Echo)
  /-- FS355 has been raised in this beat (R300). -/
  said355 : Bool
  deriving DecidableEq, Repr

/-- The time unit after reset: the counter has not started. -/
def TimeSt.init : TimeSt := ⟨false, 0, 0, [], 0, 0, 0, 0, [], [], false⟩


/-- A submitted CAN frame (R320 to R322): its slot (8 for the dictionary engine) and transmit entry, words 0, 2 and 3 of its
header, its data once it is read, failed attempts, the SOF stamp of the last attempt, whether an abort waits for the end of
its attempt, and whether it is in transmission. -/
structure CanTx where
  slot : Nat
  entry : Nat
  w0 : Nat
  w2 : Nat
  w3 : Nat
  data : List Nat
  att : Nat
  ts : Nat
  abort : Bool
  tx : Bool
  deriving DecidableEq, Repr

/-- A CAN controller beyond its registers: submitted frames in the order of submission, frames received during a link loss
(R327), a MODE that the transceiver takes at link-up, and the sources raised in this beat. -/
structure CanSt where
  sub : List CanTx
  lost : Nat
  trxPend : Bool
  said322 : Bool
  said323 : Bool
  said324 : Bool
  deriving DecidableEq, Repr

/-- A controller after reset. -/
def CanSt.init : CanSt := ⟨[], 0, false, false, false, false⟩

/-- A slot beyond its registers (R322): transmit entries that do not belong to software as a bit set, entries of the
completion records that software has not acknowledged, oldest first, and records that could not be written. -/
structure CanSlot where
  used : Nat
  done : List Nat
  wait : List (Nat × Nat)
  deriving DecidableEq, Repr

/-- A slot after reset. -/
def CanSlot.init : CanSlot := ⟨0, [], []⟩

/-- A LIN frame on the bus (R334): its identifier, whether the channel publishes, its octets where it does, whether it is an
event-triggered frame with its resolution table, and beat number [23:0] of the header. -/
structure LinBus where
  id : Nat
  publish : Bool
  data : List Nat
  event : Option Nat
  beat : Nat
  deriving DecidableEq, Repr

/-- A LIN channel beyond its registers (R335 to R338): the table in force and the next entry in it, the place to which a
resolution table returns, the frame on the bus, whether WAKE_GAP runs, whether a virtual endpoint holds the schedule, and the
beats that the entry in force still lasts. -/
structure LinSt where
  tbl : Nat
  pos : Nat
  back : Option (Nat × Nat)
  bus : Option LinBus
  gap : Bool
  held : Bool
  left : Nat
  deriving DecidableEq, Repr

/-- A channel after reset. -/
def LinSt.init : LinSt := ⟨0, 0, none, none, false, false, 0⟩

/-- CAN and LIN (chapter 11). -/
structure BusSt where
  can : Tab CanSt
  slot : Tab CanSlot
  lin : Tab LinSt
  deriving DecidableEq, Repr


/-- Gong and the power modes beyond their registers (chapter 12). -/
structure PmSt where
  /-- 0 no DEEP_SLEEP entry, 1 between steps 1 and 4 of R352, 2 the K-die has no supply or is held in reset. -/
  phase : Nat
  /-- A wake event has been recorded in the present sleep. -/
  caused : Bool
  /-- The false-wake timer (R359): 0 stopped, 1 running, 2 in GRACE; and the mode it woke from. -/
  fw : Nat
  wokeFrom : Nat
  /-- FAIL_RUN has reached 3 (R358). -/
  lockout : Bool
  /-- BOOT_TMO runs (R358). -/
  bootWait : Bool
  /-- FS17 and FS21 raises that wait for the next completed boot, and the brownout flag (R358, R361). -/
  bootFails : Nat
  lockouts : Nat
  brown : Bool
  /-- Interrupt 529 waits until the beat runs (R357). -/
  irqWait : Bool
  /-- States of the wake MFIs latched at sleep entry, and polls in a row that differ (R198). -/
  mfiLatch : Tab Bool
  mfiRun : Tab Nat
  /-- What the island keeps of the sleep configuration (R352, R353): channels whose gate stays on, and armed TC10 ports. -/
  kept : List Nat
  tc10 : List Nat
  /-- Gong's own copy of the wake inputs: IOX_MFI_CFG and IOX_MFI_TH of each, and IOX_MFI_WAKECFG (R352). -/
  mfiWake : Tab (Nat × Nat)
  mfiPoll : Nat
  /-- Kept channels that have tripped; FS20 waits for the next completed boot (R353). -/
  trips : List Nat
  /-- DEEP_SLEEP has been entered since the island last reset, so that GONG_MODE_RET holds a mode (R99). -/
  slept : Bool
  /-- PMIC_EN is high (R357). -/
  en : Bool
  deriving DecidableEq, Repr

/-- Gong after reset. -/
def PmSt.init : PmSt := ⟨2, false, 0, 0, false, false, 0, 0, false, false, [], [], [], [], [], 0, [], false, false⟩


/-- A Carillon trio beyond its registers (chapter 13): the beat of each core's last rejoin, plus one; the beat of the last
rotation or release; cores that LBIST retired; LBIST time used in ns; CHECKER_FAULT raised in this beat; and the sources
claimed by each context as bit sets; and the fabric error CSR 0xFC0 of the logical core (R369). -/
structure CarSt where
  rejoin : Tab Nat
  rot : Nat
  lbRet : Nat
  lbNs : Nat
  said : Bool
  claim0 : Nat
  claim1 : Nat
  fabErr : Nat
  deriving DecidableEq, Repr

/-- A trio after reset. -/
def CarSt.init : CarSt := ⟨[], 0, 0, 0, false, 0, 0, 0⟩


/-- The hypervisor state of an A-cluster hart that its requests depend on (R442): V and hgatp; and the flushes done: of
branch predictors, of prefetchers, and operations as event 0x0040 counts them (R408). -/
structure HartSt where
  virt  : Bool
  hgatp : Nat
  flushBp : Nat
  flushPf : Nat
  flushOps : Nat
  deriving DecidableEq, Repr

/-- A hart after reset. -/
def HartSt.init : HartSt := ⟨false, 0, 0, 0, 0⟩

/-- A domain of the APLIC (R397): interrupt enable, sourcecfg and target words by source, pending and enabled sources as
bit sets. -/
structure AplicDom where
  ie : Bool
  src : Tab Nat
  tgt : Tab Nat
  pend : Nat
  enb : Nat
  deriving DecidableEq, Repr

/-- A domain after reset. -/
def AplicDom.init : AplicDom := ⟨false, [], [], 0, 0⟩

/-- The A-cluster's interrupt controllers, IOMMU and poisoned lines (chapter 14). -/
structure AclSt where
  /-- Pending identities of each interrupt file as a bit set. -/
  imsic : Tab Nat
  apM : AplicDom
  apS : AplicDom
  /-- The IOMMU's standard registers by word offset (R400). -/
  iommu : Tab Nat
  /-- The staging words and the read latches of its 64-bit registers, by word offset (R9). -/
  ioStage : Tab Nat
  ioLatch : Tab Nat
  /-- Line addresses that hold a poisoned ECC code (R396). -/
  poison : List Nat
  deriving DecidableEq, Repr


/-- A completion that waits to be written (R426): its writes as IOVA and octets, its ring (0 TXC, 1 RX, 2 CRY, 3 CAN 1), and
how far its index then moves. -/
structure VeCpl where
  writes : List (Nat × List Nat)
  ring : Nat
  adv : Nat
  deriving DecidableEq, Repr

/-- A virtual endpoint (chapter 15). -/
structure VeSt where
  /-- The asynchronous command that is running (R419): OP. -/
  busy : Option Nat
  /-- Arguments of a running SAVE or RESTORE: address and length. -/
  bufA : Nat
  bufL : Nat
  /-- Frames fetched since ACTIVATE, and completions written before QUIESCE (R426). -/
  fetched : Nat
  early : Nat
  /-- Completions that wait behind a failed write (R426). -/
  wait : List VeCpl
  /-- FS407 and FS411 have been raised in this beat. -/
  said407 : Bool
  said411 : Bool
  /-- FTAG of the next RX frame (R429). -/
  ftag : Nat
  /-- Beat of the last PWG_KICK (R433). -/
  kick : Option Nat
  /-- Channels of a PWG VE whose command the user has written, as a bit set, and the last value published by channel. -/
  wrote : Nat
  lastV : Tab Nat
  /-- The drain has aborted work (FS406). -/
  aborted : Bool
  /-- CAN of SUBTYPE 1 (R433): submitted entries that wait for the port, oldest first; entries that belong to hardware, as a
  bit set; completed entries that software has not acknowledged, oldest first; and the next sequence number. -/
  tun : List Nat
  tunUsed : Nat
  tunDone : List Nat
  tunSeq : Nat
  deriving DecidableEq, Repr

/-- A virtual endpoint after reset. -/
def VeSt.init : VeSt := ⟨none, 0, 0, 0, 0, [], false, false, 0, none, 0, [], false, [], 0, [], 0⟩

/-- A key slot of the key engine (R453). -/
structure KeySlot where
  /-- 0 where the slot holds no key. -/
  kind : Nat
  usage : Nat
  mask : Nat
  persist : Bool
  keyId : Nat
  /-- The key material as a number; it never leaves the key engine (R453). -/
  material : Nat
  deriving DecidableEq, Repr

/-- An empty key slot. -/
def KeySlot.empty : KeySlot := ⟨0, 0, 0, false, 0, 0⟩

/-- The OTP fields (Table 16-4 and the boot fields of chapter 19), kept through every reset. -/
structure Otp where
  /-- Lifecycle state programmed (Table 16-2). -/
  lc : Nat
  ownerHash : Nat
  testKeyHash : Option Nat
  idSeed : Option Nat
  ksKey : Option Nat
  secMin : Nat
  clkOscDly : Nat
  carSplit : Nat
  strapDis : Bool
  bwdgTmo : Nat
  xspiCs : Nat
  xspi1s : Bool
  deriving DecidableEq, Repr

/-- Belfry's state that no register shows (chapter 16). -/
structure BelSt where
  /-- The assignment table (R445), keyed 4096 × class + index; an unlisted entry is 0xF. -/
  asg : Tab Nat
  /-- Rung mailbox channels in the order in which they were rung (R456). -/
  rung : List Nat
  keys : Tab KeySlot
  otp : Otp
  /-- The owner public key of the accepted bundle has been loaded (R451). -/
  ownerKey : Option (List Nat)
  /-- The DRBG is instantiated (R459). -/
  drbg : Bool
  /-- BDBG_CHAL holds a challenge drawn since the last submission (R463). -/
  chal : Bool
  /-- Generate requests since the last seed (R459). -/
  drbgCount : Nat
  /-- BWDG expired: FS388 is raised at the next boot (R461). -/
  bwdgHit : Bool
  /-- First-stage copy A was refused: FS384 is raised once the beat runs (R451). -/
  fallback : Bool
  /-- FS385, FS386 and FS396 have been raised in this beat. -/
  said385 : Bool
  said386 : Bool
  said396 : Bool
  /-- The caller's partition was reset during the call of these channels (R465). -/
  aborted : List Nat
  /-- 0 no scan, 1 the clear runs, 2 scan enabled, 3 the readback failed (R464). -/
  scan : Nat
  /-- Denial counters of SEC_COUNTERS: watermark and assignment (R468). -/
  wmDenials : Nat
  asgDenials : Nat
  /-- Calls completed, of mailboxes and CRY virtual endpoints (R468). -/
  calls : Nat
  /-- Octets of the bundle streamed over JTAG (R527). -/
  bundle : List Nat
  bundleNext : Nat
  /-- Belfry halted with every other initiator in reset (R451). -/
  halted : Bool
  /-- Nominal ns at which BWDG's count was restarted (R461). -/
  bwdgAt : Nat
  deriving DecidableEq, Repr

/-- OTP as the model takes it at power-up: a device in lifecycle BLANK with nothing programmed (DESIGN CHOICE). -/
def Otp.init : Otp := ⟨0, 0, none, none, none, 0, 0, 0, false, 0, 0, false⟩

/-- Belfry after a power-on reset. -/
def BelSt.init : BelSt :=
  { asg := [], rung := [], keys := [], otp := Otp.init, ownerKey := none, drbg := false, chal := false, drbgCount := 0,
    bwdgHit := false, fallback := false, said385 := false, said386 := false, said396 := false,
    aborted := [], scan := 0, wmDenials := 0, asgDenials := 0, calls := 0, bundle := [], bundleNext := 0,
    halted := false, bwdgAt := 0 }

/-- A record of the source detail log (R475). -/
structure LogRec where
  w0 : Nat
  w1 : Nat
  w2 : Nat
  w3 : Nat
  seq : Nat
  deriving DecidableEq, Repr

/-- Tocsin's state that no register shows (chapter 17). -/
structure TocSt where
  /-- The detail log by source, newest record first (R475). -/
  log : Tab (List LogRec)
  /-- NMIs delivered, by target: 0 C0, 1 C1, 2 Belfry (R474). -/
  nmi : Tab Nat
  /-- A source of class NMI or higher, or with ERRN_EN, was raised since the last release (R477). -/
  errnHeld : Bool
  /-- Partitions whose RESET_PART a raise has requested (R471). -/
  resetPart : List Nat
  /-- Partitions whose RESET_PART a raise has requested since the last boundary (Table 17-4). -/
  partBeat : List Nat
  /-- The source that requested RESET_CHIP (R471). -/
  resetChip : Option Nat
  deriving DecidableEq, Repr

/-- One request pair from Tocsin to Knell as Knell sees it (R479): P, N. -/
structure PairSt where
  p : Bool
  n : Bool
  deriving DecidableEq, Repr

/-- An idle pair. -/
def PairSt.idle : PairSt := ⟨false, true⟩

/-- Knell's state that no register shows (chapter 17). -/
structure KnSt where
  /-- Request pairs by group. -/
  pairs : Tab PairSt
  /-- The K-die heartbeat is present (R482). -/
  heartbeat : Bool
  /-- The H-die oscillator runs. -/
  hosc : Bool
  /-- VDD_K is above V_KUV. -/
  vddK : Bool
  /-- An intended power-down is in progress (R482). -/
  intended : Bool
  /-- A KSUP or KCLK cause since the last link-up (R482), with its bit number, 0 for none. -/
  kLost : Nat
  /-- FS422 (groups) and FS425 raises that wait for link-up. -/
  railWait : List Nat
  hoscWait : Bool
  /-- Departures from NORMAL whose FS423 waits for link-up: group and cause bit. -/
  departWait : List (Nat × Nat)
  /-- Groups whose safe state dates from the expiry of the spine hold timer. -/
  linkHeld : List Nat
  /-- Interrupt 929 waits for link-up. -/
  irqWait : Bool
  deriving DecidableEq, Repr

/-- A partition watchdog (R484). -/
structure WdgSt where
  /-- The first-kick phase. -/
  first  : Bool
  /-- Paused because its partition's cores are stopped or unpowered (R485). -/
  paused : Bool
  /-- Started at the boot lock. -/
  on : Bool
  /-- Nominal ns at which WDG_STAT.REM was last set (R484). -/
  since : Nat
  deriving DecidableEq, Repr

/-- A watchdog after reset: not started. -/
def WdgSt.init : WdgSt := ⟨true, false, false, 0⟩

/-- The self-test's state that no register shows (R487 to R492). -/
structure BistSt where
  /-- Beat of the last slice of each task. -/
  lastSlice : Tab Nat
  /-- Beat of the last test of each unit, keyed 8192 × task + unit. -/
  tested : Tab Nat
  /-- Units for which FS421 has been raised since their last test. -/
  late : List Nat
  /-- Units whose last LOOPBACK failed (R490). -/
  loopFail : List Nat
  /-- The target of the running PRBS test, kind and index (R491), and the link state it returns to (R492): 0 down, else one
  more than what EP_STAT held. -/
  prbs : Option (Nat × Nat)
  prbsSaved : Nat
  deriving DecidableEq, Repr

/-- The clock unit beyond its registers (chapter 18). -/
structure ClkSt where
  /-- The monitor: 0 not counting, 1 qualifying, 2 watching (R503, R507). -/
  mon : Nat
  /-- OSC_EN is asserted and OSC_DLY runs or has passed (R502). -/
  osc : Bool
  /-- Counts of the consecutive good windows of the qualification, newest first, at most 8 (R503). -/
  quals : List Nat
  /-- Consecutive bad windows, and consecutive good ones in fallback (R508, R510). -/
  badRun : Nat
  okRun : Nat
  /-- FS4 has been raised since CAL last lay inside its bounds (R507). -/
  calSaid : Bool
  /-- The PLLs have been started (R503). -/
  pllOn : Bool
  /-- Domains on their way to the forced source, and those whose multiplexer took the forced path (R513). -/
  toForced : List Nat
  path : List Nat
  deriving DecidableEq, Repr

/-- The clock unit before boot step 4. -/
def ClkSt.init : ClkSt := ⟨0, false, [], 0, 0, false, false, [], []⟩

/-- Power-up, boot and device monitors (chapter 19). -/
structure BootSt where
  /-- The last complete step of Table 19-1, 0 in OFF; 2 stands for PMIC_EN high and PGOOD awaited. -/
  step : Nat
  /-- PGOOD is high. -/
  pgood : Bool
  /-- Sampled straps (R544) and OTP STRAP_DIS as found. -/
  straps : Nat
  /-- BOOT_TIMES by milestone, in µs (R544). -/
  times : Tab Nat
  /-- Resets by TYPE, and BWDG expiries as 4 (R544). -/
  resets : Tab Nat
  /-- DDR training: 0 not started, 1 running, 2 complete, 3 failed (R523). -/
  ddr : Nat
  /-- The boot meets the conditions of R524, as its own steps know them. -/
  budget : Bool
  /-- Milestones later than their maximum, whose FS31 waits for the beat (R532). -/
  missed : List Nat
  /-- This boot follows a RESET_CHIP, so that each budget is 10 ms shorter (R531). -/
  chip : Bool
  /-- A wake reset from a DEEP_SLEEP entry accepted under R352, as Gong records it (R93). -/
  wakeOk : Bool
  /-- The ROM waits for a bundle over JTAG (R527). -/
  romWait : Bool
  /-- The bundle's A_ENTRY and the address at which a hart started. -/
  aEntry : Nat
  started : Bool
  /-- VBAT rails outside their range: 0 in range, 1 low, 2 high; VBAT12 and VBAT48 (R536). -/
  vbat12 : Nat
  vbat48 : Nat
  /-- VBAT12 is below V_AON_OFF: the device is in OFF (R361). -/
  off : Bool
  /-- Gong raises PMIC_EN again after a supply reset (R530). -/
  again : Bool
  /-- A secure watchdog has expired and its RESET_CHIP waits for the scan clear (R465). -/
  bwdg : Bool
  /-- The bundle came over JTAG and is complete (R527). -/
  jtag : Bool
  deriving DecidableEq, Repr

/-- The boot state right after VBAT12 has risen: step 1 is under way. -/
def BootSt.init : BootSt :=
  { step := 0, pgood := false, straps := 0, times := [], resets := [(0, 1)], ddr := 0, budget := true, missed := [], chip := false,
    wakeOk := false, romWait := false, aEntry := 0, started := false, vbat12 := 0, vbat48 := 0, off := false, again := false,
    bwdg := false, jtag := false }

/-- The block: every register, FIFO, buffer, counter, mode and pin of the spec, and the queue of waiting commands. -/
structure State where
  /-- Every register word of the register tables that differs from its reset word. -/
  regs : RegMap
  /-- The staging words of writable 64-bit registers, by their low word (R9). -/
  stage : RegMap
  /-- The read latches of 64-bit registers, by their low word (R9). -/
  latch : RegMap
  /-- Memory reached through the fabric: system SRAM, the Carillon TCMs, DRAM and the xSPI window, byte by byte. -/
  mem : List Host.Cell
  /-- Fabric and spine link (chapter 1). -/
  fab : FabSt
  /-- Publication slots and consumers (chapter 2). -/
  twin : TwinSt
  /-- Power channels (chapter 5). -/
  ch : Tab ChSt
  /-- Feeds (chapter 6). -/
  feed : Tab FeedSt
  /-- The beat and the Tabla engines (chapter 4). -/
  tab : TablaSt
  /-- I/O front ends (chapter 7). -/
  io : IoSt
  /-- The switch core (chapter 8). -/
  sw : SwSt
  /-- Ethernet ports and stream tables (chapter 9). -/
  ports : PortsSt
  /-- The time unit (chapter 10). -/
  time : TimeSt
  /-- CAN and LIN (chapter 11). -/
  bus : BusSt
  /-- Carillon trios (chapter 13). -/
  car : Tab CarSt
  /-- The dictionary engine (chapter 3). -/
  dict : DictSt
  /-- Gong and the power modes (chapter 12). -/
  pm : PmSt
  /-- Effects of the power logic that wait for link-up, oldest first. -/
  late : List KEff
  /-- Die temperatures (R542). -/
  temp : TempSt
  /-- Tocsin (chapter 17). -/
  toc : TocSt
  /-- Knell (chapter 17). -/
  kn : KnSt
  /-- Partition watchdogs (R484). -/
  wdg : Tab WdgSt
  /-- The periodic self-test (chapter 17). -/
  bist : BistSt
  /-- The clock unit (chapter 18). -/
  clk : ClkSt
  /-- Power-up and boot (chapter 19). -/
  boot : BootSt
  /-- A-cluster harts (R442). -/
  harts : Tab HartSt
  /-- Interrupt controllers and IOMMU of the A-cluster (chapter 14). -/
  acl : AclSt
  /-- Virtual endpoints (chapter 15). -/
  ve : Tab VeSt
  /-- Belfry (chapter 16). -/
  bel : BelSt
  /-- Platform interrupt lines that are asserted (R38, R377). -/
  irqLine : Tab Bool
  /-- How often each platform interrupt has been raised (the model's own count). -/
  irqCnt : Tab Nat
  /-- What has left the device, oldest first. -/
  out : List Out
  /-- The model's own counter of free values drawn so far. -/
  free : Nat
  /-- The commands that are waiting, first in, first out. -/
  pending : List Instr
  deriving DecidableEq, Repr

/-- Ways a step can stop with a fault.  The spec gives every command an effect, so nothing raises this one;
it stands for the class of stops the interface provides (safe: a machine that stops proves nothing false). -/
inductive Fault where
  /-- No command raises it (safe). -/
  | none
  deriving DecidableEq, Repr

/-- Ways a step can refuse a command. -/
inductive Refusal where
  /-- Raised by an arm of `exec` whose command has no meaning yet (safe: the machine stops). -/
  | notModelled (mnemonic : String)
  /-- Raised by REGISTER_WRITE where the write reaches a device whose behaviour the spec does not give: the xSPI window, the
  xSPI and UFS controllers and the DRAM controller (safe: the machine stops). -/
  | deviceNotSpecified (addr : Nat)
  deriving DecidableEq, Repr

/-- The block right after a power-on reset: every register at its reset word, every table empty. -/
def State.reset : State where
  regs := []
  stage := []
  latch := []
  mem := []
  fab := ⟨linkShut, 0, 0, true, 0, 10, false, true, false, false⟩
  twin := ⟨[], [], []⟩
  ch := []
  feed := []
  tab := ⟨[], [], false, false, 0, 0⟩
  io := ⟨[], [], [], [], []⟩
  sw := SwSt.init
  ports := PortsSt.init
  time := TimeSt.init
  bus := ⟨[], [], []⟩
  car := []
  dict := DictSt.init
  pm := PmSt.init
  late := []
  temp := ⟨0, 0, false, false, false, false, false, false⟩
  toc := ⟨[], [], false, [], [], none⟩
  kn := ⟨[], true, true, true, false, 0, [], false, [], [], false⟩
  wdg := []
  bist := ⟨[], [], [], [], none, 0⟩
  clk := ClkSt.init
  boot := BootSt.init
  harts := []
  acl := ⟨[], AplicDom.init, AplicDom.init, [], [], [], []⟩
  ve := []
  bel := BelSt.init
  irqLine := []
  irqCnt := []
  out := []
  free := 0
  pending := []

end Sys2Proof.Machine
end

