-- ==== Sys2Proof/Machine/Ops.lean ====
section
/-!
DEFINITION. The named operations over registers and memory, the fabric's judgement of a request, the late-error
log, fencing, raising a fault source and a platform interrupt.
-/

namespace Sys2Proof.Machine

/-- A step that runs on. -/
abbrev Res := Host.Outcome State Fault Refusal

/-! ### Registers -/

/-- Lexicographic order of register keys. -/
def keyLt (a b : Nat × Nat) : Bool := decide (a.1 < b.1) || (decide (a.1 = b.1) && decide (a.2 < b.2))

/-- The listed word of a key. -/
def RegMap.look : RegMap → Nat × Nat → Option Word
  | [], _ => none
  | (j, w) :: t, k => if j = k then some w else RegMap.look t k

/-- Every entry of a key removed. -/
def RegMap.drop (m : RegMap) (k : Nat × Nat) : RegMap := m.filter (fun e => decide (e.1 ≠ k))

/-- An entry put before the first larger key. -/
def RegMap.ins (k : Nat × Nat) (w : Word) : RegMap → RegMap
  | [] => [(k, w)]
  | (j, y) :: t => if keyLt k j then (k, w) :: (j, y) :: t else (j, y) :: RegMap.ins k w t

/-- Word `i` of a family: the listed word, else its reset word (R10). -/
def RegMap.read (m : RegMap) (r : Reg) (i : Nat) : Word :=
  match m.look (r.id, i) with
  | some w => w
  | none => r.reset i

/-- Word `i` of a family replaced; a word at its reset value is not listed. -/
def RegMap.write (m : RegMap) (r : Reg) (i : Nat) (w : Word) : RegMap :=
  if w = r.reset i then m.drop (r.id, i) else RegMap.ins (r.id, i) w (m.drop (r.id, i))

/-- Word `i` of register family `r`. -/
def State.rd (s : State) (r : Reg) (i : Nat) : Word := s.regs.read r i

/-- Word `i` of register family `r` written by the hardware. -/
def State.wr (s : State) (r : Reg) (i : Nat) (w : Word) : State := { s with regs := s.regs.write r i w }

/-- Field `f` of word `i`. -/
def State.get (s : State) (f : Fld) (i : Nat) : Nat := getBits (s.rd f.reg i) f.hi f.lo

/-- Field `f` of word `i` set by the hardware. -/
def State.put (s : State) (f : Fld) (i v : Nat) : State :=
  s.wr f.reg i (setBits (s.rd f.reg i) f.hi f.lo v)

/-- A one-bit field read as a Boolean. -/
def State.flag (s : State) (f : Fld) (i : Nat) : Bool := s.get f i != 0

/-- The greatest value a field holds. -/
def Fld.top (f : Fld) : Nat := 2 ^ (f.hi + 1 - f.lo) - 1

/-- A saturating counter field one higher. -/
def State.incSat (s : State) (f : Fld) (i : Nat) : State := s.put f i (satInc (s.get f i) f.top)

/-- A saturating counter field `k` higher. -/
def State.addSat (s : State) (f : Fld) (i k : Nat) : State := s.put f i (satAdd (s.get f i) k f.top)

/-- A wrapping counter field one higher. -/
def State.incWrap (s : State) (f : Fld) (i : Nat) : State := s.put f i (s.get f i + 1)

/-- A 64-bit register from its low and high words (R9). -/
def State.get64 (s : State) (lo hi : Reg) (i : Nat) : Nat := (s.rd lo i).toNat + 2 ^ 32 * (s.rd hi i).toNat

/-- A 64-bit register set by the hardware, modulo 2^64. -/
def State.put64 (s : State) (lo hi : Reg) (i v : Nat) : State :=
  (s.wr lo i (BitVec.ofNat 32 v)).wr hi i (BitVec.ofNat 32 (v / 2 ^ 32))

/-- Register words reset, with the staging words and read latches of 64-bit registers among them (R9). -/
def State.resetWords (s : State) (hit : Nat × Nat → Bool) : State :=
  { s with regs := s.regs.filter (fun e => !hit e.1), stage := s.stage.filter (fun e => !hit e.1),
           latch := s.latch.filter (fun e => !hit e.1) }

/-- Every word of a block back at its reset value. -/
def State.clearBlock (s : State) (b : Nat × Nat) : State :=
  s.resetWords (fun k => decide (b.1 ≤ k.1) && decide (k.1 < b.2))

/-- Words `lo ≤ i < hi` of a family back at their reset value. -/
def State.clearWords (s : State) (r : Reg) (lo hi : Nat) : State :=
  s.resetWords (fun k => decide (k.1 = r.id) && decide (lo ≤ k.2) && decide (k.2 < hi))

/-- A step run for each element of a list, in order. -/
def State.each {α : Type} (s : State) (l : List α) (f : α → State → State) : State :=
  l.foldl (fun s a => f a s) s

/-- A step taken where a condition holds. -/
def State.when (s : State) (b : Bool) (f : State → State) : State := if b then f s else s

/-- The next free value's number, and the state that has drawn it. -/
def State.draw (s : State) : Nat × State := (s.free, { s with free := s.free + 1 })

/-- Something leaves the device. -/
def State.emit (s : State) (o : Out) : State := { s with out := s.out ++ [o] }

/-! ### Beat number, locks, interrupts -/

/-- Beat number [31:0]. -/
def State.beatLo (s : State) : Nat := (s.rd R.BEAT_NUM_LO 0).toNat

/-- The beat number. -/
def State.beat (s : State) : Nat := s.get64 R.BEAT_NUM_LO R.BEAT_NUM_HI 0

/-- The boot lock is set (R447). -/
def State.bootLocked (s : State) : Bool := s.flag F.BSEC_LOCK_BOOT 0

/-- The assignment lock is set (R446). -/
def State.asgLocked (s : State) : Bool := s.flag F.BSEC_LOCK_ASG 0

/-! ### Partitions and worlds (R440 to R445) -/

/-- The partition a resource is assigned to (R445); a partition with VALID = 0 acts as partition 15 (R440). -/
def validPart (s : State) (p : Nat) : Nat := if s.flag F.BSEC_PARTCFG_VALID p then p else 15

/-- Owner of resource `idx` of a class of Table 16-1. -/
def asgOf (s : State) (cls idx : Nat) : Nat := validPart s (tget 15 s.bel.asg (4096 * cls + idx))

/-- The partition that a peripheral slot is assigned to (class 0). -/
def slotOwner (s : State) (slot : Nat) : Nat := asgOf s 0 slot

/-- The VMID of a hart's hgatp (RV64: bits [57:44]). -/
def HartSt.vmid (h : HartSt) : Nat := bitsOf h.hgatp 57 44

/-- The partition of an A-cluster hart (R442): the first matching BSEC_VMIDMAP entry while V = 1, else its base. -/
def hartPart (s : State) (h : Nat) : Nat :=
  let st := tget HartSt.init s.harts h
  let base := asgOf s 15 h
  if st.virt then
    match (List.range 16).find? (fun i => decide (s.get F.BSEC_VMIDMAP_PART i ≠ 15) &&
        decide (s.get F.BSEC_VMIDMAP_LO i ≤ st.vmid) && decide (st.vmid ≤ s.get F.BSEC_VMIDMAP_HI i)) with
    | some i => validPart s (s.get F.BSEC_VMIDMAP_PART i)
    | none => base
  else base

/-- The partition a request of an initiator carries (R440). -/
def partOf (s : State) (init : Nat) : Nat :=
  if init < 8 then hartPart s init
  else if init = 0x10 then asgOf s 14 0
  else if init = 0x11 then asgOf s 14 1
  else if 0x20 ≤ init ∧ init < 0x30 then asgOf s 1 (init - 0x20)
  else if init = 0x33 then asgOf s 17 0
  else if init = 0x34 then slotOwner s 0x050
  else if 0x400 ≤ init ∧ init < 0x800 then validPart s (s.get F.VEMGR_VEASSIGN_PART (init - 0x400))
  else 15

/-- A partition's world: partition 15 is Belfry's own and secure (R440). -/
def partSecure (s : State) (p : Nat) : Bool := decide (p = 15) || s.flag F.BSEC_PARTCFG_SECURE p

/-- The world a request of an initiator carries (R440). -/
def secureOf (s : State) (init : Nat) : Bool :=
  if init = 0x30 ∨ init = 0x31 ∨ init = 0x32 ∨ init = 0x35 then true
  else if init = 0x34 then false
  else if 0x400 ≤ init ∧ init < 0x800 then s.flag F.VEMGR_VEASSIGN_SECURE (init - 0x400)
  else partSecure s (partOf s init)

/-- Initiators that pass the world and watermark checks (R441). -/
def worldFree (init : Nat) : Bool := init = 0x30 || init = 0x31 || init = 0x32 || init = 0x35

/-! ### IMSIC and APLIC (R397, R398) -/

/-- An interrupt identity becomes pending in an interrupt file: 16 × hart, + 0 supervisor, + 1 to 7 guest, + 8 machine
(R398). -/
def State.imsicSet (s : State) (file id : Nat) : State :=
  if 1 ≤ id ∧ id ≤ 255 then
    { s with acl := { s.acl with imsic := tupd 0 s.acl.imsic file (fun b => b ||| 2 ^ id) } }
  else s

/-- One domain of the APLIC: 0 machine, 1 supervisor. -/
def aplicDom (s : State) (d : Nat) : AplicDom := if d = 0 then s.acl.apM else s.acl.apS

/-- A domain replaced. -/
def State.setAplic (s : State) (d : Nat) (x : AplicDom) : State :=
  { s with acl := if d = 0 then { s.acl with apM := x } else { s.acl with apS := x } }

/-- Belfry has assigned the platform interrupt to a partition of the A-cluster (R397). -/
def aplicOwned (s : State) (i : Nat) : Bool :=
  1 ≤ i && i ≤ 1023 && asgOf s 13 i != 15 && s.get F.BSEC_PARTCFG_KIND (asgOf s 13 i) == 1

/-- The domain in which a source is configured: the child while the machine domain delegates it. -/
def aplicHome (s : State) (i : Nat) : Nat := if bitOf (tget 0 s.acl.apM.src i) 10 then 1 else 0

/-- A pending, enabled source of an enabled domain is sent as an MSI and its pending bit clears. -/
def State.aplicSend (s : State) (d i : Nat) : State :=
  let x := aplicDom s d
  if x.ie && bitOf x.pend i && bitOf x.enb i && aplicOwned s i then
    let t := tget 0 x.tgt i
    let s := s.setAplic d { x with pend := x.pend - 2 ^ i }
    let h := bitsOf t 31 18
    if h < 8 ∧ (d = 0 ∨ bitsOf t 17 12 ≤ 7) then
      s.imsicSet (16 * h + (if d = 0 then 8 else bitsOf t 17 12)) (bitsOf t 10 0)
    else s
  else s

/-- An edge of a platform interrupt at the APLIC: rising for modes 4 and 6 of sourcecfg, falling for 5 and 7. -/
def State.aplicEdge (s : State) (i : Nat) (rise : Bool) : State :=
  let d := aplicHome s i
  let x := aplicDom s d
  let m := bitsOf (tget 0 x.src i) 2 0
  if aplicOwned s i && (if rise then m == 4 || m == 6 else m == 5 || m == 7) then
    (s.setAplic d { x with pend := x.pend ||| 2 ^ i }).aplicSend d i
  else s

/-! ### Platform interrupts -/

/-- Platform interrupt `n` is raised (R38): its line is asserted; numbers 0 and 512 are never raised. -/
def State.raiseIrq (s : State) (n : Nat) : State :=
  if n = 0 ∨ n = 512 then s
  else
    ({ s with irqLine := tset false s.irqLine n true, irqCnt := tupd 0 s.irqCnt n (· + 1) }).aplicEdge n true

/-- The line of platform interrupt `n` is no longer asserted. -/
def State.dropIrq (s : State) (n : Nat) : State :=
  if tget false s.irqLine n then ({ s with irqLine := tset false s.irqLine n false }).aplicEdge n false else s

/-- A level interrupt follows its condition. -/
def State.levelIrq (s : State) (n : Nat) (on : Bool) : State :=
  if on then (if tget false s.irqLine n then s else s.raiseIrq n) else s.dropIrq n

/-! ### The address map (R12 to R15) -/

/-- What an address decodes to (Table 1-1). -/
inductive Target where
  | sram | xspi | dram
  | slot (n : Nat)
  | ve (n : Nat)
  | tcm (t : Nat)
  deriving DecidableEq, Repr

/-- Peripheral slots of Table 1-2 as first and last slot of each block. -/
def populated : List (Nat × Nat) :=
  [(0x000, 0x006), (0x008, 0x009), (0x00C, 0x00F), (0x010, 0x01F), (0x020, 0x025), (0x030, 0x030),
   (0x031, 0x034), (0x035, 0x035), (0x036, 0x036), (0x040, 0x040), (0x050, 0x050), (0x051, 0x051),
   (0x060, 0x060), (0x070, 0x070), (0x080, 0x080), (0x090, 0x090), (0x0A0, 0x0A0), (0x0B0, 0x0B0),
   (0x800, 0x8FF)]

/-- The target at a 40-bit address (R12). -/
def decodeAddr (a : Nat) : Option Target :=
  if a < 0x800000 then some .sram
  else if 0x10000000 ≤ a ∧ a < 0x20000000 then
    let n := a / 65536 % 4096
    if populated.any (fun r => decide (r.1 ≤ n) && decide (n ≤ r.2)) then some (.slot n) else none
  else if 0x20000000 ≤ a ∧ a < 0x30000000 then some .xspi
  else if 0x30000000 ≤ a ∧ a < 0x30400000 then some (.ve (a / 4096 % 1024))
  else if 0x40000000 ≤ a ∧ a < 0x40100000 then some (.tcm 0)
  else if 0x40100000 ≤ a ∧ a < 0x40200000 then some (.tcm 1)
  else if 0x400000000 ≤ a ∧ a < 0x800000000 then some .dram
  else none

/-- The canonical number of a slot's port: a block over several slots has one port (R15). -/
def slotPort (n : Nat) : Nat :=
  if 0x008 ≤ n ∧ n ≤ 0x009 then 0x008
  else if 0x00C ≤ n ∧ n ≤ 0x00F then 0x00C
  else if 0x010 ≤ n ∧ n ≤ 0x01F then 0x010
  else if 0x020 ≤ n ∧ n ≤ 0x025 then 0x020
  else if 0x031 ≤ n ∧ n ≤ 0x034 then 0x031
  else if 0x800 ≤ n ∧ n ≤ 0x8FF then 0x800
  else n

/-- The port number of a target (R15). -/
def Target.port : Target → Nat
  | .slot n => slotPort n
  | .sram => 0x1000
  | .dram => 0x1001
  | .xspi => 0x1002
  | .ve _ => 0x1003
  | .tcm t => 0x1004 + t

/-- A port number brought to its canonical form (R15). -/
def portCanon (p : Nat) : Nat := if p < 0x1000 then slotPort p else p

/-- One port. -/
def portSt (s : State) (p : Nat) : PortSt := tget PortSt.init s.fab.ports (portCanon p)

/-- A port is in FENCED (R25). -/
def fenced (s : State) (p : Nat) : Bool := (portSt s p).shut

/-- Blocks on the H-die behind the spine link (R14). -/
def hdieSlot (n : Nat) : Bool := n = 0x002 || n = 0x004

/-- A 32-bit Carillon address as the 40-bit address it maps to (R32). -/
def carAddr (s : State) (t a : Nat) : Option Nat :=
  if a < 0x80000000 then some a
  else if a < 0x90000000 then
    some (0x400000000 + 0x10000000 * s.get F.FABRIC_CARWIN_WIN_IDX t + (a - 0x80000000))
  else none

/-! ### Response codes (Table 1-4) -/

def respOkay : Nat := 0
def respDecode : Nat := 1
def respDenied : Nat := 2
def respSize : Nat := 3
def respTReset : Nat := 4
def respEcc : Nat := 5
def respTimeout : Nat := 6
def respTarget : Nat := 7

/-! ### The detail log and raising a fault source (R471 to R477) -/

/-- Records kept of a source (R475). -/
def logDepth (n : Nat) : Nat := if n = 380 then 16 else 4

/-- Class in force of a source: code 7 acts as 6 (Table 17-1). -/
def reactOf (s : State) (n : Nat) : Nat := min (s.get F.TOC_SRC_REACT n) 6

/-- A record written to the detail log (R475). -/
def State.logRec (s : State) (n : Nat) (r : LogRec) : State :=
  { s with toc := { s.toc with log := tupd [] s.toc.log n (fun l => (r :: l).take (logDepth n)) } }

/-- Bit `n` of TOC_PEND. -/
def tocPending (s : State) (n : Nat) : Bool := (s.rd R.TOC_PEND (n / 32)).getLsbD (n % 32)

/-- Highest class among pending sources. -/
def maxClass (s : State) : Nat :=
  (List.range 16).foldl (fun m w =>
    if s.rd R.TOC_PEND w = 0 then m
    else (List.range 32).foldl (fun m b =>
      if (s.rd R.TOC_PEND w).getLsbD b then max m (reactOf s (32 * w + b)) else m) m) 0

/-- Some group of Knell is in HALT. -/
def anyHalt (s : State) : Bool := (List.range 8).any (fun g => s.get F.KN_GSTAT_STATE g == 2)

/-- ERRN toggles (R477). -/
def errnToggles (s : State) : Bool :=
  s.asgLocked && !s.toc.errnHeld && s.kn.heartbeat && !anyHalt s

/-- TOC_STAT follows the pending sources and the ERRN output. -/
def tocRefresh (s : State) : State :=
  (s.put F.TOC_STAT_MAXCLASS 0 (maxClass s)).put F.TOC_STAT_ERRN_LOW 0 (b2n (!errnToggles s))

/-- The partitions of NMI targets 0 C0 and 1 C1 that can take one: in FAILED and HELD a trio receives nothing (R474). -/
def nmiReaches (s : State) (t : Nat) : Bool :=
  t = 2 || (s.get F.CAR_STAT_STATE t != 5 && s.get F.CAR_STAT_STATE t != 7)

/-- An NMI to each target of NMI_TGT (R474). -/
def State.sendNmi (s : State) (n : Nat) : State :=
  s.each [0, 1, 2] (fun t s =>
    if bitOf (s.get F.TOC_SRC_NMI_TGT n) t && nmiReaches s t then
      { s with toc := { s.toc with nmi := tupd 0 s.toc.nmi t (· + 1) } }
    else s)

/-- RESET_CHIP requested by a raise: the first raise is the one recorded (R473), with the class that acted. -/
def State.askResetChip (s : State) (n cls : Nat) : State :=
  match s.toc.resetChip with
  | some _ => s
  | none =>
    let s := { s with toc := { s.toc with resetChip := some n } }
    let s := s.wr R.TOC_RSTCAUSE 0 (BitVec.ofNat 32 (2 ^ 31 + cls * 2 ^ 28 + n))
    s.wr R.TOC_RSTBEAT 0 (BitVec.ofNat 32 s.beatLo)

/-- RESET_PART requested by a raise: a reset already in progress, and a second raise in one
beat, cause no second one (R473, R493). -/
def State.askResetPart (s : State) (p : Nat) : State :=
  if p ∈ s.toc.resetPart ∨ p ∈ s.toc.partBeat then s
  else { s with toc := { s.toc with resetPart := s.toc.resetPart ++ [p], partBeat := p :: s.toc.partBeat } }

/-- The reaction of a raise beyond the record and the pending bit (Table 17-1). -/
def State.react (s : State) (n : Nat) : State :=
  let c := reactOf s n
  let s := if 1 ≤ c && n ≠ 0 then s.raiseIrq n else s
  let s := if 2 ≤ c then s.sendNmi n else s
  let s := if 2 ≤ c || s.flag F.TOC_SRC_ERRN_EN n then { s with toc := { s.toc with errnHeld := true } } else s
  if c = 5 then
    (if s.get F.TOC_SRC_PART n = 15 then s.askResetChip n 5 else s.askResetPart (s.get F.TOC_SRC_PART n))
  else if c = 6 then s.askResetChip n 6
  else s

/-- Fault source FSn is raised with a record of four words (R471): pending bit, count, record, reaction. -/
def State.raiseRec (s : State) (n w0 w1 w2 w3 : Nat) : State :=
  let s := s.wr R.TOC_PEND (n / 32) (s.rd R.TOC_PEND (n / 32) ||| BitVec.ofNat 32 (2 ^ (n % 32)))
  let s := s.incSat F.TOC_CNT_CNT n
  let s := s.logRec n ⟨w0 % 2 ^ 32, w1 % 2 ^ 32, w2 % 2 ^ 32, w3 % 2 ^ 32, s.get F.TOC_CNT_CNT n % 65536⟩
  tocRefresh (s.react n)

/-- A raise whose word 2 is the beat number and whose word 0 has VALID set. -/
def State.raise (s : State) (n w0 w1 w3 : Nat) : State := s.raiseRec n (2 ^ 31 + w0) w1 s.beatLo w3

/-! ### Late errors (R28, R29) and denials (R444) -/

/-- A fabric record (R40): CODE, INIT, PORT and an address or count. -/
def State.raiseFab (s : State) (n code init port w1 w3 : Nat) : State :=
  s.raise n (code * 2 ^ 28 + init * 2 ^ 16 + port) w1 w3

/-- A failed posted write (R28): recorded unless the log is full; the partition's pending bit and interrupt
follow in either case. -/
def State.lateErr (s : State) (init addr cause : Nat) (discarded : Bool) : State :=
  let p := partOf s init
  let s :=
    if s.flag F.LATE_ERR_WR_FULL 0 then
      let s := s.incSat F.LATE_ERR_OVF_OVF_CNT 0
      s.raiseFab 98 0 0 0 (s.get F.LATE_ERR_OVF_OVF_CNT 0) 0
    else
      let i := s.get F.LATE_ERR_WR_WR_IDX 0
      let w0 := 2 ^ 31 + b2n (secureOf s init) * 2 ^ 30 + b2n discarded * 2 ^ 29 + cause * 2 ^ 26 + p * 2 ^ 22 + init
      let s := s.wr R.LATE_ERR_E0 i (BitVec.ofNat 32 w0)
      let s := s.wr R.LATE_ERR_E1 i (BitVec.ofNat 32 addr)
      let s := s.wr R.LATE_ERR_E2 i (BitVec.ofNat 32 (addr / 2 ^ 32 % 256))
      let s := s.wr R.LATE_ERR_E3 i (BitVec.ofNat 32 s.beatLo)
      let n := (i + 1) % 64
      let s := s.put F.LATE_ERR_WR_WR_IDX 0 n
      s.put F.LATE_ERR_WR_FULL 0 (b2n (n == s.get F.LATE_ERR_RD_RD_IDX 0))
  let s := s.put F.LATE_ERR_IRQ_PEND 0 (s.get F.LATE_ERR_IRQ_PEND 0 ||| 2 ^ p)
  s.raiseIrq (608 + p)

/-- A security record (R469): partition, code and initiator. -/
def State.raiseSec (s : State) (n part code init w1 : Nat) : State :=
  s.raise n (part * 2 ^ 26 + code * 2 ^ 16 + init) w1 0

/-- A watermark (`wm`) or assignment denial (R444 steps 2 and 3). -/
def State.deny (s : State) (wm : Bool) (init addr : Nat) : State :=
  let s :=
    if s.flag F.BSEC_DENY0_VALID 0 then s
    else
      let s := s.wr R.BSEC_DENY0 0
        (BitVec.ofNat 32 (2 ^ 31 + b2n wm * 2 ^ 30 + partOf s init * 2 ^ 26 + init))
      let s := s.wr R.BSEC_DENY1 0 (BitVec.ofNat 32 addr)
      s.put F.BSEC_DENY2_ADDR_HI 0 (addr / 2 ^ 32)
  let s := s.incSat F.BSEC_DENY2_CNT 0
  if wm then
    let s := { s with bel := { s.bel with wmDenials := satInc s.bel.wmDenials (2 ^ 32 - 1) } }
    if s.bel.said385 then s
    else State.raiseSec { s with bel := { s.bel with said385 := true } } 385 (partOf s init) 2 init addr
  else
    let s := { s with bel := { s.bel with asgDenials := satInc s.bel.asgDenials (2 ^ 32 - 1) } }
    if s.bel.said386 then s
    else State.raiseSec { s with bel := { s.bel with said386 := true } } 386 (partOf s init) 2 init addr

/-! ### Memory reached through the fabric -/

/-- What a byte of memory that nothing has written reads as (DESIGN CHOICE: the spec gives no contents). -/
def freshByte : Byte := 0

/-- One byte of memory. -/
def memGet : List Host.Cell → Nat → Byte
  | [], _ => freshByte
  | (j, x) :: t, a => if j = a then x else memGet t a

/-- A cell put before the first larger address. -/
def memIns (a : Nat) (x : Byte) : List Host.Cell → List Host.Cell
  | [] => [(a, x)]
  | (j, y) :: t => if a < j then (a, x) :: (j, y) :: t else (j, y) :: memIns a x t

/-- One byte of memory written; a byte that holds what an unlisted address reads as is not listed. -/
def memPut (m : List Host.Cell) (a : Nat) (x : Byte) : List Host.Cell :=
  let m := m.filter (fun c => decide (c.1 ≠ a))
  if x = freshByte then m else memIns a x m

/-- The canonical form of memory: addresses strictly rising, no cell an unlisted address would read as. -/
def Memory.wf : List Host.Cell → Bool
  | [] => true
  | [(_, x)] => decide (x ≠ freshByte)
  | (j, x) :: (k, y) :: t => decide (x ≠ freshByte) && decide (j < k) && Memory.wf ((k, y) :: t)

/-- `n` octets of memory from an address. -/
def State.memRead (s : State) (a : Nat) : Nat → List Nat
  | 0 => []
  | n + 1 => (memGet s.mem a).toNat :: s.memRead (a + 1) n

/-- Octets written to memory from an address. -/
def State.memWrite (s : State) (a : Nat) : List Nat → State
  | [] => s
  | b :: bs => State.memWrite { s with mem := memPut s.mem a (BitVec.ofNat 8 b) } (a + 1) bs

/-- Only the cells of memory that `p` holds of are kept; the others read as fresh memory again. -/
def State.memKeep (s : State) (p : Nat → Bool) : State := { s with mem := s.mem.filter (fun c => p c.1) }

/-- A little-endian 32-bit word of memory (R11). -/
def State.memWord (s : State) (a : Nat) : Nat := leNat (s.memRead a 4)

/-! ### Fencing (R23 to R25) -/

/-- The causes of FABRIC_PORT_STAT.REASON. -/
def causeReset : Nat := 1
def causeUpdate : Nat := 2
def causePower : Nat := 3
def causeTimeout : Nat := 4
def causeLink : Nat := 5

/-- A port's state changed. -/
def State.updPort (s : State) (p : Nat) (f : PortSt → PortSt) : State :=
  { s with fab := { s.fab with ports := tupd PortSt.init s.fab.ports (portCanon p) f } }

/-- The exception a failing read raises in the core that issued it (R369, R395). -/
def readCause : ReadKind → Nat
  | .load => 5
  | .fetch => 1
  | .amo => 7

/-- A read ends with a code other than OKAY (R22): the response, and in a core the access fault with its fabric error CSR
(mfabricerr or sfabricerr of a hart, R395; CSR 0xFC0 of a Carillon core, R369). -/
def State.readFails (s : State) (q : Req) (code : Nat) : State :=
  let s := s.emit (.response q.init q.addr code)
  if q.init < 8 then
    let s := if q.inM then s.put F.mfabricerr_CODE q.init code else s.put F.sfabricerr_CODE q.init code
    s.emit (.trap q.init (readCause q.kind) q.vaddr)
  else if q.init = 0x10 ∨ q.init = 0x11 then
    let s := { s with car := tupd CarSt.init s.car (q.init - 0x10) (fun c => { c with fabErr := code }) }
    s.emit (.trap q.init (readCause q.kind) (q.vaddr % 2 ^ 32))
  else s

/-- A request ends with a code other than OKAY: a read as `readFails`, a posted write in the log (R28). -/
def State.reqFails (s : State) (q : Req) (code : Nat) (discarded : Bool) : State :=
  if q.write then s.lateErr q.init q.addr code discarded else s.readFails q code

/-- An outstanding request ended by a fence (R23 steps 2 and 3): counted; a read completes with TARGET_RESET, a posted write is
logged as discarded. -/
def State.endByFence (s : State) (p : Nat) (q : Req) : State :=
  (s.updPort p (fun x => { x with treset := satInc x.treset 0xFFFF })).reqFails q respTReset true

/-- The requests of a list that are outstanding at port `p`: the port of their target, so that a request to a block behind the
spine link is outstanding at that block's port and ends there once (the example under R37). -/
def reqsAt (p : Nat) (l : List Req) : List Req :=
  l.filter (fun q => match decodeAddr q.addr with
    | some t => decide (portCanon t.port = portCanon p)
    | none => false)

/-- A port enters FENCED for a cause, or the cause is added to those in force (R23, R25). -/
def State.fence (s : State) (p cause : Nat) (outst : List Req) : State :=
  if fenced s p then
    s.updPort p (fun x => { x with causes := if cause ∈ x.causes then x.causes else x.causes ++ [cause] })
  else
    let s := s.updPort p (fun x => { x with shut := true, causes := [cause], reason := cause, stuck := false })
    s.each (reqsAt p outst) (fun q s => s.endByFence p q)

/-- A cause of a fence ends (R25); the port stays fenced until its block signals ready. -/
def State.endCause (s : State) (p cause : Nat) : State :=
  s.updPort p (fun x => { x with causes := x.causes.filter (· != cause) })

/-- The block signals ready: a fenced port with no cause left re-initialises its credits and opens (R25). -/
def State.openPort (s : State) (p : Nat) : State :=
  if fenced s p && (portSt s p).causes.isEmpty then
    s.updPort p (fun x => { x with shut := false })
  else s

/-! ### The judgement of a request (R444) -/

/-- A DRAM or SRAM address lies below its watermark (R443). -/
def secureMem (s : State) (a : Nat) : Bool :=
  if a < 0x800000 then decide (a < min (s.get F.BSEC_SSRAM_WM_WM 0) 128 * 65536)
  else if 0x400000000 ≤ a ∧ a < 0x800000000 then
    decide (a < 0x400000000 + min (s.get F.BSEC_DRAM_WM_WM 0) 8192 * 2 ^ 21)
  else false

/-- Any of `n` bytes from `a` is secure (R444: a burst that touches any secure byte is refused as a whole). -/
def touchesSecure (s : State) (a n : Nat) : Bool := secureMem s a || (0 < n && secureMem s (a + n - 1))

/-- The partition a target is assigned to by Table 16-1, or none where the block's own rule decides (R445). -/
def resOwner (s : State) (a : Nat) : Target → Option Nat
  | .tcm t => some (asgOf s 14 t)
  | .slot n =>
      if n = 0x006 then some (asgOf s 1 (a / 4096 % 16))
      else if n = 0x008 ∨ (n = 0x009 ∧ a < 0x10092000) then
        if a % 1024 = 8 ∨ a % 1024 = 12 then none else some (asgOf s 2 ((a - 0x10080000) / 1024))
      else if n = 0x009 then some (slotOwner s 0x009)
      else if 0x00C ≤ n ∧ n ≤ 0x00F then
        let o := a - 0x100C0000
        -- registers with bits for several inputs (R190)
        if o < 0x40 then none
        else if 0x1000 ≤ o ∧ o < 0x1600 then some (asgOf s 6 ((o - 0x1000) / 16))
        else if 0x2000 ≤ o ∧ o < 0x2100 then some (asgOf s 7 ((o - 0x2000) / 16))
        else if 0x2200 ≤ o ∧ o < 0x2280 then some (asgOf s 11 ((o - 0x2200) / 16))
        else if 0x2400 ≤ o ∧ o < 0x2800 then some (asgOf s 8 ((o - 0x2400) / 128))
        else if 0x3000 ≤ o ∧ o < 0x3200 then some (asgOf s 9 ((o - 0x3000) / 16))
        else if 0x4000 ≤ o ∧ o < 0x4180 then some (asgOf s 10 ((o - 0x4000) / 64))
        else some (slotOwner s 0x00C)
      else if 0x010 ≤ n ∧ n ≤ 0x01F then some (slotOwner s 0x010)
      else if 0x020 ≤ n ∧ n ≤ 0x025 then
        if 0x2000 ≤ a % 0x4000 ∧ a % 0x4000 < 0x2020 then some (slotOwner s 0x010)
        else some (asgOf s 3 ((a - 0x10200000) / 0x4000))
      else if 0x031 ≤ n ∧ n ≤ 0x034 then
        -- the registers of a slot but CAN_SLOT_CFG and CAN_TXFLT have their own rule (R313)
        let o := (a - 0x10310000) % 0x4000
        if 0x1000 ≤ o ∧ o < 0x1800 ∧ o % 0x100 ≠ 0 ∧ o % 0x100 ≠ 0x28 then none
        else some (asgOf s 4 ((a - 0x10310000) / 0x4000))
      else if n = 0x035 then
        if a / 4096 % 16 < 12 then some (asgOf s 5 (a / 4096 % 16)) else some (slotOwner s n)
      else if n = 0x036 then
        let o := a % 65536
        if 0x100 ≤ o ∧ o < 0x300 then some (asgOf s 12 ((o - 0x100) / 64)) else some (slotOwner s n)
      else if n = 0x050 ∨ n = 0x051 ∨ n = 0x0A0 ∨ n = 0x0B0 then some (slotOwner s n)
      else none
  | _ => none

/-- The number by which commands name the JTAG access port, which Table 1-3 gives no INIT. -/
def jtagInit : Nat := 0x800

/-- What the JTAG access port reaches (R467): the BDBG registers. -/
def jtagReach (a : Nat) : Bool := (0x107000C4 ≤ a && a < 0x107000E0) || (0x10700200 ≤ a && a < 0x10700400)

/-- Steps 1 to 3 of R444 and the port's fence: the response code so far. -/
def judgeReq (s : State) (init a n : Nat) : Nat :=
  match decodeAddr a with
  | none => respDecode
  | some t =>
    if init = jtagInit ∧ ¬ jtagReach a then respDenied else
    if !worldFree init && !secureOf s init && touchesSecure s a n then respDenied
    else if init ≠ 0x30 && (match resOwner s a t with
        | some p => decide (p ≠ partOf s init) | none => false) then respDenied
    else if fenced s t.port || (match t with | .slot m => hdieSlot m && fenced s 0x1006 | _ => false) then respTReset
    else respOkay

/-- A request refused by steps 1 to 3 of R444 or by a fence: a denial is recorded, a fence counts it, and a
posted write is logged (R28). -/
def State.refuseReq (s : State) (init a n : Nat) (write : Bool) : State :=
  let code := judgeReq s init a n
  let s := if code = respDenied then
      s.deny (!worldFree init && !secureOf s init && touchesSecure s a n) init a else s
  let s := if code = respTReset then
      (match decodeAddr a with
       | some t => s.updPort (if fenced s t.port then t.port else 0x1006)
           (fun x => { x with treset := satInc x.treset 0xFFFF })
       | none => s) else s
  if write then s.lateErr init a code (code = respTReset) else s

/-- An initiator that issues nothing: a trio in FAILED or HELD (R372, R382), a hart before step 9 of boot (Table 19-1), and every
initiator during a scan (R464), while Belfry is halted (R451) or in HALT_SAFE (R514). -/
def initSilent (s : State) (init : Nat) : Bool :=
  s.bel.scan != 0 || s.bel.halted || s.flag F.KN_STAT_HALT 0 || (decide (init < 8) && (!s.boot.started || s.get F.PM_STAT_MODE 0 == 1 || s.get F.PM_STAT_MODE 0 == 2)) || (init == 0x10 || init == 0x11) && (s.get F.CAR_STAT_STATE (init - 0x10) == 5 || s.get F.CAR_STAT_STATE (init - 0x10) == 7)

/-- A posted register write that the fabric and the width rule let through has an effect; any other is
refused and logged (R8, R28, R444).  While PMIC_EN is low nothing on the K-die runs (R345). -/
def State.busWrite (s : State) (init a bytes : Nat) (eff : State → State) : State :=
  if s.pm.phase = 2 || initSilent s init then s
  else if judgeReq s init a bytes ≠ respOkay then s.refuseReq init a bytes true
  else if bytes ≠ 4 ∨ a % 4 ≠ 0 then s.lateErr init a respSize false
  else eff s

/-- A write that the block's own rule refuses: ACCESS_DENIED, logged (R444 step 4, R28). -/
def State.denyWrite (s : State) (init a : Nat) : State := s.lateErr init a respDenied false

/-- One field of a written word under its access code (R6). -/
def mergeField (locked sec : Bool) (old new : Nat) (w : Nat) (f : FieldDef) : Nat :=
  let o := bitsOf old f.hi f.lo
  let v := bitsOf new f.hi f.lo
  withBits w f.hi f.lo (match f.acc with
    | .rw => v
    | .ro => o
    | .wo => o
    | .w1c => o - (o &&& v)
    | .w1s => o ||| v
    | .rwl => if locked then o else v
    | .rws => if sec then v else o)

/-- The word a register holds after a software write (R6, R8: Reserved bits stay 0). -/
def mergeWord (r : Reg) (locked sec : Bool) (old new : Nat) : Nat :=
  r.fields.foldl (mergeField locked sec old new) old

/-- A software write of word `i` of a family without a rule of its own (R6). -/
def State.swWrite (s : State) (sec : Bool) (r : Reg) (i : Nat) (v : Word) : State :=
  s.wr r i (BitVec.ofNat 32 (mergeWord r s.bootLocked sec (s.rd r i).toNat v.toNat))

end Sys2Proof.Machine
end

