-- ==== Sys2Proof/Machine/Twin.lean ====
section
/-!
DEFINITION. Chime codes (R46 to R54), twin words, publication slots and consumer checks (R55 to R64).
-/

namespace Sys2Proof.Machine

/-! ### Chime codes -/

/-- The value of a chime code in counts (R46). -/
def chimeDec (c : Nat) : Nat :=
  let e := bitsOf c 9 6
  let m := bitsOf c 5 0
  if e = 0 then m else (64 + m) * 2 ^ (e - 1)

/-- The chime code of `num / den` counts: rounded to the nearest step of its range, a half up, and saturated (R49). -/
def chimeEncQ (num den : Nat) : Nat :=
  if 2080768 * den ≤ num then 0x3FF
  else if num < 128 * den then
    let q := (2 * num + den) / (2 * den)
    if q < 128 then q else 0x80
  else
    let e := floorLog2 (num / den) - 5
    let st := 2 ^ (e - 1) * den
    let q := (2 * num + st) / (2 * st)
    if q < 128 then e * 64 + (q - 64) else (e + 1) * 64

/-- The chime code of whole counts (R49). -/
def chimeEnc (x : Nat) : Nat := chimeEncQ x 1

/-- Whether an exact value of `num / den` counts saturates (R50). -/
def chimeSat (num den : Nat) : Bool := decide (2080768 * den < num)

/-- CHADD: code and saturation (R50). -/
def chAdd (a b : Nat) : Nat × Bool := (chimeEnc (chimeDec a + chimeDec b), chimeSat (chimeDec a + chimeDec b) 1)

/-- CHSUB: code and saturation (R50). -/
def chSub (a b : Nat) : Nat × Bool := (chimeEnc (chimeDec a - chimeDec b), decide (chimeDec a < chimeDec b))

/-- CHMUL: code and saturation (R50). -/
def chMul (a b sh : Nat) : Nat × Bool :=
  (chimeEncQ (chimeDec a * chimeDec b) (2 ^ sh), chimeSat (chimeDec a * chimeDec b) (2 ^ sh))

/-- A measurement word (R51). -/
def measWord (valid dir : Bool) (chime raw : Nat) : Word :=
  BitVec.ofNat 32 (b2n valid * 2 ^ 31 + b2n dir * 2 ^ 26 + chime % 1024 * 2 ^ 16 + raw % 65536)

/-- RAW of a sample in steps of 1/65,536 of the stated maximum: never wraps (R51). -/
def rawClamp (r : Nat) : Nat := min r 65535

/-- A temperature in units of 0.125 °C clamped to its 12-bit range (R53). -/
def tempClamp (t : Int) : Int := max (-2048) (min 2047 t)

/-! ### Twin words -/

/-- The twin word of sequence `q` and value `v` (R55). -/
def twinWord (q v : Nat) : Nat :=
  let lo := q % 64 * 1024 + v % 1024
  (65535 - lo) * 65536 + lo

/-- Bits [31:16] are the complement of bits [15:0] (R55). -/
def twinIntact (w : Nat) : Bool := w / 65536 % 65536 == 65535 - w % 65536

/-- S and V of a twin word. -/
def twinS (w : Nat) : Nat := bitsOf w 15 10
def twinV (w : Nat) : Nat := bitsOf w 9 0

/-- One slot. -/
def slotSt (s : State) (n : Nat) : SlotSt := tget SlotSt.init s.twin.slots n

/-- One consumer. -/
def consSt (s : State) (c : Nat) : ConsSt := tget ConsSt.init s.twin.cons c

/-- A slot changed. -/
def State.updSlot (s : State) (n : Nat) (f : SlotSt → SlotSt) : State :=
  { s with twin := { s.twin with slots := tupd SlotSt.init s.twin.slots n f } }

/-- A consumer replaced. -/
def State.setCons (s : State) (c : Nat) (x : ConsSt) : State :=
  { s with twin := { s.twin with cons := tset ConsSt.init s.twin.cons c x } }

/-- The code that names no producer (R139, R480); the initiator that has this number, the DMA of VE1023, owns no slot. -/
def noProducer : Nat := 0x7FF

/-- The producer of a slot, by INIT; none where the number names no slot (R59, Table 2-6). -/
def slotProducer (s : State) (n : Nat) : Option Nat :=
  if 0x100 ≤ n ∧ n ≤ 0x147 then some (s.get F.PWR_CH_PROD_CMD_PROD (n - 0x100))
  else if 0x180 ≤ n ∧ n ≤ 0x1C7 then some (s.get F.PWR_CH_PROD_LIM_PROD (n - 0x180))
  else if 0x200 ≤ n ∧ n ≤ 0x207 then some (tget 0x7FF s.twin.knProd (n - 0x200))
  else if 0x800 ≤ n ∧ n ≤ 0x9FF then some (0x20 + (n - 0x800) / 0x20)
  else if 0xC00 ≤ n ∧ n ≤ 0xDFF then some (s.get F.BEAT_SLOT_PROD_PROD (n - 0xC00))
  else none

/-- A slot whose consumers lie on the H-die, so that its visible word crosses the spine link. -/
def slotCrosses (n : Nat) : Bool :=
  (0x100 ≤ n && n ≤ 0x147) || (0x180 ≤ n && n ≤ 0x1C7) || (0x200 ≤ n && n ≤ 0x207)

/-- The pending value of a slot is written (R57, R58: the last write of a beat counts). -/
def State.publish (s : State) (n v : Nat) : State := s.updSlot n (fun x => { x with pendV := some (v % 1024) })

/-- A write of V to a slot by an initiator: only the producer's is admitted, and a Tabla engine writes only
through its strokes (R56, R59). -/
def pubWrite (init a n v : Nat) (s : State) : State :=
  if slotProducer s n = some init ∧ init ≠ noProducer ∧ ¬ (0x20 ≤ init ∧ init < 0x30) then s.publish n v else s.denyWrite init a

/-- The effect of a write of BEAT_PUB (R59). -/
def beatPub (init : Nat) (v : Word) (s : State) : State :=
  if bitsOf v.toNat 15 10 ≠ 0 then s.denyWrite init (R.BEAT_PUB.addr 0)
  else pubWrite init (R.BEAT_PUB.addr 0) (bitsOf v.toNat 31 16) (bitsOf v.toNat 9 0) s

/-- BEAT_PUB (R59). -/
def execBeatPub (init : Init) (value : Word) (s : State) : Res :=
  .next (s.busWrite init (R.BEAT_PUB.addr 0) 4 (beatPub init value))

/-- PWR_CMD_PUB (R139): bits [31:10] are Reserved. -/
def execPwrCmdPub (ch : Fin 72) (init : Init) (value : Word) (s : State) : Res :=
  .next (s.busWrite init (R.PWR_CMD_PUB.addr ch) 4
    (pubWrite init (R.PWR_CMD_PUB.addr ch) (0x100 + ch) (bitsOf value.toNat 9 0)))

/-- PWR_LIM_PUB (R139). -/
def execPwrLimPub (ch : Fin 72) (init : Init) (value : Word) (s : State) : Res :=
  .next (s.busWrite init (R.PWR_LIM_PUB.addr ch) 4
    (pubWrite init (R.PWR_LIM_PUB.addr ch) (0x180 + ch) (bitsOf value.toNat 9 0)))

/-- One slot at a beat boundary (R57). -/
def SlotSt.advance (x : SlotSt) : SlotSt :=
  match x.pendV with
  | some v => { x with visible := twinWord (twinS x.visible + 1) v, pendV := none }
  | none => x

/-- Every slot that was written in the beat just ended advances (R57; step 3 of Table 4-1). -/
def State.advanceSlots (s : State) : State :=
  { s with twin := { s.twin with
      slots := tupdAll SlotSt.init s.twin.slots
        ((s.twin.slots.filter (fun e => e.2.pendV.isSome)).map (·.1)) (fun _ x => x.advance) } }

/-- The present visible word of every crossing slot is delivered to the far side (R58). -/
def State.deliverSlots (s : State) : State :=
  { s with twin := { s.twin with
      slots := tupdAll SlotSt.init s.twin.slots
        ((s.twin.slots.filter (fun e => slotCrosses e.1)).map (·.1)) (fun _ x => { x with far := x.visible }) } }

/-! ### Consumer checks -/

/-- What a check finds (R60). -/
inductive Verdict where
  | good
  /-- A bad word with its KIND of Table 2-5. -/
  | bad (kind : Nat)
  deriving DecidableEq, Repr

/-- The consumer is in the reference state at beat `b` (R61). -/
def ConsSt.isRef (c : ConsSt) (b : Nat) : Bool := c.ref || decide (c.bLast + 64 ≤ b)

/-- The judgement of a word in beat `b` (R60). -/
def judgeWord (c : ConsSt) (w b : Nat) : Verdict :=
  if !twinIntact w then .bad 0
  else if c.isRef b then .good
  else if twinS w = (c.sLast + (b - c.bLast)) % 64 then .good
  else .bad (if twinS w = c.sLast then 1 else 2)

/-- The consumer after a check with HOLD_BEATS = `hold` (R60 to R63). -/
def ConsSt.after (c : ConsSt) (w b hold : Nat) : ConsSt :=
  let c' := if twinIntact w then { c with sLast := twinS w, bLast := b } else c
  match judgeWord c w b with
  | .good => { c' with vGood := twinV w, held := 0, ref := false, safe := false, good := true }
  | .bad _ =>
    { c' with held := c.held + 1, ref := c.isRef b, vGood := (if c.isRef b then 0 else c.vGood),
              safe := c.safe || c.isRef b || decide (hold < c.held + 1), good := false }

/-- A consumer's check (R60 to R64): its state follows, and a bad word raises FS380 with its record; `kept` says that an earlier safe
action of the consumer still waits for its release (R63), so that SAFE shows it in force. -/
def State.checkWord (s : State) (consumer slot w hold : Nat) (kept : Bool) : State :=
  let c := consSt s consumer
  let b := s.beat
  let c' := c.after w b hold
  let s := s.setCons consumer c'
  match judgeWord c w b with
  | .good => s
  | .bad k =>
    s.raiseRec 380
      (2 ^ 31 + k * 2 ^ 29 + b2n (c'.safe || kept) * 2 ^ 28 + (slotProducer s slot).getD 0 * 2 ^ 16 + slot)
      w (consumer * 2 ^ 16 + min c'.held 7 * 2 ^ 13 + c'.vGood) s.beatLo

end Sys2Proof.Machine
end

