-- ==== Sys2Proof/Machine/Arith.lean ====
section
/-!
DEFINITION. Exact arithmetic that several chapters share: quotients of unstated rounding, square roots and
logarithms.
-/

namespace Sys2Proof.Machine

/-- `num / den` with the rounding the spec leaves open: the quotient, or one more where it is not exact. -/
def qdiv (tag num den : Nat) : Nat :=
  num / den + (if num % den = 0 then 0 else b2n (Config.roundUp tag num den))

/-- ⌊√n⌋ for n < 4^(k), built from bit k − 1 down. -/
def isqrtAux (n : Nat) : Nat → Nat → Nat
  | 0, a => a
  | k + 1, a => if (a + 2 ^ k) * (a + 2 ^ k) ≤ n then isqrtAux n k (a + 2 ^ k) else isqrtAux n k a

/-- ⌊√n⌋ for n < 2^128. -/
def isqrt (n : Nat) : Nat := isqrtAux n 64 0

/-- The chime code of √(num / den) counts (R49): ⌊2√·⌋ decides every half-step. -/
def chimeEncSqrt (num den : Nat) : Nat := chimeEncQ (isqrt (4 * num / den)) 2

/-- atanh(a / b) in steps of 2^-48 by its series, `n` terms; `p` is the running power. -/
def atanhAux (a b : Nat) : Nat → Nat → Nat → Nat
  | 0, _, _ => 0
  | n + 1, p, k => p / k + atanhAux a b n (p * a * a / (b * b)) (k + 2)

/-- ln(num / den) in steps of 2^-48 for num ≥ den: the power of two taken out, then 2·atanh((m − 1)/(m + 1)). -/
def lnFix (num den : Nat) : Nat :=
  let k := floorLog2 (num / den)
  let d := den * 2 ^ k
  let a := num - d
  let b := num + d
  k * 195103586505167 + 2 * atanhAux a b 24 (2 ^ 48 * a / b) 1

end Sys2Proof.Machine
end

