-- ==== Sys2Proof/Machine/Pwr.lean ====
section
/-!
DEFINITION. Power channels (chapter 5): conversions, the wire model, protection trips, the evaluation of R152, forcing,
and restart after an H-die reset.
-/

namespace Sys2Proof.Machine

/-! ### States and causes (Tables 5-5 and 5-6) -/

def chOff : Nat := 0
def chPre : Nat := 1
def chOn : Nat := 2
def chShort : Nat := 3
def chWire : Nat := 4
def chCool : Nat := 5
def chShed : Nat := 6
def chForced : Nat := 7
def chFet : Nat := 8

/-- CEIL_I and τ_class in seconds of a wire class (Table 5-4). -/
def wireClass : List (Nat × Nat) :=
  [(0x24E, 8), (0x26D, 10), (0x286, 13), (0x296, 16), (0x2A6, 19), (0x2B5, 22), (0x2C6, 27), (0x2D2, 32),
   (0x2DE, 37), (0x2ED, 45), (0x2FD, 53), (0x306, 60), (0x314, 75), (0x322, 90), (0x32B, 105), (0x335, 130)]

/-- A field of the channel's own state word. -/
def ChSt.get (c : ChSt) (f : Fld) : Nat := bitsOf c.word f.hi f.lo

/-- The channel with a field of its state word set. -/
def ChSt.put (c : ChSt) (f : Fld) (v : Nat) : ChSt := { c with word := withBits c.word f.hi f.lo v }

/-- The channel's state (Table 5-5). -/
def ChSt.state (c : ChSt) : Nat := c.get F.PWR_STATE_STATE

/-- The channel's cause (Table 5-6). -/
def ChSt.cause (c : ChSt) : Nat := c.get F.PWR_STATE_CAUSE

/-- The gate is driven on. -/
def ChSt.gate (c : ChSt) : Bool := c.get F.PWR_STATE_GATE_ON != 0

/-- A one-bit field of the channel's state word. -/
def ChSt.flag (c : ChSt) (f : Fld) : Bool := c.get f != 0

/-- One channel. -/
def chSt (s : State) (ch : Nat) : ChSt := tget ChSt.init s.ch ch

/-- A channel replaced. -/
def State.setCh (s : State) (ch : Nat) (c : ChSt) : State := { s with ch := tset ChSt.init s.ch ch c }

/-- One feed. -/
def feedSt (s : State) (f : Nat) : FeedSt := tget FeedSt.init s.feed f

/-- A feed changed. -/
def State.updFeed (s : State) (f : Nat) (g : FeedSt → FeedSt) : State :=
  { s with feed := tupd FeedSt.init s.feed f g }

/-- The feed of a channel: 0 for FEED12, 1 for FEED48 (R135). -/
def feedOf (ch : Nat) : Nat := if ch < 56 then 0 else 1

/-- The channels of a feed. -/
def feedChans (f : Nat) : List Nat := if f = 0 then List.range 56 else (List.range 16).map (· + 56)

/-- The spine link is UP; RETRAIN counts as UP (R35). -/
def linkUp (s : State) : Bool := 2 ≤ s.get F.SPINE_STAT_STATE 0

/-- The H-die's logic runs. -/
def hRuns (s : State) : Bool := !s.fab.hdieReset

/-- A Knell group is in safe state or HALT (R479). -/
def groupSafe (s : State) (g : Nat) : Bool := s.get F.KN_GSTAT_STATE g != 0

/-! ### Effects on the K-die (R162: its registers keep their values while the link is not UP) -/

/-- One effect on the K-die. -/
def KEff.apply (e : KEff) (s : State) : State :=
  match e with
  | .status ch b => s.wr R.PWR_STATUS ch (s.rd R.PWR_STATUS ch ||| BitVec.ofNat 32 (2 ^ b))
  | .cnt ch k => s.incSat F.PWR_CNT_CNT (6 * ch + k)
  | .changed ch b => s.put F.PWR_STATE_BEAT_BEAT ch b
  | .trip ch a b c d =>
      (((s.wr R.PWR_TRIP_REC0 ch (BitVec.ofNat 32 a)).wr R.PWR_TRIP_REC1 ch (BitVec.ofNat 32 b)).wr
        R.PWR_TRIP_REC2 ch (BitVec.ofNat 32 c)).wr R.PWR_TRIP_REC3 ch (BitVec.ofNat 32 d)
  | .irq ch b => if bitOf (tget ChSt.init s.ch ch).ie b then s.raiseIrq (640 + ch) else s
  | .fault n a b c d => s.raiseRec n a b c d
  | .feedEvt f b =>
      let s := s.wr R.FEED_EVT f (s.rd R.FEED_EVT f ||| BitVec.ofNat 32 (2 ^ b))
      if (s.rd R.FEED_IE f).getLsbD b then s.raiseIrq (712 + f) else s
  | .feedCnt f k => s.incSat F.FEED_CNT_CNT (6 * f + k)
  | .feedLvl f l b => (s.put F.FEED_STAT_SHED_LVL f l).put F.FEED_SHED_BEAT_BEAT f b
  | .est f t v => s.put F.FEED_TIER_EST_EST (7 * f + (t - 1)) v
  | .int n => s.raiseIrq n

/-- Effects on the K-die, now or at link-up (DEDUCED from R160 and R162). -/
def State.kdo (s : State) (l : List KEff) : State :=
  if linkUp s then s.each l KEff.apply else { s with late := s.late ++ l }

/-- Bit of a channel in one of its feed's maps (R181). -/
def mapBit (s : State) (r : Reg) (ch : Nat) (on : Bool) : State :=
  let i := if ch < 56 then ch else ch - 56
  let k := 2 * feedOf ch + i / 32
  s.wr r k (setBits (s.rd r k) (i % 32) (i % 32) (b2n on))

/-- PWR_STATE and the feed's maps show the channel (R162, R181). -/
def State.mirror (s : State) (ch : Nat) : State :=
  if linkUp s then
    let c := chSt s ch
    let s := s.wr R.PWR_STATE ch (BitVec.ofNat 32 c.word)
    let shed := c.state == chShed
    let s := mapBit s R.FEED_MAP_BUD ch (shed && c.cause == 0x10)
    let s := mapBit s R.FEED_MAP_MODE ch (shed && c.cause == 0x11)
    mapBit s R.FEED_MAP_KN ch (shed && c.cause == 0x12)
  else s

/-- A channel's fault source raised with the record of Table 5-14. -/
def State.chFault (s : State) (n ch ofs : Nat) : State :=
  let c := chSt s ch
  s.kdo [.fault n (2 ^ 31 + ch * 2 ^ 24 + c.state * 2 ^ 20 + c.cause * 2 ^ 15 + c.iCode) s.beatLo ofs 0]

/-! ### Entering a state -/

/-- The gate that SAFE_ACTION selects for a channel forced from the given state (R154). -/
def safeGate (s : State) (ch : Nat) (c : ChSt) : Bool :=
  match s.get F.PWR_CH_CFG_SAFE_ACTION ch with
  | 2 => true
  | 1 => c.state == chOn || (c.state == chForced && c.gate)
  | _ => false

/-- The gate in a state (Table 5-5). -/
def gateFor (s : State) (ch : Nat) (c : ChSt) (st : Nat) : Bool :=
  st == chPre || st == chOn || (st == chForced && safeGate s ch c)

/-- The cause is a twin-word forcing cause. -/
def twinCause (c : Nat) : Bool := c == 0x15 || c == 0x16

/-- A channel enters a state with a cause, `ofs` ns after the boundary (R151): gate, open-load flag and counts
follow, and a change of state is reported. -/
def State.goCh (s : State) (ch st cause ofs : Nat) : State :=
  let c := chSt s ch
  let old := c.state
  let g := gateFor s ch c st
  let stays := st == chOn || (st == chForced && g)
  let offs := fun x => x == chOff || x == chShed
  let olKept := (st == chOn && old == chOn) || (offs st && offs old)
  let c1 := ((c.put F.PWR_STATE_STATE st).put F.PWR_STATE_CAUSE cause).put F.PWR_STATE_GATE_ON (b2n g)
  let c1 := if olKept then c1 else c1.put F.PWR_STATE_OPEN_LOAD 0
  let c1 := if g then c1.put F.PWR_STATE_OUT_HIGH 0 else c1
  let c1 := { c1 with onBeats := if stays then c.onBeats else 0, goodOn := if stays then c.goodOn else 0,
                      olBeats := if st == old then c.olBeats else 0 }
  let s := (s.setCh ch c1).mirror ch
  let s := if st = old then s else
    let s := s.kdo [.changed ch s.beatLo, .status ch 16, .irq ch 0]
    let s := s.when (st == chForced) (·.kdo [.status ch 18, .irq ch 1])
    let s := s.when (st == chShed) (·.kdo [.status ch 17, .cnt ch 3])
    s.when (st == chFet) (fun s => (s.kdo [.status ch 26, .irq ch 4]).chFault 131 ch ofs)
  s.when (st == chForced && twinCause cause && !(old == chForced && twinCause c.cause)) (·.chFault 139 ch ofs)

/-! ### Configuration in force (R142, R143, R152) -/

/-- CEIL_I of a channel (R142, R147). -/
def ceilOf (s : State) (ch : Nat) : Nat :=
  let c := (wireClass.getD (s.get F.PWR_CH_CFG_CLASS ch) (0, 0)).1
  if 56 ≤ ch then min c 0x2F5 else c

/-- τ_class of a channel in seconds. -/
def tauClass (s : State) (ch : Nat) : Nat := (wireClass.getD (s.get F.PWR_CH_CFG_CLASS ch) (0, 0)).2

/-- SHORT_MAX (R143): the smaller of CEIL_I + 0x0C0 and the code of 200 mV / R_EQ. -/
def shortMax (s : State) (ch : Nat) : Nat :=
  min (ceilOf s ch + 0x0C0) (chimeEncQ 800000000 (s.get F.PWR_CH_CFG_R_EQ ch))

/-- SHORT_EFF (R143). -/
def shortEff (s : State) (ch : Nat) : Nat := min (s.get F.PWR_POLICY_SHORT_I ch) (shortMax s ch)

/-- The registers' values take effect, with the limit value in force (R142, R143, R152). -/
def State.takeCfg (s : State) (ch : Nat) (lim : Option Nat) : State :=
  let ceil := ceilOf s ch
  let trip := s.get F.PWR_POLICY_TRIP_I ch
  let l := lim.getD 0x3FF
  let lvl := min ceil (min trip l)
  let tt := s.get F.PWR_TAU_TAU_TRIM ch
  let c := chSt s ch
  let s := s.setCh ch { c with
    lvl := lvl, ceil := ceil, trim := if tt = 0 then 1 else min tt 256, retryMax := s.get F.PWR_RETRY_RETRY_MAX ch,
    pol := (s.rd R.PWR_POLICY ch).toNat, diag := (s.rd R.PWR_DIAG ch).toNat, fetf := (s.rd R.PWR_FETF ch).toNat,
    ie := (s.rd R.PWR_IE ch).toNat }
  let above := fun v => decide (ceil < v) && v != 0x3FF
  let si := s.get F.PWR_POLICY_SHORT_I ch
  let s := s.when (above trip || above l) (·.kdo [.status ch 31])
  let s := s.when ((decide (shortMax s ch < si) && si != 0x3FF) || decide (0x1BD < s.get F.PWR_PROT_SHORT_VDS ch))
    (·.kdo [.status ch 30])
  let s := s.when (decide (256 < tt)) (·.kdo [.status ch 29])
  let s := s.wr R.PWR_EFF ch (BitVec.ofNat 32
    (b2n (lvl == ceil) * 2 ^ 31 + b2n (lim == some lvl) * 2 ^ 30 + lvl * 2 ^ 16 + ceil))
  s.wr R.PWR_EFF2 ch (BitVec.ofNat 32 (shortEff s ch * 2 ^ 16 + shortMax s ch))

/-! ### Trips -/

/-- √X as a current code (R146). -/
def iTh (x : Nat) : Nat := chimeEncSqrt (x * 15625) 64

/-- The trip record of a trip that left `prev` (Table 5-11). -/
def tripRec (ch prev peak letI2t ofs : Nat) (s : State) : State :=
  let c := chSt s ch
  s.kdo [.trip ch (2 ^ 31 + c.cause * 2 ^ 24 + prev * 2 ^ 16 + peak % 1024) (letI2t % 1024 * 2 ^ 16 + iTh c.x)
    s.beatLo ofs]

/-- Entry into TRIPPED_SHORT with a cause (R145, R153). -/
def State.tripShort (s : State) (ch cause peak letI2t ofs : Nat) : State :=
  let prev := (chSt s ch).state
  let s := s.goCh ch chShort cause ofs
  let s := tripRec ch prev peak letI2t ofs s
  let s := s.kdo [.status ch 28, .cnt ch 0, .irq ch 2]
  let s := s.when (cause == 0x0A) (·.kdo [.status ch 22])
  s.chFault (if cause = 0x0A then 133 else if cause = 0x0B then 138 else 128) ch ofs

/-- The gate is driven on in a state of Table 5-7's wire and undervoltage rows. -/
def ChSt.driven (c : ChSt) : Bool := c.state == chPre || c.state == chOn || (c.state == chForced && c.gate)

/-- A wire trip (R146, R153). -/
def State.wireTrip (s : State) (ch peak letI2t ofs : Nat) : State :=
  let c := chSt s ch
  let cause := if c.flag F.PWR_STATE_SENSE_FAULT then 0x0E else if c.lvl = c.ceil then 0x0C else 0x0D
  let n := c.get F.PWR_STATE_RETRY_CNT
  let retry := decide (n < c.retryMax)
  let s := if retry then s.setCh ch (c.put F.PWR_STATE_RETRY_CNT (n + 1)) else s
  let s := s.goCh ch (if retry then chCool else chWire) cause ofs
  let s := tripRec ch c.state peak letI2t ofs s
  let s := s.kdo [.status ch 27, .cnt ch 1, .irq ch 2]
  let s := s.chFault 129 ch ofs
  s.when (!retry) (·.chFault 130 ch ofs)

/-- SHORT_TRIP (R144, R145): a comparator has fired; the V_DS comparator is blanked in PRECHARGE. -/
def execShortTrip (ch : Fin 72) (vds current vgsHigh : Bool) (peak letI2t ofs : Nat) (s : State) : Res :=
  let st := (chSt s ch).state
  if hRuns s && vgsHigh && st != chFet && (current || (vds && st != chPre)) then
    .next (s.tripShort ch (if current then 0x09 else 0x08) peak letI2t ofs)
  else .next s

/-- GATE_UV (R145): undervoltage for 10 µs while the gate is driven on. -/
def execGateUv (ch : Fin 72) (peak letI2t ofs : Nat) (s : State) : Res :=
  if hRuns s && (chSt s ch).driven then .next (s.tripShort ch 0x0B peak letI2t ofs) else .next s

/-- PRECHARGE_DONE (R157): V_DS has reached V_PRE_DONE; the cause is kept. -/
def execPrechargeDone (ch : Fin 72) (ofs : Nat) (s : State) : Res :=
  if hRuns s && (chSt s ch).state == chPre then .next (s.goCh ch chOn (chSt s ch).cause ofs) else .next s

/-- PRE_TIMEOUT (R157): PRE_TMAX has elapsed in PRECHARGE. -/
def execPreTimeout (ch : Fin 72) (peak letI2t ofs : Nat) (s : State) : Res :=
  if hRuns s && (chSt s ch).state == chPre then .next (s.tripShort ch 0x0A peak letI2t ofs) else .next s

/-- FET_FAULT (R159): the FET condition has held for t_FETF with the gate below 1 V. -/
def execFetFault (ch : Fin 72) (ofs : Nat) (s : State) : Res :=
  let c := chSt s ch
  if hRuns s && !c.gate && c.state != chFet then .next (s.goCh ch chFet 0x17 ofs) else .next s

/-- A field of a word that the last evaluation took (R152). -/
def inForce (w : Nat) (f : Fld) : Nat := bitsOf w f.hi f.lo

/-- The off-state pull-up is on (R158). -/
def pullUp (s : State) (ch : Nat) : Bool :=
  let c := chSt s ch
  inForce c.diag F.PWR_DIAG_OL_OFF_EN != 0 && (c.state == chOff || c.state == chShed)

/-- OUT_HIGH (R159): V_DS below FETF_VDS with the forward current at or below FETF_I while the gate is off. -/
def execOutHigh (ch : Fin 72) (ofs : Nat) (s : State) : Res :=
  let c := chSt s ch
  if hRuns s && !c.gate && !pullUp s ch && !c.flag F.PWR_STATE_OUT_HIGH then
    let s := (s.setCh ch (c.put F.PWR_STATE_OUT_HIGH 1)).mirror ch
    .next ((s.kdo [.status ch 23]).chFault 137 ch ofs)
  else .next s

/-- A current-sense fault of a channel begins (R138, R150). -/
def State.senseFault (s : State) (ch ofs : Nat) : State :=
  let c := chSt s ch
  if c.flag F.PWR_STATE_SENSE_FAULT then s
  else
    let s := (s.setCh ch (c.put F.PWR_STATE_SENSE_FAULT 1)).mirror ch
    let s := s.when (linkUp s) (·.put F.PWR_I_VALID ch 0)
    (s.kdo [.status ch 21]).chFault 134 ch ofs

/-- CURRENT_SENSE_FAULT (R138, R150). -/
def execCurrentSenseFault (ch : Fin 72) (ofs : Nat) (s : State) : Res :=
  if hRuns s then .next (s.senseFault ch ofs) else .next s

/-! ### Conversions (R138, R146 to R150, R169, R170) -/

/-- The ambient factor and the temperature shown, with whether the selected source is not valid (R148). -/
def ambient (s : State) (ch : Nat) : Nat × Int × Bool :=
  let sel := s.get F.PWR_CH_CFG_AMB_SEL ch
  let t : Int := if sel < 8 then toSigned 12 (s.get F.IOX_TEMP_T sel) else s.temp.h
  let valid := if sel < 8 then s.flag F.IOX_TEMP_VALID sel else sel == 8 && !s.temp.hFault
  if !valid then (512, 840, sel != 15)
  else if t ≤ 200 then (1024, t, false)
  else if t < 840 then (1024 - (4 * (t - 200) / 5).toNat, t, false)
  else (512, 840, false)

/-- A quotient that is rounded up where `up` says so. -/
def divUp (up : Bool) (num den : Nat) : Nat := num / den + (if num % den = 0 then 0 else b2n up)

/-- The wire model's X after one update with a current of `i` counts (R146); `k` is k_amb.  The spec states no rounding of
a step to the resolution of X: `up` tells whether this one is rounded away from 0. -/
def wireStep (up : Bool) (x i tau k trim : Nat) : Nat :=
  if x * 15625 < i * i * 64 then
    x + divUp up ((i * i * 64 - x * 15625) * 1048576) (15625 * 1000000 * tau * k * trim)
  else x - divUp up ((x * 15625 - i * i * 64) * 4) (15625 * 1000000 * tau)

/-- X has reached LVL² (R146). -/
def ChSt.hot (c : ChSt) : Bool := decide (chimeDec c.lvl * chimeDec c.lvl * 64 ≤ c.x * 15625)

/-- X is above LVL² / 4 (R152). -/
def ChSt.warm (c : ChSt) : Bool := decide (chimeDec c.lvl * chimeDec c.lvl * 64 < 4 * c.x * 15625)

/-- PWR_COOL_REM in ms (R153); with LVL = 0 the spec gives no value. -/
def coolRem (c : ChSt) (tau : Nat) : Nat :=
  if !c.warm then 0
  else if chimeDec c.lvl = 0 then Config.freeNat 3 c.x
  else qdiv 3 (tau * 1000 * lnFix (4 * c.x * 15625) (chimeDec c.lvl * chimeDec c.lvl * 64)) (2 ^ 48)

/-- τ_h in ms (R149). -/
def tauMs (tau k trim : Nat) : Nat := qdiv 4 (tau * 1000 * k * trim) 262144

/-- The charge of one interval in 2^-32 µC from RAW (R170). -/
def chargeOf (raw r : Nat) : Nat := qdiv 5 (raw * 800000 * 65536) r

/-- The charge of a channel's interval is counted (R170). -/
def countCh (ch raw : Nat) (dir valid : Bool) (s : State) : State :=
  let c := chSt s ch
  if !(c.gate || c.state == chFet) then s
  else if !valid then s.updFeed (feedOf ch) (fun x => { x with badCh := true })
  else
    let q := chargeOf raw (s.get F.PWR_CH_CFG_R_EQ ch)
    if dir then s.updFeed (feedOf ch) (fun x => { x with acc := { x.acc with chqr := x.acc.chqr + q } })
    else (s.setCh ch { c with acc := c.acc + q }).updFeed (feedOf ch)
      (fun x => { x with acc := { x.acc with chqf := x.acc.chqf + q } })

/-- A channel's part of one conversion: the measurement words and the charge. -/
def measureCh (x : ConvSample) (ch : Nat) (s : State) : State :=
  let c := chSt s ch
  let ok := !c.flag F.PWR_STATE_SENSE_FAULT
  let code := chimeEncQ (min x.raw 65536 * 390625) (32 * s.get F.PWR_CH_CFG_R_EQ ch)
  let vout := chimeEncQ (min x.vRaw 65536 * 625) 512
  let vds := chimeEncQ (min x.vdsRaw 65536 * 625) 512
  let s := if linkUp s then
      let s := if ok && !x.loop then s.wr R.PWR_I ch (measWord true x.dir code (rawClamp x.raw))
        else s.when (!ok) (·.put F.PWR_I_VALID ch 0)
      let s := s.wr R.PWR_VOUT ch (measWord true false vout (rawClamp x.vRaw))
      let s := s.wr R.PWR_VDS ch (measWord true false vds (rawClamp x.vdsRaw))
      countCh ch (s.get F.PWR_I_RAW ch) (s.flag F.PWR_I_DIR ch) ok s
    else s
  let c := chSt s ch
  let new := ok && !x.loop
  s.setCh ch { c with iCode := if new then code else c.iCode, iDir := if new then x.dir else c.iDir,
                      vout := vout, vds := vds }

/-- A channel's part of one conversion: the wire model and what it shows (R146 to R150). -/
def modelCh (x : ConvSample) (ch ofs : Nat) (s : State) : State :=
  let c := chSt s ch
  let tau := tauClass s ch
  let a := ambient s ch
  let bad := c.flag F.PWR_STATE_SENSE_FAULT
  let i := if bad then (if c.gate || c.state == chFet then 2 * chimeDec c.lvl else 0) else chimeDec c.iCode
  let fresh := a.2.2 && !c.flag F.PWR_STATE_AMB_FAULT
  let high := c.flag F.PWR_STATE_OUT_HIGH && !pullUp s ch && decide (c.vds < inForce c.fetf F.PWR_FETF_FETF_VDS) &&
    (c.iDir || decide (c.iCode ≤ inForce c.fetf F.PWR_FETF_FETF_I))
  let d := s.draw
  let s := d.2
  let c := { (c.put F.PWR_STATE_AMB_FAULT (b2n a.2.2)).put F.PWR_STATE_OUT_HIGH (b2n high) with
             x := wireStep (Config.freeBool 1 d.1) c.x i tau a.1 c.trim }
  let s := (s.setCh ch c).mirror ch
  let s := s.when fresh (fun s => (s.kdo [.status ch 20]).chFault 135 ch ofs)
  let s := s.when (c.hot && c.driven) (·.wireTrip ch x.peak x.letI2t ofs)
  if linkUp s then
    let s := s.wr R.PWR_MODEL ch (BitVec.ofNat 32 (ofSigned 12 a.2.1 * 2 ^ 16 + iTh c.x))
    let s := s.put F.PWR_TAU_EFF_TAU_H ch (tauMs tau a.1 c.trim)
    s.put F.PWR_COOL_REM_REM ch (coolRem c tau)
  else s

/-- A feed's part of one conversion (R169, R170, R179). -/
def measureFeed (x : ConvSample) (f : Nat) (s : State) : State :=
  let ok := !(feedSt s f).sense
  let r := s.get F.FEED_CFG_R_EQ f
  let code := chimeEncQ (min x.raw 65536 * 390625) (32 * r)
  let q := chargeOf (rawClamp x.raw) r
  let s := if linkUp s then
      let s := if ok then s.wr R.FEED_I f (measWord true x.dir code (rawClamp x.raw)) else s.put F.FEED_I_VALID f 0
      let s := s.wr R.FEED_V f (measWord true false (chimeEncQ (min x.vRaw 65536 * 625) 512) (rawClamp x.vRaw))
      let qq := qdiv 6 (chimeDec (s.get F.FEED_QUIESC_QUIESC_I f) * 2 ^ 32) 1000
      s.updFeed f (fun y => { y with
        acc := { y.acc with qf := y.acc.qf + (if ok && !x.dir then q else 0),
                            qr := y.acc.qr + (if ok && x.dir then q else 0), qq := y.acc.qq + qq },
        badFeed := y.badFeed || !ok, n := y.n + 1 })
    else s
  let above := s.flag F.FEED_FAST_EN f && ok && !x.dir && decide (s.get F.FEED_FAST_FAST_I f < code)
  s.updFeed f (fun y => { y with run := if above then y.run + 1 else 0 })

/-- What an interval measured at a unit; a unit that is not listed measured nothing but zero. -/
def sampleOf (l : List ConvSample) (u : Nat) : ConvSample :=
  (l.find? (fun x => x.unit == u)).getD ⟨u, 0, false, 0, 0, false, 0, 0⟩

/-- CONVERSION (R138, R146, R169, R170): one 4 µs interval ends at every channel and both feeds; the H-die's
oscillator drives it (R156). -/
def execConversion (ofs : Nat) (samples : List ConvSample) (s : State) : Res :=
  if hRuns s && s.kn.hosc then
    let s := s.each (List.range 72) (fun ch s => modelCh (sampleOf samples ch) ch ofs (measureCh (sampleOf samples ch) ch s))
    .next (s.each [0, 1] (fun f s => measureFeed (sampleOf samples (72 + f)) f s))
  else .next s

/-! ### Evaluation (R140, R152) -/

/-- What the command slot says at an evaluation (Table 5-3). -/
inductive Cmd where
  | safe | off | on | ack | invalid
  deriving DecidableEq, Repr

/-- The command of a checked consumer (R141). -/
def cmdOf (c : ConsSt) : Cmd :=
  if c.safe then .safe
  else match c.vGood with
    | 0 => .off
    | 1 => .on
    | 2 => .ack
    | _ => .invalid

/-- A slot becomes engaged (R140); its consumer then starts in the reference state. -/
def engage (ch slot prod : Nat) (f : Fld) (s : State) : State :=
  let c := chSt s ch
  if c.flag f || prod = noProducer || (slotSt s slot).far = 0xFFFF0000 then s
  else (s.setCh ch (c.put f 1)).setCons slot ConsSt.init

/-- Each of the channel's slots becomes engaged by its own visible word (R140). -/
def engageCh (ch : Nat) (s : State) : State :=
  engage ch (0x180 + ch) (s.get F.PWR_CH_PROD_LIM_PROD ch) F.PWR_STATE_ENG_LIM
    (engage ch (0x100 + ch) (s.get F.PWR_CH_PROD_CMD_PROD ch) F.PWR_STATE_ENG_CMD s)

/-- One slot's check with its bad-word count (R60, R167). -/
def chCheck (ch slot hold : Nat) (kept : Bool) (s : State) : State :=
  let s := s.checkWord slot slot (slotSt s slot).far hold kept
  s.when (!(consSt s slot).good) (·.kdo [.cnt ch 5])

/-- The check of the command slot, of a channel that it is engaged at (R140). -/
def checkCmd (ch : Nat) (s : State) : State :=
  let c := chSt s ch
  if c.flag F.PWR_STATE_ENG_CMD then
    chCheck ch (0x100 + ch) (s.get F.PWR_CH_PROD_CMD_HOLD ch) (c.flag F.PWR_STATE_TWIN_CMD_F) s
  else s

/-- The check of the limit slot; no slot is checked before the command slot is engaged (R140). -/
def checkLim (ch : Nat) (s : State) : State :=
  let c := chSt s ch
  if c.flag F.PWR_STATE_ENG_CMD && c.flag F.PWR_STATE_ENG_LIM then
    chCheck ch (0x180 + ch) (s.get F.PWR_CH_PROD_LIM_HOLD ch) (c.flag F.PWR_STATE_TWIN_LIM_F) s
  else s

/-- The checks of the channels' consumers at the check point, in order of consumer number (R64); the evaluations that use them
follow those of Knell (R480). -/
def checkChannels (s : State) : State :=
  if hRuns s && linkUp s then
    let s := s.each (List.range 72) engageCh
    (s.each (List.range 72) checkCmd).each (List.range 72) checkLim
  else s

/-- A forcing cause applies to the channel. -/
def ChSt.forced (c : ChSt) : Bool :=
  c.flag F.PWR_STATE_KNELL_FORCED || c.flag F.PWR_STATE_TWIN_CMD_F || c.flag F.PWR_STATE_TWIN_LIM_F

/-- The expiry of the spine hold is all that holds a group (Table 5-6): no cause but LINK applies. -/
def onlyLink (s : State) (g : Nat) : Bool :=
  s.kn.linkHeld.contains g && (getBits (s.rd R.KN_GSTAT g) 29 27 == 0) && (getBits (s.rd R.KN_GSTAT g) 25 22 == 0)

/-- The first forcing cause that applies (R151). -/
def forceCause (s : State) (ch : Nat) (c : ChSt) : Nat :=
  if c.flag F.PWR_STATE_KNELL_FORCED then (if onlyLink s (s.get F.PWR_CH_CFG_KNELL_GRP ch) then 0x14 else 0x13)
  else if c.flag F.PWR_STATE_TWIN_CMD_F then 0x15
  else 0x16

/-- The Knell feed action asks the channel to shed (R180). -/
def shedKnell (s : State) (ch : Nat) : Bool :=
  let f := feedOf ch
  s.flag F.FEED_STAT_KN_ACT f && decide (max 1 (s.get F.FEED_CFG_KN_TIER f) ≤ s.get F.PWR_POLICY_TIER ch)

/-- The budget or the fast path asks the channel to shed (R177). -/
def shedBudget (s : State) (ch : Nat) : Bool :=
  let l := (feedSt s (feedOf ch)).liveL
  decide (l ≤ 7) && decide (max 1 l ≤ s.get F.PWR_POLICY_TIER ch)

/-- The state that select() of R152 chooses; a channel in OFF that its tier asks to shed stays OFF (R181). -/
def selectState (s : State) (ch : Nat) (cmd : Cmd) : Nat :=
  let c := chSt s ch
  if c.forced then chForced
  else if cmd ≠ .on then chOff
  else if !s.flag F.PWR_POLICY_MODE_EN ch then chShed
  else if shedKnell s ch || shedBudget s ch then (if c.state = chOff then chOff else chShed)
  else if c.state = chOn ∨ c.state = chPre then c.state
  else if c.warm then chCool
  else if s.flag F.PWR_CH_CFG_PRE_EN ch then chPre else chOn

/-- The cause of the selected state (Tables 5-6 and 5-8, R154, R181); `was` tells whether forcing applied before
this evaluation. -/
def selectCause (s : State) (ch st : Nat) (was : Bool) : Nat :=
  let c := chSt s ch
  let retry := c.state == chCool && c.cause != 0x0F
  if st = chForced then
    (if (c.state = chForced ∧ c.cause = 0x04) ∨ (retry ∧ was ∧ s.get F.PWR_CH_CFG_SAFE_ACTION ch = 2) then 0x04
     else forceCause s ch c)
  else if c.state = chForced then 0x03
  else if st = chShed then
    (if !s.flag F.PWR_POLICY_MODE_EN ch then 0x11 else if shedKnell s ch then 0x12 else 0x10)
  else if st = chCool then 0x0F
  else if st = c.state then (if c.cause = 0x01 then 0x00 else c.cause)
  else if st = chOff then (if c.state = chShort ∨ c.state = chWire ∨ c.state = chFet then 0x02 else 0x00)
  else if c.state = chShed then 0x05
  else if retry then 0x04
  else 0x00

/-- The FET condition holds at the last conversion (R159). -/
def fetCond (s : State) (ch : Nat) : Bool :=
  let c := chSt s ch
  decide (c.vds < s.get F.PWR_FETF_FETF_VDS ch) && !c.iDir && decide (s.get F.PWR_FETF_FETF_I ch < c.iCode)

/-- The evaluation selects a new state (the switch of R152). -/
def selects (s : State) (ch : Nat) (cmd : Cmd) : Bool :=
  let c := chSt s ch
  if c.state = chFet then cmd == .ack && !fetCond s ch
  else if c.state = chShort ∨ c.state = chWire then cmd == .ack
  else if c.state = chCool then !c.warm || (c.cause == 0x0F && cmd != .on)
  else true

/-- The forcing flags and the retry count after the slots are judged (R152). -/
def judged (ch : Nat) (cmd : Cmd) (limSafe : Bool) (s : State) : State :=
  let c := chSt s ch
  let c := if cmd = .safe then c.put F.PWR_STATE_TWIN_CMD_F 1 else c
  let c := if limSafe then c.put F.PWR_STATE_TWIN_LIM_F 1 else c
  let c := if cmd = .ack then
      let c := (c.put F.PWR_STATE_TWIN_CMD_F 0).put F.PWR_STATE_RETRY_CNT 0
      if limSafe then c else c.put F.PWR_STATE_TWIN_LIM_F 0
    else c
  let c := if cmd = .off ∨ cmd = .invalid then c.put F.PWR_STATE_RETRY_CNT 0 else c
  s.setCh ch (c.put F.PWR_STATE_KNELL_FORCED (b2n (groupSafe s (s.get F.PWR_CH_CFG_KNELL_GRP ch))))

/-- The counts of R152 that clear RETRY_CNT, and SHED_PEND: a shed condition applies that is not the one of the SHED in force
(R155, R181, Table 5-8); in OFF it shows only while commanded ON (R181). -/
def afterEval (ch : Nat) (cmd : Cmd) (good : Bool) (s : State) : State :=
  let c := chSt s ch
  let stays := c.state == chOn || (c.state == chForced && c.gate)
  let on := if stays then min (c.onBeats + 1) 65536 else 0
  let g := if c.state = chOn then (if good && cmd == .on then min (c.goodOn + 1) 3 else 0) else c.goodOn
  let clr := s.get F.PWR_RETRY_RETRY_CLR ch
  let c := { c with onBeats := on, goodOn := g }
  let c := if clr ≠ 0 ∧ 3 ≤ g ∧ clr < on then c.put F.PWR_STATE_RETRY_CNT 0 else c
  let other (cause : Nat) : Bool := c.state != chShed || c.cause != cause
  let shed := (!s.flag F.PWR_POLICY_MODE_EN ch && cmd == .on && other 0x11) || (shedKnell s ch && other 0x12) ||
    (shedBudget s ch && other 0x10)
  s.setCh ch { c.put F.PWR_STATE_SHED_PEND (b2n (shed && (c.state != chOff || cmd == .on))) with
    elig := c.state == chOn || c.state == chPre }

/-- An open load's onset (R158). -/
def openLoad (ch bit : Nat) (s : State) : State :=
  let c := chSt s ch
  if c.flag F.PWR_STATE_OPEN_LOAD then s
  else ((s.setCh ch (c.put F.PWR_STATE_OPEN_LOAD 1)).kdo [.status ch bit, .cnt ch 4, .irq ch 3]).chFault 132 ch 2000

/-- Open-load detection at an evaluation that found the channel in `old` (R158). -/
def diagnose (ch old : Nat) (s : State) : State :=
  let c := chSt s ch
  if c.state = chOn ∧ old = chOn then
    if c.iCode < s.get F.PWR_DIAG_OL_ON_I ch then
      let s := s.setCh ch { c with olBeats := c.olBeats + 1 }
      if max 1 (s.get F.PWR_DIAG_OL_BEATS ch) ≤ c.olBeats + 1 then openLoad ch 25 s else s
    else s.setCh ch { c.put F.PWR_STATE_OPEN_LOAD 0 with olBeats := 0 }
  else if (c.state = chOff ∨ c.state = chShed) ∧ (old = chOff ∨ old = chShed) then
    if c.vout ≤ s.get F.PWR_DIAG_OL_OFF_V ch then s.setCh ch (c.put F.PWR_STATE_OPEN_LOAD 0)
    else if s.flag F.PWR_DIAG_OL_OFF_EN ch then openLoad ch 24 s
    else s
  else s

/-- The limit value in force: of an engaged limit slot that is not judged SAFE (R142). -/
def limitOf (c : ChSt) (l : ConsSt) : Option Nat :=
  if c.flag F.PWR_STATE_ENG_LIM && !l.safe then some l.vGood else none

/-- The evaluation of an engaged channel (R152), whose slots have been checked. -/
def evalEngaged (ch : Nat) (s : State) : State :=
  let good := (consSt s (0x100 + ch)).good
  let lim := (chSt s ch).flag F.PWR_STATE_ENG_LIM
  let cmd0 := cmdOf (consSt s (0x100 + ch))
  let cmd := if cmd0 = .ack ∧ !good then .off else cmd0
  let limSafe := lim && (consSt s (0x180 + ch)).safe
  let was := (chSt s ch).forced
  let old := (chSt s ch).state
  let s := (judged ch cmd limSafe s).takeCfg ch (limitOf (chSt s ch) (consSt s (0x180 + ch)))
  let s := if selects s ch cmd then
      let st := selectState s ch cmd
      let cause := selectCause s ch st was
      let s := s.when (cause == 0x04 && old == chCool) (·.kdo [.cnt ch 2])
      s.goCh ch st cause 2000
    else s
  let s := s.when (cmd == .invalid && good) (fun s => (s.kdo [.status ch 19]).chFault 136 ch 2000)
  (diagnose ch old (afterEval ch cmd good s)).mirror ch

/-- The evaluation of a channel whose command slot is not engaged (R140): it keeps its state; Knell's force and shed conditions are
recorded (R155, R162), the written values take effect (R152), and open load is judged (R158). -/
def evalIdle (ch : Nat) (s : State) : State :=
  let s := s.setCh ch ((chSt s ch).put F.PWR_STATE_KNELL_FORCED
    (b2n (groupSafe s (s.get F.PWR_CH_CFG_KNELL_GRP ch))))
  let s := s.takeCfg ch none
  (diagnose ch (chSt s ch).state (afterEval ch .off false s)).mirror ch

/-- The evaluation of channel `ch` at t_b + 2,000 ns (R152). -/
def evalCh (ch : Nat) (s : State) : State :=
  if (chSt s ch).flag F.PWR_STATE_ENG_CMD then evalEngaged ch s else evalIdle ch s

/-- Every channel is evaluated, in order of CH; while the link is not UP Knell holds the outputs (R36). -/
def evalChannels (s : State) : State :=
  if hRuns s && linkUp s then s.each (List.range 72) evalCh else s

/-! ### Forcing by Knell (R154, R155) -/

/-- A group that entered safe state forces one of its channels (Table 5-7); while the H-die is in reset Knell applies
the safe action to the gate itself (R36). -/
def forceCh (ch ofs : Nat) (s : State) : State :=
  let c := chSt s ch
  let protect := c.state = chShort ∨ c.state = chWire ∨ c.state = chCool ∨ c.state = chFet
  let s := s.setCh ch (c.put F.PWR_STATE_KNELL_FORCED 1)
  let c := chSt s ch
  if !hRuns s then
    s.setCh ch (c.put F.PWR_STATE_GATE_ON (b2n (safeGate s ch c && !decide protect)))
  else if protect then s.mirror ch
  else if c.state = chForced ∧ c.cause = 0x04 then s.mirror ch
  else s.goCh ch chForced (forceCause s ch c) ofs

/-- A group that entered safe state forces its channels. -/
def State.forceGroup (s : State) (g ofs : Nat) : State :=
  s.each (List.range 72) (fun ch s => if s.get F.PWR_CH_CFG_KNELL_GRP ch = g then forceCh ch ofs s else s)

/-! ### Link and H-die reset (R162) -/

/-- The link leaves UP: LINK_DOWN shows in every channel and feed. -/
def pwrLinkDown (s : State) : State :=
  let s := s.each (List.range 72) (fun ch s => s.put F.PWR_STATE_LINK_DOWN ch 1)
  s.each [0, 1] (fun f s => (s.put F.FEED_STAT_LINK_DOWN f 1).updFeed f (fun x => { x with gap := true }))

/-- The H-die's power logic is reset: what the channels report on the way is lost with it. -/
def pwrHReset (s : State) : State := { s with late := [] }

/-- One channel restarts after an H-die reset (R162); `expired` tells that the hold expired. -/
def restartCh (expired : Bool) (ch : Nat) (s : State) : State :=
  let last := s.rd R.PWR_STATE ch
  let st := getBits last 3 0
  let c := chSt s ch
  let latched := st = chShort ∨ st = chWire ∨ st = chCool ∨ st = chFet
  let w := (c.put F.PWR_STATE_ENG_CMD 0).put F.PWR_STATE_ENG_LIM 0
  let w := (w.put F.PWR_STATE_RETRY_CNT (s.get F.PWR_RETRY_RETRY_MAX ch)).put F.PWR_STATE_OPEN_LOAD 0
  let w := (w.put F.PWR_STATE_OUT_HIGH 0).put F.PWR_STATE_SENSE_FAULT 0
  let w := w.put F.PWR_STATE_AMB_FAULT 0
  let w := (w.put F.PWR_STATE_TWIN_CMD_F (s.get F.PWR_STATE_TWIN_CMD_F ch)).put F.PWR_STATE_TWIN_LIM_F
    (s.get F.PWR_STATE_TWIN_LIM_F ch)
  let w := if latched then
      ((w.put F.PWR_STATE_STATE st).put F.PWR_STATE_CAUSE (getBits last 8 4)).put F.PWR_STATE_GATE_ON 0
    else if expired then (w.put F.PWR_STATE_STATE chForced).put F.PWR_STATE_CAUSE 0x14
    else (w.put F.PWR_STATE_STATE (if c.gate then chOn else chOff)).put F.PWR_STATE_CAUSE 0x06
  let w := w.put F.PWR_STATE_KNELL_FORCED (b2n (groupSafe s (s.get F.PWR_CH_CFG_KNELL_GRP ch)))
  let w := w.put F.PWR_STATE_SHED_PEND (b2n (latched && (shedKnell s ch || shedBudget s ch)))
  let lvl := s.get F.PWR_EFF_LVL ch
  let x := qdiv 7 (chimeDec lvl * chimeDec lvl * 64 * 9) (15625 * 16)
  let s := s.setCh ch { w with x := x, lvl := lvl, ceil := s.get F.PWR_EFF_CEIL ch, onBeats := 0, goodOn := 0,
                               olBeats := 0, retryMax := s.get F.PWR_RETRY_RETRY_MAX ch,
                               pol := (s.rd R.PWR_POLICY ch).toNat, diag := (s.rd R.PWR_DIAG ch).toNat,
                               fetf := (s.rd R.PWR_FETF ch).toNat, ie := (s.rd R.PWR_IE ch).toNat }
  let s := (s.setCons (0x100 + ch) ConsSt.init).setCons (0x180 + ch) ConsSt.init
  let new := (chSt s ch).state
  let s := s.mirror ch
  if new = st then s
  else
    let s := s.kdo [.changed ch s.beatLo, .status ch 16, .irq ch 0]
    s.when (new == chForced) (·.kdo [.status ch 18, .irq ch 1])

/-- The power logic at link-up: restarts after an H-die reset, the mirrors, and what waited for the link. -/
def pwrLinkUp (reset expired : Bool) (s : State) : State :=
  let s := s.when reset (fun s => s.each [0, 1] (fun f s =>
    s.updFeed f (fun x => { x with liveL := s.get F.FEED_STAT_SHED_LVL f, run := 0, sense := false })))
  let s := s.when reset (·.each (List.range 72) (restartCh expired))
  let l := s.late
  let s := ({ s with late := [] }).each l KEff.apply
  let s := s.each [0, 1] (fun f s => s.put F.FEED_STAT_LINK_DOWN f 0)
  s.each (List.range 72) (fun ch s => s.mirror ch)

end Sys2Proof.Machine
end

