-- ==== Sys2Proof/Machine/Feed.lean ====
section
/-!
DEFINITION. Feeds (chapter 6): latching charge, the counting audit, the ledger, the load budget, the fast path and
the Knell feed action.
-/

namespace Sys2Proof.Machine

/-! ### Step 2 of Table 4-1: the accumulators latch (R171) -/

/-- The change of five accumulators. -/
def Charges.sub (a b : Charges) : Charges :=
  ⟨a.qf - b.qf, a.qr - b.qr, a.chqf - b.chqf, a.chqr - b.chqr, a.qq - b.qq⟩

/-- A channel's accumulator latches. -/
def latchCh (ch : Nat) (s : State) : State :=
  let c := chSt s ch
  (s.setCh ch { c with lat := c.acc, dq := c.acc - c.lat }).put64 R.PWR_Q_LO R.PWR_Q_HI ch (c.acc / 2 ^ 32)

/-- A feed's accumulators latch; the first boundary closes no beat, so FEED_NCONV keeps its value. -/
def latchFeed (f : Nat) (s : State) : State :=
  let up := linkUp s
  let s := s.updFeed f (fun x => { x with
    lat := x.acc, d := x.acc.sub x.lat, n := 0, dn := x.n, badFeed := false, dBadFeed := x.badFeed,
    badCh := false, dBadCh := x.badCh, gap := !up, dGap := x.gap || !up, bounds := min (x.bounds + 1) 2 })
  let x := feedSt s f
  let s := s.when (x.bounds == 2) (·.put F.FEED_NCONV_N f x.dn)
  let s := s.put64 R.FEED_QF_LO R.FEED_QF_HI f (x.lat.qf / 2 ^ 32)
  let s := s.put64 R.FEED_QR_LO R.FEED_QR_HI f (x.lat.qr / 2 ^ 32)
  let s := s.put64 R.FEED_CHQF_LO R.FEED_CHQF_HI f (x.lat.chqf / 2 ^ 32)
  let s := s.put64 R.FEED_CHQR_LO R.FEED_CHQR_HI f (x.lat.chqr / 2 ^ 32)
  s.put64 R.FEED_QQ_LO R.FEED_QQ_HI f (x.lat.qq / 2 ^ 32)

/-- Step 2: every accumulator latches what ended before the boundary. -/
def latchCharges (s : State) : State := (s.each (List.range 72) latchCh).each [0, 1] latchFeed

/-! ### Records -/

/-- A feed's event bit (R188). -/
def State.feedEvt (s : State) (f bit : Nat) : State := (KEff.feedEvt f bit).apply s

/-- Word 0 of a feed's record (Table 6-8). -/
def feedW0 (f neg lvl value : Nat) : Nat := 2 ^ 31 + f * 2 ^ 30 + neg * 2 ^ 29 + lvl * 2 ^ 16 + value

/-- A feed's fault source raised at a boundary, `ofs` ns after it: the spec bounds step 7 by 2,000 ns and gives no
instant. -/
def State.feedFault (s : State) (n f neg value : Nat) : State :=
  let d := s.draw
  d.2.raiseRec n (feedW0 f neg (feedSt s f).liveL value) s.beatLo (Config.freeNat 10 d.1 % 2001) 0

/-! ### The ledger (R172 to R174, R183) -/

/-- The counting audit (R172). -/
def auditFeed (f : Nat) (s : State) : State :=
  if (feedSt s f).d.chqf = ((feedChans f).map (fun ch => (chSt s ch).dq)).sum then s
  else (s.feedEvt f 24).feedFault 183 f 0 0

/-- The signed imbalance of a beat in 2^-32 µC (R173). -/
def imbalance (x : FeedSt) : Int :=
  (x.d.qf : Int) - x.d.qr - ((x.d.chqf : Int) - x.d.chqr) - x.d.qq

/-- The channels' charges of the last judged beat (R179). -/
def keepJudged (f n : Nat) (s : State) : State :=
  s.each (feedChans f) (fun ch s => let c := chSt s ch; s.setCh ch { c with lastQ := c.dq, lastN := n })

/-- The imbalance of the beat just closed, computed at every boundary (R173): its code and sign, shown and answered.  A beat in which no
interval was counted has T = 0, and the spec states no result: a free value. -/
def measureImb (f : Nat) (s : State) : Nat × Nat × State :=
  let x := feedSt s f
  let q := imbalance x
  let d := s.draw
  let s := if x.dn = 0 then d.2 else s
  let imb := if x.dn = 0 then Config.freeNat 41 d.1 % 1024 else chimeEncQ (q.natAbs * 1000) (2 ^ 32 * x.dn)
  let counts := if x.dn = 0 then chimeDec imb else qdiv 8 (q.natAbs * 1000) (2 ^ 32 * x.dn)
  let neg := b2n (decide (q < 0))
  let s := s.updFeed f (fun x => { x with imb := if q < 0 then -(counts : Int) else counts })
  (imb, neg, (s.put F.FEED_STAT_IMB f imb).put F.FEED_STAT_IMB_NEG f neg)

/-- A judged beat with its imbalance (R174). -/
def judgeBeat (f imb neg : Nat) (s : State) : State :=
  let s := keepJudged f (feedSt s f).dn (s.put F.FEED_STAT_JUDGED f 1)
  let n := if s.get F.FEED_LEDGER_LIMIT f < imb then s.get F.FEED_STAT_PERSIST_CNT f + 1 else 0
  if max 1 (s.get F.FEED_LEDGER_PERSIST f) ≤ n then
    let s := s.put F.FEED_STAT_PERSIST_CNT f 0
    ((s.feedEvt f 28).incSat F.FEED_CNT_CNT (6 * f + 2)).feedFault 179 f neg imb
  else s.put F.FEED_STAT_PERSIST_CNT f n

/-- FEED_I is VALID (R183). -/
def feedValid (s : State) (f : Nat) : Bool := s.flag F.FEED_I_VALID f

/-- The ledger of the beat just closed (R173, R174, R183). -/
def ledger (f : Nat) (s : State) : State :=
  let x := feedSt s f
  let r := measureImb f s
  let s := r.2.2
  if s.flag F.FEED_LEDGER_EN f && decide (0 < x.dn) && !x.dGap && !x.dBadFeed && !x.dBadCh && feedValid s f then
    judgeBeat f r.1 r.2.1 s
  else (s.incSat F.FEED_CNT_CNT (6 * f + 3)).put F.FEED_STAT_JUDGED f 0

/-- A boundary while the link is not UP (R183): a gap. -/
def feedGap (f : Nat) (s : State) : State :=
  s.when (!linkUp s) (fun s => ((s.incSat F.FEED_CNT_CNT (6 * f + 4)).feedEvt f 25).feedFault 181 f 0 0)

/-! ### The load budget (R176 to R178) -/

/-- A channel is eligible (R176): in ON or PRECHARGE at the evaluation just ended, and neither tripped nor forced since (Table 6-2). -/
def budgetElig (s : State) (ch : Nat) : Bool :=
  let c := chSt s ch
  c.elig && (c.state == chOn || c.state == chPre || c.state == chShed)

/-- Charge of the beat of the eligible channels of a feed that a condition holds of (R176). -/
def eligQ (s : State) (f : Nat) (p : Nat → Bool) : Nat :=
  ((feedChans f).map (fun ch => if budgetElig s ch && p ch then (chSt s ch).dq else 0)).sum

/-- MODE_EN of a channel in force after step 4. -/
def modeEn (s : State) (ch : Nat) : Bool := s.flag F.PWR_POLICY_MODE_EN ch

/-- The priority tier of a channel. -/
def tierOf (s : State) (ch : Nat) : Nat := s.get F.PWR_POLICY_TIER ch

/-- Charge `q` of a beat of `n` intervals as a current code; a negative value is 0 (R176). -/
def avgCode (q : Int) (n : Nat) : Nat := chimeEncQ (q.toNat * 1000) (2 ^ 32 * n)

/-- The while loop of R177: shed level, projection and state after it. -/
def shedLoop (f n budget : Nat) : Nat → Nat → Int → State → Nat × Int × State
  | 0, l, p, s => (l, p, s)
  | k + 1, l, p, s =>
    if budget < avgCode p n ∧ 1 < l then
      let q := eligQ s f (fun ch => tierOf s ch == l - 1 && modeEn s ch)
      shedLoop f n budget k (l - 1) (p - q) ((KEff.est f (l - 1) (avgCode q n)).apply s)
    else (l, p, s)

/-- The restore test of R177 and R178. -/
def mayRestore (s : State) (f n l : Nat) (p : Int) : Bool :=
  let off := (s.beatLo + 2 ^ 32 - s.get F.FEED_SHED_BEAT_BEAT f) % 2 ^ 32
  let est := s.get F.FEED_TIER_EST_EST (7 * f + (l - 1))
  decide (l ≤ 7) && decide (s.get F.FEED_RESTORE_MIN_OFF f ≤ off) &&
    decide (chimeEncQ ((p * 1000 + (chimeDec est * (2 ^ 32 * n) : Nat)).toNat) (2 ^ 32 * n) ≤
      (chSub (s.get F.FEED_BUDGET_BUDGET f) (s.get F.FEED_BUDGET_HYST f)).1)

/-- The budget decision of step 7 (R177). -/
def budget (f : Nat) (s : State) : State :=
  let x := feedSt s f
  let s := s.updFeed f (fun x => { x with lastL := x.liveL })
  if x.dGap || x.dBadFeed || !linkUp s || !feedValid s f || x.dn = 0 then s.put F.FEED_AVG_VALID f 0
  else
    let n := x.dn
    let l0 := x.liveL
    let bud := s.get F.FEED_BUDGET_BUDGET f
    let a : Int := ((x.d.qf - x.d.qr : Nat) : Int)
    let p := a - eligQ s f (fun ch => !modeEn s ch) - eligQ s f (fun ch => decide (l0 ≤ tierOf s ch))
    let r := shedLoop f n bud 8 l0 p s
    let l := r.1
    let p := r.2.1
    let s := r.2.2
    let s :=
      if l < l0 then
        let s := (s.updFeed f (fun x => { x with liveL := l })).kdo [.feedLvl f l s.beatLo]
        let s := ((s.feedEvt f 31).incSat F.FEED_CNT_CNT (6 * f)).feedFault 176 f 0 (avgCode a n)
        if bud < avgCode p n then (s.feedEvt f 29).feedFault 178 f 0 (avgCode a n) else s
      else if mayRestore s f n l p then
        let s := s.put F.FEED_TIER_EST_EST (7 * f + (l - 1)) 0
        let s := (s.updFeed f (fun x => { x with liveL := l + 1 })).put F.FEED_STAT_SHED_LVL f (l + 1)
        s.feedEvt f 27
      else s
    ((s.put F.FEED_AVG_VALID f 1).put F.FEED_AVG_AVG f (avgCode a n)).put F.FEED_AVG_PROJ f (avgCode p n)

/-- Step 7 of Table 4-1 for a feed: audit, ledger, budget; the first boundary only sets the references (R171) and may be a gap (R183). -/
def stepSeven (f : Nat) (s : State) : State :=
  if (feedSt s f).bounds < 2 then feedGap f s else budget f (ledger f (auditFeed f (feedGap f s)))

/-! ### The fast path (R179) -/

/-- The priority tier of a channel that the last evaluation took (R152). -/
def tierNow (s : State) (ch : Nat) : Nat := inForce (chSt s ch).pol F.PWR_POLICY_TIER

/-- A_i summed over the eligible channels of a tier, from the last judged beat, as a code (R179). -/
def judgedEst (s : State) (f t : Nat) : Nat :=
  let l := (feedChans f).filter (fun ch => budgetElig s ch && tierNow s ch == t)
  let n := ((l.map (fun ch => (chSt s ch).lastN)).foldl max 0)
  if n = 0 then 0 else chimeEncQ ((l.map (fun ch => (chSt s ch).lastQ)).sum * 1000) (2 ^ 32 * n)

/-- FAST_PATH_SHED (R179): a run of FAST.CNT conversions above FAST_I has ended.  At or before t_e its result and that of step 7 start
from the same level, and the lower of them stands (Table 6-2). -/
def execFastPathShed (f : Fin 2) (ofs : Nat) (s : State) : Res :=
  let x := feedSt s f
  if hRuns s && s.flag F.FEED_FAST_EN f && !x.sense && decide (max 1 (s.get F.FEED_FAST_CNT f) ≤ x.run) then
    let t := max 1 (s.get F.FEED_FAST_TIER f)
    let base := if ofs ≤ 2000 then x.lastL else x.liveL
    let l := min x.liveL (if t < base then t else max (base - 1) 1)
    let ests := ((List.range 7).map (· + 1)).filter (fun k => decide (l ≤ k) && decide (k < x.liveL))
    let s := s.kdo (ests.map (fun k => KEff.est f k (judgedEst s f k)))
    let s := (s.updFeed f (fun x => { x with liveL := l, run := 0 })).kdo [.feedLvl f l s.beatLo]
    let s := s.each (feedChans f) (fun ch s =>
      if ((chSt s ch).state == chOn || (chSt s ch).state == chPre) && decide (l ≤ tierNow s ch) then
        s.goCh ch chShed 0x10 ofs
      else s)
    .next (s.kdo [.feedEvt f 30, .feedCnt f 1,
      .fault 177 (feedW0 f 0 l (s.get F.FEED_I_CHIME f)) s.beatLo ofs 0])
  else .next s

/-! ### Sense faults and the Knell feed action -/

/-- A feed's current sense fails (R169). -/
def feedSense (f ofs : Nat) (s : State) : State :=
  if (feedSt s f).sense then s
  else
    let s := s.updFeed f (fun x => { x with sense := true, run := 0 })
    let s := s.when (linkUp s) (·.put F.FEED_I_VALID f 0)
    s.kdo [.feedEvt f 26, .fault 180 (feedW0 f 0 (feedSt s f).liveL 0) s.beatLo ofs 0]

/-- FEED_SENSE_FAULT (R169). -/
def execFeedSenseFault (f : Fin 2) (ofs : Nat) (s : State) : Res := .next (if hRuns s then feedSense f ofs s else s)

/-- The sense fault of a channel (0 to 71) or a feed (72, 73) ends; one that a failed loop-back set lasts until the unit next
passes (R490). -/
def senseEnd (unit : Nat) (s : State) : State :=
  if s.bist.loopFail.contains unit then s
  else if unit < 72 then (s.setCh unit ((chSt s unit).put F.PWR_STATE_SENSE_FAULT 0)).mirror unit
  else s.updFeed (unit - 72) (fun x => { x with sense := false })

/-- SENSE_FAULT_END: the cause of a sense fault has gone. -/
def execSenseFaultEnd (unit : Fin 74) (s : State) : Res := .next (senseEnd unit s)

/-- The Knell feed action begins (R180). -/
def feedAct (f ofs : Nat) (s : State) : State :=
  if s.flag F.FEED_STAT_KN_ACT f then s
  else
    ((s.put F.FEED_STAT_KN_ACT f 1).incSat F.FEED_CNT_CNT (6 * f + 5)).raiseRec 182
      (feedW0 f 0 (feedSt s f).liveL 0) s.beatLo ofs 0

/-- A group has entered safe state: the Knell feed action of a feed that follows it begins (R180), where the link tells the K-die. -/
def feedDepart (g ofs f : Nat) (s : State) : State :=
  if linkUp s && s.flag F.FEED_CFG_KN_EN f && s.get F.FEED_CFG_KN_GRP f == g then feedAct f ofs s else s

/-- The Knell feed action follows its group at an evaluation (R180). -/
def feedKnell (f : Nat) (s : State) : State :=
  if s.flag F.FEED_CFG_KN_EN f && groupSafe s (s.get F.FEED_CFG_KN_GRP f) then feedAct f 2000 s
  else s.put F.FEED_STAT_KN_ACT f 0

/-- The feeds and channels at the check point of step 10 (R152, R180). -/
def evalPower (s : State) : State :=
  evalChannels (s.when (linkUp s) (·.each [0, 1] feedKnell))

end Sys2Proof.Machine
end

