-- ==== Sys2Proof/Machine/Io.lean ====
section
/-!
DEFINITION. Inputs, outputs, motor bridges and SENT receivers (chapter 7).
-/

namespace Sys2Proof.Machine

/-- A free "ns after t_b" for a record whose instant no command states. -/
def State.freeOfs (s : State) : Nat × State :=
  let d := s.draw
  (Config.freeNat 11 d.1 % 2 ^ 32, d.2)

/-- An I/O fault source raised with the record of R218. -/
def State.ioFault (s : State) (n kind idx value ofs : Nat) : State :=
  s.raiseRec n (2 ^ 31 + kind * 2 ^ 28 + idx * 2 ^ 16 + value) s.beatLo ofs 0

/-- Measurements reach the K-die: the H-die runs and the link is UP (R194). -/
def ioRuns (s : State) : Bool := hRuns s && linkUp s

/-! ### State of the front ends -/

def mfiSt (s : State) (i : Nat) : MfiSt := tget MfiSt.init s.io.mfi i
def lsoSt (s : State) (j : Nat) : LsoSt := tget LsoSt.init s.io.lso j
def brSt (s : State) (b : Nat) : BrSt := tget BrSt.init s.io.br b
def sentSt (s : State) (c : Nat) : SentSt := tget SentSt.init s.io.sent c

def State.setMfi (s : State) (i : Nat) (x : MfiSt) : State :=
  { s with io := { s.io with mfi := tset MfiSt.init s.io.mfi i x } }
def State.setLso (s : State) (j : Nat) (x : LsoSt) : State :=
  { s with io := { s.io with lso := tset LsoSt.init s.io.lso j x } }
/-- A PWM group of low-side outputs. -/
def pwmGrp (s : State) (g : Nat) : PwmGrp := tget PwmGrp.init s.io.pwm g

/-- A PWM group changed. -/
def State.setPwm (s : State) (g : Nat) (x : PwmGrp) : State :=
  { s with io := { s.io with pwm := tset PwmGrp.init s.io.pwm g x } }
def State.setBr (s : State) (b : Nat) (x : BrSt) : State :=
  { s with io := { s.io with br := tset BrSt.init s.io.br b x } }
def State.setSent (s : State) (c : Nat) (x : SentSt) : State :=
  { s with io := { s.io with sent := tset SentSt.init s.io.sent c x } }

/-! ### Temperatures (R201) -/

/-- Breakpoint `k` of TEMPn: RAW and temperature. -/
def tempPt (s : State) (n k : Nat) : Nat × Int :=
  (s.get F.IOX_TEMP_PT_RAW (16 * n + k), toSigned 12 (s.get F.IOX_TEMP_PT_T (16 * n + k)))

/-- The breakpoints in use: NPTS, 0 meaning 16. -/
def tempPts (s : State) (n : Nat) : List (Nat × Int) :=
  let k := s.get F.IOX_TEMP_CFG_NPTS n
  (List.range (if k = 0 then 16 else k)).map (tempPt s n)

/-- RAW values strictly monotonic, `up` telling the direction. -/
def monotonic (up : Bool) : List (Nat × Int) → Bool
  | a :: b :: t => (if up then decide (a.1 < b.1) else decide (b.1 < a.1)) && monotonic up (b :: t)
  | _ => true

/-- Linear interpolation between two breakpoints, to the nearest unit with a half rounded up. -/
def interpolate (a b : Nat × Int) (raw : Nat) : Int :=
  let den : Int := 2 * ((b.1 : Int) - a.1)
  let num : Int := 2 * (b.2 - a.2) * ((raw : Int) - a.1) + ((b.1 : Int) - a.1)
  if 0 < den then a.2 + num / den else a.2 + (-num) / (-den)

/-- The temperature at RAW in a table, or none outside it. -/
def tempAt (raw : Nat) : List (Nat × Int) → Option Int
  | a :: b :: t =>
      if (a.1 ≤ raw ∧ raw ≤ b.1) ∨ (b.1 ≤ raw ∧ raw ≤ a.1) then some (interpolate a b raw) else tempAt raw (b :: t)
  | _ => none

/-- RAW of the source of TEMPn while the source is VALID. -/
def tempSource (s : State) (n : Nat) : Option Nat :=
  let i := s.get F.IOX_TEMP_CFG_SRC_IDX n
  match s.get F.IOX_TEMP_CFG_SRC_KIND n with
  | 1 => if i < 16 ∧ s.flag F.IOX_RAI_V_VALID i then some (s.get F.IOX_RAI_V_RAW i) else none
  | 2 => if i < 96 ∧ s.flag F.IOX_MFI_AN_VALID i then some (s.get F.IOX_MFI_AN_RAW i) else none
  | _ => none

/-- TEMPn follows its source (R201). -/
def updTemp (ofs n : Nat) (s : State) : State :=
  let was := s.flag F.IOX_TEMP_VALID n
  let l := tempPts s n
  let ok := decide (2 ≤ l.length) && (monotonic true l || monotonic false l)
  let s := match tempSource s n with
    | some raw =>
        if !ok then (s.put F.IOX_TEMP_VALID n 0).put F.IOX_TEMP_RANGE n 0
        else match tempAt raw l with
          | some t => ((s.put F.IOX_TEMP_VALID n 1).put F.IOX_TEMP_RANGE n 0).put F.IOX_TEMP_T n (ofSigned 12 t)
          | none => (s.put F.IOX_TEMP_VALID n 0).put F.IOX_TEMP_RANGE n 1
    | none => (s.put F.IOX_TEMP_VALID n 0).put F.IOX_TEMP_RANGE n 0
  if was && !s.flag F.IOX_TEMP_VALID n then s.ioFault 236 6 n 0 ofs else s

/-- The temperatures that read a source follow it. -/
def updTemps (kind idx ofs : Nat) (s : State) : State :=
  s.each (List.range 8) (fun n s =>
    if s.get F.IOX_TEMP_CFG_SRC_KIND n = kind ∧ s.get F.IOX_TEMP_CFG_SRC_IDX n = idx then updTemp ofs n s else s)

/-! ### Multifunction inputs (R195 to R197) -/

/-- The analog half of a sample: RAW in steps of 0.625 mV (R195). -/
def mfiAnalog (i raw ofs : Nat) (s : State) : State :=
  let above := decide (65536 < raw)
  let code := chimeEncQ (min raw 65536 * 5) 8
  let was := (mfiSt s i).above
  let s := s.wr R.IOX_MFI_AN i (measWord (!above) false code (rawClamp raw))
  let s := s.setMfi i { mfiSt s i with above := above }
  let s := s.when above (·.put F.IOX_MFI_CFG_OV i 1)
  let s := s.when (above && !was) (·.ioFault 224 0 i code ofs)
  updTemps 2 i ofs s

/-- A comparator with hysteresis (R196): the code of the voltage against TH_RISE and TH_FALL of a threshold word; between them the
previous sample stays. -/
def hysteresis (th : Nat) (was : Bool) (raw : Nat) : Bool :=
  let rise := bitsOf th 25 16
  let fall := min (bitsOf th 9 0) rise
  let code := chimeEncQ (min raw 65536 * 5) 8
  if rise < code then true else if code < fall then false else was

/-- The comparator's sample (R196). -/
def mfiCompare (s : State) (i raw : Nat) : Bool := hysteresis (s.rd R.IOX_MFI_TH i).toNat (mfiSt s i).samp raw

/-- A wetting current in mA by its code; code 7 acts as 6 (R197). -/
def wetMa (c : Nat) : Nat := match c with | 0 => 0 | 1 => 1 | 2 => 2 | 3 => 5 | 4 => 10 | 5 => 15 | _ => 20

/-- What an input's wetting source drives now (R197): the current in mA, 20 for BOOST_MS after a change of the debounced state, and
whether it is sourced from VBAT12 rather than sunk to ground. -/
def mfiWet (s : State) (i : Nat) : Nat × Bool :=
  (if s.time.elapsed < (mfiSt s i).boostEnd then 20 else wetMa (s.get F.IOX_MFI_CFG_WET i), s.flag F.IOX_MFI_CFG_PULL i)

/-- A debounced state changes (R196, R197). -/
def mfiChange (i : Nat) (v : Bool) (s : State) : State :=
  let k := i / 32
  let b := i % 32
  let s := s.wr R.IOX_MFI_DIG k (setBits (s.rd R.IOX_MFI_DIG k) b b (b2n v))
  let s := s.wr R.IOX_MFI_EDGE k (setBits (s.rd R.IOX_MFI_EDGE k) b b 1)
  let m := s.get F.IOX_MFI_CFG_BOOST_MS i
  let s := s.when (m != 0) (fun s => (s.setMfi i { mfiSt s i with boostEnd := s.time.elapsed + 1000000 * m }).emit (.pin 0 i m))
  if (s.rd R.IOX_MFI_IE k).getLsbD b then s.raiseIrq (736 + k) else s

/-- The digital half of a sample (R196). -/
def mfiDigital (i raw : Nat) (s : State) : State :=
  let v := mfiCompare s i raw
  let deb := (s.rd R.IOX_MFI_DIG (i / 32)).getLsbD (i % 32)
  let n := if v = deb then 0 else (mfiSt s i).run + 1
  let change := decide (s.get F.IOX_MFI_CFG_DEB i + 1 ≤ n)
  let s := s.setMfi i { mfiSt s i with samp := v, run := if change then 0 else n }
  s.when change (mfiChange i v)

/-- A sample of an input (R195, R196). -/
def mfiSample (i raw ofs : Nat) (s : State) : State :=
  if ioRuns s then
    let m := s.get F.IOX_MFI_CFG_MODE i
    let s := if 2 ≤ m then mfiAnalog i raw ofs s else s
    s.when (m % 2 == 1) (mfiDigital i raw)
  else s

/-- A front end whose word is not VALID any more: what derives from it follows (R51, R201).  The instant, which no command states, is a
free value. -/
def unmeasure (f : Fld) (kind i : Nat) (s : State) : State :=
  if s.flag f i then (let d := (s.put f i 0).freeOfs; updTemps kind i d.1 d.2) else s

/-- After a write of IOX_MFI_CFG: with another MODE, no conversion has completed since the input was enabled (R51). -/
def mfiCfgAfter (i was : Nat) (s : State) : State :=
  s.when (s.get F.IOX_MFI_CFG_MODE i != was) (unmeasure F.IOX_MFI_AN_VALID 2 i)

/-- After a write of TEMPn's source or table: the result follows it (R201). -/
def tempAfter (n : Nat) (s : State) : State := let d := s.freeOfs; updTemp d.1 n d.2

/-! ### Sensor supplies and ratiometric inputs (R199, R200) -/

/-- The supply a RAI references, none for the internal reference (R199). -/
def raiRef (s : State) (i : Nat) : Option Nat :=
  let r := s.get F.IOX_RAI_CFG_REF i
  if r < 8 then some r else none

/-- The measured output of a supply: voltage in steps of 8 V / 65,536, current in steps of 200 mA / 65,536 (R200); VALID while the
supply is ON, its one enabled state without a fault (R51, Table 7-2). -/
def ssupMeasure (n vRaw iRaw : Nat) (s : State) : State :=
  let on := s.get F.IOX_SSUP_STAT_STATE n == 1
  let s := s.wr R.IOX_SSUP_V n (measWord on false (chimeEncQ (min vRaw 65536 * 125) 1024) (rawClamp vRaw))
  s.wr R.IOX_SSUP_I n (measWord on false (chimeEncQ (min iRaw 65536 * 25) 2048) (rawClamp iRaw))

/-- A supply enters a state of Table 7-2: its words are not VALID before the next conversion (R51), and the inputs that reference it
are not valid unless it is ON (R199). -/
def ssupGo (n st : Nat) (s : State) : State :=
  let s := ((s.put F.IOX_SSUP_STAT_STATE n st).put F.IOX_SSUP_V_VALID n 0).put F.IOX_SSUP_I_VALID n 0
  if st = 1 then s
  else s.each (List.range 16) (fun i s => if raiRef s i = some n then unmeasure F.IOX_RAI_V_VALID 1 i s else s)

/-- After a write of IOX_RAI_CFG: a reference to a supply that is not ON makes the input not valid (R199). -/
def raiCfgAfter (i : Nat) (s : State) : State :=
  match raiRef s i with
  | some n => if s.get F.IOX_SSUP_STAT_STATE n = 1 then s else unmeasure F.IOX_RAI_V_VALID 1 i s
  | none => s

/-- RAI_CONVERSION (R199): the ratio has 14 bits; `vRaw` and `iRaw` are the referenced supply's own conversion. -/
def execRaiConversion (i : Fin 16) (ratio : Nat) (above : Bool) (vRaw iRaw ofs : Nat) (s : State) : Res :=
  if ioRuns s then
    let raw := 4 * min ratio 16383
    let s := match raiRef s i with | some n => ssupMeasure n vRaw iRaw s | none => s
    let on := match raiRef s i with | some n => s.get F.IOX_SSUP_STAT_STATE n == 1 | none => true
    let code := match raiRef s i with
      | some n => chimeEncQ (raw * s.get F.IOX_SSUP_V_RAW n * 8000) (65536 * 65536)
      | none => chimeEncQ (raw * 5000) 65536
    let s := s.wr R.IOX_RAI_V i (measWord (on && !above) false code raw)
    let s := if above then (s.put F.IOX_RAI_CFG_OVR i 1).ioFault 225 1 i code ofs else s
    .next (updTemps 1 i ofs s)
  else .next s

/-- SSUP_LIMIT (R200): the load reaches I_SS_LIM. -/
def execSsupLimit (n : Fin 8) (vRaw iRaw : Nat) (s : State) : Res :=
  if hRuns s && s.get F.IOX_SSUP_STAT_STATE n == 1 then
    .next ((ssupGo n 2 s).when (linkUp s) (ssupMeasure n vRaw iRaw))
  else .next s

/-- SSUP_LIMIT_END (R200): the load falls below I_SS_LIM. -/
def execSsupLimitEnd (n : Fin 8) (vRaw iRaw : Nat) (s : State) : Res :=
  if hRuns s && s.get F.IOX_SSUP_STAT_STATE n == 2 then
    .next ((ssupGo n 1 s).when (linkUp s) (ssupMeasure n vRaw iRaw))
  else .next s

/-- SSUP_OVERLOAD (R200): limiting has lasted t_SS_OVL. -/
def execSsupOverload (n : Fin 8) (vRaw iRaw ofs : Nat) (s : State) : Res :=
  if hRuns s && s.get F.IOX_SSUP_STAT_STATE n == 2 then
    let s := ((ssupGo n 3 s).when (linkUp s) (ssupMeasure n vRaw iRaw)).put F.IOX_SSUP_STAT_OVL n 1
    .next (s.ioFault 226 2 n (s.get F.IOX_SSUP_V_CHIME n) ofs)
  else .next s

/-- SSUP_BACKFEED (R200): the output rises above 5.3 V. -/
def execSsupBackfeed (n : Fin 8) (vRaw iRaw ofs : Nat) (s : State) : Res :=
  let st := s.get F.IOX_SSUP_STAT_STATE n
  if hRuns s && (st == 1 || st == 2) then
    let s := ((ssupGo n 4 s).when (linkUp s) (ssupMeasure n vRaw iRaw)).put F.IOX_SSUP_STAT_BACKFEED n 1
    .next (s.ioFault 227 2 n (s.get F.IOX_SSUP_V_CHIME n) ofs)
  else .next s

/-- SSUP_BACKFEED_END (R200): the output falls below 5.2 V. -/
def execSsupBackfeedEnd (n : Fin 8) (vRaw iRaw : Nat) (s : State) : Res :=
  if hRuns s && s.get F.IOX_SSUP_STAT_STATE n == 4 then
    .next ((ssupGo n 1 s).when (linkUp s) (ssupMeasure n vRaw iRaw))
  else .next s

/-- The enable of a supply acts on its state (Table 7-2). -/
def ssupEnable (n : Nat) (en : Bool) (s : State) : State :=
  if !en then ssupGo n 0 s
  else if s.get F.IOX_SSUP_STAT_STATE n = 0 then ssupGo n 1 s
  else s

/-! ### Driving an output (R191 to R193) -/

/-- The driver writes a supply's enable; a value written while the output is forced is discarded. -/
def driveSsup (n : Nat) (en : Bool) (s : State) : State :=
  if s.flag F.IOX_SSUP_STAT_FORCED n || groupSafe s (s.get F.IOX_SSUP_CTRL_KNELL_GRP n) then s
  else (s.put F.IOX_SSUP_CTRL_EN n (b2n en)).when (linkUp s) (ssupEnable n en)

/-! PWM of the low-side outputs (R192, R202).  The H-die oscillator is measured on the local elapsed time, with a period of each
group starting at its 0 (DESIGN CHOICE, log 62). -/

/-- Group g's period in force, in ns. -/
def pwmPeriod (s : State) (g : Nat) : Nat :=
  1000 * (if s.time.elapsed < (pwmGrp s g).start then (pwmGrp s g).old else s.get F.IOX_LSO_PWM_PER g)

/-- The group's period counter: ns since its running period started. -/
def pwmCount (s : State) (g : Nat) : Nat :=
  let x := pwmGrp s g
  let p := pwmPeriod s g
  if s.time.elapsed < x.start then (p - (x.start - s.time.elapsed) % p) % p else (s.time.elapsed - x.start) % p

/-- When the group's next period starts. -/
def pwmNext (s : State) (g : Nat) : Nat := s.time.elapsed + pwmPeriod s g - pwmCount s g

/-- A new PER of a group takes effect at its next period start; `old` is the field before the write. -/
def pwmAfter (g old : Nat) (s : State) : State :=
  let o := s.put F.IOX_LSO_PWM_PER g old
  if s.get F.IOX_LSO_PWM_PER g = old ∨ s.time.elapsed < (pwmGrp s g).start then s
  else s.setPwm g ⟨old, pwmNext o g⟩

/-- The part DUTY / 1,023 of a time in 10 ns, rounded (R202, R205). -/
def onTicks (per duty : Nat) : Nat := (2 * per * duty + 1023) / 2046

/-- The on-time of a low-side output at a duty, in ns (R202). -/
def lsoOnTime (s : State) (j duty : Nat) : Nat := 10 * onTicks (pwmPeriod s (j / 8) / 10) duty

/-- A duty comes into force (R192): the output stays on below the new compare value; an on-phase that has ended does not restart
before the next period. -/
def lsoApply (j duty : Nat) (s : State) : State :=
  let x := lsoSt s j
  let pastOn := x.out != 0 && x.out != 0x3FF && decide (lsoOnTime s j x.out ≤ pwmCount s (j / 8))
  s.setLso j { x with out := duty, stop := if pastOn then pwmNext s (j / 8) else x.stop }

/-- The driver writes an output's duty. -/
def driveLso (j duty : Nat) (s : State) : State :=
  if s.flag F.IOX_LSO_STAT_FORCED j || groupSafe s (s.get F.IOX_LSO_CFG_KNELL_GRP j) then s
  else (s.put F.IOX_LSO_DUTY_DUTY j duty).when (linkUp s) (lsoApply j duty)

/-- What the pin of an output does now (R193, R203): a latch and overtemperature win pastOn everything. -/
def lsoPin (s : State) (j : Nat) : Nat :=
  if s.flag F.IOX_LSO_STAT_LATCHED j || (lsoSt s j).hot then 0 else (lsoSt s j).out

/-- The output conducts now (R192, R202): duty 0 holds it off and 0x3FF on, without PWM. -/
def lsoOn (s : State) (j : Nat) : Bool :=
  let d := lsoPin s j
  d == 0x3FF || (d != 0 && decide ((lsoSt s j).stop ≤ s.time.elapsed) && decide (pwmCount s (j / 8) < lsoOnTime s j d))

/-! Bridges (R205, Table 7-3) -/

/-- On-time of the PWM'd high-side FET of a bridge, in 10 ns. -/
def brOnTicks (s : State) (b : Nat) : Nat := onTicks (s.get F.IOX_BR_PWM_PER b) (s.get F.IOX_BR_STAT_DUTY_OUT b)

/-- Dead time between complementary gates, in ns: DT below 2 acts as 2. -/
def brDeadTime (s : State) (b : Nat) : Nat := 50 * max 2 (s.get F.IOX_BR_PWM_DT b)

/-- The direction gap in µs: below 10 acts as 10 (R206). -/
def brGapUs (s : State) (b : Nat) : Nat := max 10 (s.get F.IOX_BR_PWM_DIR_GAP b)

/-- The on-phase is possible: some duty, and the current limit has not ended it in this period (R208). -/
def brConducts (s : State) (b : Nat) : Bool := s.get F.IOX_BR_STAT_DUTY_OUT b != 0 && !(brSt s b).limited

/-- The gates of HB(2b) and HB(2b + 1), each high side and low side, in the on-phase or the off-phase of a period (Table 7-3). -/
def brGates (s : State) (b : Nat) (on : Bool) : List Bool :=
  let hi := on && brConducts s b
  let lo := !hi && s.flag F.IOX_BR_CFG_SYNC b
  match s.get F.IOX_BR_STAT_MODE_OUT b with
  | 1 => [hi, lo, false, true]
  | 2 => [false, true, hi, lo]
  | 3 => [false, true, false, true]
  | _ => [false, false, false, false]

/-- Some FET of the bridge is driven on in a period. -/
def brDriven (s : State) (b : Nat) : Bool := (brGates s b true ++ brGates s b false).any id

/-- STATE of a bridge that runs a mode (R206). -/
def brModeState (m : Nat) : Nat := if m = 0 then 0 else if m = 3 then 2 else 1

/-- What BR_STAT shows. -/
def brShow (b st mode duty : Nat) (s : State) : State :=
  ((s.put F.IOX_BR_STAT_STATE b st).put F.IOX_BR_STAT_MODE_OUT b mode).put F.IOX_BR_STAT_DUTY_OUT b duty

/-- The mode and duty in force act (R205), as the safe action while the bridge is forced. -/
def brApply (b : Nat) (s : State) : State :=
  let x := brSt s b
  brShow b (if s.flag F.IOX_BR_STAT_FORCED b then 6 else brModeState x.mode) x.mode x.duty s

/-- A new mode and duty reach a bridge (R206, R209): a change of direction passes through a gap; FAULT takes none. -/
def brCommand (b mode duty : Nat) (s : State) : State :=
  let st := s.get F.IOX_BR_STAT_STATE b
  let old := s.get F.IOX_BR_STAT_MODE_OUT b
  if st = 4 then s
  else
    let s := s.setBr b { brSt s b with mode := mode, duty := duty }
    if st = 3 ∨ st = 5 then s
    else if (old = 1 ∧ mode = 2) ∨ (old = 2 ∧ mode = 1) then (brShow b 3 0 0 s).emit (.pin 2 b (brGapUs s b))
    else brApply b s

/-- The driver writes a bridge's mode and duty. -/
def driveBr (b mode duty : Nat) (s : State) : State :=
  if s.flag F.IOX_BR_STAT_FORCED b || groupSafe s (s.get F.IOX_BR_CFG_KNELL_GRP b) then s
  else ((s.put F.IOX_BR_CMD_MODE b mode).put F.IOX_BR_CMD_DUTY b duty).when (linkUp s) (brCommand b mode duty)

/-! A supply under Knell (R193) -/

/-- A supply is forced: FAULT and the other states of a supply that is on stay. -/
def forceSsup (n : Nat) (s : State) : State :=
  let s := s.put F.IOX_SSUP_STAT_FORCED n 1
  match s.get F.IOX_SSUP_CTRL_SAFE_ACTION n with
  | 2 => ssupEnable n true s
  | 1 => s
  | _ => if s.get F.IOX_SSUP_STAT_STATE n = 3 then s else ssupEnable n false s

/-- A supply is OFF until its driver writes it again. -/
def quietSsup (n : Nat) (s : State) : State :=
  ssupEnable n false ((s.put F.IOX_SSUP_STAT_FORCED n 0).put F.IOX_SSUP_CTRL_EN n 0)

/-- A supply follows the state of the group that its KNELL_GRP and SAFE_ACTION name, after one of them was written or reset (R193). -/
def followSsup (n : Nat) (s : State) : State :=
  if groupSafe s (s.get F.IOX_SSUP_CTRL_KNELL_GRP n) then forceSsup n s
  else if s.flag F.IOX_SSUP_STAT_FORCED n then quietSsup n s else s

/-- A register write of an output value is the driver's: software of the owning partition with DRV = 0x10 (R191). -/
def swDriver (s : State) (init drv cls idx : Nat) : Bool := drv == 0x10 && partOf s init == asgOf s cls idx

/-- A write of an output value by another initiator (R191): ACCESS_DENIED, logged, FS237. -/
def refuseOutput (init a kind idx : Nat) (s : State) : State :=
  let d := (s.denyWrite init a).freeOfs
  d.2.ioFault 237 kind idx 0 d.1

/-- DRV takes only the values of R191. -/
def drvValid (v : Nat) : Bool := v ≤ 0x10 || v == 0x1E || v == 0x1F

/-- The RWL fields of an output's configuration word before the boot lock; an invalid DRV keeps the old one. -/
def outputRwl (old new : Nat) : Nat :=
  let w := withBits old 31 27 (bitsOf new 31 27)
  if drvValid (bitsOf new 26 22) then withBits w 26 22 (bitsOf new 26 22) else w

/-- The effect of a write of IOX_SSUP_CTRL. -/
def ssupWrite (n init : Nat) (v : Word) (s : State) : State :=
  let old := (s.rd R.IOX_SSUP_CTRL n).toNat
  let drv := swDriver s init (s.get F.IOX_SSUP_CTRL_DRV n) 11 n
  if !drv && (s.bootLocked || bitOf v.toNat 0 != bitOf old 0) then
    refuseOutput init (R.IOX_SSUP_CTRL.addr n) 2 n s
  else
    let s := s.when (!s.bootLocked) (fun s => followSsup n (s.wr R.IOX_SSUP_CTRL n (BitVec.ofNat 32 (outputRwl old v.toNat))))
    s.when drv (driveSsup n (bitOf v.toNat 0))

/-- IOX_SSUP_CTRL (R191, R200). -/
def execIoxSsupCtrl (n : Fin 8) (init : Init) (value : Word) (s : State) : Res :=
  .next (s.busWrite init (R.IOX_SSUP_CTRL.addr n) 4 (ssupWrite n init value))

/-- The effect of a write of IOX_LSO_DUTY. -/
def lsoWrite (j init : Nat) (v : Word) (s : State) : State :=
  if swDriver s init (s.get F.IOX_LSO_CFG_DRV j) 9 j then driveLso j (bitsOf v.toNat 9 0) s
  else refuseOutput init (R.IOX_LSO_DUTY.addr j) 3 j s

/-- IOX_LSO_DUTY (R191, R192). -/
def execIoxLsoDuty (j : Fin 32) (init : Init) (value : Word) (s : State) : Res :=
  .next (s.busWrite init (R.IOX_LSO_DUTY.addr j) 4 (lsoWrite j init value))

/-- The effect of a write of IOX_BR_CMD. -/
def brWrite (b init : Nat) (v : Word) (s : State) : State :=
  if swDriver s init (s.get F.IOX_BR_CFG_DRV b) 10 b then driveBr b (bitsOf v.toNat 11 10) (bitsOf v.toNat 9 0) s
  else refuseOutput init (R.IOX_BR_CMD.addr b) 4 b s

/-- IOX_BR_CMD (R191, R205). -/
def execIoxBrCmd (b : Fin 6) (init : Init) (value : Word) (s : State) : Res :=
  .next (s.busWrite init (R.IOX_BR_CMD.addr b) 4 (brWrite b init value))

/-! ### Low-side outputs (R203, R204) -/

/-- Interrupt 754 where the output enables it. -/
def lsoIrq (j : Nat) (s : State) : State := if s.flag F.IOX_LSO_CFG_IE j then s.raiseIrq 754 else s

/-- LSO_OVERCURRENT (R203): still limiting after t_LSO_OC. -/
def execLsoOvercurrent (j : Fin 32) (i ofs : Nat) (s : State) : Res :=
  if hRuns s && !s.flag F.IOX_LSO_STAT_LATCHED j then
    let s := ((s.put F.IOX_LSO_STAT_OC j 1).put F.IOX_LSO_STAT_LATCHED j 1).put F.IOX_LSO_STAT_I j i
    .next ((lsoIrq j s).ioFault 228 3 j (i % 1024) ofs)
  else .next s

/-- The effect of a write of IOX_LSO_STAT: a 1 to OC also clears LATCHED (R203). -/
def lsoStatWrite (j : Nat) (v : Word) (s : State) : State :=
  let s := s.swWrite false R.IOX_LSO_STAT j v
  s.when (bitOf v.toNat 31) (·.put F.IOX_LSO_STAT_LATCHED j 0)

/-- LSO_OC_CLEAR (R203). -/
def execLsoOcClear (j : Fin 32) (init : Init) (value : Word) (s : State) : Res :=
  .next (s.busWrite init (R.IOX_LSO_STAT.addr j) 4 (lsoStatWrite j value))

/-- LSO_OVERTEMP (R203): above 175 °C. -/
def execLsoOvertemp (j : Fin 32) (i ofs : Nat) (s : State) : Res :=
  if hRuns s && !(lsoSt s j).hot then
    let s := (s.setLso j { lsoSt s j with hot := true }).put F.IOX_LSO_STAT_OT j 1
    .next ((lsoIrq j (s.put F.IOX_LSO_STAT_I j i)).ioFault 229 3 j (i % 1024) ofs)
  else .next s

/-- LSO_OVERTEMP_RECOVER (R203): below 160 °C. -/
def execLsoOvertempRecover (j : Fin 32) (s : State) : Res := .next (s.setLso j { lsoSt s j with hot := false })

/-- LSO_OPEN_LOAD (R204): 1 ms of open load, in the on state or, with OL_OFF_EN, in the off state. -/
def execLsoOpenLoad (j : Fin 32) (on : Bool) (i ofs : Nat) (s : State) : Res :=
  if hRuns s && (on || s.flag F.IOX_LSO_CFG_OL_OFF_EN j) then
    let s := if on then s.put F.IOX_LSO_STAT_OL_ON j 1 else s.put F.IOX_LSO_STAT_OL_OFF j 1
    .next ((lsoIrq j (s.put F.IOX_LSO_STAT_I j i)).ioFault 230 3 j (i % 1024) ofs)
  else .next s

/-! ### Bridges (R206 to R209) -/

/-- Interrupt 740 + b where the bridge enables it. -/
def brIrq (b : Nat) (s : State) : State := if s.flag F.IOX_BR_CFG_IE b then s.raiseIrq (740 + b) else s

/-- BRIDGE_GAP_END (R206): what was written last during the gap applies. -/
def execBridgeGapEnd (b : Fin 6) (s : State) : Res :=
  if s.get F.IOX_BR_STAT_STATE b = 3 then .next (brApply b s) else .next s

/-- The bridge runs forward or reverse. -/
def brPwm (s : State) (b : Nat) : Bool :=
  s.get F.IOX_BR_STAT_MODE_OUT b == 1 || s.get F.IOX_BR_STAT_MODE_OUT b == 2

/-- A current code ends an on-phase that lasts past BLANK × 100 ns (R208). -/
def brLimits (s : State) (b code : Nat) : Bool :=
  decide (s.get F.IOX_BR_ILIM_ILIM b < code) && decide (10 * s.get F.IOX_BR_ILIM_BLANK b < brOnTicks s b)

/-- The first limit of a period: it is counted, and PERSIST periods in a row raise FS232 (R208). -/
def brLimit (b code ofs : Nat) (s : State) : State :=
  let n := (brSt s b).limRun + 1
  let s := (s.setBr b { brSt s b with limRun := n, limited := true }).incSat F.IOX_BR_CNT_LIM_CNT b
  if n = max 1 (s.get F.IOX_BR_ILIM_PERSIST b) then (brIrq b (s.put F.IOX_BR_STAT_LIM_PERSIST b 1)).ioFault 232 4 b code ofs
  else s

/-- A sample of a running bridge (R207, R208).  Below DUTY 0x3FF each sample is one on-phase, so a period of its own; at 0x3FF samples
come every 4 µs, 400 ticks of 10 ns, and the period ends once they cover PER.  A period in which no sample was above ILIM ends
a run of limited periods. -/
def brPeriod (b : Nat) (above : Bool) (code ofs : Nat) (s : State) : State :=
  if s.get F.IOX_BR_STAT_DUTY_OUT b ≠ 0x3FF then
    let s := s.setBr b { brSt s b with limited := false, span := 0 }
    if above then brLimit b code ofs s else s.setBr b { brSt s b with limRun := 0 }
  else
    let s := if above && !(brSt s b).limited then brLimit b code ofs s else s
    let x := brSt s b
    let n := x.span + 400
    if n < s.get F.IOX_BR_PWM_PER b then s.setBr b { x with span := n }
    else s.setBr b { x with span := n - s.get F.IOX_BR_PWM_PER b, limited := false, limRun := if x.limited then x.limRun else 0 }

/-- BRIDGE_CURRENT_LIMIT (R207, R208): one current sample of a bridge, in an on-phase or, without PWM, after 4 µs. -/
def execBridgeCurrentLimit (b : Fin 6) (raw : Nat) (dir : Bool) (vsRaw ofs : Nat) (s : State) : Res :=
  if hRuns s then
    let code := chimeEncQ (min raw 65536 * 390625) (32 * s.get F.IOX_BR_CFG_R_EQ b)
    let s := if linkUp s then
        (s.wr R.IOX_BR_I b (measWord (!s.bist.loopFail.contains (74 + b)) dir code (rawClamp raw))).wr R.IOX_BR_VS b
          (measWord true false (chimeEncQ (min vsRaw 65536 * 625) 512) (rawClamp vsRaw))
      else s
    .next (if brPwm s b then brPeriod b (brLimits s b code) code ofs s else s)
  else .next s

/-- What a bridge's safe action puts in force (Table 7-1). -/
def brSafe (b : Nat) (s : State) : State :=
  let x := brSt s b
  match s.get F.IOX_BR_CFG_SAFE_ACTION b with
  | 2 => s.setBr b { x with mode := 3, duty := 0 }
  | 1 =>
      if s.get F.IOX_BR_STAT_STATE b = 5 then s
      else s.setBr b { x with mode := s.get F.IOX_BR_STAT_MODE_OUT b, duty := s.get F.IOX_BR_STAT_DUTY_OUT b }
  | _ => s.setBr b { x with mode := 0, duty := 0 }

/-- BRIDGE_SHORT (R209): V_DS above VDS_TH on a FET that is driven on; FAULT wins over a Knell force of the same instant (Table 7-4). -/
def execBridgeShort (b : Fin 6) (ofs : Nat) (s : State) : Res :=
  if hRuns s && (brDriven s b || (brSt s b).forcedAt == some s.time.elapsed) then
    let s := brShow b 4 0 0 (s.setBr b BrSt.init)
    let s := (s.put F.IOX_BR_STAT_SHORT b 1).incSat F.IOX_BR_CNT_FAULT_CNT b
    .next ((brIrq b s).ioFault 231 4 b (s.get F.IOX_BR_I_CHIME b) ofs)
  else .next s

/-- The effect of a write of IOX_BR_STAT: CLR leaves FAULT (R209); while the force is present the safe action
applies (Table 7-4). -/
def brStatWrite (b : Nat) (v : Word) (s : State) : State :=
  let s := (s.swWrite false R.IOX_BR_STAT b v).put F.IOX_BR_STAT_CLR b 0
  if bitOf v.toNat 28 && s.get F.IOX_BR_STAT_STATE b == 4 then
    brApply b (s.when (s.flag F.IOX_BR_STAT_FORCED b) (brSafe b))
  else s

/-- BRIDGE_CLR (R209). -/
def execBridgeClr (b : Fin 6) (init : Init) (value : Word) (s : State) : Res :=
  .next (s.busWrite init (R.IOX_BR_STAT.addr b) 4 (brStatWrite b value))

/-- BRb_VS as measured. -/
def brSupply (b vsRaw : Nat) (s : State) : State :=
  s.when (linkUp s) (·.wr R.IOX_BR_VS b
    (measWord true false (chimeEncQ (min vsRaw 65536 * 625) 512) (rawClamp vsRaw)))

/-- BRIDGE_UV (R209): BRb_VS below V_BR_UV; a bridge in FAULT stays there. -/
def execBridgeUv (b : Fin 6) (vsRaw ofs : Nat) (s : State) : Res :=
  if hRuns s && s.get F.IOX_BR_STAT_STATE b != 5 then
    let s := (brSupply b vsRaw s).put F.IOX_BR_STAT_UV b 1
    let s := if s.get F.IOX_BR_STAT_STATE b = 4 then s else brShow b 5 0 0 s
    .next ((brIrq b s).ioFault 233 4 b (s.get F.IOX_BR_VS_CHIME b) ofs)
  else .next s

/-- BRIDGE_UV_RECOVER (R209): the mode and duty in force resume. -/
def execBridgeUvRecover (b : Fin 6) (vsRaw : Nat) (s : State) : Res :=
  if hRuns s && s.get F.IOX_BR_STAT_STATE b == 5 then .next (brApply b (brSupply b vsRaw s)) else .next s

/-! ### Knell, reset of a partition and the link (R193, R194) -/

/-- A low-side output is forced (Table 7-1). -/
def forceLso (j : Nat) (s : State) : State :=
  let s := s.put F.IOX_LSO_STAT_FORCED j 1
  let x := lsoSt s j
  match s.get F.IOX_LSO_CFG_SAFE_ACTION j with
  | 2 => lsoApply j 0x3FF s
  | 1 => if !s.kn.hosc && x.out != 0x3FF then lsoApply j 0 s else s
  | _ => lsoApply j 0 s

/-- A bridge is forced: FAULT and UV keep the gates off, and a direction gap is abandoned (Table 7-4). -/
def forceBr (b : Nat) (s : State) : State :=
  let s := s.when (brDriven s b) (fun s => s.setBr b { brSt s b with forcedAt := some s.time.elapsed })
  let s := brSafe b (s.put F.IOX_BR_STAT_FORCED b 1)
  let x := brSt s b
  let s := if !s.kn.hosc && s.get F.IOX_BR_CFG_SAFE_ACTION b == 1 && (x.mode == 1 || x.mode == 2) &&
      x.duty != 0 && x.duty != 0x3FF then s.setBr b { x with mode := 0, duty := 0 } else s
  let st := s.get F.IOX_BR_STAT_STATE b
  if st = 4 ∨ st = 5 then s else brApply b s

/-- The H-die oscillator stops: a PWM output in HOLD turns off or coasts (R193). -/
def hoscOutputs (s : State) : State :=
  let s := s.each (List.range 32) (fun j s => if s.flag F.IOX_LSO_STAT_FORCED j then
    (if s.get F.IOX_LSO_CFG_SAFE_ACTION j = 1 then forceLso j s else s) else s)
  s.each (List.range 6) (fun b s => if s.flag F.IOX_BR_STAT_FORCED b then
    (if s.get F.IOX_BR_CFG_SAFE_ACTION b = 1 then forceBr b s else s) else s)

/-- Knell forces the outputs of a group. -/
def forceOutputs (g : Nat) (s : State) : State :=
  let s := s.each (List.range 8) (fun n s => if s.get F.IOX_SSUP_CTRL_KNELL_GRP n = g then forceSsup n s else s)
  let s := s.each (List.range 32) (fun j s => if s.get F.IOX_LSO_CFG_KNELL_GRP j = g then forceLso j s else s)
  s.each (List.range 6) (fun b s => if s.get F.IOX_BR_CFG_KNELL_GRP b = g then forceBr b s else s)

/-- A low-side output is off until its driver writes it again. -/
def quietLso (j : Nat) (s : State) : State :=
  lsoApply j 0 ((s.put F.IOX_LSO_STAT_FORCED j 0).put F.IOX_LSO_DUTY_DUTY j 0)

/-- A bridge coasts until its driver writes it again; FAULT and UV stay. -/
def quietBr (b : Nat) (s : State) : State :=
  let s := (s.put F.IOX_BR_STAT_FORCED b 0).wr R.IOX_BR_CMD b 0
  let s := s.setBr b { brSt s b with mode := 0, duty := 0 }
  let st := s.get F.IOX_BR_STAT_STATE b
  if st = 4 ∨ st = 5 then s else brApply b s

/-- Knell releases the outputs of a group (R193). -/
def releaseOutputs (g : Nat) (s : State) : State :=
  let s := s.each (List.range 8) (fun n s => if s.get F.IOX_SSUP_CTRL_KNELL_GRP n = g then quietSsup n s else s)
  let s := s.each (List.range 32) (fun j s => if s.get F.IOX_LSO_CFG_KNELL_GRP j = g then quietLso j s else s)
  s.each (List.range 6) (fun b s => if s.get F.IOX_BR_CFG_KNELL_GRP b = g then quietBr b s else s)

/-- A low-side output likewise. -/
def followLso (j : Nat) (s : State) : State :=
  if groupSafe s (s.get F.IOX_LSO_CFG_KNELL_GRP j) then forceLso j s
  else if s.flag F.IOX_LSO_STAT_FORCED j then quietLso j s else s

/-- A bridge likewise. -/
def followBr (b : Nat) (s : State) : State :=
  if groupSafe s (s.get F.IOX_BR_CFG_KNELL_GRP b) then forceBr b s
  else if s.flag F.IOX_BR_STAT_FORCED b then quietBr b s else s

/-- Every output shows and obeys its group, whose state survives a reset of the K-die (R193, R483). -/
def followGroups (s : State) : State :=
  let s := s.each (List.range 8) followSsup
  let s := s.each (List.range 32) followLso
  s.each (List.range 6) followBr

/-- What the H-die keeps of its outputs through a reset of the K-die: what they do; instants are counted anew. -/
def IoSt.after (x : IoSt) : IoSt :=
  { x with
    mfi := [], sent := [], pwm := []
    lso := x.lso.filterMap (fun e => if e.2.out = 0 ∧ ¬ e.2.hot then none else some (e.1, { e.2 with stop := 0 }))
    br := x.br.filterMap (fun e => if { e.2 with forcedAt := none } = BrSt.init then none else some (e.1, { e.2 with forcedAt := none })) }

/-- RESET_PART of a partition turns its outputs off (R194); a forced output stays under Knell. -/
def resetPartOutputs (p : Nat) (s : State) : State :=
  let s := s.each (List.range 8) (fun n s =>
    if asgOf s 11 n = p ∧ !s.flag F.IOX_SSUP_STAT_FORCED n then quietSsup n s else s)
  let s := s.each (List.range 32) (fun j s =>
    if asgOf s 9 j = p ∧ !s.flag F.IOX_LSO_STAT_FORCED j then quietLso j s else s)
  s.each (List.range 6) (fun b s =>
    if asgOf s 10 b = p ∧ !s.flag F.IOX_BR_STAT_FORCED b then quietBr b s else s)

/-- The link leaves UP: every input measurement word and SENT result reads VALID = 0 (R194). -/
def ioLinkDown (s : State) : State :=
  let s := s.put F.IOX_STAT_LINK_DOWN 0 1
  let s := s.each (List.range 96) (fun i s => s.put F.IOX_MFI_AN_VALID i 0)
  let s := s.each (List.range 16) (fun i s => s.put F.IOX_RAI_V_VALID i 0)
  let s := s.each (List.range 8) (fun n s => (s.put F.IOX_SSUP_V_VALID n 0).put F.IOX_SSUP_I_VALID n 0)
  let s := s.each (List.range 6) (fun b s => (s.put F.IOX_BR_I_VALID b 0).put F.IOX_BR_VS_VALID b 0)
  let s := s.each (List.range 8) (fun c s =>
    (((s.put F.SENT_STAT_VALID c 0).put F.SENT_FC_VALID (2 * c) 0).put F.SENT_FC_VALID (2 * c + 1) 0).put
      F.SENT_SLOW_VALID c 0)
  let d := s.freeOfs
  d.2.each (List.range 8) (updTemp d.1)

/-- The link reaches UP: FORCED shows what Knell forces (R193, R194). -/
def ioLinkUp (s : State) : State := followGroups (s.put F.IOX_STAT_LINK_DOWN 0 0)

/-! ### SENT receivers (R211 to R213) -/

/-- Data nibbles of a channel's frames: 0 and 7 act as 6. -/
def sentNibs (s : State) (c : Nat) : Nat :=
  let n := s.get F.SENT_CFG_NIB c
  if n = 0 ∨ n = 7 then 6 else n

/-! The checksums and the serial formats are those of SAE J2716, which R211 names (PRESUMED: log 63). -/

/-- x⁴ times a remainder modulo x⁴ + x³ + x² + 1. -/
def crc4Shift (c : Nat) : Nat :=
  (List.range 4).foldl (fun c _ => if 8 ≤ c then (2 * c) ^^^ 0x1D else 2 * c) c

/-- The CRC of nibbles by the legacy or the recommended method, which ends with one more nibble of 0. -/
def sentCrc (legacy : Bool) (nibs : List Nat) : Nat :=
  let c := nibs.foldl (fun c d => crc4Shift c ^^^ d % 16) 5
  if legacy then c else crc4Shift c

/-- One bit into the remainder modulo x⁶ + x⁴ + x³ + 1. -/
def crc6Bit (c b : Nat) : Nat := if 32 ≤ c then (2 * c + b) % 64 ^^^ 0x19 else 2 * c + b

/-- The CRC of an enhanced serial message. -/
def crc6 (bits : List Nat) : Nat := (bits ++ List.replicate 6 0).foldl crc6Bit 0x15

/-- A number from bits, the first most significant. -/
def bitNum (l : List Nat) : Nat := l.foldl (fun a x => 2 * a + x) 0

/-- The data nibbles of a frame by the channel's NIB. -/
def sentData (s : State) (c : Nat) (fr : SentFrame) : List Nat := (List.range (sentNibs s c)).map (fun k => fr.nibs.getD k 16)

/-- Why a frame is rejected, 0 where it is accepted (R212); of several reasons the one that comes first in the frame (DESIGN CHOICE,
log 63). -/
def sentReject (s : State) (c : Nat) (fr : SentFrame) : Nat :=
  let nom := 250 * s.get F.SENT_CFG_TICK c
  let prev := (sentSt s c).prevTick.getD fr.tick
  let data := sentData s c fr
  if fr.tick * 10 < nom * 8 ∨ nom * 12 < fr.tick * 10 then 2
  else if prev < 64 * (max fr.tick prev - min fr.tick prev) then 3
  else if (fr.status :: fr.crc :: data).any (fun x => decide (15 < x)) then 4
  else if sentCrc (s.flag F.SENT_CFG_CRC_LEGACY c) data ≠ fr.crc then 1
  else if s.flag F.SENT_CFG_PAUSE c && !fr.pauseOk then 5
  else 0

/-- The short serial message that the last 16 status nibbles spell: bit 3 starts it, bit 2 carries identifier, data and CRC. -/
def serialShort (legacy : Bool) (l : List Nat) : Option (Nat × Nat) :=
  let l := l.drop (l.length - 16)
  let d := l.map (fun x => bitsOf x 2 2)
  let nib := fun k => bitNum ((d.drop (4 * k)).take 4)
  if l.length = 16 ∧ l.map (fun x => bitsOf x 3 3) = 1 :: List.replicate 15 0 ∧
      sentCrc legacy [nib 0, nib 1, nib 2] = nib 3 then some (nib 0, nib 1 * 16 + nib 2) else none

/-- The enhanced serial message that the last 18 status nibbles spell: six start bits, then 12 bits of data with, on bit 3, the
configuration bit and either an 8-bit identifier or a 4-bit identifier and four more bits of data. -/
def serialEnhanced (l : List Nat) : Option (Nat × Nat) :=
  let hi := l.map (fun x => bitsOf x 3 3)
  let lo := l.map (fun x => bitsOf x 2 2)
  let h := fun k n => bitNum ((hi.drop k).take n)
  let d := bitNum (lo.drop 6)
  if l.length = 18 ∧ hi.take 7 = [1, 1, 1, 1, 1, 1, 0] ∧ h 12 1 = 0 ∧ h 17 1 = 0 ∧
      crc6 ((List.range 12).flatMap (fun k => [lo.getD (6 + k) 0, hi.getD (6 + k) 0])) = bitNum (lo.take 6) then
    some (if h 7 1 = 0 then (h 8 4 * 16 + h 13 4, d) else (h 8 4, h 13 4 * 4096 + d))
  else none

/-- A number from nibbles, the first most significant. -/
def nibNum (l : List Nat) : Nat := l.foldl (fun a x => a * 16 + x) 0

/-- The two fast channels of a frame by LAYOUT and FC2_REV (R211). -/
def sentFast (s : State) (c : Nat) (nibs : List Nat) : Nat × Option Nat :=
  let n := fun k => nibs.getD k 0
  let rev := fun (l : List Nat) => if s.flag F.SENT_CFG_FC2_REV c then l.reverse else l
  match s.get F.SENT_CFG_LAYOUT c with
  | 0 => (nibNum [n 0, n 1, n 2], none)
  | 1 => (nibNum [n 0, n 1, n 2], some (nibNum (rev [n 3, n 4, n 5])))
  | 2 => (nibNum [n 0, n 1, n 2, n 3], some (nibNum (rev [n 4, n 5])))
  | _ => (nibNum [n 0, n 1, n 2] * 4 + n 3 / 4,
      some (if s.flag F.SENT_CFG_FC2_REV c then nibNum [n 5, n 4] * 4 + n 3 % 4 else n 3 % 4 * 256 + nibNum [n 4, n 5]))

/-- A fast channel left-justified into the 12 bits that Tabla reads (R211). -/
def sentTabla (s : State) (c f : Nat) : Nat :=
  let d := s.get F.SENT_FC_DATA (2 * c + f)
  match s.get F.SENT_CFG_LAYOUT c, f with
  | 2, 0 => d / 16
  | 2, _ => d * 16
  | 3, 0 => d / 4
  | 3, _ => d * 4
  | _, _ => d

/-- The fast words of a valid frame, with its status nibble (R212). -/
def sentShowFast (c : Nat) (fc : Nat × Option Nat) (status : Nat) (s : State) : State :=
  let s := (s.put F.SENT_STAT_VALID c 1).put F.SENT_STAT_STATUS c status
  let s := s.wr R.SENT_FC (2 * c) (BitVec.ofNat 32 (2 ^ 31 + fc.1))
  match fc.2 with
  | some d => s.wr R.SENT_FC (2 * c + 1) (BitVec.ofNat 32 (2 ^ 31 + d))
  | none => s.put F.SENT_FC_VALID (2 * c + 1) 0

/-- A complete slow message, as its identifier and data, with its interrupt (R212). -/
def sentShowSlow (c : Nat) (slow : Option (Nat × Nat)) (s : State) : State :=
  match slow with
  | some m =>
      let s := s.wr R.SENT_SLOW c (BitVec.ofNat 32 (2 ^ 31 + 2 ^ 30 + m.1 % 256 * 2 ^ 16 + m.2 % 65536))
      if s.flag F.SENT_CFG_IE_SLOW c then s.raiseIrq (746 + c) else s
  | none => s

/-- A valid frame's results: the fast channels, the frame count, and the slow message that it completes, after which the next one is
gathered anew. -/
def sentAccept (c : Nat) (fr : SentFrame) (s : State) : State :=
  let s := (sentShowFast c (sentFast s c fr.nibs) fr.status s).incSat F.SENT_CNT_FRAMES c
  let x := sentSt s c
  let l := x.serial ++ [fr.status]
  let l := l.drop (l.length - 18)
  let m := match s.get F.SENT_CFG_SLOW c with
    | 1 => serialShort (s.flag F.SENT_CFG_CRC_LEGACY c) l
    | 2 => serialEnhanced l
    | _ => none
  sentShowSlow c m (s.setSent c { x with seen := some s.time.elapsed, serial := if m.isSome then [] else l })

/-- SENT_FRAME (R211 to R213): with SPC = 1 the receiver waits for a trigger, and takes no frame without one.  A rejected frame breaks
the serial message. -/
def execSentFrame (c : Fin 8) (fr : SentFrame) (ofs : Nat) (s : State) : Res :=
  if ioRuns s && s.flag F.SENT_CFG_EN c && (!s.flag F.SENT_CFG_SPC c || (sentSt s c).busy) then
    let e := sentReject s c fr
    let s := s.setSent c { sentSt s c with prevTick := some fr.tick, busy := false }
    if e = 0 then .next (sentAccept c fr s)
    else
      let s := s.setSent c { sentSt s c with serial := [] }
      let s := ((s.incSat F.SENT_CNT_ERRORS c).put F.SENT_STAT_ERR c 1).put F.SENT_STAT_LAST_ERR c e
      let s := if s.flag F.SENT_CFG_IE_ERR c then s.raiseIrq (746 + c) else s
      .next (s.ioFault 234 5 c 0 ofs)
  else .next s

/-- µs since the last valid frame, saturating (SENT_STAT.AGE). -/
def sentAge (s : State) (c : Nat) : Nat :=
  match (sentSt s c).seen with
  | some t => min 0xFFFFF ((s.time.elapsed - t) / 1000)
  | none => 0xFFFFF

/-- SENT_TIMEOUT (R212): no valid frame for TMO ms. -/
def execSentTimeout (c : Fin 8) (ofs : Nat) (s : State) : Res :=
  if ioRuns s && s.flag F.SENT_CFG_EN c then
    let s := s.setSent c { sentSt s c with busy := false, serial := [] }
    let s := ((s.put F.SENT_STAT_VALID c 0).put F.SENT_FC_VALID (2 * c) 0).put F.SENT_FC_VALID (2 * c + 1) 0
    let s := s.put F.SENT_STAT_LAST_ERR c 6
    let s := if s.flag F.SENT_CFG_IE_ERR c then s.raiseIrq (746 + c) else s
    .next (s.ioFault 235 5 c 0 ofs)
  else .next s

/-- An SPC trigger drives the line low for 12 ticks; during a frame it is ignored (R213). -/
def sentTrigger (c : Nat) (s : State) : State :=
  if s.flag F.SENT_CFG_EN c && s.flag F.SENT_CFG_SPC c && !(sentSt s c).busy && ioRuns s then
    (s.setSent c { sentSt s c with busy := true }).emit (.pin 1 c 12)
  else s

/-- The effect of a write of SENT_CFG (R213): TRIG clears when the trigger is sent. -/
def sentCfgWrite (c : Nat) (v : Word) (s : State) : State :=
  let s := (s.swWrite false R.SENT_CFG c v).put F.SENT_CFG_TRIG c 0
  s.when (bitOf v.toNat 17) (sentTrigger c)

/-- SENT_TRIG (R213). -/
def execSentTrig (c : Fin 8) (init : Init) (value : Word) (s : State) : Res :=
  .next (s.busWrite init (R.SENT_CFG.addr c) 4 (sentCfgWrite c value))

end Sys2Proof.Machine
end

