-- ==== Sys2Proof/Machine/Knell.lean ====
section
/-!
DEFINITION. Knell (chapter 17): safe-state groups, request pairs, group slots and the causes of the safe state.
-/

namespace Sys2Proof.Machine

/-! Bit numbers of the causes in KN_GSTAT (Table 17-2). -/

def knTocsin : Nat := 29
def knTwinReq : Nat := 28
def knTwinSafe : Nat := 27
def knLink : Nat := 26
def knKsup : Nat := 25
def knKclk : Nat := 24
def knRail : Nat := 23
def knHosc : Nat := 22

/-- A cause of a group applies. -/
def knHas (s : State) (g bit : Nat) : Bool := (s.rd R.KN_GSTAT g).getLsbD bit

/-- A cause of a group set or cleared. -/
def knPut (g bit : Nat) (on : Bool) (s : State) : State :=
  s.wr R.KN_GSTAT g (setBits (s.rd R.KN_GSTAT g) bit bit (b2n on))

/-- A Knell source raised with the record of R499. -/
def knFault (n unit code : Nat) (s : State) : State := s.raise n (8 * 2 ^ 27 + unit * 2 ^ 16 + code * 2 ^ 8) 0 0

/-- Interrupt 929, at once or at link-up. -/
def knIrq (s : State) : State := if linkUp s then s.raiseIrq 929 else { s with kn := { s.kn with irqWait := true } }

/-- The members of a group apply their safe actions (R478): channels, outputs, and the Knell feed action of the feeds (R180). -/
def forceMembers (g : Nat) (s : State) : State :=
  let d := s.freeOfs
  (forceOutputs g (d.2.forceGroup g d.1)).each [0, 1] (feedDepart g d.1)

/-- A group departs from NORMAL by a cause (R478). -/
def knDepart (g bit : Nat) (s : State) : State :=
  let s := s.put F.KN_GSTAT_STATE g (if bit = knKclk then 2 else 1)
  let s := s.incSat F.KN_CNT_CNT g
  let s := s.wr R.KN_STAT 0 (setBits (s.rd R.KN_STAT 0) g g 1)
  let s := if linkUp s then knFault 423 g bit s
    else { s with kn := { s.kn with departWait := s.kn.departWait ++ [(g, bit)] } }
  forceMembers g (knIrq s)

/-- A cause of the safe state sets (Table 17-2). -/
def knCause (g bit : Nat) (s : State) : State :=
  let st := s.get F.KN_GSTAT_STATE g
  let s := knPut g bit true s
  let s := if st = 0 then
      knDepart g bit { s with kn := { s.kn with
        linkHeld := if bit = knLink then s.kn.linkHeld ++ [g] else s.kn.linkHeld } }
    else if bit = knKclk ∧ st = 1 then knIrq (s.put F.KN_GSTAT_STATE g 2)
    else s
  tocRefresh s

/-- A cause sets in every group. -/
def knCauseAll (bit : Nat) (s : State) : State := s.each (List.range 8) (fun g s => knCause g bit s)

/-- A cause clears in every group; no group changes its state by it (R481). -/
def knClearAll (bit : Nat) (s : State) : State := s.each (List.range 8) (fun g s => knPut g bit false s)

/-! ### Request pairs (R479) -/

/-- Tocsin requests a group: a pending source of class SAFE_GROUP that names it, or of class SAFE_ALL (Table 17-1). -/
def tocRequests (s : State) (g : Nat) : Bool :=
  (List.range 16).any (fun w => s.rd R.TOC_PEND w != 0 && (List.range 32).any (fun b =>
    let n := 32 * w + b
    let gr := s.get F.TOC_SRC_GROUPS n
    (s.rd R.TOC_PEND w).getLsbD b && (reactOf s n == 4 || (reactOf s n == 3 && (gr == 0 || bitOf gr g)))))

/-- A request pair. -/
def pairSt (s : State) (g : Nat) : PairSt := tget PairSt.idle s.kn.pairs g

/-- A pair is complementary. -/
def PairSt.valid (x : PairSt) : Bool := x.p != x.n

/-- A valid pair is judged while the heartbeat is present and the link is UP. -/
def judgePair (g : Nat) (s : State) : State :=
  let x := pairSt s g
  if s.kn.heartbeat && linkUp s && x.valid then
    (if x.p then knCause g knTocsin s else knPut g knTocsin false s)
  else s

/-- KNELL_REQUEST (R479): the pair of a group changes at Knell to what Tocsin drives, or to what broken wires carry. -/
def execKnellRequest (g : Fin 8) (broken : Option (Bool × Bool)) (s : State) : Res :=
  let r := tocRequests s g
  let x : PairSt := match broken with
    | some v => ⟨v.1, v.2⟩
    | none => ⟨r, !r⟩
  let s := { s with kn := { s.kn with pairs := tset PairSt.idle s.kn.pairs g x } }
  let s := if s.kn.heartbeat && x.valid then knPut g knRail false s else s
  .next (judgePair g s)

/-- KNELL_RAIL_FAULT (R479): a pair has stayed invalid for t_DRF. -/
def execKnellRailFault (g : Fin 8) (s : State) : Res :=
  if s.kn.heartbeat && !(pairSt s g).valid && !knHas s g knRail then
    let s := s.wr R.KN_STAT 0 (setBits (s.rd R.KN_STAT 0) (16 + g) (16 + g) 1)
    let s := if linkUp s then knFault 422 g knRail s
      else { s with kn := { s.kn with railWait := s.kn.railWait ++ [g.val] } }
    .next (knCause g knRail s)
  else .next s

/-! ### K-die losses and the oscillator (R482) -/

/-- The K-die heartbeat is lost (R482): KCLK places every group in HALT, except in an intended power-down. -/
def heartbeatLost (s : State) : State :=
  if s.kn.intended then s
  else
    let s := { s with kn := { s.kn with heartbeat := false, kLost := if s.kn.kLost = 0 then knKclk else s.kn.kLost } }
    tocRefresh (knCauseAll knKclk (s.put F.KN_STAT_HALT 0 1))

/-- KSUP_LOSS (R482): every group enters SAFE, except in an intended power-down. -/
def execKsupLoss (s : State) : Res :=
  if s.kn.intended then .next s
  else
    let s := { s with kn := { s.kn with vddK := false, kLost := if s.kn.kLost = 0 then knKsup else s.kn.kLost } }
    .next (knCauseAll knKsup s)

/-- HOSC_STOP (R482, R193): every group enters SAFE; a PWM output in HOLD turns off. -/
def execHoscStop (s : State) : Res :=
  if s.kn.hosc then
    let s := { s with kn := { s.kn with hosc := false } }
    let s := s.put F.KN_STAT_HOSC_LOST 0 1
    let s := if linkUp s then knFault 425 0x0FF knHosc s else { s with kn := { s.kn with hoscWait := true } }
    .next (hoscOutputs (knCauseAll knHosc s))
  else .next s

/-! ### Group slots (R480, R481) -/

/-- A group returns to NORMAL (R481). -/
def knRelease (g : Nat) (s : State) : State :=
  let s := (knPut g knTwinReq false (knPut g knTwinSafe false s)).put F.KN_GSTAT_REL_CNT g 0
  let s := s.put F.KN_GSTAT_STATE g 0
  let s := s.wr R.KN_STAT 0 (setBits (s.rd R.KN_STAT 0) g g 0)
  let s := { s with kn := { s.kn with linkHeld := s.kn.linkHeld.filter (· != g) } }
  tocRefresh (releaseOutputs g (knIrq s))

/-- A cause other than the two TWIN causes applies. -/
def knOther (s : State) (g : Nat) : Bool :=
  [knTocsin, knLink, knKsup, knKclk, knRail, knHosc].any (knHas s g)

/-- The check of one group's slot at step 10 (R480, R481). -/
def knCheck (g : Nat) (s : State) : State :=
  let slot := 0x200 + g
  if s.get F.KN_GRP_PROD g = 0x7FF then s
  else
    let w := (slotSt s slot).far
    let good := judgeWord (consSt s slot) w s.beat == .good
    let s := s.checkWord slot slot w (s.get F.KN_GRP_HOLD g) (knHas s g knTwinSafe)
    let c := consSt s slot
    let s := if c.safe then knCause g knTwinSafe s
      else if c.vGood ≠ 0x1E1 ∧ c.vGood ≠ 0x21E then knCause g knTwinReq s
      else s
    if s.get F.KN_GSTAT_STATE g = 1 then
      if good && c.vGood == 0x21E && !knOther s g then
        let n := s.get F.KN_GSTAT_REL_CNT g + 1
        if max 1 (s.get F.KN_GRP_REL_BEATS g) ≤ n then knRelease g s else s.put F.KN_GSTAT_REL_CNT g n
      else s.put F.KN_GSTAT_REL_CNT g 0
    else s

/-- Every group's slot is checked, before any channel evaluation; not while the link is not UP. -/
def knCheckAll (s : State) : State := if linkUp s then s.each (List.range 8) knCheck else s

/-! ### Link-up (Table 17-2, R479, R482) -/

/-- Knell at link-up: LINK, KSUP and HOSC clear, judging resumes, and what waited for the link is reported. -/
def knLinkUp (s : State) : State :=
  let s := knClearAll knKsup (knClearAll knLink s)
  let s := if s.kn.hosc then knClearAll knHosc s else s
  let k := s.kn
  let s := { s with kn := { k with kLost := 0, railWait := [], hoscWait := false, departWait := [], irqWait := false,
                                   intended := false, vddK := true } }
  let s := if k.kLost = 0 then s else knFault 424 0x0FF k.kLost (s.put F.KN_STAT_KLOSS 0 1)
  let s := s.each k.railWait (fun g s => knFault 422 g knRail s)
  let s := if k.hoscWait then knFault 425 0x0FF knHosc s else s
  let s := s.each k.departWait (fun e s => knFault 423 e.1 e.2 s)
  let s := if k.irqWait then s.raiseIrq 929 else s
  s.each (List.range 8) judgePair

end Sys2Proof.Machine
end

