-- ==== Sys2Proof/Machine/Toc.lean ====
section
/-!
DEFINITION. Tocsin (chapter 17): pending bits, the detail log, software-defined sources and interrupts, ERRN, and the
partition watchdogs.
-/

namespace Sys2Proof.Machine

/-- The partition that holds the TOCSIN block. -/
def tocOwner (s : State) : Nat := slotOwner s 0x001

/-- May an initiator write the TOCSIN fields without a rule of their own (R495)? -/
def tocMayWrite (s : State) (init : Nat) : Bool :=
  partOf s init == tocOwner s || (!s.bootLocked && (init == 0x30 || init == 0x31))

/-- May an initiator clear the bit of an interrupt (R473)? -/
def mayClear (s : State) (init n : Nat) : Bool :=
  init == 0x30 || partOf s init == tocOwner s || partOf s init == asgOf s 13 n

/-- The bits of a word that an initiator may clear; bit i belongs to interrupt base + i. -/
def clearMask (s : State) (init base : Nat) : Nat :=
  (List.range 32).foldl (fun m i => if mayClear s init (base + i) then m + 2 ^ i else m) 0

/-- Pending bits of a word end, with their interrupts (R473). -/
def tocClear (w init : Nat) (v : Word) (s : State) : State :=
  let m := v &&& BitVec.ofNat 32 (clearMask s init (32 * w))
  let s := s.wr R.TOC_PEND w (s.rd R.TOC_PEND w &&& ~~~m)
  tocRefresh (s.each (List.range 32) (fun i s => if m.getLsbD i then s.dropIrq (32 * w + i) else s))

/-- TOC_PEND (R473). -/
def execTocPend (w : Fin 16) (init : Init) (value : Word) (s : State) : Res :=
  .next (s.busWrite init (R.TOC_PEND.addr w) 4 (tocClear w init value))

/-- A word of TOC_SWINT_PEND cleared (R476). -/
def swintClear (k init : Nat) (v : Word) (s : State) : State :=
  let m := v &&& BitVec.ofNat 32 (clearMask s init (960 + 32 * k))
  let s := s.wr R.TOC_SWINT_PEND k (s.rd R.TOC_SWINT_PEND k &&& ~~~m)
  s.each (List.range 32) (fun i s => if m.getLsbD i then s.dropIrq (960 + 32 * k + i) else s)

/-- The record that TOC_LOG_SEL selects (R475). -/
def logPick (s : State) (src idx : Nat) : LogRec :=
  if idx < logDepth src then (tget [] s.toc.log src).getD idx ⟨0, 0, 0, 0, 0⟩ else ⟨0, 0, 0, 0, 0⟩

/-- The effect of a write of TOC_LOG_SEL (R475). -/
def logSel (init : Nat) (v : Word) (s : State) : State :=
  if !tocMayWrite s init then s.denyWrite init (R.TOC_LOG_SEL.addr 0)
  else
    let src := bitsOf v.toNat 24 16
    let r := logPick s src (bitsOf v.toNat 3 0)
    let s := (s.put F.TOC_LOG_SEL_SRC 0 src).put F.TOC_LOG_SEL_IDX 0 (bitsOf v.toNat 3 0)
    let s := (s.put F.TOC_LOG_INFO_SEQ 0 r.seq).put F.TOC_LOG_INFO_DEPTH 0 (logDepth src)
    let s := (s.wr R.TOC_LOG_W 0 (BitVec.ofNat 32 r.w0)).wr R.TOC_LOG_W 1 (BitVec.ofNat 32 r.w1)
    (s.wr R.TOC_LOG_W 2 (BitVec.ofNat 32 r.w2)).wr R.TOC_LOG_W 3 (BitVec.ofNat 32 r.w3)

/-- TOC_LOG_SEL (R475). -/
def execTocLogSel (init : Init) (value : Word) (s : State) : Res :=
  .next (s.busWrite init (R.TOC_LOG_SEL.addr 0) 4 (logSel init value))

/-- The effect of a write of TOC_SWRAISE (R476). -/
def swRaise (init : Nat) (v : Word) (s : State) : State :=
  let n := bitsOf v.toNat 8 0
  let p := partOf s init
  if 448 ≤ n ∧ p = asgOf s 13 n then s.raise n (p * 2 ^ 26 + init) (bitsOf v.toNat 31 16) 0
  else s.denyWrite init (R.TOC_SWRAISE.addr 0)

/-- TOC_SWRAISE (R476). -/
def execTocSwraise (init : Init) (value : Word) (s : State) : Res :=
  .next (s.busWrite init (R.TOC_SWRAISE.addr 0) 4 (swRaise init value))

/-- The effect of a write of TOC_SWINT (R476). -/
def swInt (init : Nat) (v : Word) (s : State) : State :=
  let m := bitsOf v.toNat 5 0
  if partOf s init = asgOf s 13 (960 + m) then
    (s.wr R.TOC_SWINT_PEND (m / 32) (setBits (s.rd R.TOC_SWINT_PEND (m / 32)) (m % 32) (m % 32) 1)).raiseIrq (960 + m)
  else s.denyWrite init (R.TOC_SWINT.addr 0)

/-- TOC_SWINT (R476). -/
def execTocSwint (init : Init) (value : Word) (s : State) : Res :=
  .next (s.busWrite init (R.TOC_SWINT.addr 0) 4 (swInt init value))

/-- A source that holds ERRN is pending (R477). -/
def errnPending (s : State) : Bool :=
  (List.range 512).any (fun n => tocPending s n && (decide (2 ≤ reactOf s n) || s.flag F.TOC_SRC_ERRN_EN n))

/-- The effect of a write of TOC_ERRN (R477). -/
def errnRelease (init : Nat) (v : Word) (s : State) : State :=
  if partOf s init ≠ tocOwner s then s.denyWrite init (R.TOC_ERRN.addr 0)
  else if bitOf v.toNat 31 && !errnPending s then
    tocRefresh { s with toc := { s.toc with errnHeld := false } }
  else s

/-- ERRN_RELEASE (R477). -/
def execErrnRelease (init : Init) (value : Word) (s : State) : Res :=
  .next (s.busWrite init (R.TOC_ERRN.addr 0) 4 (errnRelease init value))

/-! ### Partition watchdogs (R484, R485) -/

/-- One watchdog. -/
def wdgSt (s : State) (w : Nat) : WdgSt := tget WdgSt.init s.wdg w

/-- A watchdog replaced. -/
def State.setWdg (s : State) (w : Nat) (x : WdgSt) : State := { s with wdg := tset WdgSt.init s.wdg w x }

/-- `us` µs remain to the expiry of a watchdog from now on. -/
def wdgCount (w us : Nat) (s : State) : State :=
  (s.setWdg w { wdgSt s w with since := s.time.elapsed }).put F.WDG_STAT_REM w us

/-- Microseconds to expiry (WDG_STAT.REM): the watchdog's time is taken from the time clock (DESIGN CHOICE, log 66). -/
def wdgRem (s : State) (w : Nat) : Nat :=
  if (wdgSt s w).on && !(wdgSt s w).paused then s.get F.WDG_STAT_REM w - (s.time.elapsed - (wdgSt s w).since) / 1000
  else s.get F.WDG_STAT_REM w

/-- A watchdog enters its first-kick phase (R484). -/
def wdgFirst (w : Nat) (s : State) : State :=
  let s := s.setWdg w { wdgSt s w with first := true }
  wdgCount w (s.get F.WDG_FIRST_FIRST w) (s.put F.WDG_STAT_NEXT w 0)

/-- The watchdogs enabled before the boot lock start at it. -/
def wdgBootLock (s : State) : State :=
  s.each (List.range 16) (fun w s =>
    if s.flag F.WDG_CFG_EN w then
      wdgFirst w ((s.setWdg w { wdgSt s w with on := true }).put F.WDG_STAT_RUNNING w 1)
    else s)

/-- A watchdog pauses, or runs again in its first-kick phase (R485). -/
def wdgPause (w : Nat) (pause : Bool) (s : State) : State :=
  let x := wdgSt s w
  if !x.on ∨ x.paused = pause then s
  else
    let s := (s.setWdg w { x with paused := pause }).put F.WDG_STAT_RUNNING w (b2n (!pause))
    if pause then s else wdgFirst w s

/-- RESET_PART of a partition restarts its watchdog (R484). -/
def wdgResetPart (w : Nat) (s : State) : State := if (wdgSt s w).on then wdgFirst w s else s

/-- A watchdog event: 1 EXPIRED, 2 EARLY, 3 TOKEN (R485). -/
def wdgEvent (w code : Nat) (s : State) : State :=
  let s := (s.put F.WDG_STAT_LAST w code).incSat F.WDG_CNT_CNT w
  wdgFirst w (s.raise (432 + w) (9 * 2 ^ 27 + w * 2 ^ 16 + code * 2 ^ 8) 0 0)

/-- The token a watchdog expects. -/
def wdgToken (s : State) (w : Nat) : Nat := if s.flag F.WDG_STAT_NEXT w then 0xC3 else 0x3C

/-- Microseconds within which a kick is due. -/
def wdgLimit (s : State) (w : Nat) : Nat :=
  if (wdgSt s w).first then s.get F.WDG_FIRST_FIRST w else max 1 (s.get F.WDG_CFG_TMO w)

/-- The effect of a kick `us` µs after the previous kick or the start of the first-kick phase (R484, R485). -/
def wdgKick (w init : Nat) (v : Word) (us : Nat) (s : State) : State :=
  let x := wdgSt s w
  if partOf s init ≠ w then s.denyWrite init (R.WDG_KICK.addr w)
  else if !x.on || x.paused then s
  else if wdgLimit s w ≤ us then wdgEvent w 1 s
  else if !x.first && decide (us < s.get F.WDG_WIN_OPEN w) then wdgEvent w 2 s
  else if bitsOf v.toNat 7 0 ≠ wdgToken s w then wdgEvent w 3 s
  else
    let s := s.setWdg w { x with first := false }
    wdgCount w (max 1 (s.get F.WDG_CFG_TMO w)) (s.put F.WDG_STAT_NEXT w (1 - s.get F.WDG_STAT_NEXT w))

/-- WDG_KICK (R484, R485). -/
def execWdgKick (w : Fin 16) (init : Init) (value : Word) (us : Nat) (s : State) : Res :=
  .next (s.busWrite init (R.WDG_KICK.addr w) 4 (wdgKick w init value us))

/-- WDG_EXPIRED (R485). -/
def execWdgExpired (w : Fin 16) (s : State) : Res :=
  if (wdgSt s w).on && !(wdgSt s w).paused then .next (wdgEvent w 1 s) else .next s

/-- WDG_PRE_WARNING (R484): TMO − PRE has passed. -/
def execWdgPreWarning (w : Fin 16) (s : State) : Res :=
  let x := wdgSt s w
  if x.on && !x.paused && !x.first && s.get F.WDG_PRE_PRE w != 0 then
    .next ((wdgCount w (s.get F.WDG_PRE_PRE w) s).raiseIrq (944 + w))
  else .next s

end Sys2Proof.Machine
end

