-- ==== Sys2Proof/Machine/Acluster.lean ====
section
/-!
DEFINITION. The application cluster (chapter 14): predictor flushes, cache errors, interrupt files, APLIC registers, and
the IOMMU with its walks and logs.  What the RISC-V specifications define and the spec does not restate (formats of PTEs,
device contexts, fault records, APLIC and IOMMU registers) is PRESUMED from them.
-/

namespace Sys2Proof.Machine

/-! ### Harts -/

/-- One hart. -/
def hartSt (s : State) (h : Nat) : HartSt := tget HartSt.init s.harts h

/-- A hart changed. -/
def State.updHart (s : State) (h : Nat) (f : HartSt → HartSt) : State :=
  { s with harts := tupd HartSt.init s.harts h f }

/-- A CSR access below HS-mode raises an exception (R391): virtual-instruction from V = 1, else illegal instruction. -/
def csrTrap (h : Nat) (p : Priv) (s : State) : State :=
  s.emit (.trap h (match p with | .vs => 22 | .vu => 22 | _ => 2) 0)

/-- The privilege level reaches an HS-mode CSR. -/
def reachesHS (p : Priv) : Bool := match p with | .m => true | .hs => true | _ => false

/-- A hart executes: it has been released, and neither its power nor its clock is off (R345, R521). -/
def hartRuns (s : State) (h : Nat) : Bool := !initSilent s h && s.pm.phase != 2

/-- The flush of R408 on a hart: bit 0 branch predictors, bit 1 prefetchers. -/
def State.spflush (s : State) (h v : Nat) : State :=
  s.updHart h (fun x => { x with flushBp := x.flushBp + b2n (bitOf v 0), flushPf := x.flushPf + b2n (bitOf v 1),
                                 flushOps := x.flushOps + 1 })

/-- SPFLUSH (R408). -/
def execSpflush (hart : Fin 8) (priv : Priv) (value : Nat) (s : State) : Res :=
  .next (if !hartRuns s hart then s else if reachesHS priv then s.spflush hart value else csrTrap hart priv s)

/-- HGATP_WRITE (R409): a write that changes the VMID flushes both while AUTO_FLUSH is 1; `guest` says whether the hart
then runs with V = 1. -/
def execHgatpWrite (hart : Fin 8) (priv : Priv) (value : Nat) (guest : Bool) (s : State) : Res :=
  .next (if !hartRuns s hart then s else if reachesHS priv then
    let old := hartSt s hart
    let s := s.updHart hart (fun x => { x with hgatp := value % 2 ^ 64, virt := guest })
    s.when (s.flag F.mkzctl_AUTO_FLUSH hart && (hartSt s hart).vmid != old.vmid) (·.spflush hart 3)
  else csrTrap hart priv s)

/-- RASI is pending in mip bit 24 (R396). -/
def rasi (s : State) (h : Nat) : Bool :=
  s.get F.mkzctl_CE_THR h != 0 && decide (s.get F.mkzctl_CE_THR h ≤ s.get F.mcacheerr_HI_CE_CNT h)

/-- An uncorrectable cache error is counted with its level (R396). -/
def cacheUe (h level : Nat) (s : State) : State :=
  (s.incSat F.mcacheerr_LO_UE_CNT h).put F.mcacheerr_LO_UE_LVL h level

/-- CACHE_ECC_ERROR (R396), while the A-cluster is powered. -/
def execCacheEccError (hart : Fin 8) (level : Nat) (kind : CacheErr) (s : State) : Res :=
  .next (if !s.boot.started ∨ s.get F.PM_STAT_MODE 0 = 2 ∨ s.pm.phase = 2 then s else match kind with
    | .corrected => s.incSat F.mcacheerr_HI_CE_CNT hart
    | .consumed fetch vaddr inM =>
        let s := cacheUe hart level s
        let s := if inM then s.put F.mfabricerr_CODE hart respEcc else s.put F.sfabricerr_CODE hart respEcc
        s.emit (.trap hart (if fetch then 1 else 5) vaddr)
    | .dirty addr =>
        let s := cacheUe hart level s
        { s with acl := { s.acl with poison := if addr / 64 ∈ s.acl.poison then s.acl.poison
                                               else s.acl.poison ++ [addr / 64] } })

/-- A memory source of R39 with its record (R40). -/
def memFault (n init port addr : Nat) (s : State) : State :=
  s.raiseFab n 0 init port addr (addr / 2 ^ 32 % 256)

/-- An access meets an ECC error at `addr` of a memory port: the source `ce` for a corrected error, or the next one, and then the
access fails with ECC_ERR, a write of less than a code word in its read-modify-write (R22, R28). -/
def memEcc (ce port : Nat) (corrected : Bool) (q : Req) (addr : Nat) (s : State) : State :=
  if corrected then memFault ce q.init port addr s
  else (memFault (ce + 1) q.init port addr s).reqFails q respEcc false

/-- SSRAM_ECC_ERROR (R39). -/
def execSsramEccError (corrected : Bool) (req : Req) (addr : Nat) (s : State) : Res :=
  .next (memEcc 102 0x1000 corrected req addr s)

/-- DRAM_ECC_ERROR (R39). -/
def execDramEccError (corrected : Bool) (req : Req) (addr : Nat) (s : State) : Res :=
  .next (memEcc 104 0x1001 corrected req addr s)

/-! ### Interrupt files (R398) -/

/-- The interrupt file whose page holds an address. -/
def imsicFile (a : Nat) : Option Nat :=
  if 0x18000000 ≤ a ∧ a < 0x18008000 then some (16 * ((a - 0x18000000) / 0x1000) + 8)
  else if 0x18100000 ≤ a ∧ a < 0x18140000 then
    some (16 * ((a - 0x18100000) / 0x8000) + (a - 0x18100000) % 0x8000 / 0x1000)
  else none

/-- A write to an interrupt file: seteipnum_le at offset 0, every other offset is ignored (R398). -/
def imsicWrite (a v : Nat) (s : State) : State :=
  match imsicFile a with
  | some f => if a % 0x1000 = 0 then s.imsicSet f v else s
  | none => s

/-- IMSIC_SETEIPNUM (R398): harts, the IOMMU and the APLIC only; the APLIC's writes do not leave it. -/
def execImsicSeteipnum (init : Init) (addr : Nat) (value : Word) (s : State) : Res :=
  .next (s.busWrite init addr 4 (fun s =>
    if init < 8 ∨ init = 0x34 then imsicWrite addr value.toNat s else s.denyWrite init addr))

/-! ### APLIC registers (R397) -/

/-- One source changed in its domain, if Belfry has assigned it to the A-cluster and the domain owns it. -/
def aplicSrc (d i : Nat) (f : AplicDom → AplicDom) (s : State) : State :=
  if aplicOwned s i && (d == 0 || aplicHome s i == 1) then (s.setAplic d (f (aplicDom s d))).aplicSend d i else s

/-- The sources whose bits are set in word `w` of a bit array. -/
def aplicBits (w v : Nat) : List Nat := ((List.range 32).filter (bitOf v)).map (32 * w + ·)

/-- A write of an APLIC register at offset `o` of its block. -/
def aplicWrite (o v : Nat) (s : State) : State :=
  let d := o / 0x8000
  let r := o % 0x8000
  let setP := fun i => aplicSrc d i (fun x => { x with pend := x.pend ||| 2 ^ i })
  let clrP := fun i => aplicSrc d i (fun x => { x with pend := x.pend - (x.pend &&& 2 ^ i) })
  let setE := fun i => aplicSrc d i (fun x => { x with enb := x.enb ||| 2 ^ i })
  let clrE := fun i => aplicSrc d i (fun x => { x with enb := x.enb - (x.enb &&& 2 ^ i) })
  if r = 0 then
    let s := s.setAplic d { aplicDom s d with ie := bitOf v 8 }
    s.each (List.range 1024) (fun i s => s.aplicSend d i)
  else if r < 0x1000 then
    aplicSrc d (r / 4) (fun x => { x with src := tset 0 x.src (r / 4) (v % 2048),
                                          pend := if v % 2048 = 0 then x.pend - (x.pend &&& 2 ^ (r / 4)) else x.pend }) s
  else if 0x1C00 ≤ r ∧ r < 0x1C80 then s.each (aplicBits ((r - 0x1C00) / 4) v) setP
  else if r = 0x1CDC ∨ r = 0x2000 then setP (v % 1024) s
  else if 0x1D00 ≤ r ∧ r < 0x1D80 then s.each (aplicBits ((r - 0x1D00) / 4) v) clrP
  else if r = 0x1DDC then clrP (v % 1024) s
  else if 0x1E00 ≤ r ∧ r < 0x1E80 then s.each (aplicBits ((r - 0x1E00) / 4) v) setE
  else if r = 0x1EDC then setE (v % 1024) s
  else if 0x1F00 ≤ r ∧ r < 0x1F80 then s.each (aplicBits ((r - 0x1F00) / 4) v) clrE
  else if r = 0x1FDC then clrE (v % 1024) s
  else if 0x3004 ≤ r ∧ r < 0x4000 then
    aplicSrc d ((r - 0x3000) / 4) (fun x => { x with tgt := tset 0 x.tgt ((r - 0x3000) / 4) v }) s
  else s

/-! ### The IOMMU's registers (R400, R401) -/

/-- A standard 32-bit register of the IOMMU at an offset. -/
def ioReg (s : State) (o : Nat) : Nat := tget 0 s.acl.iommu (o / 4)

/-- A standard register set. -/
def State.setIoReg (s : State) (o v : Nat) : State :=
  { s with acl := { s.acl with iommu := tset 0 s.acl.iommu (o / 4) (v % 2 ^ 32) } }

/-- A 64-bit standard register. -/
def ioReg64 (s : State) (o : Nat) : Nat := ioReg s o + 2 ^ 32 * ioReg s (o + 4)

/-- ddtp: mode, and the root's address. -/
def ddtpMode (s : State) : Nat := bitsOf (ioReg64 s 0x10) 3 0
def ddtpRoot (s : State) : Nat := bitsOf (ioReg64 s 0x10) 53 10 * 4096

/-- The low words of the IOMMU's 64-bit registers, by offset: capabilities, ddtp, cqb, fqb, pqb, counters and events, the translation
request, icvec, and the addresses of msi_cfg_tbl. -/
def ioPair (o : Nat) : Bool :=
  o % 8 == 0 && ([0x00, 0x10, 0x18, 0x28, 0x38, 0x2F8].contains o || (decide (0x60 ≤ o) && decide (o < 0x270)) ||
    (decide (0x300 ≤ o) && decide (o < 0x400) && o % 16 == 0))

/-- The capabilities register (R400): version 1.0 of the specification, and the options that the device reports. -/
def ioCaps : Nat :=
  0x10 + 2 ^ 9 + 2 ^ 10 + 2 ^ 15 + 2 ^ 17 + 2 ^ 18 + 2 ^ 22 + 2 ^ 30 + 40 * 2 ^ 32 + 2 ^ 38 + 2 ^ 39

/-- What a standard register shows. -/
def ioShown (s : State) (o : Nat) : Nat := if o < 8 then ioCaps / 2 ^ (8 * o) % 2 ^ 32 else ioReg s o

/-- A read of a standard register; a low word of a 64-bit one loads the latch that its high word answers (R9). -/
def ioRead (o : Nat) (s : State) : Nat × State :=
  if ioPair o then (ioShown s o, { s with acl := { s.acl with ioLatch := tset 0 s.acl.ioLatch (o / 4 + 1) (ioShown s (o + 4)) } })
  else if 4 ≤ o ∧ ioPair (o - 4) then (tget 0 s.acl.ioLatch (o / 4), s)
  else (ioReg s o, s)

/-- A 64-bit register written with both words at once: ddtp takes only the modes Off, Bare, 1LVL and 2LVL (R400). -/
def ioWrite64 (o lo hi : Nat) (s : State) : State :=
  if o = 0 ∨ o = 0x38 then s
  else if o = 0x10 then (if lo % 16 ≤ 3 then (s.setIoReg o (lo - (lo &&& 16))).setIoReg (o + 4) hi else s)
  else (s.setIoReg o lo).setIoReg (o + 4) hi

/-- ddtp set to Off (R401). -/
def resetIommu (s : State) : State := s.setIoReg 0x10 (ioReg s 0x10 - ioReg s 0x10 % 16)

/-- Main memory from which a walk may read (Table 14-2). -/
def walkable (a : Nat) : Bool := match decodeAddr a with | some .sram => true | some .dram => true | _ => false

/-- A line among `n` bytes from `a` holds a poisoned ECC code (R396). -/
def poisoned (s : State) (a n : Nat) : Bool := s.acl.poison.any (fun l => decide (a / 64 ≤ l) && decide (l ≤ (a + n - 1) / 64))

/-- A write of the octets at `l` (addresses) meets a poisoned line that it does not cover as a whole: its read-modify-write fails
(R28, R396; DESIGN CHOICE, log 60: the ECC code word is the line). -/
def poisonHit (s : State) (l : List Nat) : Option Nat :=
  (s.acl.poison.find? (fun x => (l.filter (fun a => a / 64 == x)).length % 64 != 0)).map (64 * ·)

/-- Lines written as a whole hold a good code again. -/
def State.unpoison (s : State) (l : List Nat) : State :=
  { s with acl := { s.acl with poison := s.acl.poison.filter (fun x => !(l.any (fun a => a / 64 == x))) } }

/-- Octets written at their addresses. -/
def State.memScatter (s : State) (l : List (Nat × Nat)) : State :=
  l.foldl (fun s p => s.memWrite p.1 [p.2]) (s.unpoison (l.map (·.1)))

/-- The IOMMU's own write of a queue or a fence, as INIT 0x034 (R400): one that fails is logged (R28). -/
def ioStore (a : Nat) (data : List Nat) (s : State) : State :=
  if judgeReq s 0x34 a data.length ≠ respOkay then s.refuseReq 0x34 a data.length true
  else if !walkable a then s.lateErr 0x34 a respDenied false
  else
    let l := (List.range data.length).map (a + ·)
    match poisonHit s l with
    | some x => ((if x < 0x800000 then memFault 103 0x34 0x1000 x s else memFault 105 0x34 0x1001 x s)).lateErr 0x34 a respEcc false
    | none => (s.unpoison l).memWrite a data

/-- An interrupt of the IOMMU as an MSI through msi_cfg_tbl (R400): bit `b` of ipsr (0 cip, 1 fip) rises, and vector `v` is sent
unless it is masked. -/
def ioIrq (b v : Nat) (s : State) : State :=
  if bitOf (ioReg s 0x54) b then s
  else
    let s := s.setIoReg 0x54 (ioReg s 0x54 ||| 2 ^ b)
    if bitOf (ioReg s (0x30C + 16 * v)) 0 then s
    else
      let a := ioReg64 s (0x300 + 16 * v)
      match imsicFile a with
      | some _ => imsicWrite a (ioReg s (0x308 + 16 * v)) s
      | none => ioStore a (leOctets (ioReg s (0x308 + 16 * v)) 4) s

/-- The fault queue's interrupt, where fqcsr.fie enables it. -/
def ioFaultIrq (s : State) : State := if bitOf (ioReg s 0x4C) 1 then ioIrq 1 (bitsOf (ioReg s 0x2F8) 7 4) s else s

/-- A record to the fault queue, with its index, or 0xFFFF where it is not written; R404, R410. -/
def faultRecord (cause did ttyp iotval iotval2 : Nat) (s : State) : Nat × State :=
  let n := 2 ^ (bitsOf (ioReg64 s 0x28) 4 0 + 1)
  let t := ioReg s 0x34 % n
  if !bitOf (ioReg s 0x4C) 0 then (0xFFFF, s)
  else if bitOf (ioReg s 0x4C) 9 then (0xFFFF, s)
  else if (t + 1) % n = ioReg s 0x30 % n then (0xFFFF, ioFaultIrq (s.setIoReg 0x4C (ioReg s 0x4C ||| 2 ^ 9)))
  else
    let s := ioStore (bitsOf (ioReg64 s 0x28) 53 10 * 4096 + 32 * t)
      (leOctets (cause + ttyp * 2 ^ 34 + did * 2 ^ 40) 8 ++ leOctets 0 8 ++ leOctets iotval 8 ++ leOctets iotval2 8) s
    (t, ioFaultIrq (s.setIoReg 0x34 ((t + 1) % n)))

/-! ### The command queue (R400) -/

/-- The queue stops with an error bit of cqcsr (8 memory fault, 10 illegal command), and interrupts where cie enables it. -/
def cqStop (b : Nat) (s : State) : State :=
  let s := s.setIoReg 0x48 (ioReg s 0x48 ||| 2 ^ b)
  if bitOf (ioReg s 0x48) 1 then ioIrq 0 (bitsOf (ioReg s 0x2F8) 3 0) s else s

/-- One command of the queue: a fence writes its datum where it asks for that; the device caches no translation, so an invalidation
changes nothing; anything else is illegal, as is what an absent option would need. -/
def cqCommand (c0 c1 : Nat) (s : State) : Option State :=
  match bitsOf c0 6 0, bitsOf c0 9 7 with
  | 1, 0 => some s
  | 1, 1 => some s
  | 2, 0 =>
    if bitOf c0 11 then none
    else some (if bitOf c0 10 then ioStore (c1 % 2 ^ 62 * 4) (leOctets (c0 / 2 ^ 32) 4) s else s)
  | 3, 0 => some s
  | 3, 1 => some s
  | _, _ => none

/-- Commands are fetched and executed in order until the queue is empty, or an error stops it. -/
def cqRun : Nat → State → State
  | 0, s => s
  | k + 1, s =>
    let n := 2 ^ (bitsOf (ioReg64 s 0x18) 4 0 + 1)
    let h := ioReg s 0x20 % n
    if !bitOf (ioReg s 0x48) 0 || bitOf (ioReg s 0x48) 8 || bitOf (ioReg s 0x48) 10 || h == ioReg s 0x24 % n then s
    else
      let a := bitsOf (ioReg64 s 0x18) 53 10 * 4096 + 16 * h
      if judgeReq s 0x34 a 16 ≠ respOkay ∨ !walkable a ∨ a / 64 ∈ s.acl.poison then cqStop 8 s
      else
        match cqCommand (leNat (s.memRead a 8)) (leNat (s.memRead (a + 8) 8)) s with
        | none => cqStop 10 s
        | some s => cqRun k (s.setIoReg 0x20 ((h + 1) % n))

/-- Every command that waits in the queue. -/
def cqDrain (s : State) : State := cqRun (2 ^ (bitsOf (ioReg64 s 0x18) 4 0 + 1)) s

/-- A write of cqcsr or fqcsr at `o`: the enable shows at once that the queue is on; a queue that is switched on starts at index 0 of
the side that the device moves and without errors; error bits are cleared by writing 1. -/
def ioCsrWrite (o idx v : Nat) (s : State) : State :=
  let old := ioReg s o
  let on := bitOf v 0 && !bitOf old 0
  let err := old &&& 0xF00
  let s := s.setIoReg o ((if on then 0 else err - (err &&& v)) + v % 4 + b2n (bitOf v 0) * 2 ^ 16)
  if on then s.setIoReg idx 0 else s

/-- A write of a standard register: the low word of a 64-bit one waits in its staging word until the high word is written (R9);
commands published by a write of cqt, or that an error held up, run at once.  There is no page-request queue. -/
def iommuWrite (o v : Nat) (s : State) : State :=
  if ioPair o then { s with acl := { s.acl with ioStage := tset 0 s.acl.ioStage (o / 4) (v % 2 ^ 32) } }
  else if 4 ≤ o ∧ ioPair (o - 4) then ioWrite64 (o - 4) (tget 0 s.acl.ioStage ((o - 4) / 4)) v s
  else if o < 0x10 ∨ [0x20, 0x34, 0x40, 0x44, 0x50].contains o then s
  else if o = 0x48 then cqDrain (ioCsrWrite 0x48 0x20 v s)
  else if o = 0x4C then ioCsrWrite 0x4C 0x34 v s
  else if o = 0x24 then cqDrain (s.setIoReg 0x24 v)
  else if o = 0x54 then s.setIoReg o (ioReg s o - (ioReg s o &&& v))
  else if o < 0x1000 then s.setIoReg o v
  else s

/-! ### Walks (R402, R403) -/

/-- Why a walk ended: fault cause, flag (0 none, 1 IO, 2 SECURE, 4 ECC), and stage, level and address of the step; for a guest-page
fault the address is iotval2. -/
structure WalkErr where
  cause : Nat
  flag  : Nat
  stage : Nat
  level : Nat
  addr  : Nat
  deriving DecidableEq, Repr

/-- A walk step: an implicit 64-bit read, judged before it is issued (R402), `ecc` naming the addresses whose read ends
with ECC_ERR (R403); one to a fenced port fails without a flag. -/
def walkRead (s : State) (ecc : List Nat) (cause stage level a : Nat) : Except WalkErr Nat :=
  if (decodeAddr a).isNone then .error ⟨cause, 0, stage, level, a⟩
  else if !walkable a then .error ⟨cause, 1, stage, level, a⟩
  else if secureMem s a then .error ⟨cause, 2, stage, level, a⟩
  else if fenced s (if a < 0x800000 then 0x1000 else 0x1001) then .error ⟨cause, 0, stage, level, a⟩
  else if a ∈ ecc ∨ a / 64 ∈ s.acl.poison then .error ⟨cause, 4, stage, level, a⟩
  else .ok (leNat (s.memRead a 8))

/-- Access, page and guest-page faults as the RISC-V specification numbers them. -/
def accessFault (a : WalkAcc) : Nat := match a with | .exec => 1 | .read => 5 | .write => 7
def pageFault (a : WalkAcc) : Nat := match a with | .exec => 12 | .read => 13 | .write => 15
def guestFault (a : WalkAcc) : Nat := match a with | .exec => 20 | .read => 21 | .write => 23

/-- A leaf PTE admits an access: readable, writable or executable, user, accessed and, for a write, dirty (Svade). -/
def leafOk (pte : Nat) (a : WalkAcc) : Bool :=
  (match a with | .read => bitOf pte 1 | .write => bitOf pte 2 && bitOf pte 7 | .exec => bitOf pte 3) &&
  bitOf pte 4 && bitOf pte 6

/-- A PTE that is not valid or uses a reserved combination. -/
def pteBad (pte : Nat) : Bool := !bitOf pte 0 || (!bitOf pte 1 && bitOf pte 2) || bitsOf pte 60 54 != 0

/-- The address a leaf at `level` gives, or none for a misaligned superpage. -/
def leafAddr (pte level va : Nat) : Option Nat :=
  let sz := 2 ^ (12 + 9 * level)
  let pa := bitsOf pte 53 10 * 4096
  if pa % sz = 0 then some (pa + va % sz) else none

/-- Second stage: the table at `base`, `n` levels left; `acc` the access it serves. -/
def walkStage2 (s : State) (ecc : List Nat) (acc : WalkAcc) (gpa top : Nat) : Nat → Nat → Except WalkErr Nat
  | 0, _ => .error ⟨guestFault acc, 0, 2, 0, gpa / 4 * 4⟩
  | n + 1, base =>
    let idx := if n = top then gpa / 2 ^ (12 + 9 * n) % 2 ^ 11 else gpa / 2 ^ (12 + 9 * n) % 2 ^ 9
    let a := base + 8 * idx
    match walkRead s ecc (accessFault acc) 2 n a with
    | .error e => .error e
    | .ok pte =>
      if pteBad pte then .error ⟨guestFault acc, 0, 2, n, gpa / 4 * 4⟩
      else if bitOf pte 1 || bitOf pte 3 then
        (match leafAddr pte n gpa with
         | some pa => if leafOk pte acc then .ok pa else .error ⟨guestFault acc, 0, 2, n, gpa / 4 * 4⟩
         | none => .error ⟨guestFault acc, 0, 2, n, gpa / 4 * 4⟩)
      else if bitsOf pte 7 4 != 0 then .error ⟨guestFault acc, 0, 2, n, gpa / 4 * 4⟩
      else walkStage2 s ecc acc gpa top n (bitsOf pte 53 10 * 4096)

/-- The second stage of iohgatp: a guest physical address as a supervisor physical one. -/
def stage2 (s : State) (ecc : List Nat) (acc : WalkAcc) (iohgatp gpa : Nat) : Except WalkErr Nat :=
  let root := bitsOf iohgatp 43 0 * 4096
  match bitsOf iohgatp 63 60 with
  | 0 => .ok gpa
  | 8 => if 2 ^ 41 ≤ gpa then .error ⟨guestFault acc, 0, 2, 2, gpa / 4 * 4⟩ else walkStage2 s ecc acc gpa 2 3 root
  | 9 => if 2 ^ 50 ≤ gpa then .error ⟨guestFault acc, 0, 2, 3, gpa / 4 * 4⟩ else walkStage2 s ecc acc gpa 3 4 root
  | _ => .error ⟨259, 0, 0, 0, gpa⟩

/-- First stage: each step's address goes through the second stage; bit 0 of iotval2 marks such an implicit access. -/
def walkStage1 (s : State) (ecc : List Nat) (acc : WalkAcc) (iohgatp va : Nat) : Nat → Nat → Except WalkErr Nat
  | 0, _ => .error ⟨pageFault acc, 0, 1, 0, va⟩
  | n + 1, base =>
    match stage2 s ecc .read iohgatp (base + 8 * (va / 2 ^ (12 + 9 * n) % 2 ^ 9)) with
    | .error e =>
      .error (if e.cause = guestFault .read then { e with cause := guestFault acc, addr := e.addr + 1 }
              else { e with cause := accessFault acc })
    | .ok a =>
      match walkRead s ecc (accessFault acc) 1 n a with
      | .error e => .error e
      | .ok pte =>
        if pteBad pte then .error ⟨pageFault acc, 0, 1, n, a⟩
        else if bitOf pte 1 || bitOf pte 3 then
          (match leafAddr pte n va with
           | some pa => if leafOk pte acc then .ok pa else .error ⟨pageFault acc, 0, 1, n, a⟩
           | none => .error ⟨pageFault acc, 0, 1, n, a⟩)
        else if bitsOf pte 7 4 != 0 then .error ⟨pageFault acc, 0, 1, n, a⟩
        else walkStage1 s ecc acc iohgatp va n (bitsOf pte 53 10 * 4096)

/-- The first stage of fsc (Bare, Sv39 or Sv48). -/
def stage1 (s : State) (ecc : List Nat) (acc : WalkAcc) (iohgatp fsc va : Nat) : Except WalkErr Nat :=
  let root := bitsOf fsc 43 0 * 4096
  match bitsOf fsc 63 60 with
  | 0 => .ok va
  | 8 => if 2 ^ 38 ≤ va ∧ va < 2 ^ 64 - 2 ^ 38 then .error ⟨pageFault acc, 0, 1, 2, va⟩
         else walkStage1 s ecc acc iohgatp va 3 root
  | 9 => if 2 ^ 47 ≤ va ∧ va < 2 ^ 64 - 2 ^ 47 then .error ⟨pageFault acc, 0, 1, 3, va⟩
         else walkStage1 s ecc acc iohgatp va 4 root
  | _ => .error ⟨259, 0, 0, 0, va⟩

/-- The bits of `v` at the set bits of `mask`, gathered from the low end. -/
def gatherBits (v mask : Nat) : Nat :=
  ((List.range 52).foldl (fun (acc : Nat × Nat) i =>
    if bitOf mask i then (acc.1 + b2n (bitOf v i) * 2 ^ acc.2, acc.2 + 1) else acc) (0, 0)).1

/-- The MSI page table in flat mode: the page a guest physical page maps to, or none where it is no MSI page. -/
def msiPage (s : State) (ecc : List Nat) (msiptp mask pat gpa : Nat) : Except WalkErr (Option Nat) :=
  let pg := gpa / 4096
  if bitsOf msiptp 63 60 ≠ 1 ∨ (pg ||| mask) ≠ (pat ||| mask) then .ok none
  else
    match walkRead s ecc 261 0 0 (bitsOf msiptp 43 0 * 4096 + 16 * gatherBits pg mask) with
    | .error e => .error e
    | .ok pte =>
      if !bitOf pte 0 then .error ⟨262, 0, 0, 0, gpa⟩
      else if bitsOf pte 2 1 ≠ 3 then .error ⟨263, 0, 0, 0, gpa⟩
      else .ok (some (bitsOf pte 53 10 * 4096 + gpa % 4096))

/-- The address of the device context of a device ID (extended format of 64 bytes). -/
def deviceCtx (s : State) (ecc : List Nat) (did : Nat) : Except WalkErr Nat :=
  match ddtpMode s with
  | 2 => if 64 ≤ did then .error ⟨260, 0, 0, 0, 0⟩ else .ok (ddtpRoot s + 64 * did)
  | 3 =>
    (match walkRead s ecc 257 0 1 (ddtpRoot s + 8 * (did / 64)) with
     | .error e => .error e
     | .ok p => if !bitOf p 0 then .error ⟨258, 0, 0, 1, 0⟩ else .ok (bitsOf p 53 10 * 4096 + 64 * (did % 64)))
  | _ => .error ⟨256, 0, 0, 0, 0⟩

/-- A step of the process directory: its address is a guest physical one. -/
def pdtRead (s : State) (ecc : List Nat) (hg level gpa : Nat) : Except WalkErr Nat :=
  match stage2 s ecc .read hg gpa with
  | .error e => .error { e with cause := 265 }
  | .ok a => walkRead s ecc 265 0 level a

/-- The first stage of a request without a process ID whose device context names a process directory: none while DPE is 0, else that
of process 0, from a directory of 8 or 17 bits (R400). -/
def processFsc (s : State) (ecc : List Nat) (hg tc pdtp : Nat) : Except WalkErr Nat :=
  let root := bitsOf pdtp 43 0 * 4096
  let leaf (a : Nat) : Except WalkErr Nat :=
    match pdtRead s ecc hg 0 a with
    | .error e => .error e
    | .ok ta =>
      if !bitOf ta 0 then .error ⟨266, 0, 0, 0, a⟩
      else pdtRead s ecc hg 0 (a + 8)
  if !bitOf tc 9 then .ok 0
  else match bitsOf pdtp 63 60 with
    | 0 => .ok 0
    | 1 => leaf root
    | 2 =>
      (match pdtRead s ecc hg 1 root with
       | .error e => .error e
       | .ok p => if !bitOf p 0 then .error ⟨266, 0, 0, 1, root⟩ else leaf (bitsOf p 53 10 * 4096))
    | _ => .error ⟨259, 0, 0, 0, root⟩

/-- A device context asks for an option that R400 names as absent: ATS, page requests, T2GPA, AMO_HWAD or big-endian accesses. -/
def ctxBad (tc : Nat) : Bool := [1, 2, 3, 7, 8, 10, 11].any (bitOf tc)

/-- A translated address: the physical address, and whether it is that of an interrupt file's page. -/
def iommuXlate (s : State) (ecc : List Nat) (did iova : Nat) (acc : WalkAcc) : Except WalkErr (Nat × Bool) :=
  match ddtpMode s with
  | 0 => .error ⟨256, 0, 0, 0, 0⟩
  | 1 => .ok (iova, false)
  | _ =>
    match deviceCtx s ecc did with
    | .error e => .error e
    | .ok dc =>
      match walkRead s ecc 257 0 0 dc with
      | .error e => .error e
      | .ok tc =>
        if !bitOf tc 0 then .error ⟨258, 0, 0, 0, dc⟩
        else if ctxBad tc then .error ⟨259, 0, 0, 0, dc⟩
        else
          let hg := leNat (s.memRead (dc + 8) 8)
          let fsc := leNat (s.memRead (dc + 24) 8)
          match (if bitOf tc 5 then processFsc s ecc hg tc fsc else .ok fsc).bind (fun f => stage1 s ecc acc hg f iova) with
          | .error e => .error e
          | .ok gpa =>
            match msiPage s ecc (leNat (s.memRead (dc + 32) 8)) (leNat (s.memRead (dc + 40) 8))
                (leNat (s.memRead (dc + 48) 8)) gpa with
            | .error e => .error e
            | .ok (some pa) => .ok (pa, true)
            | .ok none =>
              match stage2 s ecc acc hg gpa with
              | .error e => .error e
              | .ok pa => .ok (pa, false)

/-- TTYP of an untranslated access. -/
def ttyp : WalkAcc → Nat | .exec => 1 | .read => 2 | .write => 3

/-- A failed translation is reported (R402 to R404): the standard record and, with a flag, the walk-fault log; after an ECC error the
memory raises its source. -/
def walkFault (did iova : Nat) (acc : WalkAcc) (e : WalkErr) (s : State) : State :=
  let r := faultRecord e.cause did (ttyp acc) iova (if e.cause = guestFault acc then e.addr else 0) s
  let s := if e.flag = 4 then
      (if e.addr < 0x800000 then memFault 103 0x34 0x1000 e.addr r.2 else memFault 105 0x34 0x1001 e.addr r.2)
    else r.2
  if e.flag = 0 then s
  else
    let s := s.incSat F.IOMMU_VX_CNT_CNT (floorLog2 e.flag)
    if s.flag F.IOMMU_VX_LOGWI_FULL 0 then s.incSat F.IOMMU_VX_CNT_CNT 3
    else
      let i := s.get F.IOMMU_VX_LOGWI_WI 0
      let w0 := 2 ^ 31 + b2n (e.flag == 1) * 2 ^ 30 + b2n (e.flag == 2) * 2 ^ 29 + b2n (e.flag == 4) * 2 ^ 28 +
        e.stage * 2 ^ 26 + e.level * 2 ^ 24 + did % 2048
      let s := s.wr R.IOMMU_VX_E0 i (BitVec.ofNat 32 w0)
      let s := s.wr R.IOMMU_VX_E1 i (BitVec.ofNat 32 e.addr)
      let s := s.wr R.IOMMU_VX_E2 i (BitVec.ofNat 32 (r.1 * 2 ^ 16 + e.addr / 2 ^ 32 % 256))
      let s := s.wr R.IOMMU_VX_E3 i (BitVec.ofNat 32 s.beatLo)
      let s := s.put F.IOMMU_VX_LOGWI_WI 0 (i + 1)
      s.put F.IOMMU_VX_LOGWI_FULL 0 (b2n ((i + 1) % 32 == s.get F.IOMMU_VX_LOGAI_AI 0))

/-- IOMMU_WALK (R402): the walk of one translated request; a walk without a fault leaves nothing behind. -/
def execIommuWalk (did : Nat) (iova : Nat) (acc : WalkAcc) (ecc : List Nat) (s : State) : Res :=
  .next (match iommuXlate s ecc did iova acc with
    | .error e => walkFault did iova acc e s
    | .ok _ => s)

/-- The entries software owns in the walk-fault log (the rule of R29). -/
def vxOwned (s : State) : Nat :=
  if s.flag F.IOMMU_VX_LOGWI_FULL 0 then 32
  else (s.get F.IOMMU_VX_LOGWI_WI 0 + 32 - s.get F.IOMMU_VX_LOGAI_AI 0) % 32

/-- A write of LOGAI: it releases the entries up to the written index, and is ignored where it would pass WI (R29). -/
def vxLogai (v : Nat) (s : State) : State :=
  let d := (v % 32 + 32 - s.get F.IOMMU_VX_LOGAI_AI 0) % 32
  let n := if s.flag F.IOMMU_VX_LOGWI_FULL 0 && d = 0 then 32 else d
  if n = 0 ∨ vxOwned s < n then s
  else (s.put F.IOMMU_VX_LOGAI_AI 0 v).put F.IOMMU_VX_LOGWI_FULL 0 0

/-- IOMMU_VX_LOGAI (R404). -/
def execIommuVxLogai (init : Init) (value : Word) (s : State) : Res :=
  .next (s.busWrite init (R.IOMMU_VX_LOGAI.addr 0) 4 (vxLogai value.toNat))

/-! ### DMA of a virtual endpoint (R427) -/

/-- The physical address of one octet of a DMA access of device `did`, judged by IOMMU and fabric: error with the
response code that the requester sees (an IOMMU fault appears as ACCESS_DENIED). -/
def dmaOctet (s : State) (did init iova : Nat) (acc : WalkAcc) : Except (Nat × Option WalkErr) Nat :=
  match iommuXlate s [] did iova acc with
  | .error e => .error (respDenied, some e)
  | .ok (pa, _) =>
    let r := judgeReq s init pa 1
    if r ≠ respOkay then .error (r, none)
    else if !walkable pa then .error (respDenied, none)
    else if pa / 64 ∈ s.acl.poison ∧ acc = .read then .error (respEcc, none)
    else .ok pa

/-- The physical addresses of `n` octets from `iova`. -/
def dmaAddrs (s : State) (did init iova : Nat) (acc : WalkAcc) : Nat → Except (Nat × Option WalkErr × Nat) (List Nat)
  | 0 => .ok []
  | n + 1 =>
    match dmaOctet s did init iova acc with
    | .error (c, e) => .error (c, e, iova)
    | .ok pa =>
      match dmaAddrs s did init (iova + 1) acc n with
      | .error e => .error e
      | .ok l => .ok (pa :: l)

/-- A DMA write of a device from `iova` on: the state with it, or the error that it meets. -/
def dmaStore (did init iova : Nat) (data : List Nat) (s : State) : Except (Nat × Option WalkErr × Nat) State :=
  match dmaAddrs s did init iova .write data.length with
  | .error e => .error e
  | .ok l =>
    match poisonHit s l with
    | some _ => .error (respEcc, none, iova)
    | none => .ok (s.memScatter (l.zip data))

end Sys2Proof.Machine
end

