-- ==== Sys2Proof/Machine/Crypto.lean ====
section
/-!
DEFINITION. The published algorithms that the spec names: SHA-384 (FIPS 180-4), AES-128 and AES-256 (FIPS 197), GCM
(SP 800-38D), CMAC (SP 800-38B), the counter-mode KDF of SP 800-108, HMAC-SHA384 (FIPS 198-1) and ECDSA over P-384
(FIPS 186-5).  Octet strings are lists of numbers below 256.
-/

namespace Sys2Proof.Machine

/-! ### SHA-384 -/

/-- Octets of a number, most significant first. -/
def beOct (v n : Nat) : List Nat := (leOctets v n).reverse

/-- Rotation of a 64-bit word to the right. -/
def rotr64 (x n : Nat) : Nat := x / 2 ^ n + x % 2 ^ n * 2 ^ (64 - n)

/-- The round constants. -/
def sha384K : List Nat :=
  [0x428A2F98D728AE22, 0x7137449123EF65CD, 0xB5C0FBCFEC4D3B2F, 0xE9B5DBA58189DBBC,
   0x3956C25BF348B538, 0x59F111F1B605D019, 0x923F82A4AF194F9B, 0xAB1C5ED5DA6D8118,
   0xD807AA98A3030242, 0x12835B0145706FBE, 0x243185BE4EE4B28C, 0x550C7DC3D5FFB4E2,
   0x72BE5D74F27B896F, 0x80DEB1FE3B1696B1, 0x9BDC06A725C71235, 0xC19BF174CF692694,
   0xE49B69C19EF14AD2, 0xEFBE4786384F25E3, 0x0FC19DC68B8CD5B5, 0x240CA1CC77AC9C65] ++
  [0x2DE92C6F592B0275, 0x4A7484AA6EA6E483, 0x5CB0A9DCBD41FBD4, 0x76F988DA831153B5,
   0x983E5152EE66DFAB, 0xA831C66D2DB43210, 0xB00327C898FB213F, 0xBF597FC7BEEF0EE4,
   0xC6E00BF33DA88FC2, 0xD5A79147930AA725, 0x06CA6351E003826F, 0x142929670A0E6E70,
   0x27B70A8546D22FFC, 0x2E1B21385C26C926, 0x4D2C6DFC5AC42AED, 0x53380D139D95B3DF,
   0x650A73548BAF63DE, 0x766A0ABB3C77B2A8, 0x81C2C92E47EDAEE6, 0x92722C851482353B] ++
  [0xA2BFE8A14CF10364, 0xA81A664BBC423001, 0xC24B8B70D0F89791, 0xC76C51A30654BE30,
   0xD192E819D6EF5218, 0xD69906245565A910, 0xF40E35855771202A, 0x106AA07032BBD1B8,
   0x19A4C116B8D2D0C8, 0x1E376C085141AB53, 0x2748774CDF8EEB99, 0x34B0BCB5E19B48A8,
   0x391C0CB3C5C95A63, 0x4ED8AA4AE3418ACB, 0x5B9CCA4F7763E373, 0x682E6FF3D6B2B8A3,
   0x748F82EE5DEFB2FC, 0x78A5636F43172F60, 0x84C87814A1F0AB72, 0x8CC702081A6439EC] ++
  [0x90BEFFFA23631E28, 0xA4506CEBDE82BDE9, 0xBEF9A3F7B2C67915, 0xC67178F2E372532B,
   0xCA273ECEEA26619C, 0xD186B8C721C0C207, 0xEADA7DD6CDE0EB1E, 0xF57D4F7FEE6ED178,
   0x06F067AA72176FBA, 0x0A637DC5A2C898A6, 0x113F9804BEF90DAE, 0x1B710B35131C471B,
   0x28DB77F523047D84, 0x32CAAB7B40C72493, 0x3C9EBE0A15C9BEBC, 0x431D67C49C100D4C,
   0x4CC5D4BECB3E42B6, 0x597F299CFC657E2A, 0x5FCB6FAB3AD6FAEC, 0x6C44198C4A475817]

/-- The initial hash value. -/
def sha384Init : List Nat :=
  [0xCBBB9D5DC1059ED8, 0x629A292A367CD507, 0x9159015A3070DD17, 0x152FECD8F70E5939,
   0x67332667FFC00B31, 0x8EB44A8768581511, 0xDB0C2E0D64F98FA7, 0x47B5481DBEFA4FA4]

/-- The message with its padding, for a message of `n` octets. -/
def shaPad (msg : List Nat) : List Nat :=
  let n := msg.length
  msg ++ [0x80] ++ List.replicate ((239 - n % 128) % 128) 0 ++ beOct (8 * n) 16

/-- The message schedule, newest word first. -/
def shaSchedule (block : List Nat) : List Nat :=
  let w0 := ((List.range 16).map (fun i => beNat ((block.drop (8 * i)).take 8))).reverse
  ((List.range 64).foldl (fun w _ =>
    let a := w.getD 1 0
    let b := w.getD 14 0
    let s1 := rotr64 a 19 ^^^ rotr64 a 61 ^^^ (a / 2 ^ 6)
    let s0 := rotr64 b 1 ^^^ rotr64 b 8 ^^^ (b / 2 ^ 7)
    (s1 + w.getD 6 0 + s0 + w.getD 15 0) % 2 ^ 64 :: w) w0).reverse

/-- One round on the eight working words. -/
def shaRound (v : List Nat) (kw : Nat × Nat) : List Nat :=
  match v with
  | [a, b, c, d, e, f, g, h] =>
    let s1 := rotr64 e 14 ^^^ rotr64 e 18 ^^^ rotr64 e 41
    let ch := (e &&& f) ^^^ ((2 ^ 64 - 1 - e) &&& g)
    let t1 := h + s1 + ch + kw.1 + kw.2
    let s0 := rotr64 a 28 ^^^ rotr64 a 34 ^^^ rotr64 a 39
    let mj := (a &&& b) ^^^ (a &&& c) ^^^ (b &&& c)
    [(t1 + s0 + mj) % 2 ^ 64, a, b, c, (d + t1) % 2 ^ 64, e, f, g]
  | l => l

/-- One block of 128 octets. -/
def shaBlock (h block : List Nat) : List Nat :=
  List.zipWith (fun a b => (a + b) % 2 ^ 64) h ((sha384K.zip (shaSchedule block)).foldl shaRound h)

/-- `n` blocks of octets, one after the other. -/
def shaBlocks (h : List Nat) (l : List Nat) : Nat → List Nat
  | 0 => h
  | n + 1 => shaBlocks (shaBlock h (l.take 128)) (l.drop 128) n

/-- SHA-384: 48 octets. -/
def sha384 (msg : List Nat) : List Nat :=
  let p := shaPad msg
  ((shaBlocks sha384Init p (p.length / 128)).take 6).foldl (fun o w => o ++ beOct w 8) []

/-- Octets of two lists exclusive-ored. -/
def xorOct (a b : List Nat) : List Nat := List.zipWith (· ^^^ ·) a b

/-! ### AES -/

/-- Multiplication by x in GF(2^8). -/
def xtime (a : Nat) : Nat := if a < 128 then 2 * a else (2 * a) % 256 ^^^ 0x1B

/-- Multiplication in GF(2^8). -/
def gmul (a b : Nat) : Nat :=
  ((List.range 8).foldl (fun (r : Nat × Nat) i => (if b.testBit i then r.1 ^^^ r.2 else r.1, xtime r.2)) (0, a)).1

/-- The inverse in GF(2^8), 0 for 0. -/
def ginv (a : Nat) : Nat :=
  let a2 := gmul a a
  let a3 := gmul a2 a
  let a6 := gmul a3 a3
  let a12 := gmul a6 a6
  let a15 := gmul a12 a3
  let a30 := gmul a15 a15
  let a60 := gmul a30 a30
  let a120 := gmul a60 a60
  let a126 := gmul a120 a6
  let a127 := gmul a126 a
  gmul a127 a127

/-- The S-box. -/
def sbox (a : Nat) : Nat :=
  let i := ginv a
  let rot (n : Nat) : Nat := (i * 2 ^ n) % 256 + i / 2 ^ (8 - n)
  i ^^^ rot 1 ^^^ rot 2 ^^^ rot 3 ^^^ rot 4 ^^^ 0x63

/-- The key schedule as words of four octets, newest first, from index `i` on. -/
def aesExpand (nk : Nat) (w : List (List Nat)) (i : Nat) : Nat → List (List Nat)
  | 0 => w
  | n + 1 =>
    let t := w.getD 0 []
    let t :=
      if i % nk = 0 then xorOct ((t.drop 1 ++ t.take 1).map sbox) [(List.range (i / nk - 1)).foldl (fun a _ => xtime a) 1, 0, 0, 0]
      else if 6 < nk ∧ i % nk = 4 then t.map sbox
      else t
    aesExpand nk (xorOct (w.getD (nk - 1) []) t :: w) (i + 1) n

/-- The round keys of a key of 16 or 32 octets, first round first. -/
def aesKeys (key : List Nat) : List (List Nat) :=
  let nk := key.length / 4
  let w0 := ((List.range nk).map (fun i => (key.drop (4 * i)).take 4)).reverse
  let w := (aesExpand nk w0 nk (4 * (nk + 7) - nk)).reverse
  (List.range (nk + 7)).map (fun r => ((w.drop (4 * r)).take 4).foldl (· ++ ·) [])

/-- SubBytes and ShiftRows. -/
def aesSubShift (s : List Nat) : List Nat :=
  (List.range 16).map (fun i => sbox (s.getD ((i + 4 * (i % 4)) % 16) 0))

/-- MixColumns. -/
def aesMix (s : List Nat) : List Nat :=
  (List.range 16).map (fun i =>
    let c (k : Nat) : Nat := s.getD (i / 4 * 4 + (i + k) % 4) 0
    xtime (c 0) ^^^ (xtime (c 1) ^^^ c 1) ^^^ c 2 ^^^ c 3)

/-- One block of 16 octets enciphered. -/
def aesBlock (ks : List (List Nat)) (b : List Nat) : List Nat :=
  let s := xorOct b (ks.getD 0 [])
  let mid := (ks.drop 1).take (ks.length - 2)
  let s := mid.foldl (fun s k => xorOct (aesMix (aesSubShift s)) k) s
  xorOct (aesSubShift s) (ks.getD (ks.length - 1) [])

/-! ### GCM -/

/-- Multiplication in GF(2^128) with GCM's bit order, on numbers whose first octet is most significant. -/
def ghashMul (x h : Nat) : Nat :=
  ((List.range 128).foldl (fun (r : Nat × Nat) i =>
    (if x.testBit (127 - i) then r.1 ^^^ r.2 else r.1,
     if r.2 % 2 = 1 then r.2 / 2 ^^^ 0xE1 * 2 ^ 120 else r.2 / 2)) (0, h)).1

/-- GHASH over `n` blocks. -/
def ghash (h y : Nat) (l : List Nat) : Nat → Nat
  | 0 => y
  | n + 1 => ghash h (ghashMul (y ^^^ beNat (l.take 16)) h) (l.drop 16) n

/-- Octets filled up with zeros to whole blocks. -/
def padBlocks (l : List Nat) : List Nat := l ++ List.replicate ((16 - l.length % 16) % 16) 0

/-- Counter mode from a counter block: its last 32 bits count up. -/
def gctr (ks : List (List Nat)) (hi ctr : Nat) (l : List Nat) : Nat → List Nat
  | 0 => []
  | n + 1 =>
    xorOct (l.take 16) (aesBlock ks (beOct (hi * 2 ^ 32 + ctr % 2 ^ 32) 16)) ++ gctr ks hi (ctr + 1) (l.drop 16) n

/-- The pre-counter block of an IV. -/
def gcmJ0 (h : Nat) (iv : List Nat) : Nat :=
  if iv.length = 12 then beNat iv * 2 ^ 32 + 1
  else
    let p := padBlocks iv ++ beOct (8 * iv.length) 16
    ghash h 0 p (p.length / 16)

/-- The tag of additional data and ciphertext. -/
def gcmTag (ks : List (List Nat)) (h j0 : Nat) (aad ct : List Nat) : List Nat :=
  let p := padBlocks aad ++ padBlocks ct ++ beOct (8 * aad.length) 8 ++ beOct (8 * ct.length) 8
  xorOct (beOct (ghash h 0 p (p.length / 16)) 16) (aesBlock ks (beOct j0 16))

/-- GCM encryption: ciphertext and 16-octet tag. -/
def gcmSeal (key iv aad pt : List Nat) : List Nat × List Nat :=
  let ks := aesKeys key
  let h := beNat (aesBlock ks (List.replicate 16 0))
  let j0 := gcmJ0 h iv
  let ct := gctr ks (j0 / 2 ^ 32) (j0 + 1) pt ((pt.length + 15) / 16)
  (ct, gcmTag ks h j0 aad ct)

/-- GCM decryption: the plaintext where the tag is right. -/
def gcmOpen (key iv aad ct tag : List Nat) : Option (List Nat) :=
  let ks := aesKeys key
  let h := beNat (aesBlock ks (List.replicate 16 0))
  let j0 := gcmJ0 h iv
  if gcmTag ks h j0 aad ct = tag then some (gctr ks (j0 / 2 ^ 32) (j0 + 1) ct ((ct.length + 15) / 16)) else none

/-! ### CMAC and the KDF -/

/-- A CMAC subkey: doubling in GF(2^128). -/
def cmacDbl (x : Nat) : Nat := if x.testBit 127 then (2 * x) % 2 ^ 128 ^^^ 0x87 else 2 * x

/-- The CBC chain over `n` blocks. -/
def cbcMac (ks : List (List Nat)) (c : List Nat) (l : List Nat) : Nat → List Nat
  | 0 => c
  | n + 1 => cbcMac ks (aesBlock ks (xorOct c (l.take 16))) (l.drop 16) n

/-- AES-CMAC: 16 octets. -/
def aesCmac (key msg : List Nat) : List Nat :=
  let ks := aesKeys key
  let k1 := cmacDbl (beNat (aesBlock ks (List.replicate 16 0)))
  let n := msg.length
  let full := n % 16 == 0 && n != 0
  let m := if full then msg else padBlocks (msg ++ [0x80])
  let k := if full then k1 else cmacDbl k1
  let q := m.length / 16
  let c := cbcMac ks (List.replicate 16 0) m (q - 1)
  aesBlock ks (xorOct (xorOct c (m.drop (16 * (q - 1)))) (beOct k 16))

/-- SP 800-108 counter mode with AES-CMAC: `n` octets for a label and a context.  The counter and the length in bits are
32 bits wide. -/
def kdfCtr (key label context : List Nat) (n : Nat) : List Nat :=
  ((List.range ((n + 15) / 16)).foldl (fun o i =>
    o ++ aesCmac key (beOct (i + 1) 4 ++ label ++ [0] ++ context ++ beOct (8 * n) 4)) []).take n

/-! ### P-384 -/

/-- The field's prime. -/
def p384 : Nat :=
  0xFFFFFFFFFFFFFFFFFFFFFFFFFFFFFFFFFFFFFFFFFFFFFFFFFFFFFFFFFFFFFFFEFFFFFFFF0000000000000000FFFFFFFF

/-- The order of the base point. -/
def n384 : Nat :=
  0xFFFFFFFFFFFFFFFFFFFFFFFFFFFFFFFFFFFFFFFFFFFFFFFFC7634D81F4372DDF581A0DB248B0A77AECEC196ACCC52973

/-- The curve's constant. -/
def b384 : Nat :=
  0xB3312FA7E23EE7E4988E056BE3F82D19181D9C6EFE8141120314088F5013875AC656398D8A2ED19D2A85C8EDD3EC2AEF

/-- The base point. -/
def g384 : Nat × Nat :=
  (0xAA87CA22BE8B05378EB1C71EF320AD746E1D3B628BA79B9859F741E082542A385502F25DBF55296C3A545E3872760AB7,
   0x3617DE4A96262C6F5D9E98BF9292DC29F8F41DBD289A147CE9DA3113B5F0B8C00A60B1CE1D7E819D7A431D7C90EA0E5F)

/-- Powers modulo m, by the bits of the exponent below `k`. -/
def powMod (m a e : Nat) : Nat → Nat
  | 0 => 1 % m
  | k + 1 =>
    let r := powMod m a e k
    let r2 := r * r % m
    if e.testBit (383 - k) then r2 * a % m else r2

/-- The inverse modulo a prime below 2^384. -/
def invMod (m a : Nat) : Nat := powMod m (a % m) (m - 2) 384

/-- A point in Jacobian coordinates; Z = 0 is the point at infinity. -/
abbrev JPoint := Nat × Nat × Nat

/-- A difference in the field. -/
def fsub (a b : Nat) : Nat := (a + p384 - b % p384) % p384

/-- A point doubled (a = −3). -/
def jDouble (x : JPoint) : JPoint :=
  let (a, b, z) := x
  if z = 0 ∨ b = 0 then (1, 1, 0)
  else
    let z2 := z * z % p384
    let m := 3 * (fsub a z2 * (a + z2) % p384) % p384
    let b2 := b * b % p384
    let s := 4 * a * b2 % p384
    let x3 := fsub (m * m % p384) (2 * s)
    (x3, fsub (m * fsub s x3 % p384) (8 * b2 * b2), 2 * b * z % p384)

/-- Two points added. -/
def jAdd (x y : JPoint) : JPoint :=
  let (a, b, z) := x
  let (c, d, w) := y
  if z = 0 then y else if w = 0 then x
  else
    let z2 := z * z % p384
    let w2 := w * w % p384
    let u1 := a * w2 % p384
    let u2 := c * z2 % p384
    let s1 := b * w2 * w % p384
    let s2 := d * z2 * z % p384
    if u1 = u2 then (if s1 = s2 then jDouble x else (1, 1, 0))
    else
      let h := fsub u2 u1
      let r := fsub s2 s1
      let h2 := h * h % p384
      let h3 := h2 * h % p384
      let v := u1 * h2 % p384
      let x3 := fsub (fsub (r * r % p384) h3) (2 * v)
      (x3, fsub (r * fsub v x3 % p384) (s1 * h3), h * z * w % p384)

/-- A point multiplied by a number below 2^384. -/
def jMul (k : Nat) (x : JPoint) : JPoint :=
  (List.range 384).foldl (fun r i => let d := jDouble r; if k.testBit (383 - i) then jAdd d x else d) (1, 1, 0)

/-- The affine coordinates of a point, none for infinity. -/
def jAffine (x : JPoint) : Option (Nat × Nat) :=
  let (a, b, z) := x
  if z = 0 then none
  else
    let i := invMod p384 z
    let i2 := i * i % p384
    some (a * i2 % p384, b * i2 * i % p384)

/-- An uncompressed public key of 97 octets as a point of the curve. -/
def ecPoint (q : List Nat) : Option (Nat × Nat) :=
  let x := beNat ((q.drop 1).take 48)
  let y := beNat ((q.drop 49).take 48)
  if q.length = 97 ∧ q.getD 0 0 = 4 ∧ x < p384 ∧ y < p384 ∧
      y * y % p384 = (x * x * x + b384 + (p384 - 3) * x) % p384 then some (x, y)
  else none

/-- The public key of a secret key, uncompressed. -/
def ecPublic (d : Nat) : List Nat :=
  match jAffine (jMul (d % n384) (g384.1, g384.2, 1)) with
  | some (x, y) => [4] ++ beOct x 48 ++ beOct y 48
  | none => []

/-- ECDSA verification of a 48-octet digest against a signature r ‖ s. -/
def ecdsaVerify (q digest sig : List Nat) : Bool :=
  match ecPoint q with
  | none => false
  | some (x, y) =>
    let r := beNat (sig.take 48)
    let s := beNat (sig.drop 48)
    if sig.length = 96 ∧ 0 < r ∧ r < n384 ∧ 0 < s ∧ s < n384 then
      let i := invMod n384 s
      match jAffine (jAdd (jMul (beNat digest * i % n384) (g384.1, g384.2, 1)) (jMul (r * i % n384) (x, y, 1))) with
      | some (a, _) => a % n384 == r
      | none => false
    else false

/-- The ECDSA signature r ‖ s of a digest under a secret key with the secret number `k`. -/
def ecdsaSign (d k : Nat) (digest : List Nat) : List Nat :=
  match jAffine (jMul (k % n384) (g384.1, g384.2, 1)) with
  | some (x, _) =>
    let r := x % n384
    beOct r 48 ++ beOct (invMod n384 k * (beNat digest + r * d) % n384) 48
  | none => List.replicate 96 0

end Sys2Proof.Machine
end

