-- ==== Sys2Proof/Machine/VeBase.lean ====
section
/-!
DEFINITION. What every virtual endpoint shares (chapter 15): DMA through the IOMMU, events and MSI vectors, the
records of its fault sources, and the completion rings of ETH endpoints.
-/

namespace Sys2Proof.Machine

/-- One virtual endpoint. -/
def veSt (s : State) (n : Nat) : VeSt := tget VeSt.init s.ve n

/-- A virtual endpoint changed. -/
def State.updVe (s : State) (n : Nat) (f : VeSt → VeSt) : State := { s with ve := tupd VeSt.init s.ve n f }

/-- State and type of a VE (Tables 15-1 and 15-2). -/
def veState (s : State) (n : Nat) : Nat := s.get F.VE_STAT_STATE n
def veType (s : State) (n : Nat) : Nat := s.get F.VE_ID_TYPE n

/-- The VEs that have a type: their VE_ID differs from its reset word. -/
def assignedVes (s : State) : List Nat :=
  (s.regs.filterMap (fun e => if e.1.1 = R.VE_ID.id then some e.1.2 else none)).filter (fun n => veType s n != 0)

/-- A VE source with the record of R439. -/
def veFault (src n code w1 : Nat) (s : State) : State :=
  s.raise src (veType s n % 8 * 2 ^ 28 + veState s n * 2 ^ 24 + code * 2 ^ 16 + n) w1 0

/-! ### MSI vectors and events (R421) -/

/-- An MSI of a VE: a 32-bit write that must reach an interrupt file (R399), with the error it meets. -/
def veMsi (n v : Nat) (s : State) : Option (Nat × Option WalkErr) × State :=
  let a := s.get64 R.VEC_ADDR_LO R.VEC_ADDR_HI (8 * n + v)
  let d := s.get F.VEC_DATA_DATA (8 * n + v)
  match iommuXlate s [] n a .write with
  | .error e => (some (respDenied, some e), s)
  | .ok (pa, _) =>
    match imsicFile pa with
    | some _ => (none, (imsicWrite pa d s).emit (.msi pa d))
    | none => (some (respDenied, none), s)

/-- A DMA access of VE `n` that fails with `code` leaves what the fabric records of any request (R427, R319): a fence counts it, a
poisoned line raises the source of its memory (R396), and a posted write goes to the late-error log (R28), with its physical
address where the IOMMU gives one and with the IOVA otherwise (DESIGN CHOICE, log 60). -/
def dmaFailed (n code iova : Nat) (acc : WalkAcc) (s : State) : State :=
  let a := match iommuXlate s [] n iova acc with | .ok (pa, _) => pa | .error _ => iova
  let init := 0x400 + n
  let s := if code = respTReset then
      (match decodeAddr a with
       | some t => s.updPort (if fenced s t.port then t.port else 0x1006) (fun x => { x with treset := satInc x.treset 0xFFFF })
       | none => s)
    else if code = respEcc then (if a < 0x800000 then memFault 103 init 0x1000 a s else memFault 105 init 0x1001 a s)
    else s
  if acc = .write then s.lateErr init a code (code = respTReset) else s

/-- The error of a DMA request is recorded with its IOVA (R427). -/
def veErrRecord (n code src iova : Nat) (e : Option WalkErr) (acc : WalkAcc) (s : State) : State :=
  let s := match e with | some w => walkFault n iova acc w s | none => s
  let s := s.put F.VE_ERR_VALID n 1
  let s := (s.put F.VE_ERR_CODE n code).put F.VE_ERR_SRC n src
  let s := s.put64 R.VE_ERR_ADDR_LO R.VE_ERR_ADDR_HI n iova
  if (veSt s n).said407 then s
  else veFault 407 n code iova (s.updVe n (fun x => { x with said407 := true }))

/-- The vector of an event is sent, or held while it is masked; a send that fails is recorded. -/
def veSend (n v : Nat) (s : State) : State :=
  if s.flag F.VEC_CTRL_MASK (8 * n + v) then s.put F.VEC_CTRL_PEND (8 * n + v) 1
  else
    let r := veMsi n v s
    match r.1 with
    | none => r.2
    | some (c, e) =>
      -- event 4 is raised without a second send of its own where its own vector fails
      let a := s.get64 R.VEC_ADDR_LO R.VEC_ADDR_HI (8 * n + v)
      let s := veErrRecord n c 4 a e .write (dmaFailed n c a .write r.2)
      s.put F.VE_EVT_EVT n (s.get F.VE_EVT_EVT n ||| 2 ^ 4)

/-- An event bit of a VE is set, and its vector sent where the bit rises (R421). -/
def veEvent (n e : Nat) (s : State) : State :=
  if bitOf (s.get F.VE_EVT_EVT n) e then s
  else
    let s := s.put F.VE_EVT_EVT n (s.get F.VE_EVT_EVT n ||| 2 ^ e)
    let m := bitsOf (s.get F.VE_VMAP_MAP n) (4 * e + 3) (4 * e)
    if bitOf m 3 then veSend n (m % 8) s else s

/-- A failed DMA request of a VE (R427): record, event 4 and FS407. -/
def veDmaErr (n code src iova : Nat) (e : Option WalkErr) (acc : WalkAcc) (s : State) : State :=
  veEvent n 4 (veErrRecord n code src iova e acc (dmaFailed n code iova acc s))

/-! ### DMA -/

/-- A DMA read of a VE: the octets, or none with the error recorded. -/
def veRead (n src iova len : Nat) (s : State) : Option (List Nat) × State :=
  match dmaAddrs s n (0x400 + n) iova .read len with
  | .ok l => (some (l.map (fun a => (memGet s.mem a).toNat)), s)
  | .error (c, e, a) => (none, veDmaErr n c src a e .read s)

/-- A DMA write of a VE, and whether it succeeded. -/
def veWrite (n src iova : Nat) (data : List Nat) (s : State) : Bool × State :=
  match dmaStore n (0x400 + n) iova data s with
  | .ok t => (true, t)
  | .error (c, e, a) => (false, veDmaErr n c src a e .write s)

/-- Writes of a VE one after the other, ending at the first that fails. -/
def veWrites (n src : Nat) : List (Nat × List Nat) → State → Bool × State
  | [], s => (true, s)
  | (a, d) :: l, s =>
    let r := veWrite n src a d s
    if r.1 then veWrites n src l r.2 else r

/-! ### States (R417) -/

/-- The virtual endpoints have their clock: block 15 is not gated, and the K-die is powered (R347, R345). -/
def veClocked (s : State) : Bool := !(portSt s 0x060).causes.contains causePower && s.pm.phase != 2

/-- The VE enters a state: event 3 and the manager's STPEND bit. -/
def veGo (n st : Nat) (s : State) : State :=
  let s := veEvent n 3 (s.put F.VE_STAT_STATE n st)
  let m := s.get F.VEMGR_VEASSIGN_MGR n
  s.put F.MGR_STPEND_PEND (32 * m + n / 32) (s.get F.MGR_STPEND_PEND (32 * m + n / 32) ||| 2 ^ (n % 32))

/-- Interrupt 904 + m of a manager window follows its summary bits and enables (R436). -/
def mgrLevel (m : Nat) (s : State) : State :=
  let any (r : Reg) : Bool := (List.range 32).any (fun w => s.rd r (32 * m + w) != 0)
  let s := (s.put F.MGR_SUM_DB_ANY m (b2n (any R.MGR_DBPEND))).put F.MGR_SUM_ST_ANY m (b2n (any R.MGR_STPEND))
  s.levelIrq (904 + m) ((s.flag F.MGR_SUM_DB_ANY m && s.flag F.MGR_IE_DB_IE m) ||
    (s.flag F.MGR_SUM_ST_ANY m && s.flag F.MGR_IE_ST_IE m))

/-- All four manager windows. -/
def mgrLevels (s : State) : State := s.each [0, 1, 2, 3] mgrLevel

/-! ### Completions (R426, R428 to R430) -/

/-- The size of a ring whose LOG2 field is bounded. -/
def ringSize (log lo hi : Nat) : Nat := 2 ^ (max lo (min hi log))

/-- The index of a ring moves by the completion that has been written, with its event. -/
def veAdvance (n : Nat) (c : VeCpl) (s : State) : State :=
  match c.ring with
  | 0 => veEvent n 1 (s.put F.ETH_TXC_WI_WI n (s.get F.ETH_TXC_WI_WI n + c.adv))
  | 1 => veEvent n 0 (s.put F.ETH_RX_HEAD_HEAD n (s.get F.ETH_RX_HEAD_HEAD n + c.adv))
  | 2 => veEvent n 0 (s.put F.CRY_CPL_WI_IDX n (s.get F.CRY_CPL_WI_IDX n + c.adv))
  | _ =>
    let wi := (s.get F.CAN1_CQWI_WI n % 64 + c.adv) % 64
    let s := s.put F.CAN1_CQWI_WI n wi
    let s := s.put F.CAN1_CQWI_FULL n (b2n (wi == s.get F.CAN1_CQAI_AI n % 64))
    veEvent n 1 (s.updVe n (fun x => { x with tunDone := x.tunDone ++ (c.writes.map (fun w => w.2.getD 0 0 % 64)) }))

/-- The completions that wait are written in order, up to the first that fails. -/
def veFlush (n : Nat) : List VeCpl → State → State
  | [], s => s.updVe n (fun x => { x with wait := [] })
  | c :: l, s =>
    let r := veWrites n 3 c.writes s
    if r.1 then veFlush n l (veAdvance n c r.2)
    else r.2.updVe n (fun x => { x with wait := c :: l })

/-- A completion is written, or waits behind earlier ones that could not be. -/
def veComplete (n : Nat) (c : VeCpl) (s : State) : State :=
  match (veSt s n).wait with
  | [] => veFlush n [c] s
  | l => s.updVe n (fun x => { x with wait := l ++ [c] })

/-- Index of the next TXC record, those that wait included. -/
def txcIndex (s : State) (n : Nat) : Nat :=
  s.get F.ETH_TXC_WI_WI n + ((veSt s n).wait.filter (fun c => c.ring == 0)).length

/-- A completion counts for the audit of R426: in QRES while the VE drains, else among the earlier ones. -/
def veCounted (n : Nat) (abort : Bool) (s : State) : State :=
  if veState s n = 3 then s.incSat F.VE_QRES_CNT (4 * n + b2n abort)
  else s.updVe n (fun x => { x with early := x.early + 1 })

/-- The completion of a TX frame (R231, Table 15-7), counted in ETH_CNT and, while the VE drains, in QRES. -/
def ethTxDone (n tag copies reason code len : Nat) (s : State) : State :=
  let size := ringSize (s.get F.ETH_TXC_CFG_LOG2 n) 6 12
  let a := s.get64 R.ETH_TXC_BASE_LO R.ETH_TXC_BASE_HI n + 16 * (txcIndex s n % size)
  let d := leOctets (reason * 2 ^ 24 + copies * 2 ^ 16 + tag) 4 ++ leOctets (code * 2 ^ 28 + len % 2 ^ 14) 4 ++
    leOctets s.beatLo 4 ++ leOctets 0 4
  let s := if code = 1 then s.incSat F.ETH_CNT_CNT (8 * n + 1) else s.incSat F.ETH_CNT_CNT (8 * n)
  veComplete n ⟨[(a, d)], 0, 1⟩ (veCounted n (code == 1) s)

/-- The completion record of a tunnelled CAN frame: transmit entry and code of Table 11-3 (R433, R322). -/
def can1Done (n entry code : Nat) (s : State) : State :=
  let k := ((veSt s n).wait.filter (fun c => c.ring == 3)).length
  let a := s.get64 R.CAN1_CQBASE_LO R.CAN1_CQBASE_HI n + 8 * ((s.get F.CAN1_CQWI_WI n + k) % 64)
  veComplete n ⟨[(a, leOctets (code * 2 ^ 28 + entry) 4 ++ leOctets 0 4)], 3, 1⟩ (veCounted n (code == 3) s)

/-- A frame that a VE handed to the switch is complete (R231): an aborted drain completes it as ABORTED. -/
def veTxDone (n tag copies reason len : Nat) (s : State) : State :=
  let ab := (veSt s n).aborted
  if veType s n = 2 then can1Done n tag (if ab then 3 else 0) s
  else ethTxDone n tag copies reason (b2n ab) len s

/-- What an RX entry says of its frame. -/
structure RxInfo where
  ftag : Nat
  cls : Nat
  port : Nat
  gen : Nat
  frac : Nat
  ns : Nat
  vid : Nat
  fcsErr : Bool
  echo : Bool
  appended : Bool
  stomped : Bool
  deriving DecidableEq, Repr

/-- One RX entry as its eight words. -/
def rxEntry (i : RxInfo) (bytes : Nat) (first last discarded : Bool) (flen : Nat) : List Nat :=
  leOctets (i.ftag % 65536 * 2 ^ 16 + bytes) 4 ++
  leOctets (b2n first * 2 ^ 31 + b2n last * 2 ^ 30 + b2n discarded * 2 ^ 29 + b2n (last && i.fcsErr) * 2 ^ 28 +
    b2n i.echo * 2 ^ 27 + b2n i.appended * 2 ^ 26 + b2n i.stomped * 2 ^ 25 + i.cls % 8 * 2 ^ 21 + i.port % 32 * 2 ^ 16 +
    i.gen % 256 * 2 ^ 8) 4 ++
  leOctets i.frac 4 ++ leOctets i.ns 8 ++ leOctets (if last then flen else 0) 4 ++ leOctets (i.vid % 4096) 4 ++
  leOctets 0 4

/-- The address of entry `k` of the RX ring. -/
def rxSlot (s : State) (n k : Nat) : Nat :=
  s.get64 R.ETH_RX_BASE_LO R.ETH_RX_BASE_HI n + 32 * (k % ringSize (s.get F.ETH_RX_CFG_LOG2 n) 6 12)

/-- Octets fill posted buffers from index `k`, at most `fuel` of them: the octets written to each, whether the whole frame
found room, and whether a DMA error ended it. -/
def rxFill (n k : Nat) (data : List Nat) : Nat → State → List Nat × Bool × Bool × State
  | 0, s => ([], data.isEmpty, false, s)
  | f + 1, s =>
    if data.isEmpty then ([], true, false, s)
    else
      let r := veRead n 0 (rxSlot s n k) 16 s
      match r.1 with
      | none => ([], false, true, r.2)
      | some d =>
        let len := leNat ((d.drop 8).take 2)
        let w := veWrite n 2 (leNat (d.take 8)) (data.take len) r.2
        if w.1 then
          let q := rxFill n (k + 1) (data.drop len) f w.2
          ((data.take len).length :: q.1, q.2.1, q.2.2.1, q.2.2.2)
        else ([0], false, true, w.2)

/-- RX entries posted and not yet consumed, those of completions that wait not counted twice. -/
def rxPosted (s : State) (n : Nat) : Nat :=
  let used := ((veSt s n).wait.filter (fun c => c.ring == 1)).foldl (fun a c => a + c.adv) 0
  (s.get F.ETH_RX_TAIL_TAIL n + 65536 - s.get F.ETH_RX_HEAD_HEAD n) % 65536 - used

/-- A frame's octets delivered to the RX ring (R428, R429): 0 delivered, 1 no buffer, 2 partial, 3 DMA error. -/
def ethRx (n : Nat) (i : RxInfo) (data : List Nat) (s : State) : Nat × State :=
  let used := ((veSt s n).wait.filter (fun c => c.ring == 1)).foldl (fun a c => a + c.adv) 0
  let k := s.get F.ETH_RX_HEAD_HEAD n + used
  let r := rxFill n k data (rxPosted s n) s
  let s := r.2.2.2
  let j := r.1.length
  if j = 0 then (if r.2.2.1 then 3 else 1, s)
  else
    let bad := !r.2.1
    let ws := (List.range j).map (fun m =>
      (rxSlot s n (k + m), rxEntry i (r.1.getD m 0) (m == 0) (m + 1 == j) bad data.length))
    (if r.2.2.1 then 3 else if bad then 2 else 0, veComplete n ⟨ws, 1, j⟩ s)

end Sys2Proof.Machine
end

