-- ==== Sys2Proof/Machine/TimeBase.lean ====
section
/-!
DEFINITION. Network time as other units read it, timestamps, PTP event messages and their one-step modification
(chapter 10).
-/

namespace Sys2Proof.Machine

/-- Network time in whole ns. -/
def State.nowNs (s : State) : Nat := s.time.now / 2 ^ 32

/-- STEP_GEN (R291). -/
def stepGen (s : State) : Nat := s.get F.TIME_STAT_STEP_GEN 0

/-- A signed trim in 1/16 ns as 2^-32 ns (R294). -/
def trim32 (v : Nat) : Int := toSigned 16 v * 2 ^ 28

/-- A time in 2^-32 ns moved by a trim, on the 96 bits of a timestamp. -/
def stampAdd (t : Nat) (d : Int) : Nat := (((t : Int) + d) % (2 ^ 96 : Int)).toNat

/-- The trims of a port: none at an internal one (R294). -/
def rxTrim (s : State) (p : Nat) : Int := if 20 ≤ p then 0 else trim32 (s.get F.TIME_PORT_LAT_RXLAT p)
def txTrim (s : State) (p : Nat) : Int := if 20 ≤ p then 0 else trim32 (s.get F.TIME_PORT_LAT_TXLAT p)

/-- The timestamp of a frame that arrives now at a port: RXLAT applies to external ports (R294). -/
def rxStamp (s : State) (p : Nat) : Nat := if 20 ≤ p then s.time.now else stampAdd s.time.now (rxTrim s p)

/-- The timestamp of a frame that leaves now from a port (R294). -/
def txStamp (s : State) (p : Nat) : Nat := if 20 ≤ p then s.time.now else stampAdd s.time.now (txTrim s p)

/-- A time-unit source with the record of R309. -/
def timeFault (n port reason w1 : Nat) (s : State) : State := s.raise n (port * 2 ^ 16 + reason % 16) w1 0

/-! ### CRC-32 -/

/-- One bit of the reflected IEEE 802.3 CRC-32. -/
def crcBit (c : Nat) : Nat := if c % 2 = 1 then (c / 2) ^^^ 0xEDB88320 else c / 2

/-- One octet of the CRC. -/
def crcOctet (c b : Nat) : Nat := (List.range 8).foldl (fun c _ => crcBit c) (c ^^^ b % 256)

/-- The IEEE 802.3 CRC-32 of octets. -/
def crc32 (l : List Nat) : Nat := l.foldl crcOctet 0xFFFFFFFF ^^^ 0xFFFFFFFF

/-- The FCS of a frame as its four octets. -/
def fcsOf (body : List Nat) : List Nat := leOctets (crc32 body) 4

/-- The stomp of a frame: the bitwise complement of its FCS (R241). -/
def stompOf (body : List Nat) : List Nat := leOctets (crc32 body ^^^ 0xFFFFFFFF) 4

/-! ### Headers -/

/-- `n` octets from an offset, most significant first. -/
def beAt (l : List Nat) (o n : Nat) : Nat := beNat ((l.drop o).take n)

/-- The EtherType or tag type at an offset. -/
def typeAt (l : List Nat) (o : Nat) : Nat := beAt l o 2

/-- A VLAN tag stands after the addresses. -/
def hasTag (l : List Nat) : Bool := typeAt l 12 == 0x8100

/-- Offset of the first type field after a VLAN tag. -/
def afterTag (l : List Nat) : Nat := if hasTag l then 16 else 12

/-- The R-TAG's number, where there is one (R272). -/
def rtagSeq (l : List Nat) : Option Nat :=
  if typeAt l (afterTag l) = 0xF1C1 then some (beAt l (afterTag l + 4) 2) else none

/-- The EtherType after a VLAN tag and an R-TAG. -/
def innerType (l : List Nat) : Nat :=
  if typeAt l (afterTag l) = 0xF1C1 then typeAt l (afterTag l + 6) else typeAt l (afterTag l)

/-- Where the PTP message of an event message can start: offset, and 0 for L2, 4 for UDP/IPv4, 6 for UDP/IPv6 (R296). -/
def ptpAt (l : List Nat) : Option (Nat × Nat) :=
  let tagged (o : Nat) : Bool := typeAt l o == 0x8100 || typeAt l o == 0x88A8
  let o := if tagged 12 then (if tagged 16 then 20 else 16) else 12
  let o := if typeAt l o = 0xF1C1 then o + 6 else o
  let ty := typeAt l o
  let o := o + 2
  if ty = 0x88F7 then some (o, 0)
  else if ty = 0x0800 then
    let ihl := l.getD o 0 % 16
    if l.getD o 0 / 16 = 4 ∧ 5 ≤ ihl ∧ l.getD (o + 9) 0 = 17 ∧ beAt l (o + 4 * ihl + 2) 2 = 319 then
      some (o + 4 * ihl + 8, 4) else none
  else if ty = 0x86DD then
    if l.getD (o + 6) 0 = 17 ∧ beAt l (o + 42) 2 = 319 then some (o + 48, 6) else none
  else none

/-- A PTP event message: offset, carriage and messageType (R296). -/
def ptpEvent (l : List Nat) : Option (Nat × Nat × Nat) :=
  match ptpAt l with
  | some (o, k) =>
    if l.getD (o + 1) 0 % 16 = 2 ∧ l.getD o 0 % 16 ≤ 3 ∧ o + 2 ≤ l.length then some (o, k, l.getD o 0 % 16) else none
  | none => none

/-! ### One-step insertion (R297 to R300) -/

/-- Octets of a list from an offset replaced. -/
def splice (l : List Nat) (o : Nat) (d : List Nat) : List Nat := l.take o ++ d ++ l.drop (o + d.length)

/-- `n` octets of a number, most significant first. -/
def beOctets (v n : Nat) : List Nat := (leOctets v n).reverse

/-- correctionField with 2^-16 ns added: a sum that overflows becomes the greatest value (R297). -/
def corrAdd (old : Nat) (d : Int) : Nat :=
  let r := toSigned 64 old + d
  if 2 ^ 63 ≤ r ∨ r < -(2 ^ 63 : Int) then 2 ^ 63 - 1 else ofSigned 64 r

/-- An exact count of 2^-32 ns rounded to 2^-16 ns, a half up (R297). -/
def round16 (d : Int) : Int := (d + 2 ^ 15) / 2 ^ 16

/-- The ones' complement sum of octets as 16-bit words from the first octet. -/
def onesSum : List Nat → Nat
  | [] => 0
  | [a] => a * 256
  | a :: b :: l => a * 256 + b + onesSum l

/-- The trailer of a UDP/IPv6 message rewritten so that the checksum stays correct (R299): `u` where the UDP header
starts, `n` the UDP length. -/
def fixTrailer (old new : List Nat) (u n : Nat) : List Nat :=
  let z := splice new (u + n - 2) [0, 0]
  let d := (onesSum ((old.drop u).take n) + 65535 * 65536 - onesSum ((z.drop u).take n)) % 65535
  let d := if n % 2 = 0 then d else d % 256 * 256 + d / 256
  splice z (u + n - 2) (beOctets d 2)

/-- What one-step action a frame gets at an egress port: 0 none, 1 origin, 2 turnaround, 3 residence (R297). -/
def oneStepKind (s : State) (e ingress mtype : Nat) (org : Option TxOrigin) (l : List Nat) : Nat :=
  if !s.flag F.TIME_PORT_CFG_ONESTEP_EN e then 0
  else if 20 ≤ ingress then
    (match org with
     | some o => if o.oneStep then (if mtype = 3 then 2 else 1) else 0
     | none => 0)
  else if mtype ≤ 1 ∧ beAt l 0 6 ≠ 0x0180C200000E ∧ s.flag F.TIME_PORT_CFG_TC_EN e then 3 else 0

/-- TIME_LASTSTEP with its fraction, in 2^-32 ns. -/
def lastStep (s : State) : Int := toSigned 64 (s.get64 R.TIME_LASTSTEP_LO R.TIME_LASTSTEP_HI 0) * 2 ^ 32 + s.time.lastFrac

/-- TS_REF in 2^-32 ns on the time scale of generation `gen`, whose last step is `step`, or none where its own generation cannot be
corrected (R298). -/
def tsRef (step : Int) (o : TxOrigin) (gen : Nat) : Option Int :=
  let t : Int := o.refNs * 2 ^ 32 + o.refFrac
  if o.refGen = gen then some t
  else if (o.refGen + 1) % 256 = gen then
    some (t + step)
  else none

/-- A copy's body (without FCS) as port `e` sends it, with a skip reason of R300, 0 for no action or 16 for a modified
frame (R297 to R300).
`c` tells the egress time with its STEP_GEN and last step, and the time in the device. -/
def oneStep (s : State) (e ingress : Nat) (org : Option TxOrigin) (c : SwCopy) (l : List Nat) : List Nat × Nat :=
  let t := c.t0
  match ptpEvent l with
  | none => (l, 0)
  | some (o, k, mt) =>
    let a := oneStepKind s e ingress mt org l
    if a = 0 then (l, 0)
    else if c.sa.isSome then (l, 1)
    else
      let mlen := beAt l (o + 2) 2
      let u := o - 8
      let ulen := beAt l (u + 4) 2
      let pay := if k = 0 then l.length - o else min (ulen - 8) (l.length - o)
      let need := if a = 3 then 16 else 44
      if pay < need ∨ pay < mlen then (l, 4)
      else if k = 6 ∧ pay < mlen + 2 then (l, 2)
      else
        let corr := beAt l (o + 8) 8
        let r : Option (List Nat) :=
          if a = 1 then
            let ns := t / 2 ^ 32
            some (splice (splice l (o + 34) (beOctets (ns / 10 ^ 9) 6 ++ beOctets (ns % 10 ^ 9) 4)) (o + 8)
              (beOctets (corrAdd corr (round16 (t % 2 ^ 32 : Nat))) 8))
          else if a = 2 then
            match org with
            | some og =>
              (match tsRef c.step0 og c.g0 with
               | some ref => some (splice (splice l (o + 34) (beOctets 0 10)) (o + 8)
                   (beOctets (corrAdd corr (round16 ((t : Int) - ref))) 8))
               | none => none)
            | none => none
          else some (splice l (o + 8) (beOctets (corrAdd corr (round16 c.dwell)) 8))
        match r with
        | none => (l, 3)
        | some m =>
          if k = 4 then (splice m (u + 6) [0, 0], 16)
          else if k = 6 then (fixTrailer l m u ulen, 16)
          else (m, 16)

/-- One-step counters of a port after a copy (R300): modified frames, or skips with their reason and FS355 once a beat. -/
def oneStepCount (e reason : Nat) (s : State) : State :=
  if reason = 0 then s
  else if reason = 16 then s.incSat F.TIME_PORT_ONESTEP_CNT e
  else
    let s := (s.incSat F.TIME_PORT_SKIP_CNT e).put F.TIME_PORT_SKIP_LAST_REASON e reason
    if s.time.said355 then s
    else timeFault 355 e reason (s.get F.TIME_PORT_SKIP_CNT e) { s with time := { s.time with said355 := true } }

/-! ### Transmit time echo (R301) -/

/-- The echo of a copy as sent (without MACsec): first 128 bytes with the egress time over bytes o to o + 11, or
appended. -/
def echoData (sent : List Nat) (ofs t : Nat) : List Nat × Bool :=
  let d := sent.take 128
  let ts := leOctets (t / 2 ^ 32) 8 ++ leOctets (t % 2 ^ 32) 4
  if ofs + 12 ≤ d.length then (splice d ofs ts, false) else (d ++ ts, true)

/-- The echo path of an internal port. -/
def echoPath (s : State) (p : Nat) : List Echo := tget [] s.time.echo p

/-- An echo that finds the path or the ring full is dropped and counted (R301). -/
def echoDrop (p : Nat) (s : State) : State :=
  let s := s.incSat F.TIME_ECHO_DROP_CNT (p - 20)
  timeFault 356 p 0 (s.get F.TIME_ECHO_DROP_CNT (p - 20)) s

/-- The echo of a copy enters the path of its sender's port, which has 32 entries (R301). -/
def echoReturn (o : TxOrigin) (inPort e t gen cls vid : Nat) (stomped : Bool) (sent : List Nat) (s : State) : State :=
  if !o.echo then s
  else if 32 ≤ (echoPath s inPort).length then echoDrop inPort s
  else
    let d := echoData sent o.echoOfs t
    let x : Echo := ⟨o.ve, o.tag, cls, e, gen, t, vid, d.2, stomped, d.1⟩
    { s with time := { s.time with echo := tupd [] s.time.echo inPort (· ++ [x]) } }

/-- An echo reaches the receive ring of the VE that sent the frame, or finds no room there (R301). -/
def echoArrive (p : Nat) (x : Echo) (s : State) : State :=
  let i : RxInfo := { ftag := x.tag, cls := x.cls, port := x.port, gen := x.gen, frac := x.t % 2 ^ 32, ns := x.t / 2 ^ 32,
                      vid := x.vid, fcsErr := false, echo := true, appended := x.appended, stomped := x.stomped }
  let r := if veType s x.ve = 1 ∧ (veState s x.ve = 2 ∨ veState s x.ve = 3) then ethRx x.ve i x.octets s else (1, s)
  if r.1 = 0 then r.2.incSat F.ETH_CNT_CNT (8 * x.ve + 6) else echoDrop p r.2

/-- Every path delivers what it holds (R301): within t_ECHO in the device, while no command waits in the model (DESIGN CHOICE, log 64). -/
def echoDeliver (s : State) : State :=
  s.each [20, 21, 22, 23] (fun p s =>
    s.each (echoPath s p) (echoArrive p) |> fun s => { s with time := { s.time with echo := tset [] s.time.echo p [] } })

end Sys2Proof.Machine
end

