-- ==== Sys2Proof/Machine/Stream.lean ====
section
/-!
DEFINITION. What a frame meets on its way in (chapter 9): stream filters, gates, meters, policers, FRER recovery and
MACsec verification; and the shared tables behind them.
-/

namespace Sys2Proof.Machine

/-- One port's state. -/
def epSt (s : State) (p : Nat) : EpSt := tget EpSt.init s.ports.ep p

/-- A port's state changed. -/
def State.updEp (s : State) (p : Nat) (f : EpSt → EpSt) : State :=
  { s with ports := { s.ports with ep := tupd EpSt.init s.ports.ep p f } }

/-- A port source with the record of R286. -/
def portFault (n p idx w1 : Nat) (s : State) : State := s.raise n (p * 2 ^ 16 + idx % 8192) w1 0

/-- A port source whose VALUE the spec does not state: a free value. -/
def portFaultFree (n p idx : Nat) (s : State) : State :=
  let d := s.draw
  portFault n p idx (Config.freeNat 20 d.1 % 2 ^ 32) d.2

/-- An event bit of a port is set, with interrupt 776 + p where it is enabled (R287). -/
def epEvt (p bit : Nat) (s : State) : State :=
  let s := s.wr R.EP_EVT p (s.rd R.EP_EVT p ||| BitVec.ofNat 32 (2 ^ bit))
  if bitOf (s.rd R.EP_IE p).toNat bit then s.raiseIrq (776 + p) else s

/-! ### The shared tables (Table 9-6) -/

/-- Entries of each table. -/
def tblSize (t : Nat) : Nat :=
  match t with | 0 => 512 | 1 => 127 | 2 => 8128 | 3 => 255 | 4 => 64 | 5 => 64 | _ => 0

/-- An entry after reset. -/
def tblReset (t : Nat) : Nat :=
  match t with
  | 0 => (0xFF * 2 ^ 24 + 0x7F * 2 ^ 17) * 2 ^ 96
  | 1 => 2 ^ 30 + 2 ^ 8 + 1
  | 4 => 1000
  | _ => 0

/-- The fields of an entry with their access, in the 128 bits of its four words. -/
def tblFields (t : Nat) : List FieldDef :=
  match t with
  | 0 => [⟨31, 0, .rw⟩, ⟨63, 32, .rw⟩, ⟨95, 64, .rw⟩, ⟨127, 96, .rw⟩]
  | 1 => [⟨31, 29, .rw⟩, ⟨28, 28, .w1c⟩, ⟨15, 0, .rw⟩, ⟨63, 32, .rw⟩]
  | 2 => [⟨31, 27, .rw⟩, ⟨23, 0, .rw⟩]
  | 3 => [⟨31, 28, .rw⟩, ⟨27, 27, .w1c⟩, ⟨24, 0, .rw⟩, ⟨56, 32, .rw⟩, ⟨83, 64, .rw⟩, ⟨115, 96, .rw⟩]
  | 4 => [⟨31, 30, .rw⟩, ⟨20, 16, .rw⟩, ⟨15, 0, .rw⟩]
  | 5 => [⟨31, 31, .rw⟩, ⟨23, 0, .rw⟩]
  | _ => []

/-- An entry of a table. -/
def tblGet (s : State) (t i : Nat) : Nat := tget (tblReset t) s.ports.tbl (8192 * t + i)

/-- An entry set. -/
def State.tblSet (s : State) (t i v : Nat) : State :=
  { s with ports := { s.ports with tbl := tset (tblReset t) s.ports.tbl (8192 * t + i) v } }

/-- Bits [hi:lo] of word `w` of an entry. -/
def tblBits (s : State) (t i w hi lo : Nat) : Nat := bitsOf (tblGet s t i) (32 * w + hi) (32 * w + lo)

/-- Bits [hi:lo] of word `w` of an entry set. -/
def State.tblPut (s : State) (t i w hi lo v : Nat) : State :=
  s.tblSet t i (withBits (tblGet s t i) (32 * w + hi) (32 * w + lo) v)

/-- A saturating counter of an entry one higher. -/
def State.tblInc (s : State) (t i w hi lo : Nat) : State :=
  s.tblPut t i w hi lo (satInc (tblBits s t i w hi lo) (2 ^ (hi + 1 - lo) - 1))

/-- The indices of a table that are listed. -/
def tblListed (s : State) (t : Nat) : List Nat :=
  (s.ports.tbl.filter (fun e => e.1 / 8192 == t)).map (fun e => e.1 % 8192)

/-! ### Lists of timed entries (R262) -/

/-- INTERVAL of an entry word. -/
def interval (w : Nat) : Nat := bitsOf w 23 0

/-- The first entry at or after index `j` that is not passed over. -/
def nextEntry (l : List Nat) (j : Nat) : Option Nat :=
  (List.range l.length).find? (fun k => decide (j ≤ k) && interval (l.getD k 0) != 0)

/-- Index and end of the entry that a cycle starting at `t` begins with; without any interval the last entry's states
stay in force to the end of the cycle. -/
def firstEntry (l : List Nat) (t : Nat) : Nat × Nat :=
  match nextEntry l 0 with
  | some i => (i, t + interval (l.getD i 0))
  | none => (l.length - 1, t)

/-! ### Stream gates (R270) -/

/-- One stream gate. -/
def sgSt (s : State) (g : Nat) : SgSt := tget SgSt.init s.ports.sg g

/-- OPEN_NOW of a gate: its list's state, and closed while INV_RX is set (R270, R284). -/
def sgShow (g : Nat) (s : State) : State :=
  let x := sgSt s g
  s.tblPut 1 g 0 27 27 (b2n (bitOf (x.list.getD x.idx 0) 31 && tblBits s 1 g 0 28 28 == 0))

/-- A stream gate replaced, with OPEN_NOW after it. -/
def State.setSg (s : State) (g : Nat) (x : SgSt) : State :=
  sgShow g { s with ports := { s.ports with sg := tset SgSt.init s.ports.sg g x } }

/-- A cycle of a gate starts now: the list as written is in force from here. -/
def sgCycle (g : Nat) (s : State) : State :=
  let l := (List.range (tblBits s 1 g 0 15 8)).map (fun j => tblGet s 2 (64 * g + j))
  let t := s.nowNs
  let e := firstEntry l t
  s.setSg g ⟨l, e.1, t, e.2⟩

/-- The entry of a gate ends and the next one's state applies; after the last one its state stays. -/
def sgNext (g : Nat) (s : State) : State :=
  let x := sgSt s g
  match nextEntry x.list (x.idx + 1) with
  | some j => s.setSg g { x with idx := j, entryEnd := x.entryEnd + interval (x.list.getD j 0) }
  | none => s

/-- A gate lets no frame pass: closed by its list or by an invalid receive. -/
def sgClosed (s : State) (g : Nat) : Bool :=
  tblBits s 1 g 0 31 31 == 1 && (tblBits s 1 g 0 28 28 == 1 || tblBits s 1 g 0 27 27 == 0)

/-- The IPV of a gate that is open with one (R270). -/
def sgIpv (s : State) (g : Nat) : Option Nat :=
  let x := sgSt s g
  let w := x.list.getD x.idx 0
  if tblBits s 1 g 0 31 31 = 1 ∧ ¬ sgClosed s g ∧ bitOf w 30 then some (bitsOf w 29 27) else none

/-! ### Buckets (R268, R271) -/

/-- One byte in a bucket's unit. -/
def byteU : Nat := 2 ^ 32 * 10 ^ 9

/-- Tokens that a rate of `kbps` gives from a bucket's last update to `m`. -/
def Bucket.gain (b : Bucket) (kbps m : Nat) : Nat := kbps * 125 * (m - b.at_)

/-- A bucket refilled up to `m`. -/
def Bucket.refill (b : Bucket) (kbps m : Nat) : Bucket := ⟨b.missing - b.gain kbps m, m⟩

/-- A bucket of `cap` bytes holds `n` bytes of tokens. -/
def Bucket.has (b : Bucket) (cap n : Nat) : Bool := decide (n * byteU + b.missing ≤ cap * byteU)

/-- A bucket without `n` bytes of tokens. -/
def Bucket.take (b : Bucket) (n : Nat) : Bucket := ⟨b.missing + n * byteU, b.at_⟩

/-- The bucket of the policer of port `p` and class `c` as its RATE has filled it up to now (R268). -/
def polBucket (s : State) (p c : Nat) : Bucket :=
  let k := 8 * p + c
  let b := (tget Bucket.init (epSt s p).pol c).refill (s.get F.EP_POL_RATE_RATE k) s.time.mono
  ⟨min b.missing (s.get F.EP_POL_BURST_BURST k * byteU), b.at_⟩

/-- The policer's tokens are settled before its RATE or BURST changes. -/
def polSettle (p c : Nat) (s : State) : State :=
  let b := polBucket s p c
  s.updEp p (fun x => { x with pol := tset Bucket.init x.pol c b })

/-- The ingress policer of port `p` and class `c` (R268): whether a frame of `n` bytes passes. -/
def police (p c n : Nat) (s : State) : Bool × State :=
  let k := 8 * p + c
  if !s.flag F.EP_POL_RATE_EN k then (true, s)
  else
    let b := polBucket s p c
    let ok := b.has (s.get F.EP_POL_BURST_BURST k) n
    (ok, s.updEp p (fun x => { x with pol := tset Bucket.init x.pol c (if ok then b.take n else b) }))

/-- Meter `m` (R271): 0 green, 1 yellow, 2 red, for a frame of `n` bytes. -/
def meterColour (m n : Nat) (s : State) : Nat × State :=
  let cir := tblBits s 3 m 0 24 0
  let eir := tblBits s 3 m 1 24 0
  let cbs := tblBits s 3 m 2 19 0
  let ebs := tblBits s 3 m 3 19 0
  let t := s.time.mono
  let c := tget Bucket.init s.ports.mc m
  let e := tget Bucket.init s.ports.me m
  let spill := c.gain cir t - c.missing
  let c := c.refill cir t
  let e := e.refill eir t
  let e := if tblBits s 3 m 0 30 30 = 1 then ⟨e.missing - spill, e.at_⟩ else e
  let col := if c.has cbs n then 0 else if e.has ebs n then 1 else 2
  let c := if col = 0 then c.take n else c
  let e := if col = 1 then e.take n else e
  (col, { s with ports := { s.ports with mc := tset Bucket.init s.ports.mc m c, me := tset Bucket.init s.ports.me m e } })

/-- Meter `m` on a frame of port `p`: whether it passes. -/
def meter (p m n : Nat) (s : State) : Bool × State :=
  if m = 0xFF ∨ tblBits s 3 m 0 31 31 = 0 then (true, s)
  else if tblBits s 3 m 0 28 28 = 1 ∧ tblBits s 3 m 0 27 27 = 1 then (false, s)
  else
    let r := meterColour m n s
    let s := r.2
    if r.1 = 2 then
      (false, if tblBits s 3 m 0 28 28 = 1 then portFaultFree 276 p m (s.tblPut 3 m 0 27 27 1) else s)
    else (r.1 == 0 || tblBits s 3 m 0 29 29 == 0, s)

/-! ### FRER recovery (R272, R273) -/

/-- One recovery function. -/
def frerSt (s : State) (k : Nat) : FrerSt := tget FrerSt.init s.ports.frer k

/-- A recovery function changed. -/
def State.updFrer (s : State) (k : Nat) (f : FrerSt → FrerSt) : State :=
  { s with ports := { s.ports with frer := tupd FrerSt.init s.ports.frer k f } }

/-- History length in force. -/
def histLen (s : State) (k : Nat) : Nat := let h := tblBits s 4 k 0 20 16; if h = 0 then 32 else h

/-- Number `q` passes recovery function `k`. -/
def frerAccept (k q hist : Nat) (top : Bool) (s : State) : State :=
  let s := s.updFrer k (fun x => { x with hist := hist, any := false })
  let s := if top then s.tblPut 4 k 1 15 0 q else s
  s.tblInc 4 k 2 31 0

/-- The judgement of number `q` by function `k` on a frame of port `p`: whether it passes (R272). -/
def frerJudge (p k q : Nat) (s : State) : Bool × State :=
  let x := frerSt s k
  let h := histLen s k
  let d := toSigned 16 ((q + 65536 - tblBits s 4 k 1 15 0) % 65536)
  if x.any then (true, frerAccept k q 1 true s)
  else if tblBits s 4 k 0 30 30 = 1 then
    (if d = 0 ∧ bitOf x.hist 0 then (false, s.tblInc 4 k 3 31 0) else (true, frerAccept k q 1 true s))
  else if d ≥ (h : Int) ∨ d ≤ -(h : Int) then
    let s := (s.tblInc 4 k 1 31 16).tblInc 4 k 3 31 0
    (false, if x.said then s else portFault 278 p k q (s.updFrer k (fun x => { x with said := true })))
  else if d ≤ 0 then
    (if bitOf x.hist (-d).toNat then (false, s.tblInc 4 k 3 31 0)
     else (true, frerAccept k q (x.hist ||| 2 ^ (-d).toNat) false s))
  else (true, frerAccept k q ((x.hist * 2 ^ d.toNat + 1) % 2 ^ h) true s)

/-- A tentative number is withdrawn from the history (R273). -/
def frerWithdraw (k q : Nat) (s : State) : State :=
  let d := (tblBits s 4 k 1 15 0 + 65536 - q) % 65536
  s.updFrer k (fun x => { x with hist := x.hist - (x.hist &&& 2 ^ d) })

/-- FRER_RESET (R272): function `k` resets and accepts the next number. -/
def execFrerReset (k : Fin 64) (s : State) : Res :=
  .next (if tblBits s 4 k 0 31 31 = 1 then
    let s := s.updFrer k (fun x => { x with hist := 0, any := true, resets := x.resets + 1 })
    portFault 277 0 k (frerSt s k).resets s
  else s)

/-! ### Stream filters (R269) -/

/-- Filter `i` matches a frame. -/
def filterMatches (s : State) (i p dst src vid pcp : Nat) : Bool :=
  tblBits s 0 i 0 31 31 == 1 && bitOf (tblBits s 0 i 0 23 0) p &&
  (tblBits s 0 i 0 29 29 == 0 ||
    (if tblBits s 0 i 0 30 30 = 0 then dst else src) == tblBits s 0 i 2 15 0 * 2 ^ 32 + tblBits s 0 i 1 31 0) &&
  (tblBits s 0 i 0 28 28 == 0 || tblBits s 0 i 2 27 16 == vid) &&
  (tblBits s 0 i 0 27 27 == 0 || tblBits s 0 i 0 26 24 == pcp)

/-- The filter that a frame uses: the first that matches in index order. -/
def filterOf (s : State) (p dst src vid pcp : Nat) : Option Nat :=
  (tblListed s 0).find? (fun i => filterMatches s i p dst src vid pcp)

/-- The class of a frame (R220): a gate's IPV, the filter's class, or the port's map of its PCP. -/
def frameClass (s : State) (p pcp : Nat) (f : Option Nat) : Nat :=
  let byPcp := bitsOf (s.rd R.SW_PORT_PCP p).toNat (3 * pcp + 2) (3 * pcp)
  match f with
  | none => byPcp
  | some i =>
    match sgIpv s (tblBits s 0 i 3 23 17) with
    | some v => v
    | none => if tblBits s 0 i 2 31 31 = 1 then tblBits s 0 i 2 30 28 else byPcp

/-- What the stream checks find: the drop reason of checks 4 to 7, the tentative number and the R-TAG to insert. -/
structure StreamRes where
  drop : Option Nat
  frer : Option (Nat × Nat)
  rtag : Option (Nat × Nat)
  deriving DecidableEq, Repr

/-- Checks 4 and 5 of Table 8-1 for a frame of `n` bytes that uses filter `i`. -/
def filterChecks (p i n : Nat) (s : State) : Option Nat × State :=
  let s := { s with sw := { s.sw with filtM := tupd 0 s.sw.filtM i (· + 1) } }
  let g := tblBits s 0 i 3 23 17
  if g ≠ 0x7F ∧ sgClosed s g then
    (some 0x03,
      if tblBits s 1 g 0 29 29 = 1 ∧ tblBits s 1 g 0 28 28 = 0 then portFaultFree 275 p g (sgShow g (s.tblPut 1 g 0 28 28 1)) else s)
  else if tblBits s 0 i 3 8 0 ≠ 0 ∧ tblBits s 0 i 3 8 0 * 32 < n then (some 0x04, s)
  else
    let r := meter p (tblBits s 0 i 3 31 24) n s
    if r.1 then (none, { r.2 with sw := { r.2.sw with filtP := tupd 0 r.2.sw.filtP i (· + 1) } }) else (some 0x04, r.2)

/-- Check 7, or the number of a generation function (R272, R273). -/
def filterFrer (p i : Nat) (seq : Option Nat) (s : State) : StreamRes × State :=
  let k := tblBits s 0 i 3 14 9
  if tblBits s 0 i 3 16 16 = 0 then (⟨none, none, none⟩, s)
  else if tblBits s 0 i 3 15 15 = 1 then
    (if tblBits s 5 k 0 31 31 = 1 then
      let q := tblBits s 5 k 1 15 0
      (⟨none, none, some (tblBits s 5 k 0 23 0, q)⟩, s.tblPut 5 k 1 15 0 (q + 1))
     else (⟨none, none, none⟩, s))
  else
    match seq with
    | none => (⟨none, none, none⟩, s)
    | some q =>
      if tblBits s 4 k 0 31 31 = 0 then (⟨none, none, none⟩, s)
      else
        let r := frerJudge p k q s
        if r.1 then (⟨none, some (k, q), none⟩, r.2) else (⟨some 0x09, none, none⟩, r.2)

/-- Checks 4 to 7 of Table 8-1. -/
def streamChecks (p n cls : Nat) (f seq : Option Nat) (s : State) : StreamRes × State :=
  let r : Option Nat × State := match f with | some i => filterChecks p i n s | none => (none, s)
  match r.1 with
  | some d => (⟨some d, none, none⟩, r.2)
  | none =>
    let q := police p cls n r.2
    if !q.1 then (⟨some 0x0C, none, none⟩, q.2)
    else match f with
      | some i => filterFrer p i seq q.2
      | none => (⟨none, none, none⟩, q.2)

/-! ### MACsec (R274 to R276) -/

/-- The port has a SecY (P0 to P5). -/
def msecOn (s : State) (p : Nat) : Bool := p < 6 && s.flag F.EP_MSEC_CTRL_EN p

/-- AN of a SecTAG, and whether its frame is encrypted (TCI.E). -/
def secAn (t : SecTag) : Nat := t.tci % 4
def secConf (t : SecTag) : Bool := bitOf t.tci 3

/-- The octets of a SecTAG as IEEE 802.1AE lays them out: EtherType, TCI and AN, short length, packet number, SCI. -/
def secOctets (t : SecTag) : List Nat :=
  [0x88, 0xE5, t.tci, t.sl] ++ beOct t.pn 4 ++ (match t.sci with | some n => beOct n 8 | none => [])

/-- Frames that use the uncontrolled port: EAPOL, and PTP where it bypasses (R274). -/
def msecBypass (s : State) (p ty : Nat) : Bool :=
  ty == 0x888E || (ty == 0x88F7 && s.flag F.EP_MSEC_CTRL_PTP_BYPASS p)

/-- The port verifies received frames, so that it never cuts through (R240, R276). -/
def msecVerifies (s : State) (p : Nat) : Bool := msecOn s p && s.get F.EP_MSEC_CTRL_VALIDATE p != 0

/-- The receive SC of a SecTAG: by its SCI, or the single valid SC. -/
def rxSc (s : State) (p : Nat) (t : SecTag) : Option Nat :=
  let valid := (List.range 8).filter (fun c => s.flag F.EP_RXSC_CTRL_VALID (8 * p + c))
  match t.sci with
  | some v => valid.find? (fun c => s.get64 R.EP_RXSC_SCI_LO R.EP_RXSC_SCI_HI (8 * p + c) == v)
  | none => match valid with | [c] => some c | _ => none

/-- Octets of a frame that are not encrypted (R274): all of it, or with CONFIDENTIAL the addresses and the confidentiality offset. -/
def MsecSa.plain (x : MsecSa) (l : List Nat) : Nat := if x.conf then 12 + x.ofs else l.length

/-- The round keys of the SAK, and the pre-counter block of GCM-AES-XPN-256: its IV is SSCI and packet number exclusive-ored with the
salt. -/
def MsecSa.keys (x : MsecSa) : List (List Nat) := aesKeys (x.key.take 32)
def MsecSa.j0 (x : MsecSa) : Nat := beNat (xorOct (beOct x.ssci 4 ++ beOct x.pn 8) (x.key.drop 32)) * 2 ^ 32 + 1

/-- A frame without FCS enciphered, or deciphered: counter mode is its own inverse, and goes octet by octet as they come. -/
def MsecSa.cipher (x : MsecSa) (l : List Nat) : List Nat :=
  let d := l.drop (x.plain l)
  l.take (x.plain l) ++ gctr x.keys (x.j0 / 2 ^ 32) (x.j0 + 1) d ((d.length + 15) / 16)

/-- The ICV of a frame as it is on the wire, with a SecTAG of octets `tag`. -/
def MsecSa.icv (x : MsecSa) (tag l : List Nat) : List Nat :=
  let k := x.plain l
  gcmTag x.keys (beNat (aesBlock x.keys (List.replicate 16 0))) x.j0 (l.take 12 ++ tag ++ (l.take k).drop 12) (l.drop k)

/-- CONF_OFS in octets (Table 9-5). -/
def confOfs (s : State) (p : Nat) : Nat := match s.get F.EP_MSEC_CTRL_CONF_OFS p with | 1 => 30 | 2 => 50 | _ => 0

/-- The packet number that its 32 bits and the lowest acceptable one spell (PRESUMED as IEEE 802.1AE has it for XPN, log 27). -/
def fullPn (low pn : Nat) : Nat :=
  let hi := low / 2 ^ 32
  (if bitOf low 31 ∧ ¬ bitOf pn 31 then hi + 1 else hi) * 2 ^ 32 + pn

/-- The receive SA of a SecTAG: its number among the port's SAs, where its SC and the SA are valid (R276). -/
def rxSa (s : State) (p : Nat) (t : SecTag) : Option Nat :=
  match rxSc s p t with
  | some c => if s.flag F.EP_RXSA_CTRL_VALID (32 * p + (4 * c + secAn t)) then some (4 * c + secAn t) else none
  | none => none

/-- The lowest acceptable packet number of receive SA `a`. -/
def lowPn (s : State) (p a : Nat) : Nat := s.get64 R.EP_RXSA_PN_LO R.EP_RXSA_PN_HI (32 * p + a)

/-- What deciphers a frame with a SecTAG: the SA's key as it is when the frame's first cell arrives.  With VALIDATE = Disabled the SecTAG is
removed and nothing else. -/
def rxMsec (s : State) (p : Nat) (sec : Option SecTag) : Option MsecSa :=
  match sec with
  | none => none
  | some t =>
    if !msecVerifies s p then none
    else match rxSa s p t with
      | none => none
      | some a =>
        match tget none (epSt s p).keys (4 + a) with
        | some k => some ⟨k.2, (s.rd R.EP_RXSA_SSCI (32 * p + a)).toNat, fullPn (lowPn s p a) t.pn, secAn t, t.sci, secConf t, confOfs s p⟩
        | none => none

/-- What verification finds: 0 good, or the EP_CNT number of the failure, with the SA and the packet number (R276). -/
def msecVerdict (s : State) (p : Nat) (t : SecTag) (icvOk : Bool) : Nat × Nat × Nat :=
  match rxSa s p t with
  | none => (5, (match rxSc s p t with | some c => 4 * c + secAn t | none => 0), t.pn)
  | some a =>
    let pn := fullPn (lowPn s p a) t.pn
    if !icvOk then (4, a, pn)
    else if s.flag F.EP_MSEC_CTRL_REPLAY_PROTECT p && decide (pn < lowPn s p a) then (6, a, pn)
    else (0, a, pn)

/-- The first drop of a beat raises FS281. -/
def msecDrop (p sa pn : Nat) (s : State) : State :=
  if (epSt s p).said281 then s
  else portFault 281 p sa (pn / 2 ^ 32) (s.updEp p (fun x => { x with said281 := true }))

/-- Check 10 of Table 8-1: whether a frame of EtherType `ty` passes MACsec (R276): one with a SecTAG is verified whatever it carries. -/
def msecRx (p ty : Nat) (t : Option SecTag) (icvOk : Bool) (s : State) : Bool × State :=
  let v := s.get F.EP_MSEC_CTRL_VALIDATE p
  if !msecVerifies s p then (true, s)
  else
    match t with
    | none => if msecBypass s p ty then (true, s) else
      let s := s.incSat F.EP_CNT_CNT (12 * p + 7)
      if v = 1 then (true, s) else (false, msecDrop p 0 0 s)
    | some t =>
      let r := msecVerdict s p t icvOk
      if r.1 = 0 then
        let low := r.2.2 + 1 - s.get F.EP_MSEC_WIN_WINDOW p
        (true, if lowPn s p r.2.1 < low then s.put64 R.EP_RXSA_PN_LO R.EP_RXSA_PN_HI (32 * p + r.2.1) low else s)
      else
        let s := s.incSat F.EP_CNT_CNT (12 * p + r.1)
        if v = 1 ∧ ¬ (r.1 = 4 ∧ secConf t) then (true, s) else (false, msecDrop p r.2.1 r.2.2 s)

/-- A copy of EtherType `ty` is protected on its way out of port `e` (R274). -/
def msecProtects (s : State) (e ty : Nat) : Bool :=
  msecOn s e && s.flag F.EP_MSEC_CTRL_PROTECT e && !msecBypass s e ty

/-- The controlled port holds transmission: its SA is not valid or exhausted (R275). -/
def msecHolds (s : State) (e : Nat) : Bool :=
  let a := s.get F.EP_MSEC_CTRL_TX_AN e
  !s.flag F.EP_TXSA_CTRL_VALID (4 * e + a) || (epSt s e).exh.contains a

/-- Bytes that protection adds: SecTAG, SCI where it is included, and ICV (R259: up to 32). -/
def msecExpansion (s : State) (e : Nat) : Nat := if s.flag F.EP_MSEC_CTRL_INCLUDE_SCI e then 32 else 24

/-- The SA that protects a copy which port `e` starts now (R274, R275). -/
def txMsec (s : State) (e : Nat) : MsecSa :=
  let a := s.get F.EP_MSEC_CTRL_TX_AN e
  let i := 4 * e + a
  let key := match tget none (epSt s e).keys a with | some k => k.2 | none => []
  ⟨key, (s.rd R.EP_TXSA_SSCI i).toNat, s.get64 R.EP_TXSA_PN_LO R.EP_TXSA_PN_HI i, a,
    if s.flag F.EP_MSEC_CTRL_INCLUDE_SCI e then some (s.get64 R.EP_MSEC_TXSCI_LO R.EP_MSEC_TXSCI_HI e) else none,
    s.flag F.EP_MSEC_CTRL_CONFIDENTIAL e, confOfs s e⟩

/-- The SecTAG of a protected frame whose secure data is `n` octets long: SC with the SCI, E and C with encryption, the short length below 48. -/
def MsecSa.tag (x : MsecSa) (n : Nat) : SecTag :=
  ⟨b2n x.sci.isSome * 32 + b2n x.conf * 12 + x.an, if n < 48 then n else 0, x.pn % 2 ^ 32, x.sci⟩

/-- A frame without FCS as MACsec sends it: SecTAG after the addresses, secure data, ICV (R274). -/
def MsecSa.protect (x : MsecSa) (body : List Nat) : List Nat :=
  let tag := secOctets (x.tag (body.length - 12))
  let l := x.cipher body
  l.take 12 ++ tag ++ l.drop 12 ++ x.icv tag l

/-- A protected copy takes the SA's next PN (R275). -/
def msecTake (e : Nat) (s : State) : State :=
  let a := s.get F.EP_MSEC_CTRL_TX_AN e
  let i := 4 * e + a
  let pn := s.get64 R.EP_TXSA_PN_LO R.EP_TXSA_PN_HI i
  let s := (s.put64 R.EP_TXSA_PN_LO R.EP_TXSA_PN_HI i (pn + 1)).incSat F.EP_CNT_CNT (12 * e + 8)
  let hi := (pn + 1) / 2 ^ 32
  let s :=
    if s.get F.EP_MSEC_PNTHR_THR e ≤ hi ∧ a ∉ (epSt s e).thrSaid then
      let s := (s.updEp e (fun x => { x with thrSaid := a :: x.thrSaid })).incSat F.EP_CNT_CNT (12 * e + 9)
      portFault 279 e a hi (epEvt e 28 s)
    else s
  if pn + 1 = 2 ^ 64 then
    portFault 280 e a 0xFFFFFFFF (epEvt e 27 (s.updEp e (fun x => { x with exh := a :: x.exh })))
  else s

end Sys2Proof.Machine
end

