-- ==== Sys2Proof/Machine/Switch.lean ====
section
/-!
DEFINITION. The switch core (chapter 8): forwarding database, admission and charges, crossbar, cut-through, ageing, flush
and audit; and transmit selection with its gates and shapers (chapter 9).
-/

namespace Sys2Proof.Machine

/-- A switch source with the record of R254. -/
def swFault (n p c v : Nat) (s : State) : State := s.raise n (p * 2 ^ 16 + c * 2 ^ 12) v 0

/-- A switch source whose VALUE the spec does not state: a free value. -/
def swFaultFree (n p c : Nat) (s : State) : State :=
  let d := s.draw
  swFault n p c (Config.freeNat 21 d.1 % 2 ^ 32) d.2

/-- An event bit of SW_EVT, with interrupt 768 for bits [31:26] and 769 for bit 0 (R255). -/
def swEvt (bit : Nat) (s : State) : State :=
  let s := s.wr R.SW_EVT 0 (s.rd R.SW_EVT 0 ||| BitVec.ofNat 32 (2 ^ bit))
  if bitOf (s.rd R.SW_IE 0).toNat bit then s.raiseIrq (if bit = 0 then 769 else 768) else s

/-- A drop of reason `r` at port `p` and class `c` (R230); a drop with 0x06 empties the pool for FS259. -/
def countDrop (p c r : Nat) (s : State) : State :=
  let s := s.incSat F.SW_DROP_CNT (128 * p + 16 * c + r)
  if r = 6 then
    let s := swEvt 29 s
    if s.sw.said259 then s else swFaultFree 259 p c { s with sw := { s.sw with said259 := true } }
  else s

/-- Line rate of a port in bit/s (Table 9-1, R257). -/
def lineRate (s : State) (p : Nat) : Nat :=
  if p < 2 ∨ 20 ≤ p then 25 * 10 ^ 9
  else if p < 6 then (match s.get F.EP_STAT_SPEED_ACT p with | 1 => 25 * 10 ^ 8 | 2 => 5 * 10 ^ 9 | _ => 10 ^ 10)
  else if p < 14 then 10 ^ 9
  else if p < 16 then 10 ^ 8
  else 10 ^ 7

/-- The fabric ports of the endpoint of an internal port (R260): the VE pages and the port's own fence (R350), or DICT. -/
def endpointPorts (p : Nat) : List Nat := if p = 23 then [0x080] else [0x1003, 0x2000 + p]

/-- The link of a port is up: of an internal port while its endpoint is not fenced (R260). -/
def portUp (s : State) (p : Nat) : Bool :=
  if 20 ≤ p then !(endpointPorts p).any (fenced s) else s.flag F.SW_PORT_STAT_LINK_UP p

/-- The clock of the switch core, or of the Ethernet ports for an external port, is stopped: no traffic (R347). -/
def swGated (s : State) (p : Nat) : Bool :=
  (portSt s 0x010).causes.contains causePower || (p < 20 && (portSt s 0x020).causes.contains causePower)

/-- Copies that arrive for the port are flushed (R243): its link went down with FLUSH_ON_DOWN set and is down still. -/
def flushing (s : State) (p : Nat) : Bool := s.flag F.SW_PORT_STAT_FLUSHING p && !portUp s p

/-- EP_STAT and SW_PORT_STAT of a port as they read: an internal port's link is its endpoint's fence (R252, R260). -/
def epStatWord (s : State) (p : Nat) : Nat :=
  let w := (s.rd R.EP_STAT p).toNat
  if 20 ≤ p then withBits w 31 31 (b2n (portUp s p)) else w
def swStatWord (s : State) (p : Nat) : Nat :=
  withBits (withBits (s.rd R.SW_PORT_STAT p).toNat 31 31 (b2n (portUp s p))) 30 30 (b2n (flushing s p))

/-- The port takes part in switching (R222). -/
def portEn (s : State) (p : Nat) : Bool := s.flag F.SW_PORT_CFG_EN p

/-! ### Frames and copies -/

/-- One frame. -/
def frameSt (s : State) (f : Nat) : SwFrame := tget SwFrame.none s.sw.frames f

/-- A frame replaced. -/
def State.setFrame (s : State) (f : Nat) (x : SwFrame) : State :=
  { s with sw := { s.sw with frames := tset SwFrame.none s.sw.frames f x } }

/-- A frame changed. -/
def State.updFrame (s : State) (f : Nat) (g : SwFrame → SwFrame) : State := s.setFrame f (g (frameSt s f))

/-- The copy of a frame for a port. -/
def copyOf (s : State) (f e : Nat) : Option SwCopy := (frameSt s f).copies.find? (fun c => c.port == e)

/-- A copy changed. -/
def State.updCopy (s : State) (f e : Nat) (g : SwCopy → SwCopy) : State :=
  s.updFrame f (fun x => { x with copies := x.copies.map (fun c => if c.port = e then g c else c) })

/-- Every live copy with its frame's number and frame, in the order of arrival. -/
def liveCopies (s : State) : List (Nat × SwFrame × SwCopy) :=
  s.sw.frames.flatMap (fun e => e.2.copies.map (fun c => (e.1, e.2, c)))

/-- The copy that port `e` transmits or cuts through. -/
def txCopy (s : State) (e : Nat) : Option (Nat × SwFrame × SwCopy) :=
  (liveCopies s).find? (fun x => x.2.2.port == e && x.2.2.st == 2)

/-- The copies of egress queue (e, c), oldest first. -/
def egressQueue (s : State) (e c : Nat) : List (Nat × SwFrame × SwCopy) :=
  ((liveCopies s).filter (fun x => x.2.2.port == e && x.2.2.st == 1 && x.2.1.cls == c)).mergeSort
    (fun x y => decide (x.2.2.qseq ≤ y.2.2.qseq))

/-- The copies of the VOQ from port `i` to queue (e, c), oldest first. -/
def voq (s : State) (i e c : Nat) : List (Nat × SwFrame × SwCopy) :=
  (liveCopies s).filter (fun x => x.2.2.port == e && x.2.2.st == 0 && x.2.1.cls == c && x.2.1.ingress == i)

/-! ### Gates and shapers (R261 to R267) -/

/-- The gate of class `c` at port `e` is open (R262). -/
def gateOpen (s : State) (e c : Nat) : Bool :=
  !s.flag F.EP_GCL_CTRL_EN e || bitOf (s.get F.EP_GCL_STAT_GATES e) c

/-- GATES of an entry word. -/
def gatesOf (w : Nat) : Nat := bitsOf w 31 24

/-- BEAT_PERIOD in ns. -/
def periodNs (s : State) : Nat := s.get F.BEAT_PERIOD_PERIOD 0

/-- Length of a list's cycle in ns (R263). -/
def cycleLen (s : State) (g : Gcl) : Nat := if g.beatLock then max 1 g.cycleBeats * periodNs s else g.cycleNs

/-- The starts of entries from index `j` at time `t` on, below `ce`, with their words. -/
def entryStarts (l : List Nat) (j t ce : Nat) : List (Nat × Nat) :=
  ((((List.range l.length).filter (fun k => decide (j ≤ k) && interval (l.getD k 0) != 0)).foldl
    (fun (acc : List (Nat × Nat) × Nat) k => (acc.1 ++ [(acc.2, l.getD k 0)], acc.2 + interval (l.getD k 0)))
    ([], t)).1).filter (fun x => decide (x.1 < ce))

/-- The network time in ns at which a pending list takes over (R264): the first cycle start of its settings that is late enough. -/
def adoptAt (s : State) (e : Nat) (g : Gcl) : Nat :=
  if g.beatLock then
    let k := ((List.range (g.cycleBeats + 2)).map (· + 1)).find? (fun k =>
      decide (2 ≤ (epSt s e).pendBeats + k) && (s.get64 R.BEAT_NBI_LO R.BEAT_NBI_HI 0 + k) % g.cycleBeats == 0)
    s.get64 R.BEAT_LAST_LO R.BEAT_LAST_HI 0 + k.getD 1 * periodNs s
  else
    let t := s.nowNs + (10000 - (s.time.mono - (epSt s e).pendAt) / 2 ^ 32)
    if t ≤ g.base then g.base else g.base + (t - g.base + (g.cycleNs - 1)) / g.cycleNs * g.cycleNs

/-- The entries of a list's cycles from a cycle start `t` on, over two cycles. -/
def cycleStarts (l : List Nat) (t len : Nat) : List (Nat × Nat) :=
  let one (t : Nat) : List (Nat × Nat) := match nextEntry l 0 with
    | some _ => entryStarts l 0 t (t + len)
    | none => [(t, l.getD (l.length - 1) 0)]
  one t ++ one (t + len)

/-- The next closing of class `c`'s gate at port `e` in network ns, within the present cycle and the next, or the first two cycles of a
pending list that takes over before. -/
def nextClose (s : State) (e c : Nat) : Option Nat :=
  if !s.flag F.EP_GCL_CTRL_EN e then none
  else
    let x := epSt s e
    let len := cycleLen s x.oper
    let ce := if x.hold then s.nowNs + (len - (((s.nowNs : Int) - x.cycleAt) % (len : Int)).toNat) else x.cycleAt + len
    let l := x.oper.list
    let up : List (Nat × Nat) := (if x.hold ∨ nextEntry l (s.get F.EP_GCL_STAT_IDX e + 1) = none then []
      else entryStarts l (s.get F.EP_GCL_STAT_IDX e + 1) x.entryEnd ce) ++ cycleStarts l ce len
    let up : List (Nat × Nat) := match x.pend with
      | some g => up.filter (fun y => decide (y.1 < adoptAt s e g)) ++ cycleStarts g.list (adoptAt s e g) (cycleLen s g)
      | none => up
    (up.find? (fun y => !bitOf (gatesOf y.2) c)).map (·.1)

/-- A copy of `n` bytes with its overhead ends before the next closing of its gate (R261). -/
def endsInTime (s : State) (e c n : Nat) : Bool :=
  match nextClose s e c with
  | none => true
  | some t => decide ((n + 20) * 8 * 10 ^ 9 * 2 ^ 32 < (t * 2 ^ 32 - s.time.now) * lineRate s e)

/-- One shaper. -/
def cbsSt (s : State) (e c : Nat) : CbsSt := tget CbsSt.init (epSt s e).cbs c

/-- Idle slope in bit/s: above the line rate it acts as that (R266). -/
def slope (s : State) (e c : Nat) : Nat := min (s.get F.EP_CBS_SLOPE_IDLE (8 * e + c) * 1000) (lineRate s e)

/-- One bit of credit in the shaper's unit. -/
def bitU : Nat := 10 ^ 9 * 2 ^ 32

/-- HI and LO in bits, rounded toward 0 (R266). -/
def cbsHi (s : State) (e c : Nat) : Int := (s.get F.EP_CBS_MAXINT_MAX_INT (8 * e + c) * 8 * slope s e c / lineRate s e : Nat)
def cbsLo (s : State) (e c : Nat) : Int :=
  -(((s.get F.SW_PORT_HDRM_MAX_FRAME e + 20) * 8 * (lineRate s e - slope s e c) / lineRate s e : Nat) : Int)

/-- Credit as the integer part of its bits (R266). -/
def cbsBits (k : Int) : Int := Int.tdiv k bitU

/-- The three credit registers of a class follow its shaper. -/
def cbsShow (e c : Nat) (s : State) : State :=
  let i := 8 * e + c
  let s := s.put F.EP_CBS_CREDIT_VALUE i (ofSigned 32 (cbsBits (cbsSt s e c).credit))
  (s.put F.EP_CBS_HICRED_VALUE i (ofSigned 32 (cbsHi s e c))).put F.EP_CBS_LOCRED_VALUE i (ofSigned 32 (cbsLo s e c))

/-- A shaper replaced. -/
def setCbs (e c : Nat) (x : CbsSt) (s : State) : State :=
  cbsShow e c (s.updEp e (fun p => { p with cbs := tset CbsSt.init p.cbs c x }))

/-- A credit lowered while its class transmits, down to LO at most (R266). -/
def cbsDown (s : State) (e c d : Nat) (k : Int) : Int := min k (max (k - (d : Int)) (cbsLo s e c * bitU))

/-- The credit of class `c` of port `e` brought up to now under the conditions in force since its last update (R266). -/
def cbsSettle (e c : Nat) (s : State) : State :=
  if !s.flag F.EP_CBS_SLOPE_EN (8 * e + c) then s
  else
    let x := cbsSt s e c
    let m := s.time.mono
    let dt := m - x.at_
    let sl := slope s e c
    let r := lineRate s e
    match x.txLeft with
    | some left =>
      let b := min left (r * dt)
      setCbs e c { credit := cbsDown s e c (b * (r - sl) / r) x.credit, at_ := m, txLeft := some (left - b) } s
    | none =>
      let up : Int := (dt * sl : Nat)
      let k : Int :=
        if !gateOpen s e c then x.credit
        else if (egressQueue s e c).isEmpty then (if 0 < x.credit then 0 else min 0 (x.credit + up))
        else max x.credit (min (x.credit + up) (cbsHi s e c * bitU))
      setCbs e c { credit := k, at_ := m, txLeft := none } s

/-- Every class of a port. -/
def cbsSettleAll (e : Nat) (s : State) : State := s.each (List.range 8) (cbsSettle e)

/-- The credit of the class admits a start (R261). -/
def cbsAllows (s : State) (e c : Nat) : Bool :=
  !s.flag F.EP_CBS_SLOPE_EN (8 * e + c) || decide (0 ≤ (cbsSt s e c).credit)

/-- A transmission of `n` bytes of class `c` starts. -/
def cbsStart (e c n : Nat) (s : State) : State :=
  let x := { cbsSt s e c with txLeft := some ((n + 20) * 8 * bitU), at_ := s.time.mono }
  if s.flag F.EP_CBS_SLOPE_EN (8 * e + c) then setCbs e c x s
  else s.updEp e (fun p => { p with cbs := tset CbsSt.init p.cbs c x })

/-- A transmission of class `c` ends: what is left of its wire bits is charged, and the credit of a queue that is empty is
not positive. -/
def cbsEnd (e c : Nat) (s : State) : State :=
  let s := cbsSettle e c s
  let x := cbsSt s e c
  match x.txLeft with
  | some left =>
    let r := lineRate s e
    if s.flag F.EP_CBS_SLOPE_EN (8 * e + c) then
      setCbs e c { credit := cbsDown s e c (left * (r - slope s e c) / r) x.credit, at_ := s.time.mono, txLeft := none } s
    else s.updEp e (fun p => { p with cbs := tset CbsSt.init p.cbs c { x with txLeft := none } })
  | none => s

/-- The cells of a copy of `n` bytes. -/
def cellsOf (n : Nat) : Nat := (n + 63) / 64

/-- EtherType of a frame for MACsec. -/
def frameType (x : SwFrame) : Nat := innerType x.octets

/-- The octets that port `e` puts between the addresses and the first type field: its VLAN tag, where it sends one. -/
def egressTag (s : State) (e : Nat) (x : SwFrame) : List Nat :=
  if bitOf (s.get F.SW_VLAN1_UNTAG x.vid) e then [] else [0x81, 0x00] ++ beOctets (x.pcp * 8192 +
    (if hasTag x.octets then beAt x.octets 14 2 / 4096 % 2 * 4096 else 0) + x.vid) 2

/-- Bytes of a frame, without FCS, as port `e` sends them before one-step modification: tag, R-TAG (R225, R273). -/
def egressForm (s : State) (e : Nat) (x : SwFrame) (body : List Nat) : List Nat :=
  let rest := body.drop (afterTag body)
  let strip := s.flag F.EP_CFG_RTAG_STRIP e
  let rest := if typeAt rest 0 = 0xF1C1 ∧ strip then rest.drop 6 else rest
  let rtag := match x.rtag with
    | some (m, q) => if bitOf m e ∧ ¬ strip then [0xF1, 0xC1, 0, 0] ++ beOctets q 2 else []
    | none => []
  body.take 12 ++ egressTag s e x ++ rtag ++ rest

/-- A frame's bytes as port `e` sends them, without FCS; the port's own frame goes as it is (R304). -/
def egressBody (s : State) (e : Nat) (x : SwFrame) : List Nat :=
  let body := x.octets.take (x.octets.length - 4)
  if x.own then body else egressForm s e x body

/-- The length of a copy as sent, FCS included, before MACsec. -/
def sentLen (s : State) (e : Nat) (x : SwFrame) : Nat :=
  min x.len (s.get F.SW_PORT_HDRM_MAX_FRAME x.ingress) + ((egressBody s e x).length + 4) - x.octets.length

/-- The length a copy's transmission is judged with (R261). -/
def judgedLen (s : State) (e : Nat) (x : SwFrame) (cut : Bool) : Nat :=
  (if cut then s.get F.SW_PORT_HDRM_MAX_FRAME x.ingress else sentLen s e x) +
  (if msecProtects s e (frameType x) then msecExpansion s e else 0)

/-- Class `c` may start a copy of frame `x` at port `e` (R261, R275). -/
def eligible (s : State) (e : Nat) (x : SwFrame) (cut : Bool) : Bool :=
  gateOpen s e x.cls && endsInTime s e x.cls (judgedLen s e x cut) && cbsAllows s e x.cls &&
  (decide (e < 20) || s.get F.SW_ICR_STAT_TX_CRED (e - 20) != 0) &&
  !(msecProtects s e (frameType x) && msecHolds s e)

/-- A copy starts on the wire: its timestamps are taken, its SA with the next PN, and its credit. -/
def startCopy (f e : Nat) (cut : Bool) (s : State) : State :=
  let x := frameSt s f
  let prot := msecProtects s e (frameType x)
  let n := judgedLen s e x false
  let dwell : Int := s.time.mono + txTrim s e - (x.mono + rxTrim s x.ingress)
  let t := txStamp s e
  let g := stepGen s
  let step := lastStep s
  let sa := if prot then some (txMsec s e) else none
  let s := s.updCopy f e (fun c => { c with st := 2, cut := cut, t0 := t, dwell := dwell, g0 := g, step0 := step, sa := sa })
  let s := if prot then msecTake e s else s
  cbsStart e x.cls n (cbsSettleAll e s)

/-! ### Charges (R232 to R236) -/

/-- The compact map is in force (R222). -/
def compactMap (s : State) : Bool := s.get F.SW_STAT_MAP 0 == 0

/-- Threshold of class `c` in the compact map (R234). -/
def threshold (s : State) (c : Nat) : Nat :=
  let a := bitsOf (s.rd R.SW_ALPHA 0).toNat (4 * c + 2) (4 * c)
  let fr := s.get F.SW_SHFREE_SH_FREE 0
  if 4 ≤ a then fr * 2 ^ (a - 4) else fr / 2 ^ (4 - a)

/-- MIN_USED of a queue. -/
def minUsed (s : State) (q : Nat) : Nat := tget 0 s.sw.minUsed q

/-- The admission of a copy's first cell (R234): the drop reason, or none. -/
def admission (s : State) (e c : Nat) : Option Nat :=
  let q := 8 * e + c
  if minUsed s q < s.get F.SW_Q_MIN_MIN q then none
  else if s.get F.SW_SHFREE_SH_FREE 0 = 0 then some 6
  else if s.get F.SW_Q_SH_SH_OCC q < (if compactMap s then threshold s c else s.get F.SW_Q_LIMIT_LIMIT q) then none
  else some 5

/-- OCC of a queue one higher, with its peak. -/
def occUp (q : Nat) (s : State) : State :=
  let n := s.get F.SW_Q_OCC_OCC q + 1
  (s.put F.SW_Q_OCC_OCC q n).put F.SW_Q_PEAK_PEAK q (max n (s.get F.SW_Q_PEAK_PEAK q))

/-- One cell of a copy of frame `f` takes a charge (R234), or finds none. -/
def chargeCell (f e : Nat) (s : State) : Bool × State :=
  let x := frameSt s f
  let q := 8 * e + x.cls
  if minUsed s q < s.get F.SW_Q_MIN_MIN q then
    (true, (occUp q { s with sw := { s.sw with minUsed := tset 0 s.sw.minUsed q (minUsed s q + 1) } }).updCopy f e
      (fun c => { c with mins := c.mins + 1 }))
  else if 0 < s.get F.SW_SHFREE_SH_FREE 0 then
    (true, ((occUp q (s.put F.SW_SHFREE_SH_FREE 0 (s.get F.SW_SHFREE_SH_FREE 0 - 1))).put F.SW_Q_SH_SH_OCC q
      (s.get F.SW_Q_SH_SH_OCC q + 1)).updCopy f e (fun c => { c with shared := c.shared + 1 }))
  else if s.get F.SW_PORT_STAT_HR_USED x.ingress < s.get F.SW_PORT_HDRM_HDRM x.ingress then
    (true, ((occUp q s).put F.SW_PORT_STAT_HR_USED x.ingress (s.get F.SW_PORT_STAT_HR_USED x.ingress + 1)).updCopy f e
      (fun c => { c with head := c.head + 1 }))
  else (false, s)

/-- The charges of a copy return to their pools. -/
def releaseCharges (x : SwFrame) (c : SwCopy) (s : State) : State :=
  let q := 8 * c.port + x.cls
  let s := { s with sw := { s.sw with minUsed := tset 0 s.sw.minUsed q (minUsed s q - c.mins) } }
  let s := s.put F.SW_SHFREE_SH_FREE 0 (s.get F.SW_SHFREE_SH_FREE 0 + c.shared)
  let s := s.put F.SW_Q_SH_SH_OCC q (s.get F.SW_Q_SH_SH_OCC q - c.shared)
  let s := s.put F.SW_PORT_STAT_HR_USED x.ingress (s.get F.SW_PORT_STAT_HR_USED x.ingress - c.head)
  s.put F.SW_Q_OCC_OCC q (s.get F.SW_Q_OCC_OCC q - (c.mins + c.shared + c.head))

/-- A mismatch of check `kind` is recorded (R247, R248); `first`, where SW_AUDIT_DETAIL does not hold an earlier difference of this audit. -/
def auditHit (kind p diff : Nat) (first : Bool) (s : State) : State :=
  let d := min diff (2 ^ 18 - 1)
  let s := if first then s.wr R.SW_AUDIT_DETAIL 0 (BitVec.ofNat 32 (kind * 2 ^ 28 + p * 2 ^ 23 + d)) else s
  if kind = 5 then swFault 257 p 0 d (swEvt 30 (s.put F.SW_AUDIT_CREDIT 0 1))
  else swFault 256 p 0 d (swEvt 31 (s.put F.SW_AUDIT_MISMATCH 0 1))

/-- The next cell: the lowest-numbered one whose allocated bit is clear (DESIGN CHOICE, log 64: the spec gives the free list no order). -/
def nextCellNo (s : State) : Nat :=
  ((List.range (s.sw.taken.length + 1)).find? (fun n => !tget false s.sw.taken n)).getD 0

/-- A cell of frame `f` is allocated in the shared buffer. -/
def allocCell (f : Nat) (s : State) : State :=
  let n := nextCellNo s
  let s := s.updFrame f (fun x => { x with held := x.held ++ [n] })
  let s := { s with sw := { s.sw with allocs := s.sw.allocs + 1, used := s.sw.used + 1, taken := tset false s.sw.taken n true } }
  s.put F.SW_INUSE_INUSE 0 (s.get F.SW_INUSE_INUSE 0 + 1)

/-- A cell is released; one whose allocated bit is clear is refused, counted in SW_AUDIT_DETAIL with KIND 4, and FS256 is raised (R247). -/
def releaseCell (n : Nat) (s : State) : State :=
  if tget false s.sw.taken n then
    let s := { s with sw := { s.sw with rels := s.sw.rels + 1, used := s.sw.used - 1, taken := tset false s.sw.taken n false } }
    s.put F.SW_INUSE_INUSE 0 (s.get F.SW_INUSE_INUSE 0 - 1)
  else
    auditHit 4 0 (if s.get F.SW_AUDIT_DETAIL_KIND 0 = 4 then s.get F.SW_AUDIT_DETAIL_DIFF 0 + 1 else 1) true s

/-- The cells of a frame that no copy holds any more are released (R236). -/
def releaseCells (f : Nat) (s : State) : State :=
  let l := (frameSt s f).held
  (s.updFrame f (fun x => { x with held := [] })).each l releaseCell

/-- The transmit completion of an internal sender (R231). -/
def frameComplete (x : SwFrame) (s : State) : State :=
  match x.origin with
  | some o => veTxDone o.ve o.tag x.sent (match x.drop with | some d => d.2 | none => 0) o.len s
  | none => s

/-- A frame without live copies gives its cells back, and is gone once it has ended. -/
def settleFrame (f : Nat) (s : State) : State :=
  let x := frameSt s f
  if x.copies.isEmpty then
    let s := releaseCells f s
    if x.ended then frameComplete x (s.setFrame f SwFrame.none) else s
  else s

/-- The drop of the lowest-numbered egress port is the one a completion names (R231). -/
def noteDrop (d : Option (Nat × Nat)) (e r : Nat) : Option (Nat × Nat) :=
  match d with
  | some (p, c) => if e < p then some (e, r) else some (p, c)
  | none => some (e, r)

/-- A port in the drain phase of TC10 whose egress queues are empty sends its low-power sleep request (R278). -/
def tc10Drained (e : Nat) (s : State) : State :=
  if s.get F.EP_STAT_TC10_STATE e = 1 ∧ ¬ (liveCopies s).any (fun x => x.2.2.port == e && x.2.2.st != 0) then
    (s.put F.EP_STAT_TC10_STATE e 2).emit (.pin 2 e 0)
  else s

/-- The copy of frame `f` for port `e` ends with drop code `r` without a count of its own. -/
def endCopy (f e r : Nat) (s : State) : State :=
  match copyOf s f e with
  | none => s
  | some c =>
    let x := frameSt s f
    let s := if c.st = 2 then cbsEnd e x.cls s else cbsSettle e x.cls s
    let s := releaseCharges x c s
    tc10Drained e (settleFrame f (s.updFrame f (fun y =>
      { y with copies := y.copies.filter (fun k => k.port != e), drop := noteDrop y.drop e r })))

/-- The copy is dropped and counted at its egress port (R230). -/
def dropCopy (f e r : Nat) (s : State) : State :=
  if (copyOf s f e).isSome then countDrop e (frameSt s f).cls r (endCopy f e r s) else s

/-! ### The forwarding database (R224 to R227, R249) -/

/-- The bucket of a key: bits [11:0] of the CRC-32 over FID and MAC (R224). -/
def fdbBucket (fid mac : Nat) : Nat := crc32 (beOctets fid 2 ++ beOctets mac 6) % 4096

/-- One entry. -/
def fdbEnt (s : State) (i : Nat) : Option FdbEnt := tget none s.sw.fdb i

/-- An entry set, with SW_FDB_USED after it. -/
def State.setFdb (s : State) (i : Nat) (x : Option FdbEnt) : State :=
  let s := { s with sw := { s.sw with fdb := tset none s.sw.fdb i x } }
  s.put F.SW_FDB_USED_USED 0 s.sw.fdb.length

/-- The index of a key's entry. -/
def fdbFind (s : State) (fid mac : Nat) : Option Nat :=
  ((List.range 4).map (fun w => 4 * fdbBucket fid mac + w)).find? (fun i =>
    match fdbEnt s i with | some x => x.fid == fid && x.mac == mac | none => false)

/-- The first free way of a key's bucket. -/
def fdbFree (s : State) (fid mac : Nat) : Option Nat :=
  ((List.range 4).map (fun w => 4 * fdbBucket fid mac + w)).find? (fun i => (fdbEnt s i).isNone)

/-- A MAC is a group address. -/
def isGroup (mac : Nat) : Bool := bitOf mac 40

/-- Broadcast. -/
def isBcast (mac : Nat) : Bool := mac == 0xFFFFFFFFFFFF

/-- A frame's source is learned (R226). -/
def learn (p vid src : Nat) (s : State) : State :=
  let fid := s.get F.SW_VLAN2_FID vid
  if !s.flag F.SW_PORT_CFG_LEARN p || !s.flag F.SW_VLAN0_LEARN vid || isGroup src then s
  else
    match fdbFind s fid src with
    | some i =>
      (match fdbEnt s i with
       | some x => if x.static then s else s.setFdb i (some { x with ports := 2 ^ p, hit := true, idle := 0 })
       | none => s)
    | none =>
      match fdbFree s fid src with
      | some i => s.setFdb i (some ⟨fid, src, false, true, 2 ^ p, 0⟩)
      | none =>
        let s := s.incSat F.SW_FDB_STAT_LEARN_FAIL 0
        if s.sw.said261 then s
        else swFaultFree 261 p 0 (swEvt 28 { s with sw := { s.sw with said261 := true } })

/-- A lookup marks its entry as hit. -/
def fdbHit (i : Nat) (s : State) : State :=
  match fdbEnt s i with
  | some x => s.setFdb i (some { x with hit := true, idle := 0 })
  | none => s

/-- The destination set of a frame (R225) as a port mask. -/
def destSet (p vid dst : Nat) (s : State) : Nat × State :=
  let fid := s.get F.SW_VLAN2_FID vid
  let mem := s.get F.SW_VLAN0_MEMBER vid
  let r : Nat × State :=
    if isBcast dst then (mem, s)
    else
      match fdbFind s fid dst with
      | some i => ((match fdbEnt s i with | some x => x.ports | none => 0), fdbHit i s)
      | none => (if s.flag (if isGroup dst then F.SW_PORT_CFG_UNK_MC else F.SW_PORT_CFG_UNK_UC) p then mem else 0, s)
  let en := (List.range 24).foldl (fun a q => if portEn s q then a + 2 ^ q else a) 0
  let m := r.1 &&& mem &&& en
  (if s.flag F.SW_PORT_CFG_HAIRPIN p then m else m - (m &&& 2 ^ p), r.2)

/-- FDB_AGE_SCAN (R227): an entry idle over a whole age and at most one and a half is removed. -/
def execFdbAgeScan (s : State) : Res :=
  .next (if s.get F.SW_FDB_CFG_AGE_S 0 = 0 then s
  else s.each s.sw.fdb (fun e s =>
    match e.2 with
    | some x =>
      if x.static then s.setFdb e.1 (some { x with hit := false })
      else if 2 ≤ x.idle then s.setFdb e.1 none
      else s.setFdb e.1 (some { x with hit := false, idle := x.idle + 1 })
    | none => s))

/-- A command ends (R249): RESULT, INDEX, DONE, and interrupt 769. -/
def fdbDone (res idx : Nat) (s : State) : State :=
  let s := ((s.put F.SW_FDB_STAT_RESULT 0 res).put F.SW_FDB_STAT_INDEX 0 idx).put F.SW_FDB_STAT_DONE 0 1
  swEvt 0 (s.put F.SW_FDB_CMD_GO 0 0)

/-- The key that the key registers hold. -/
def fdbKey (s : State) : Nat × Nat :=
  (s.get F.SW_FDB_KEY_FID 0, s.get F.SW_FDB_KEY_MAC_HI 0 * 2 ^ 32 + s.get F.SW_FDB_MAC_LO_MAC 0)

/-- An entry returned in the key and data registers (R249). -/
def fdbReturn (x : Option FdbEnt) (s : State) : State :=
  match x with
  | some x =>
    let s := s.put F.SW_FDB_MAC_LO_MAC 0 x.mac
    let s := (s.put F.SW_FDB_KEY_FID 0 x.fid).put F.SW_FDB_KEY_MAC_HI 0 (x.mac / 2 ^ 32)
    s.wr R.SW_FDB_DATA 0 (BitVec.ofNat 32 (2 ^ 31 + b2n x.static * 2 ^ 30 + b2n x.hit * 2 ^ 29 + x.ports))
  | none => s.wr R.SW_FDB_DATA 0 0

/-- Exactly one bit of a mask is set. -/
def oneBit (m : Nat) : Bool := (List.range 24).any (fun i => m == 2 ^ i)

/-- An insert (OP 1 and OP 2). -/
def fdbInsert (static : Bool) (s : State) : State :=
  let (fid, mac) := fdbKey s
  let ports := s.get F.SW_FDB_DATA_PORTS 0
  if isBcast mac || (if isGroup mac then ports == 0 else !oneBit ports) then fdbDone 3 0 s
  else
    match (match fdbFind s fid mac with | some i => some i | none => fdbFree s fid mac) with
    | some i => fdbDone 0 i (s.setFdb i (some ⟨fid, mac, static, false, ports, 0⟩))
    | none => fdbDone 2 0 s

/-- Dynamic entries that a test holds of are removed (OP 4 and OP 5). -/
def fdbFlush (t : FdbEnt → Bool) (s : State) : State :=
  fdbDone 0 0 (s.each s.sw.fdb (fun e s =>
    match e.2 with | some x => if !x.static && t x then s.setFdb e.1 none else s | none => s))

/-- Command 0, LOOKUP. -/
def fdbLook (s : State) : State :=
  match fdbFind s (fdbKey s).1 (fdbKey s).2 with
  | some i => fdbDone 0 i (fdbReturn (fdbEnt s i) s)
  | none => fdbDone 1 0 s

/-- Command 3, DELETE. -/
def fdbDrop (s : State) : State :=
  match fdbFind s (fdbKey s).1 (fdbKey s).2 with
  | some i => fdbDone 0 i (s.setFdb i none)
  | none => fdbDone 1 0 s

/-- Command 6, READ_INDEX. -/
def fdbAt (i : Nat) (s : State) : State :=
  match fdbEnt s i with
  | some x => fdbDone 0 i (fdbReturn (some x) s)
  | none => fdbDone 1 i (fdbReturn none s)

/-- An FDB command (R249). -/
def fdbCmd (op : Nat) (s : State) : State :=
  match op with
  | 0 => fdbLook s
  | 1 => fdbInsert true s
  | 2 => fdbInsert false s
  | 3 => fdbDrop s
  | 4 => fdbFlush (fun x => x.fid == (fdbKey s).1) s
  | 5 => fdbFlush (fun x => bitOf x.ports (s.get F.SW_FDB_CMD_PORT 0)) s
  | 6 => fdbAt (s.get F.SW_FDB_CMD_INDEX 0) s
  | _ => fdbDone 3 0 s

/-- A write of SW_FDB_CMD with GO = 1 and operation `op`: ignored while a command runs. -/
def fdbGo (op : Nat) (v : Word) (s : State) : State :=
  if s.flag F.SW_FDB_CMD_GO 0 then s
  else
    let s := (s.put F.SW_FDB_CMD_PORT 0 (getBits v 20 16)).put F.SW_FDB_CMD_INDEX 0 (getBits v 13 0)
    fdbCmd op (s.put F.SW_FDB_CMD_OP 0 op)

/-- A row that writes SW_FDB_CMD. -/
def fdbRow (op init : Nat) (v : Word) (s : State) : Res := .next (s.busWrite init (R.SW_FDB_CMD.addr 0) 4 (fdbGo op v))

/-- FDB_LOOKUP (R249). -/
def execFdbLookup (init : Init) (value : Word) (s : State) : Res := fdbRow 0 init value s
/-- FDB_INSERT_STATIC (R249). -/
def execFdbInsertStatic (init : Init) (value : Word) (s : State) : Res := fdbRow 1 init value s
/-- FDB_INSERT_DYNAMIC (R249). -/
def execFdbInsertDynamic (init : Init) (value : Word) (s : State) : Res := fdbRow 2 init value s
/-- FDB_DELETE (R249). -/
def execFdbDelete (init : Init) (value : Word) (s : State) : Res := fdbRow 3 init value s
/-- FDB_FLUSH_FID (R249). -/
def execFdbFlushFid (init : Init) (value : Word) (s : State) : Res := fdbRow 4 init value s
/-- FDB_FLUSH_PORT (R249). -/
def execFdbFlushPort (init : Init) (value : Word) (s : State) : Res := fdbRow 5 init value s
/-- FDB_READ_INDEX (R249). -/
def execFdbReadIndex (init : Init) (value : Word) (s : State) : Res := fdbRow 6 init value s

/-- Every SW_Q_PEAK is cleared (Table 8-7): it then holds the present occupancy as the highest since the clear. -/
def clrPeak (s : State) : State :=
  s.each (List.range 192) (fun q s => s.put F.SW_Q_PEAK_PEAK q (s.get F.SW_Q_OCC_OCC q))

/-- CLR_PEAK (R252). -/
def execClrPeak (init : Init) (value : Word) (s : State) : Res :=
  .next (s.busWrite init (R.SW_CTRL.addr 0) 4 (fun s => if bitOf value.toNat 0 then clrPeak s else s))

/-! ### Arrival (R223, R228, R234, R240) -/

/-- The conditions of R240 for the copy of frame `f` to port `e`, except that the copy has just been admitted. -/
def cutsThrough (s : State) (f e : Nat) : Bool :=
  let x := frameSt s f
  s.flag F.SW_PORT_CFG_CT_EN x.ingress && s.flag F.SW_PORT_CFG_CT_EN e && !msecVerifies s x.ingress &&
  decide (lineRate s e ≤ lineRate s x.ingress) &&
  !(liveCopies s).any (fun y => y.2.2.port == e && y.2.1.cls == x.cls && y.2.2.st != 2 && y.1 != f) &&
  (txCopy s e).isNone && portUp s e &&
  !(liveCopies s).any (fun y => y.2.2.port == e && y.2.2.st == 1 && decide (x.cls < y.2.1.cls)) &&
  eligible s e x true

/-- One copy of frame `f` at its first cell: flushed, dropped by admission, or admitted with a charge, and then judged for
cut-through. -/
def admitCopy (f e : Nat) (s : State) : State :=
  let x := frameSt s f
  if flushing s e then
    countDrop e x.cls 8 (s.updFrame f (fun y => { y with drop := noteDrop y.drop e 8 }))
  else
    match admission s e x.cls with
    | some r => countDrop e x.cls r (s.updFrame f (fun y => { y with drop := noteDrop y.drop e r }))
    | none =>
      let s := cbsSettle e x.cls s
      let s := s.updFrame f (fun y => { y with copies := y.copies ++
        [⟨e, 0, false, 0, 0, 0, 0, gateOpen s e x.cls, 0, 0, 0, 0, 0, none, 0⟩] })
      let s := (chargeCell f e s).2
      if cutsThrough s f e then (startCopy f e true s).incSat F.SW_CT_CNT_CT_FRAMES e else s

/-- A frame is dropped before admission: counted at its ingress, completed at once with COPIES = 0 (R228, R231). -/
def dropFrame (p c r : Nat) (x : SwFrame) (s : State) : State :=
  frameComplete { x with drop := some (0, r), sent := 0 } (countDrop p c r s)

/-- The ports of a mask, lowest first. -/
def portsOf (m : Nat) : List Nat := (List.range 24).filter (bitOf m)

/-- A frame grown by octets as received, up to MAX_FRAME bytes (R229): what its SA deciphers follows (R276). -/
def growFrame (s : State) (x : SwFrame) (o : List Nat) : SwFrame :=
  let raw := (x.raw ++ o).take (s.get F.SW_PORT_HDRM_MAX_FRAME x.ingress)
  { x with cells := x.cells + 1, raw := raw, octets := match x.sa with | some a => a.cipher raw | none => raw }

/-- A frame's first cell at port `p` (R228): header checks, lookup, learning, admission of each copy. -/
def swArrive (p : Nat) (raw : List Nat) (len : Nat) (sec : Option SecTag) (origin : Option TxOrigin) (s : State) :
    State :=
  let defp := s.get F.SW_PORT_PCP_DEF_PCP p
  let x0 := growFrame s { SwFrame.none with ingress := p, sa := rxMsec s p sec } raw
  let octets := x0.octets
  let dst := beAt octets 0 6
  let src := beAt octets 6 6
  let tagged := hasTag octets
  let tci := beAt octets 14 2
  let pcp := if tagged then tci / 8192 else defp
  let vid := if tagged && tci % 4096 != 0 then tci % 4096 else s.get F.SW_PORT_CFG_PVID p
  let x : SwFrame := { x0 with
                       len := len, vid := vid, pcp := pcp, t := rxStamp s p, mono := s.time.mono, gen := stepGen s, origin := origin, sec := sec,
                       ended := false }
  if len < 64 then dropFrame p (frameClass s p defp none) 0x0B x s
  else
    let flt := filterOf s p dst src vid pcp
    let cls := frameClass s p pcp flt
    let x := { x with cls := cls }
    if (!tagged && s.flag F.SW_PORT_CFG_DROP_UNTAG p) || !s.flag F.SW_VLAN0_VALID vid ||
        !bitOf (s.get F.SW_VLAN0_MEMBER vid) p then dropFrame p cls 0x02 x s
    else
      let d := destSet p vid dst s
      let s := learn p vid src d.2
      if d.1 = 0 then dropFrame p cls 0x01 x s
      else
        let r := streamChecks p len cls flt (rtagSeq octets) s
        match r.1.drop with
        | some c => dropFrame p cls c x r.2
        | none =>
          let s := r.2
          let f := s.sw.next
          let s := { s with sw := { s.sw with next := f + 1, arriving := tset 0 s.sw.arriving p (f + 1) } }
          let s := allocCell f (s.setFrame f { x with frer := r.1.frer, rtag := r.1.rtag })
          settleFrame f (s.each (portsOf d.1) (admitCopy f))

/-- The frame that is arriving at a port. -/
def arrivingAt (s : State) (p : Nat) : Option Nat :=
  match tget 0 s.sw.arriving p with | 0 => none | n + 1 => some n

/-- A frame that the port itself consumes: MAC control (R256) and handover frames while they are enabled (R304). -/
def portConsumes (s : State) (p : Nat) (octets : List Nat) : Bool :=
  typeAt octets (afterTag octets) == 0x8808 ||
  (decide (p < 2) && s.flag F.TIME_HO_CTRL_EN p && typeAt octets 12 == 0x88B5 && octets.getD 14 0 == 0x4B)

/-- A first cell at a port that switches and has its link up, with no other frame arriving. -/
def firstCell (p : Nat) (octets : List Nat) (len : Nat) (sec : Option SecTag) (origin : Option TxOrigin) (s : State) :
    State :=
  if swGated s p || !s.flag F.SW_CTRL_EN 0 || !portEn s p || !portUp s p || (arrivingAt s p).isSome then s
  else if portConsumes s p octets then
    (if typeAt octets (afterTag octets) = 0x8808 then s.incSat F.EP_CNT_CNT (12 * p + 3) else s)
  else swArrive p octets len sec origin s

/-- FRAME_FIRST_CELL (R228): `octets` are the bytes of the first cell as received, with the SecTAG that a port with a SecY has removed
from them in `sec`; `len` is L, without SecTAG and ICV (R259). -/
def execFrameFirstCell (p : Fin 24) (octets : List Nat) (len : Nat) (sec : Option SecTag) (s : State) : Res :=
  .next (firstCell p (octets.take 64) len sec none s)

/-- The octets that MACsec makes of a copy's bytes, where it protects it (R274). -/
def wireForm (c : SwCopy) (body : List Nat) : List Nat := match c.sa with | some a => a.protect body | none => body

/-- The first `k` cells of frame `x` leave port `e` as `body`, with a stomp or without: one-step modification and its counts, MACsec, the
wire or the endpoint with a credit for each further cell, and the echo (R241, R246, R297, R301). -/
def sendCopy (e : Nat) (x : SwFrame) (c : SwCopy) (body : List Nat) (k : Nat) (stomp : Bool) (s : State) : State :=
  let r := oneStep s e x.ingress x.origin c body
  let w := wireForm c r.1
  let s := oneStepCount e r.2 s
  let s := if e < 20 then s.emit (.frame e (w ++ (if stomp then stompOf w else fcsOf w)) stomp)
    else
      let s := s.put F.SW_ICR_STAT_TX_CRED (e - 20) (s.get F.SW_ICR_STAT_TX_CRED (e - 20) - (k - c.out))
      { s with sw := { s.sw with rxq := tupd [] s.sw.rxq e (· ++ [⟨r.1, k, x.ingress, x.cls, x.t, x.gen, stomp, []⟩]) } }
  match x.origin with
  | some o => echoReturn o x.ingress e c.t0 c.g0 x.cls x.vid stomp (r.1 ++ (if stomp then stompOf r.1 else fcsOf r.1)) s
  | none => s

/-- A copy without a charge for its last cell is abandoned (R235): one that is cut through ends with a stomp after what it has sent. -/
def abandonCopy (f e : Nat) (s : State) : State :=
  match copyOf s f e with
  | none => s
  | some c =>
    let x := frameSt s f
    let s := if c.cut then
        (sendCopy e x c (egressForm s e x (x.octets.take (64 * (x.cells - 1)))) (x.cells - 1) true s).incSat F.SW_CT_TX_STOMPS e
      else s
    swFaultFree 260 e x.cls (swEvt 27 (dropCopy f e 6 s))

/-- Cells of a frame after which it is ended at MAX_FRAME (R229). -/
def cellLimit (s : State) (x : SwFrame) : Nat := cellsOf (min x.len (s.get F.SW_PORT_HDRM_MAX_FRAME x.ingress))

/-- A further cell of frame `f` arrives (R234, R235). -/
def nextCell (f : Nat) (octets : List Nat) (s : State) : State :=
  let x := frameSt s f
  if cellLimit s x ≤ x.cells then s
  else
    let s := s.setFrame f (growFrame s x (octets.take 64))
    if x.copies.isEmpty then s
    else
      settleFrame f ((allocCell f s).each (x.copies.map (·.port)) (fun e s =>
        let r := chargeCell f e s
        if r.1 then r.2 else abandonCopy f e s))

/-- CONTINUATION_CELL (R234). -/
def execContinuationCell (p : Fin 24) (octets : List Nat) (s : State) : Res :=
  .next (match arrivingAt s p with | some f => nextCell f octets s | none => s)

/-- A stored copy whose frame has ended and whose cells have all crossed enters its egress queue (Table 8-3). -/
def toEgress (f e : Nat) (s : State) : State :=
  match copyOf s f e with
  | some c =>
    let x := frameSt s f
    if c.st = 0 ∧ x.ended ∧ c.crossed = x.cells then
      let s := cbsSettle e x.cls s
      let q := s.sw.qseq
      ({ s with sw := { s.sw with qseq := q + 1 } }).updCopy f e (fun c => { c with st := 1, qseq := q })
    else s
  | none => s

/-- Frame `f` fails its end-of-frame checks with reason `r` (R230, R241): stored copies are dropped, copies that are cut
through will end with a stomp, and a tentative number is withdrawn (R273). -/
def failFrame (f r : Nat) (s : State) : State :=
  let x := frameSt s f
  let s := match x.frer with | some (k, q) => frerWithdraw k q s | none => s
  let stored := (x.copies.filter (fun c => !c.cut)).map (·.port)
  let cut := (x.copies.filter (·.cut)).map (·.port)
  let s := if stored.isEmpty then s else countDrop x.ingress x.cls r s
  let s := if cut.isEmpty then s else s.incSat F.SW_CT_RX_STOMPS x.ingress
  let s := s.each cut (fun e s => s.incSat F.SW_CT_TX_STOMPS e)
  let s := s.updFrame f (fun y => { y with bad := true })
  s.each stored (fun e s => endCopy f e r s)

/-- The end of frame `f` (R228 checks 9 and 10). -/
def endFrame (f : Nat) (fcsOk : Bool) (icv : List Nat) (s : State) : State :=
  let x := frameSt s f
  let icvOk := match x.sa, x.sec with
    | some a, some t => a.icv (secOctets t) (x.raw.take (x.raw.length - 4)) == icv
    | _, _ => false
  let s := { s with sw := { s.sw with arriving := tset 0 s.sw.arriving x.ingress 0 } }
  let long := decide (s.get F.SW_PORT_HDRM_MAX_FRAME x.ingress < x.len)
  let s := s.updFrame f (fun y => { y with ended := true })
  let s := if !fcsOk || long then
      failFrame f 0x0B (s.incSat F.EP_CNT_CNT (12 * x.ingress + 2))
    else
      let r := msecRx x.ingress (frameType x) x.sec icvOk s
      if r.1 then r.2.incSat F.EP_CNT_CNT (12 * x.ingress) else failFrame f 0x0A r.2
  settleFrame f (s.each (x.copies.map (·.port)) (toEgress f))

/-- FRAME_END (R241): the last cell's bytes, where it is not the first cell, the verdict on the FCS, and the ICV of a MACsec frame. -/
def execFrameEnd (p : Fin 24) (octets : List Nat) (fcsOk : Bool) (icv : List Nat) (s : State) : Res :=
  .next (match arrivingAt s p with
    | some f => endFrame f fcsOk icv (if octets.isEmpty then s else nextCell f octets s)
    | none => s)

/-! ### The crossbar (R237 to R239) -/

/-- Copies with a received cell that has not crossed. -/
def crossing (s : State) : List (Nat × SwFrame × SwCopy) :=
  (liveCopies s).filter (fun x => (x.2.2.st == 0 || x.2.2.cut) && decide (x.2.2.crossed < x.2.1.cells))

/-- Pairs that are locked by a copy under way (R238). -/
def lockedPairs (s : State) : List (Nat × Nat) :=
  ((liveCopies s).filter (fun x => (x.2.2.st == 0 || x.2.2.cut) && decide (0 < x.2.2.crossed) &&
    !(x.2.1.ended && x.2.2.crossed == x.2.1.cells))).map (fun x => (x.2.1.ingress, x.2.2.port))

/-- The first port at or after `start`, cyclically, that a test holds of. -/
def cyclicFrom (start : Nat) (t : Nat → Bool) : Option Nat := ((List.range 24).map (fun k => (start + k) % 24)).find? t

/-- One iteration of the matching (R238): requests, grants and accepts among the ports that are not matched. -/
def matchIter (s : State) (req : List (Nat × Nat)) (m : List (Nat × Nat)) : List (Nat × Nat) :=
  let freeI := fun i => !m.any (fun x => x.1 == i)
  let freeO := fun o => !m.any (fun x => x.2 == o)
  let grants : List (Nat × Nat) := (List.range 24).filterMap (fun o =>
    if freeO o then (cyclicFrom (tget 0 s.sw.g o) (fun i => freeI i && req.contains (i, o))).map (fun i => (i, o)) else none)
  (List.range 24).filterMap (fun i =>
    (cyclicFrom (tget 0 s.sw.a i) (fun o => grants.contains (i, o))).map (fun o => (i, o)))

/-- The pointers move for the matches of the first iteration. -/
def movePointers (ms : List (Nat × Nat)) (s : State) : State :=
  s.each ms (fun x s => { s with sw := { s.sw with g := tset 0 s.sw.g x.2 ((x.1 + 1) % 24),
                                                   a := tset 0 s.sw.a x.1 ((x.2 + 1) % 24) } })

/-- A frame is older than AGE_LIMIT at its check for egress port `e` (R242). -/
def overAge (s : State) (e : Nat) (x : SwFrame) : Bool :=
  s.flag F.SW_PORT_AGE_DISCARD_AGE e && decide (max 1 (s.get F.SW_PORT_AGE_AGE_LIMIT e) * 1000 * 2 ^ 32 < s.time.mono - x.mono)

/-- The copies of a queue that fall to age at its head, one after the other: one that has started crossing does not. -/
def agedHeads (s : State) (e : Nat) (l : List (Nat × SwFrame × SwCopy)) : List (Nat × SwFrame × SwCopy) :=
  l.takeWhile (fun y => (y.2.2.st == 1 || y.2.2.crossed == 0) && overAge s e y.2.1)

/-- Copies are dropped for their age (R242). -/
def dropAged (e : Nat) (l : List (Nat × SwFrame × SwCopy)) (s : State) : State :=
  s.each l (fun y s => dropCopy y.1 e (if y.2.2.opened then 0x07 else 0x0D) s)

/-- The egress queues of port `e` at their check. -/
def ageEgress (e : Nat) (s : State) : State := s.each (List.range 8) (fun c s => dropAged e (agedHeads s e (egressQueue s e c)) s)

/-- Every queue at its check in a cell slot, before the crossbar moves a cell (R242, R244). -/
def ageAll (s : State) : State :=
  let s := s.each (((liveCopies s).filter (fun y => y.2.2.st == 0)).map (fun y => (y.2.1.ingress, y.2.2.port, y.2.1.cls))).eraseDups
    (fun q s => dropAged q.2.1 (agedHeads s q.2.1 (voq s q.1 q.2.1 q.2.2)) s)
  s.each (List.range 24) ageEgress

/-- The copy that a matched pair serves: the frame in progress, else the head of the highest class. -/
def pairCopy (s : State) (i o : Nat) : Option (Nat × SwFrame × SwCopy) :=
  let l := (crossing s).filter (fun x => x.2.1.ingress == i && x.2.2.port == o)
  match l.find? (fun x => x.2.2.crossed != 0) with
  | some x => some x
  | none =>
    if (lockedPairs s).contains (i, o) then none
    else (List.range 8).foldl (fun best c =>
      match l.find? (fun x => x.2.1.cls == c) with | some x => some x | none => best) none

/-- One cell of a pair crosses. -/
def crossCell (i o : Nat) (s : State) : State :=
  match pairCopy s i o with
  | some (f, _, _) => toEgress f o (s.updCopy f o (fun c => { c with crossed := c.crossed + 1 }))
  | none => s

/-- A copy in transmission to an internal port's endpoint sends its next cell, where a credit is held (R246). -/
def endpointCell (e : Nat) (s : State) : State :=
  match txCopy s e with
  | some (f, _, c) =>
    if c.out < c.crossed ∧ s.get F.SW_ICR_STAT_TX_CRED (e - 20) ≠ 0 then
      (s.put F.SW_ICR_STAT_TX_CRED (e - 20) (s.get F.SW_ICR_STAT_TX_CRED (e - 20) - 1)).updCopy f e (fun c => { c with out := c.out + 1 })
    else s
  | none => s

/-- CELL_SLOT (R238): the age checks, three iterations, then one cell of each matched pair, and one towards each endpoint. -/
def execCellSlot (s : State) : Res :=
  let s := ageAll s
  let req := (crossing s).map (fun x => (x.2.1.ingress, x.2.2.port))
  let m0 := lockedPairs s
  let n1 := matchIter s req m0
  let s1 := movePointers n1 s
  let m1 := m0 ++ n1
  let m2 := m1 ++ matchIter s1 req m1
  let m3 := m2 ++ matchIter s1 req m2
  .next ((s1.each m3 (fun x s => crossCell x.1 x.2 s)).each [20, 21, 22, 23] endpointCell)

/-! ### Ageing, transmission, completion -/

/-- COPY_AGED (R242): the copy at the head of a VOQ, or of an egress queue, at its check. -/
def execCopyAged (e : Fin 24) (c : Fin 8) (voq? : Option (Fin 24)) (s : State) : Res :=
  let l := match voq? with | some i => voq s i e c | none => egressQueue s e c
  .next (dropAged e ((agedHeads s e l).take 1) s)

/-- The copy that transmit selection starts: the eligible head of the highest class (R261). -/
def selectCopy (s : State) (e : Nat) : Option Nat :=
  (List.range 8).foldl (fun best c =>
    match egressQueue s e c with
    | x :: _ => if eligible s e x.2.1 false then some x.1 else best
    | [] => best) none

/-- TRANSMIT_SELECTION (R261), after the age checks (R244). -/
def execTransmitSelection (e : Fin 24) (s : State) : Res :=
  let s := ageEgress e (cbsSettleAll e s)
  .next (if (txCopy s e).isSome || !portUp s e || swGated s e then s
    else match selectCopy s e with | some f => startCopy f e false s | none => s)

/-- The first `k` cells of a copy have left port `e`, and with them the copy is done (R231, R241): its bytes, its credit, its charges. -/
def finishCopy (f e k : Nat) (stomp : Bool) (s : State) : State :=
  match copyOf s f e with
  | none => s
  | some c =>
    let x := frameSt s f
    let body := egressBody s e x
    let s := sendCopy e x c (if k < x.cells then body.take (64 * k) else body) k stomp s
    let s := (cbsEnd e x.cls s).incSat F.EP_CNT_CNT (12 * e + 1)
    let s := releaseCharges x c s
    tc10Drained e (settleFrame f (s.updFrame f (fun y =>
      { y with copies := y.copies.filter (fun k => k.port != e), sent := y.sent + 1 })))

/-- The cells of a copy that can be at its endpoint when it ends: those sent, and one more for each credit (R246). -/
def endCells (s : State) (e : Nat) (x : SwFrame) (c : SwCopy) : Nat :=
  if e < 20 then x.cells else c.out + min (x.cells - c.out) (s.get F.SW_ICR_STAT_TX_CRED (e - 20))

/-- COPY_TRANSMIT_DONE (R231, R241): the last byte leaves; towards an endpoint only with a credit for every cell (R246). -/
def execCopyTransmitDone (e : Fin 24) (s : State) : Res :=
  .next (match txCopy s e with
    | some (f, x, c) =>
      if x.ended ∧ c.crossed = x.cells ∧ endCells s e x c = x.cells then finishCopy f e x.cells (c.cut && x.bad) s else s
    | none => s)

/-- BUFFER_ECC_ERROR (R248, Table 8-3): a corrected error is counted; an uncorrectable one ends the copy in transmission
at the port with a stomp, and one of the link memory makes the next audit find a mismatch. -/
def execBufferEccError (e : Fin 24) (cell : Nat) (kind : BufErr) (s : State) : Res :=
  let cls := match txCopy s e with | some x => x.2.1.cls | none => 0
  .next (match kind with
    | .corrected => swFault 262 e cls cell (s.incSat F.SW_ECC_CE_CNT 0)
    | k =>
      let s := swFault 263 e cls cell (swEvt 26 (s.incSat F.SW_ECC_UE_CNT 0))
      let s := if k = .link then { s with sw := { s.sw with struck := true } } else s
      match txCopy s e with | some (f, x, c) => finishCopy f e (endCells s e x c) true s | none => s)

/-! ### Flush, fences and links -/

/-- The copies queued for a port, and with them the one in transmission, are dropped with 0x08 (R243). -/
def flushPort (e : Nat) (queued : Bool) (s : State) : State :=
  s.each (((liveCopies s).filter (fun x => x.2.2.port == e && (queued || x.2.2.st == 2))).map (·.1))
    (fun f s => dropCopy f e 8 s)

/-- The egress side of a port whose link goes down (R243). -/
def egressDown (e : Nat) (s : State) : State :=
  if s.flag F.SW_PORT_AGE_FLUSH_ON_DOWN e then flushPort e true (s.put F.SW_PORT_STAT_FLUSHING e 1)
  else flushPort e false s

/-- The ingress side: a frame under way is ended as an FCS error (R245). -/
def ingressDown (p : Nat) (s : State) : State :=
  match arrivingAt s p with | some f => endFrame f false [] s | none => s

/-- A link is lost at a port: LINK_CHG, and of an enabled port the count and FS272 (R257). -/
def linkLost (p : Nat) (s : State) : State :=
  let s := epEvt p 31 s
  if portEn s p then
    let s := s.incSat F.EP_STAT_DOWN_CNT p
    portFault 272 p 0 (s.get F.EP_STAT_DOWN_CNT p) s
  else s

/-- An endpoint's fence at an internal port: its link is down (R243, R257, R260), cells in flight are released, and both credit channels
re-initialised (R246). -/
def endpointFenced (p : Nat) (s : State) : State :=
  let s := egressDown p (ingressDown p (linkLost p s))
  let s := (s.put F.SW_ICR_STAT_TX_CRED (p - 20) 512).put F.SW_ICR_STAT_RX_FREE (p - 20) 512
  let s := s.each (tget [] s.sw.rxq p) (fun r s => countDrop p r.cls 8 s)
  ({ s with sw := { s.sw with rxq := tset [] s.sw.rxq p [] } }).incSat F.SW_ICR_STAT_REINIT_CNT (p - 20)

/-- A fence with its effect on the internal ports of the switch (R23, R246). -/
def State.fenceSw (s : State) (p cause : Nat) (outst : List Req) : State :=
  let was := [20, 21, 22, 23].filter (portUp s)
  let s := s.fence p cause outst
  s.each was (fun q s => if portUp s q then s else endpointFenced q s)

/-- A port opens, with its effect on the internal ports of the switch: their link is up (R243, R260). -/
def State.openSw (s : State) (p : Nat) : State :=
  let was := [20, 21, 22, 23].filter (fun q => !portUp s q)
  let s := s.openPort p
  s.each was (fun q s => if portUp s q then epEvt q 31 (s.put F.SW_PORT_STAT_FLUSHING q 0) else s)

/-- The endpoint of an internal port takes its oldest frame, whose cells return as credits (R246). -/
def rxTake (p : Nat) (s : State) : Option (SwRx × State) :=
  match tget [] s.sw.rxq p with
  | [] => none
  | x :: l =>
    some (x, ({ s with sw := { s.sw with rxq := tset [] s.sw.rxq p l } }).put F.SW_ICR_STAT_TX_CRED (p - 20)
      (s.get F.SW_ICR_STAT_TX_CRED (p - 20) + x.cells))

/-! ### Pools and audit (R232, R248) -/

/-- Ports enabled. -/
def enabledPorts (s : State) : List Nat := (List.range 24).filter (portEn s)

/-- The sum of a field over the queues of a list of ports. -/
def sumQ (s : State) (fl : Fld) (ps : List Nat) : Nat :=
  ps.foldl (fun a p => (List.range 8).foldl (fun a c => a + s.get fl (8 * p + c)) a) 0

/-- What the boot lock computes for the switch (R222, R232). -/
def swBootLock (s : State) : State :=
  let ps := enabledPorts s
  let rsv := sumQ s F.SW_Q_MIN_MIN ps + ps.foldl (fun a p => a + s.get F.SW_PORT_HDRM_HDRM p) 0
  let full := decide (12 < ps.length)
  let sz := 131072 - rsv
  let err := if 131072 < rsv then 1 else if full && decide (sz < sumQ s F.SW_Q_LIMIT_LIMIT ps) then 2 else 0
  let s := (s.put F.SW_STAT_NPORTS 0 ps.length).put F.SW_STAT_MAP 0 (b2n full)
  let s := ((s.put F.SW_RSV_RESERVE 0 rsv).put F.SW_POOL_SHARED_SIZE 0 sz).put F.SW_SHFREE_SH_FREE 0 sz
  if err = 0 then s
  else swFaultFree 258 0 0 ((s.put F.SW_STAT_CFG_ERR 0 1).put F.SW_STAT_ERR_CODE 0 err)

/-- Forwarding starts at boot step 8 unless R232 has failed (R251). -/
def swEnable (s : State) : State :=
  if s.flag F.SW_STAT_CFG_ERR 0 then s else (s.put F.SW_CTRL_EN 0 1).put F.SW_STAT_RUNNING 0 1

/-- The difference of two counts. -/
def absDiff (a b : Nat) : Nat := (a - b) + (b - a)

/-- Cells that the switch has sent to the endpoint of an internal port and that have not come back as credits. -/
def inFlight (s : State) (p : Nat) : Nat :=
  (tget [] s.sw.rxq p).foldl (fun a r => a + r.cells) 0 + (match txCopy s p with | some x => x.2.2.out | none => 0)

/-- Checks 1 to 3 of R248: the first that fails, and its difference.  Where an uncorrectable error has struck the link memory, one of them
fails, and neither which one nor its difference is stated: free values. -/
def auditCells (s : State) : Option (Nat × Nat) × State :=
  let all := List.range 24
  let occ := sumQ s F.SW_Q_OCC_OCC all
  let refs := (liveCopies s).foldl (fun a x => a + x.2.2.mins + x.2.2.shared + x.2.2.head) 0
  let pools := s.sw.minUsed.foldl (fun a e => a + e.2) 0 + sumQ s F.SW_Q_SH_SH_OCC all +
    all.foldl (fun a p => a + s.get F.SW_PORT_STAT_HR_USED p) 0
  if s.sw.allocs - s.sw.rels ≠ s.sw.used then (some (1, absDiff (s.sw.allocs - s.sw.rels) s.sw.used), s)
  else if occ ≠ refs then (some (2, absDiff occ refs), s)
  else if pools ≠ occ then (some (3, absDiff pools occ), s)
  else if s.sw.struck then
    let a := s.draw
    let b := a.2.draw
    (some (1 + Config.freeNat 26 a.1 % 3, Config.freeNat 27 b.1), b.2)
  else (none, s)

/-- The switch's audit at a beat boundary (R248): the first difference found is recorded. -/
def swAudit (s : State) : State :=
  let cred := [20, 21, 22, 23].find? (fun p =>
    s.get F.SW_ICR_STAT_TX_CRED (p - 20) + inFlight s p != 512 || s.get F.SW_ICR_STAT_RX_FREE (p - 20) != 512)
  let diff (p : Nat) : Nat := absDiff 512 (s.get F.SW_ICR_STAT_TX_CRED (p - 20) + inFlight s p)
  let r := auditCells (s.incWrap F.SW_AUDIT_AUDITS 0)
  let s := { r.2 with sw := { r.2.sw with struck := false } }
  let s := match r.1 with | some (k, d) => auditHit k 0 d true s | none => s
  match cred with
  | some p => auditHit 5 p (diff p) r.1.isNone s
  | none => s

/-- What a beat boundary resets in the switch and the ports: the sources raised once a beat. -/
def swBeat (s : State) : State :=
  let s := { s with sw := { s.sw with said259 := false, said261 := false }, time := { s.time with said355 := false } }
  let s := s.each (List.range 24) (fun p s => s.updEp p (fun x => { x with said281 := false }))
  s.each (s.ports.frer.map (·.1)) (fun k s => s.updFrer k (fun x => { x with said := false }))

end Sys2Proof.Machine
end

