-- ==== Sys2Proof/Machine/Gong.lean ====
section
/-!
DEFINITION. Gong's record of wake events and its false-wake timer, as the ports, the CAN controllers and the inputs use
them (chapter 12).
-/

namespace Sys2Proof.Machine

/-- The power modes of Table 12-1. -/
def modeRun : Nat := 0
def modeDoze : Nat := 1
def modeSleep : Nat := 2
def modeDeep : Nat := 3

/-- The power mode in force. -/
def pmMode (s : State) : Nat := s.get F.PM_STAT_MODE 0

/-- A power-mode source with the record of R367. -/
def pmFault (n w1 : Nat) (s : State) : State :=
  s.raise n (s.get F.GONG_CAUSE_KIND 0 * 2 ^ 28 + s.get F.GONG_CAUSE_INDEX 0 * 2 ^ 20) w1 0

/-- Place of a wake kind in Table 12-4. -/
def kindPlace (k : Nat) : Nat :=
  match k with | 1 => 0 | 6 => 1 | 3 => 2 | 4 => 3 | 2 => 4 | _ => 5

/-- A wake event is accepted: its bit in GONG_WAKE_EN, or KEEP_TRIP; during a lockout only KEEP_TRIP (R354, R358). -/
def wakeEnabled (s : State) (kind index : Nat) : Bool :=
  kind == 6 ||
  (!s.pm.lockout && (match kind with
    | 1 => bitOf (s.get F.GONG_WAKE_EN_LINES 0) index
    | 2 => s.flag F.GONG_WAKE_EN_MFI 0
    | 3 => s.flag F.GONG_WAKE_EN_CAN 0
    | 4 => s.flag F.GONG_WAKE_EN_TC10 0
    | 5 => s.flag F.GONG_WAKE_EN_TIMER 0
    | _ => false))

/-- GONG_CAUSE after an event: the kind that stands first in Table 12-4, and every kind that has occurred (R354). -/
def recordCause (kind index ticks : Nat) (s : State) : State :=
  let s :=
    if s.pm.caused then
      (if kindPlace kind < kindPlace (s.get F.GONG_CAUSE_KIND 0) then
        (s.put F.GONG_CAUSE_KIND 0 kind).put F.GONG_CAUSE_INDEX 0 index else s)
    else
      let s := s.wr R.GONG_CAUSE 0 (BitVec.ofNat 32 (2 ^ 31 + kind * 2 ^ 28 + index % 128 * 2 ^ 20 + pmMode s))
      s.wr R.GONG_CAUSE_T 0 (BitVec.ofNat 32 (min ticks 0xFFFFFFFF))
  { (s.put F.GONG_CAUSE_KINDS 0 (s.get F.GONG_CAUSE_KINDS 0 ||| 2 ^ kind)) with pm := { s.pm with caused := true } }

/-- A request for a mode is complete with a result (R346). -/
def pmResult (r : Nat) (s : State) : State := (s.put F.PM_STAT_RESULT 0 r).put F.PM_STAT_PENDING 0 0

/-- A transition to a mode is complete (R346): RESULT 0 and interrupt 528. -/
def pmEnter (m : Nat) (s : State) : State := ((pmResult 0 s).put F.PM_STAT_MODE 0 m).raiseIrq 528

/-- A pending entry is aborted: RESULT 4 and FS19 with the count of aborted entries. -/
def pmAbort (s : State) : State :=
  let s := (pmResult 4 s).incSat F.GONG_CNT_CNT 4
  pmFault 19 (s.get F.GONG_CNT_CNT 4) s

/-! ### Gated blocks (R347) -/

/-- The enable of a block in force (R347, R348). -/
def gateEnable (s : State) (b : Nat) : Bool :=
  match pmMode s with
  | 0 => s.flag F.PM_GATE_RUN_EN b
  | 1 => if b = 0 then false else if b = 1 then s.flag F.PM_GATE_RUN_EN b else s.flag F.PM_GATE_SLEEP_EN b
  | 2 => s.flag F.PM_GATE_SLEEP_EN b
  | _ => s.flag F.PM_GATE_DSLEEP_EN b

/-- The fabric ports of a gated block of Table 12-3. -/
def gatePorts (b : Nat) : List Nat :=
  match b with
  | 1 => [0x050, 0x051, 0x800]
  | 2 => [0x1004]
  | 3 => [0x1005]
  | 4 => [0x006]
  | 5 => [0x005, 0x030]
  | 6 => [0x010]
  | 7 => [0x020]
  | 8 => [0x031, 0x035]
  | 9 => [0x008, 0x00C, 0x036]
  | 10 => [0x0B0, 0x1001]
  | 11 => [0x0A0, 0x1002]
  | 12 => [0x080]
  | 13 => [0x090]
  | 14 => [0x070]
  | 15 => [0x060, 0x1003]
  | _ => []

/-- The watchdogs of partitions of KIND A-cluster pause while block 0 is stopped (R485). -/
def pauseWdgs (s : State) : State :=
  s.each (List.range 16) (fun w s => if s.get F.BSEC_PARTCFG_KIND w = 1 then wdgPause w (!gateEnable s 0) s else s)

/-- The ports of every block follow the enables in force: fenced for POWER while the enable is 0, open once it is 1 and
the block signals ready (R347). -/
def applyGates (outst : List Req) (s : State) : State :=
  s.each (List.range 17) (fun b s =>
    s.each (gatePorts b) (fun p s =>
      if gateEnable s b then
        (if p = 0x1001 ∧ s.get F.CLK_DOM_SRC 16 = 2 then s else if (portSt s p).causes.contains causePower then (s.endCause p causePower).openSw p else s)
      else if (portSt s p).causes.contains causePower then s
      else s.fenceSw p causePower outst))
  |> pauseWdgs

/-- The device leaves SLEEP or DOZE for RUN (R349, R351). -/
def pmToRun (s : State) : State := applyGates [] (pmEnter modeRun s)

/-- The harts are released from reset: AUTO_FLUSH of each takes the value of APC_AUTO_FLUSH (R413). -/
def aclRelease (s : State) : State :=
  s.each (List.range 8) (fun h s => (s.put F.mkzctl_AUTO_FLUSH h (tget 1 s.dict.vals 0x010060)))

/-- Leaving SLEEP powers blocks 0 and 1 and releases the harts (R351); leaving DOZE starts their clocks. -/
def pmLeave (s : State) : State :=
  let was := pmMode s
  let s := pmToRun s
  if was = modeSleep then aclRelease ((s.endCause 0x2014 causePower).endCause 0x2015 causePower) else s

/-- A qualifying event of GONG_QUAL stops the running false-wake timer (R359). -/
def gongQualify (bit : Nat) (s : State) : State :=
  if s.pm.fw = 1 ∧ bitOf (s.get F.GONG_QUAL_QUAL 0) bit then { s with pm := { s.pm with fw := 0 } } else s

/-- The line that caused the wake is still active (R359 bit 3): its level is the one its trigger waits for. -/
def lineActive (s : State) (n : Nat) : Bool :=
  bitOf (s.get F.GONG_WLSTAT_LEVEL 0) n != bitOf (s.get F.GONG_WLCFG_TRIG 0) (2 * n)

/-- The false-wake timer starts after a wake from a mode (R359); a wake by the timer, or by a line that is still active,
qualifies at once where GONG_QUAL enables it. -/
def fwStart (from_ : Nat) (s : State) : State :=
  let s := { s with pm := { s.pm with fw := 1, wokeFrom := from_ } }
  let k := s.get F.GONG_CAUSE_KIND 0
  let s := if k = 5 then gongQualify 4 s else s
  if k = 1 ∧ lineActive s (s.get F.GONG_CAUSE_INDEX 0) then gongQualify 3 s else s

/-! ### Wake events (R352 to R359) -/

/-- A wake event of a kind, `ticks` LRC32 ticks after the entry: recorded; it aborts an entry before its step 4, ends SLEEP
where AUTO_RUN is set, and lets PMIC_EN rise in DEEP_SLEEP.  During boot it leaves its bit in KINDS and nothing else (R533). -/
def wakeEvent (kind index ticks : Nat) (s : State) : State :=
  if s.flag F.KN_STAT_HALT 0 || !wakeEnabled s kind index then s
  else if pmMode s = modeRun ∧ 2 ≤ s.boot.step ∧ s.boot.step < 9 then
    s.put F.GONG_CAUSE_KINDS 0 (s.get F.GONG_CAUSE_KINDS 0 ||| 2 ^ kind)
  else if !(pmMode s = modeSleep || pmMode s = modeDeep) then s
  else
    let first := !s.pm.caused
    let s := recordCause kind index ticks s
    if s.pm.phase = 1 then
      pmAbort (({ s with pm := { s.pm with phase := 0 } }).raiseIrq 529)
    else
      let s := if first then s.incSat F.GONG_CNT_CNT 0 else s
      if pmMode s = modeDeep then { s with pm := { s.pm with irqWait := true } }
      else
        let s := s.raiseIrq 529
        if s.flag F.GONG_CFG_AUTO_RUN 0 then
          fwStart modeSleep (pmLeave { s with pm := { s.pm with caused := false } })
        else s

end Sys2Proof.Machine
end

