-- ==== Sys2Proof/Machine/Ports.lean ====
section
/-!
DEFINITION. The Ethernet ports (chapter 9): links, gate control lists, shapers, stream gates, MACsec keys, TC10, test modes
and the table window.
-/

namespace Sys2Proof.Machine

/-! ### Links (R257, R258) -/

/-- Auto-negotiation decides speed and role of the port (Table 9-1). -/
def autoNeg (s : State) (p : Nat) : Bool := decide (2 ≤ p) && decide (p < 14) && s.flag F.EP_CFG_AN_EN p

/-- LINK_UP (R257): `speed` and `leader` are what Clause 98 resolved; without it SPEED and ROLE hold. -/
def phyUp (p speed : Nat) (leader : Bool) (sqi : Nat) (s : State) : State :=
  if 20 ≤ p || portUp s p || !portEn s p || s.get F.EP_TEST_MODE p != 0 || s.get F.EP_STAT_TC10_STATE p == 3 ||
      s.bist.prbs == some (0, p) || s.get F.CLK_DOM_SRC 14 == 2 then s
  else
    let sp := if 2 ≤ p ∧ p < 6 then (if autoNeg s p then speed else s.get F.EP_CFG_SPEED p) else 0
    let sp := if sp ≤ 3 then sp else 0
    let ro := if p < 16 then (if autoNeg s p then b2n leader else b2n (s.get F.EP_CFG_ROLE p == 1)) else 0
    let s := (((s.put F.EP_STAT_LINK_UP p 1).put F.EP_STAT_SPEED_ACT p sp).put F.EP_STAT_ROLE_ACT p ro).put F.EP_STAT_SQI p sqi
    let s := (s.put F.SW_PORT_STAT_LINK_UP p 1).put F.SW_PORT_STAT_FLUSHING p 0
    epEvt p 31 (if s.flag F.EP_TC10_EN p then gongQualify 1 s else s)

/-- The link of an external port is lost: counted, FS272, and the switch's reaction (R243, R245, R257). -/
def phyDown (p : Nat) (s : State) : State :=
  if 20 ≤ p || !portUp s p then s
  else
    egressDown p (ingressDown p (linkLost p ((s.put F.EP_STAT_LINK_UP p 0).put F.SW_PORT_STAT_LINK_UP p 0)))

/-- LINK_UP (R257). -/
def execLinkUp (p : Fin 24) (speed : Fin 4) (leader : Bool) (sqi : Fin 8) (s : State) : Res :=
  .next (phyUp p speed leader sqi s)

/-- LINK_DOWN (R257). -/
def execLinkDown (p : Fin 24) (s : State) : Res := .next (phyDown p s)

/-- A PLCA node: P16 to P19 with EN = 1. -/
def plcaOn (s : State) (p : Nat) : Bool := decide (16 ≤ p) && decide (p < 20) && s.flag F.EP_PLCA_EN p

/-- PLCA_LOST (R258): the node falls back to CSMA/CD. -/
def execPlcaLost (p : Fin 24) (s : State) : Res :=
  .next (if plcaOn s p && !(epSt s p).noBeacon then
    portFaultFree 283 p 0 (epEvt p 23 (s.updEp p (fun x => { x with noBeacon := true })))
  else s)

/-- PLCA_BEACON (R258): the node returns to PLCA. -/
def execPlcaBeacon (p : Fin 24) (s : State) : Res := .next (s.updEp p (fun x => { x with noBeacon := false }))

/-! ### Gate control lists (R262 to R265) -/

/-- GATES shows the gates of the entry in force; with EN = 0 every gate is open. -/
def gclShow (p : Nat) (s : State) : State :=
  s.put F.EP_GCL_STAT_GATES p
    (if s.flag F.EP_GCL_CTRL_EN p then gatesOf ((epSt s p).oper.list.getD (s.get F.EP_GCL_STAT_IDX p) 0xFF000000) else 0xFF)

/-- Copies whose gate is open now have met an open gate (R242). -/
def markOpened (p : Nat) (s : State) : State :=
  { s with sw := { s.sw with frames := s.sw.frames.map (fun e => (e.1, { e.2 with copies := e.2.copies.map (fun c =>
      if c.port = p ∧ gateOpen s p e.2.cls then { c with opened := true } else c) })) } }

/-- Entry `i` applies until `t` (network ns). -/
def gclEntry (p i t : Nat) (s : State) : State :=
  let s := (cbsSettleAll p s).put F.EP_GCL_STAT_IDX p i
  markOpened p (gclShow p (s.updEp p (fun x => { x with entryEnd := t })))

/-- A cycle of the operating list has ended: entries that it cut set TRUNC (R262). -/
def gclTrunc (p : Nat) (s : State) : State :=
  let x := epSt s p
  let sum := x.oper.list.foldl (fun a w => a + interval w) 0
  if !x.hold && decide (cycleLen s x.oper < sum) && x.cycleAt != 0 then s.put F.EP_GCL_STAT_TRUNC p 1 else s

/-- A cycle of the operating list starts. -/
def gclCycle (p : Nat) (s : State) : State :=
  let s := gclTrunc p s
  let x := epSt s p
  let t := s.nowNs
  let e := firstEntry x.oper.list t
  gclEntry p e.1 e.2 (s.updEp p (fun x => { x with cycleAt := t, hold := false }))

/-- The pending copy becomes the operating list, and its first cycle starts (R264). -/
def gclAdopt (p : Nat) (g : Gcl) (s : State) : State :=
  let s := gclTrunc p s
  let s := s.updEp p (fun x => { x with oper := g, pend := none, hold := true })
  let s := s.each (List.range g.list.length) (fun i s => s.wr R.EP_GCL_OPER (256 * p + i) (BitVec.ofNat 32 (g.list.getD i 0)))
  let s := (s.put F.EP_GCL_STAT_OPER_LEN p g.list.length).put F.EP_GCL_STAT_PENDING p 0
  gclCycle p (epEvt p 30 s)

/-- A CHANGE (R263, R264): the admin list is copied for adoption, or refused. -/
def gclChange (p : Nat) (s : State) : State :=
  let bl := s.flag F.EP_GCL_CTRL_BEAT_LOCK p
  let ns := s.get F.EP_GCL_CYCLE_CYCLE_NS p
  if !bl && ns == 0 then portFaultFree 273 p 0 (s.put F.EP_GCL_STAT_CFG_ERR p 1)
  else
    let n := min 256 (max 1 (s.get F.EP_GCL_CTRL_ADMIN_LEN p))
    let g : Gcl := ⟨bl, max 1 (s.get F.EP_GCL_CTRL_CYCLE_BEATS p), ns, s.get64 R.EP_GCL_BASE_LO R.EP_GCL_BASE_HI p,
      (List.range n).map (fun i => (s.rd R.EP_GCL_ADMIN (256 * p + i)).toNat)⟩
    (s.updEp p (fun x => { x with pend := some g, pendBeats := 0, pendAt := s.time.mono })).put F.EP_GCL_STAT_PENDING p 1

/-- A write of EP_GCL_CTRL. -/
def gclCtrlWrite (p : Nat) (v : Word) (s : State) : State :=
  let s := cbsSettleAll p s
  let s := (s.swWrite false R.EP_GCL_CTRL p v).put F.EP_GCL_CTRL_CHANGE p 0
  let s := markOpened p (gclShow p s)
  if bitOf v.toNat 29 then gclChange p s else s

/-- GCL_CHANGE (R264). -/
def execGclChange (p : Fin 24) (init : Init) (value : Word) (s : State) : Res :=
  .next (s.busWrite init (R.EP_GCL_CTRL.addr p) 4 (gclCtrlWrite p value))

/-- t_GCL_SETUP in 2^-32 ns. -/
def gclSetup : Nat := 10000 * 2 ^ 32

/-- GATE_ENTRY_SWITCH (R262 to R264): `kind` 0 an entry's interval ends; 1 a cycle of the operating list with BEAT_LOCK = 0
starts; 2 a cycle of the pending list's settings with BEAT_LOCK = 0 starts. -/
def execGateEntrySwitch (p : Fin 24) (kind : Fin 3) (s : State) : Res :=
  let x := epSt s p
  .next (match kind with
    | 0 =>
      if x.hold then s
      else (match nextEntry x.oper.list (s.get F.EP_GCL_STAT_IDX p + 1) with
        | some j => gclEntry p j (x.entryEnd + interval (x.oper.list.getD j 0)) s
        | none => s)
    | 1 => if x.oper.beatLock then s else gclCycle p s
    | 2 => (match x.pend with
        | some g =>
          if !g.beatLock && decide (g.base ≤ s.nowNs) && decide (gclSetup ≤ s.time.mono - x.pendAt) then gclAdopt p g s else s
        | none => s))

/-- A port's list at a beat boundary of network beat index `nbi` (R263, R264). -/
def gclBoundary (nbi p : Nat) (s : State) : State :=
  let s := s.updEp p (fun x => { x with pendBeats := if x.pend.isSome then x.pendBeats + 1 else 0 })
  let x := epSt s p
  let run := if x.oper.beatLock && nbi % max 1 x.oper.cycleBeats == 0 then gclCycle p s else s
  match x.pend with
  | some g => if g.beatLock && decide (2 ≤ x.pendBeats) && nbi % g.cycleBeats == 0 then gclAdopt p g s else run
  | none => run

/-- A TIME_STEP at a port whose lists are in force (R265). -/
def portRealign (p : Nat) (s : State) : State :=
  if s.flag F.EP_GCL_CTRL_EN p then
    portFaultFree 274 p 0 ((s.updEp p (fun x => { x with hold := true })).put F.EP_GCL_STAT_REALIGN p 1)
  else s

/-! ### Stream gates (R270) -/

/-- STREAM_GATE_ENTRY_SWITCH (R270): an entry's interval ends, or a cycle of a gate with BEAT_LOCK = 0 starts. -/
def execStreamGateEntrySwitch (g : Fin 127) (start : Bool) (s : State) : Res :=
  .next (if tblBits s 1 g 0 31 31 = 0 then s
    else if start then
      (if tblBits s 1 g 0 30 30 = 1 ∨ tblBits s 1 g 1 31 0 = 0 then s else sgCycle g s)
    else sgNext g s)

/-- The beat-locked stream gates at a boundary. -/
def sgBoundary (nbi : Nat) (s : State) : State :=
  s.each (tblListed s 1) (fun g s =>
    if tblBits s 1 g 0 31 30 = 3 ∧ nbi % max 1 (tblBits s 1 g 0 7 0) = 0 then sgCycle g s else s)

/-! ### The credit-based shaper (R266, R267) -/

/-- The credit after a new slope: clamped to the new bounds, each clamp with its event. -/
def cbsClamp (p c : Nat) (s : State) : State :=
  let x := cbsSt s p c
  let lo := cbsLo s p c * bitU
  let hi := cbsHi s p c * bitU
  if x.credit < lo then epEvt p 29 (setCbs p c { x with credit := lo } s)
  else if hi < x.credit then epEvt p 29 (setCbs p c { x with credit := hi } s)
  else setCbs p c x s

/-- A write of EP_CBS_SLOPE. -/
def cbsSlopeWrite (p c : Nat) (v : Word) (s : State) : State :=
  let i := 8 * p + c
  let was := s.flag F.EP_CBS_SLOPE_EN i
  let s := cbsSettle p c s
  let x := cbsSt s p c
  let m := s.time.mono
  let x := if was then x else { x with at_ := m, txLeft := x.txLeft.map (fun l => l - lineRate s p * (m - x.at_)) }
  let s := s.swWrite false R.EP_CBS_SLOPE i v
  if s.flag F.EP_CBS_SLOPE_EN i then cbsClamp p c (setCbs p c x s)
  else
    (s.updEp p (fun y => { y with cbs := tset CbsSt.init y.cbs c { x with credit := 0 } })).put F.EP_CBS_CREDIT_VALUE i 0

/-- CBS_SLOPE (R267). -/
def execCbsSlope (p : Fin 24) (c : Fin 8) (init : Init) (value : Word) (s : State) : Res :=
  .next (s.busWrite init (R.EP_CBS_SLOPE.addr (8 * p + c)) 4 (cbsSlopeWrite p c value))

/-- A write of EP_POL_RATE or EP_POL_BURST of index `i`: the tokens gained at the old rate count (R268). -/
def polWrite (r : Reg) (i : Nat) (v : Word) (s : State) : State := (polSettle (i / 8) (i % 8) s).swWrite false r i v

/-- A write of EP_CBS_MAXINT: HI follows it. -/
def cbsMaxIntWrite (p c : Nat) (v : Word) (s : State) : State :=
  let s := (cbsSettle p c s).swWrite false R.EP_CBS_MAXINT (8 * p + c) v
  if s.flag F.EP_CBS_SLOPE_EN (8 * p + c) then cbsShow p c s else s

/-! ### MACsec keys (R277, R454) -/

/-- A key handle is refused with a status of Table 16-6: FS396 once a beat (R454). -/
def keyRefused (part status init : Nat) (s : State) : State :=
  if s.bel.said396 then s
  else
    let d := s.draw
    State.raiseSec { d.2 with bel := { d.2.bel with said396 := true } } 396 part status init (Config.freeNat 22 d.1 % 2 ^ 32)

/-- The key slot that a handle names. -/
def keySlot (s : State) (h : Nat) : KeySlot := tget KeySlot.empty s.bel.keys h

/-- Partition `part` may use handle `h` for a purpose of USAGE bit `u`: 0, or the status of Table 16-6. -/
def keyUse (s : State) (part h u : Nat) : Nat :=
  let k := keySlot s h
  if 63 ≤ h ∨ k.kind = 0 then 3
  else if !bitOf k.mask part then 4
  else if !bitOf k.usage u then 5
  else 0

/-- VALID of an SA: 0 to 3 transmit, 4 + 4 s + a receive. -/
def setSaValid (p sa v : Nat) (s : State) : State :=
  if sa < 4 then s.put F.EP_TXSA_CTRL_VALID (4 * p + sa) v else s.put F.EP_RXSA_CTRL_VALID (32 * p + (sa - 4)) v

/-- An SA without its key. -/
def clearSa (p sa : Nat) (s : State) : State :=
  (setSaValid p sa 0 s).updEp p (fun x => { x with keys := tset none x.keys sa none })

/-- A write of SA.KEY: the key store loads the SAK, or the handle is refused. -/
def saKeyWrite (p sa init : Nat) (v : Word) (s : State) : State :=
  let h := getBits v 5 0
  let part := asgOf s 3 p
  let st := keyUse s part h 5
  if 6 ≤ p then s
  else if h = 0x3F then clearSa p sa s
  else if st = 0 ∧ (keySlot s h).kind = 6 then
    (setSaValid p sa 1 s).updEp p (fun x => { x with
      keys := tset none x.keys sa (some (h, beOct (keySlot s h).material 44)), thrSaid := x.thrSaid.filter (· != sa), exh := x.exh.filter (· != sa) })
  else
    let s := portFaultFree 282 p sa (epEvt p 26 (clearSa p sa s))
    if st = 4 ∨ st = 5 then keyRefused part st init s else s

/-- Address of the CTRL word of an SA. -/
def saAddr (p sa : Nat) : Nat :=
  if sa < 4 then R.EP_TXSA_CTRL.addr (4 * p + sa) else R.EP_RXSA_CTRL.addr (32 * p + (sa - 4))

/-- SA_KEY (R277). -/
def execSaKey (p : Fin 24) (sa : Fin 36) (init : Init) (value : Word) (s : State) : Res :=
  .next (s.busWrite init (saAddr p sa) 4 (saKeyWrite p sa init value))

/-! ### TC10 (R278) -/

/-- A write of EP_TC10. -/
def tc10Write (p : Nat) (v : Word) (s : State) : State :=
  let req := s.flag F.EP_TC10_SLEEP_REQ p
  let s := s.swWrite false R.EP_TC10 p v
  let on := s.flag F.EP_TC10_EN p
  let s := if on then s else s.put F.EP_TC10_SLEEP_REQ p (b2n req)
  let s := (if bitOf v.toNat 29 && on then s.emit (.pin 3 p 0) else s).put F.EP_TC10_WAKE_REQ p 0
  let s := if s.get F.EP_STAT_TC10_STATE p = 3 then s.put F.EP_TC10_SLEEP_REQ p 0 else s
  if bitOf v.toNat 30 && on && s.get F.EP_STAT_TC10_STATE p == 0 then tc10Drained p (s.put F.EP_STAT_TC10_STATE p 1) else s

/-- TC10_SLEEP_REQ (R278). -/
def execTc10SleepReq (p : Fin 20) (init : Init) (value : Word) (s : State) : Res :=
  .next (s.busWrite init (R.EP_TC10.addr p) 4 (tc10Write p value))

/-- TC10_WAKE_REQ (R278). -/
def execTc10WakeReq (p : Fin 20) (init : Init) (value : Word) (s : State) : Res :=
  .next (s.busWrite init (R.EP_TC10.addr p) 4 (tc10Write p value))

/-- The port enters SLEEP; what is left for it is handled as at link down. -/
def tc10Sleep (p : Nat) (s : State) : State :=
  phyDown p ((s.put F.EP_STAT_TC10_STATE p 3).put F.EP_TC10_SLEEP_REQ p 0)

/-- TC10_SLEEP_ACK (R278). -/
def execTc10SleepAck (p : Fin 20) (s : State) : Res :=
  .next (if s.get F.EP_STAT_TC10_STATE p = 2 then tc10Sleep p s else s)

/-- TC10_DRAIN_TIMEOUT (R278). -/
def execTc10DrainTimeout (p : Fin 20) (s : State) : Res :=
  .next (if s.get F.EP_STAT_TC10_STATE p = 1 then portFaultFree 284 p 0 (epEvt p 24 (tc10Sleep p s)) else s)

/-- A wake-up received while the K-die runs. -/
def tc10Wake (p ticks : Nat) (s : State) : State :=
  let st := s.get F.EP_STAT_TC10_STATE p
  if !s.flag F.EP_TC10_EN p then s
  else
    let s := epEvt p 25 ((s.put F.EP_STAT_TC10_STATE p 0).put F.EP_TC10_SLEEP_REQ p 0)
    if st = 0 then s
    else if st ≠ 3 then s.incSat F.EP_CNT_CNT (12 * p + 10)
    else
      let s := s.incSat F.EP_CNT_CNT (12 * p + 11)
      let s := s.each (List.range 20) (fun q s => if bitOf (s.get F.EP_TC10_FWD_MASK p) q then s.emit (.pin 3 q 0) else s)
      if s.flag F.EP_TC10_WAKE_DS p then wakeEvent 4 p ticks s else s

/-- TC10_WAKE_RX (R278): in DEEP_SLEEP only the armed detectors of the island see it. -/
def execTc10WakeRx (p : Fin 20) (ticks : Nat) (s : State) : Res :=
  .next (if s.pm.phase = 2 then (if s.pm.tc10.contains p.val then wakeEvent 4 p ticks s else s) else tc10Wake p ticks s)

/-! ### Test modes (R279) -/

/-- EP_TEST.MODE set: a defined mode, or 0, is accepted; the link is down while it is not 0. -/
def setTest (p n : Nat) (s : State) : State :=
  if 20 ≤ p then s
  else if n = 0 then s.put F.EP_TEST_MODE p 0
  else if n ≤ 7 ∧ Config.testMode p n then phyDown p (s.put F.EP_TEST_MODE p n)
  else s

/-- MODE is writable only while the dictionary mode is SERVICE, in which alone the SERVICE role writes (R73, R279). -/
def setTestAs (p n : Nat) (s : State) : State := if s.get F.DICT_MODE_MODE 0 = 3 then setTest p n s else s

/-- A write of EP_TEST: only in dictionary mode SERVICE. -/
def testWrite (p : Nat) (v : Word) (s : State) : State :=
  setTestAs p (getBits v 31 28) s

/-- EP_TEST (R279). -/
def execEpTest (p : Fin 24) (init : Init) (value : Word) (s : State) : Res :=
  .next (s.busWrite init (R.EP_TEST.addr p) 4 (testWrite p value))

/-! ### The table window (R284) -/

/-- An entry value is usable: a stream gate's LEN is 1 to 64. -/
def tblValueOk (t v : Nat) : Bool := t != 1 || (decide (1 ≤ bitsOf v 15 8) && decide (bitsOf v 15 8 ≤ 64))

/-- An entry written by software: its fields under their access codes; a meter starts with full buckets and a recovery
function that becomes valid accepts the next number. -/
def tblWrite (t i v : Nat) (s : State) : State :=
  let old := tblGet s t i
  let s := s.tblSet t i ((tblFields t).foldl (mergeField false false old v) old)
  if t = 3 then
    { s with ports := { s.ports with mc := tset Bucket.init s.ports.mc i ⟨0, s.time.mono⟩,
                                     me := tset Bucket.init s.ports.me i ⟨0, s.time.mono⟩ } }
  else if t = 1 then sgShow i s
  else if t = 4 ∧ ¬ bitOf old 31 then s.updFrer i (fun x => { x with hist := 0, any := true })
  else s

/-- A window command ends. -/
def tblDone (p res : Nat) (s : State) : State :=
  (((s.put F.EP_TBL_STAT_RESULT p res).put F.EP_TBL_STAT_DONE p 1).put F.EP_TBL_CMD_GO p 0).raiseIrq 800

/-- The four data words of a window as one number. -/
def tblData (s : State) (p : Nat) : Nat :=
  (List.range 4).foldl (fun a w => a + (s.rd R.EP_TBL_DATA (4 * p + w)).toNat * 2 ^ (32 * w)) 0

/-- A write of EP_TBL_CMD with GO = 1 that reads or writes. -/
def tblGo (p : Nat) (write : Bool) (v : Word) (s : State) : State :=
  let t := getBits v 29 27
  let i := getBits v 12 0
  let s := ((s.put F.EP_TBL_CMD_WRITE p (b2n write)).put F.EP_TBL_CMD_TABLE p t).put F.EP_TBL_CMD_INDEX p i
  if tblSize t ≤ i then tblDone p 1 s
  else if write then
    (if tblValueOk t (tblData s p) then tblDone p 0 (tblWrite t i (tblData s p) s) else tblDone p 2 s)
  else
    tblDone p 0 (s.each (List.range 4) (fun w s =>
      s.wr R.EP_TBL_DATA (4 * p + w) (BitVec.ofNat 32 (tblGet s t i / 2 ^ (32 * w)))))

/-- TABLE_READ (R284). -/
def execTableRead (p : Fin 24) (init : Init) (value : Word) (s : State) : Res :=
  .next (s.busWrite init (R.EP_TBL_CMD.addr p) 4 (tblGo p false value))

/-- TABLE_WRITE (R284). -/
def execTableWrite (p : Fin 24) (init : Init) (value : Word) (s : State) : Res :=
  .next (s.busWrite init (R.EP_TBL_CMD.addr p) 4 (tblGo p true value))

end Sys2Proof.Machine
end

