-- ==== Sys2Proof/Machine/Time.lean ====
section
/-!
DEFINITION. The time unit (chapter 10): the counter and its tick, rate and offset, synchronization state, and time-master
handover.
-/

namespace Sys2Proof.Machine

/-- The staging word of a 64-bit register's low word (R9). -/
def staged (s : State) (r : Reg) (i : Nat) : Word := s.stage.read r i

/-- A staging word loaded (R9). -/
def State.setStaged (s : State) (r : Reg) (i : Nat) (v : Word) : State := { s with stage := s.stage.write r i v }

/-! ### Synchronization state (R293) -/

/-- The states of TIME_STAT.STATE. -/
def syncSynced : Nat := 1
def syncHoldover : Nat := 2
def syncFree : Nat := 3

/-- BEAT_STAT.STATE equals TIME_STAT.STATE while BEAT_CTRL.EN is 1; a change raises interrupt 873 (R109). -/
def beatState (s : State) : State :=
  let st := if s.flag F.BEAT_CTRL_EN 0 then s.get F.TIME_STAT_STATE 0 else 0
  if s.get F.BEAT_STAT_STATE 0 = st then s else (s.put F.BEAT_STAT_STATE 0 st).raiseIrq 873

/-- The sync state changes, with its cause; an entry to HOLDOVER is counted and raises FS352. -/
def setSync (st cause : Nat) (s : State) : State :=
  let old := s.get F.TIME_STAT_STATE 0
  let s := (s.put F.TIME_STAT_STATE 0 st).put F.TIME_STAT_HO_CAUSE 0 cause
  if old = st then s
  else
    let s := if st = syncHoldover then
        let n := satInc s.time.entries (2 ^ 32 - 1)
        timeFault 352 0 cause n { s with time := { s.time with entries := n } }
      else s
    beatState (if s.flag F.TIME_CTRL_STATE_IE 0 then s.raiseIrq 864 else s)

/-- SYNCED is lost for a cause. -/
def toHoldover (cause : Nat) (s : State) : State :=
  if s.get F.TIME_STAT_STATE 0 = syncSynced then setSync syncHoldover cause s else s

/-- A CLKIN fallback at the time unit (Table 10-1). -/
def timeFallback (s : State) : State :=
  let st := s.get F.TIME_STAT_STATE 0
  if st = syncSynced then setSync syncHoldover 3 s
  else if st = syncFree then s.put F.TIME_STAT_HO_CAUSE 0 3
  else s

/-- A write of TIME_CTRL. -/
def timeCtrlWrite (v : Word) (s : State) : State :=
  let s := s.swWrite false R.TIME_CTRL 0 (v &&& 0x1FFFFFFF#32)
  if bitOf v.toNat 31 && !s.flag F.TIME_STAT_CLK_FALLBACK 0 then setSync syncSynced 0 s
  else if bitOf v.toNat 30 then toHoldover 2 s
  else s

/-- TIME answers only to the partition to which Belfry assigned the block (R290); its slot entry is that rule's (R444 step 4),
not step 3's. -/
def timeMay (s : State) (init : Nat) : Bool := init == 0x30 || partOf s init == slotOwner s 0x030

/-- A write of a TIME register. -/
def State.timeBus (s : State) (init a : Nat) (eff : State → State) : State :=
  s.busWrite init a 4 (fun s => if timeMay s init then eff s else s.denyWrite init a)

/-- A row that writes TIME_CTRL. -/
def timeCtrlRow (init : Nat) (v : Word) (s : State) : Res :=
  .next (s.timeBus init (R.TIME_CTRL.addr 0) (fun s => (timeCtrlWrite v s).put F.TIME_CTRL_KEEP 0 0))

/-- TIME_LOCK (R293). -/
def execTimeLock (init : Init) (value : Word) (s : State) : Res := timeCtrlRow init value s
/-- TIME_UNLOCK (R293). -/
def execTimeUnlock (init : Init) (value : Word) (s : State) : Res := timeCtrlRow init value s
/-- TIME_KEEP (R293): a keepalive. -/
def execTimeKeep (init : Init) (value : Word) (s : State) : Res := timeCtrlRow init value s

/-- KEEPALIVE_TIMEOUT (R293). -/
def execKeepaliveTimeout (s : State) : Res :=
  .next (if s.get F.TIME_CTRL_SYNC_TMO 0 = 0 then s else toHoldover 1 s)

/-! ### Rate and offset (R289 to R292) -/

/-- TIME_INC in 2^-32 ns. -/
def timeInc (s : State) : Nat := s.get64 R.TIME_INC_LO R.TIME_INC_HI 0

/-- A write of TIME_INC_HI applies the increment, clamped (R289). -/
def timeIncWrite (v : Word) (s : State) : State :=
  let hi := getBits v 7 0
  let lo := (staged s R.TIME_INC_LO 0).toNat
  let x := hi * 2 ^ 32 + lo
  let y := max 0x01F0000000 (min 0x0210000000 x)
  let s := s.put64 R.TIME_INC_LO R.TIME_INC_HI 0 y
  if x = y then s
  else timeFault 354 0 0 (hi * 2 ^ 24 + lo / 2 ^ 8) (s.put F.TIME_STAT_INC_CLAMP 0 1)

/-- TIME_INC (R289). -/
def execTimeInc (init : Init) (value : Word) (s : State) : Res :=
  .next (s.timeBus init (R.TIME_INC_HI.addr 0) (timeIncWrite value))

/-- A write of TIME_STEP_HI (R291): a step of another offset than 0 waits for its tick, and the staging words clear. -/
def timeStepWrite (v : Word) (s : State) : State :=
  let ns := toSigned 64 ((staged s R.TIME_STEP_LO 0).toNat + v.toNat * 2 ^ 32)
  let off := ns * 2 ^ 32 + (staged s R.TIME_STEP_FRAC 0).toNat
  let s := (s.setStaged R.TIME_STEP_LO 0 0).setStaged R.TIME_STEP_FRAC 0 0
  if off = 0 then s else { s with time := { s.time with steps := s.time.steps ++ [off] } }

/-- TIME_STEP (R291). -/
def execTimeStep (init : Init) (value : Word) (s : State) : Res :=
  .next (s.timeBus init (R.TIME_STEP_HI.addr 0) (timeStepWrite value))

/-- A step takes effect (R291). -/
def applyStep (off : Int) (s : State) : State :=
  let t := (s.time.now : Int) + off
  if t < 0 then s.put F.TIME_STAT_STEP_ERR 0 1
  else
    let s := { s with time := { s.time with now := (t % (2 ^ 96 : Int)).toNat, lastFrac := (off % (2 ^ 32 : Int)).toNat },
                      tab := { s.tab with realigned := true, stepAt := s.time.elapsed } }
    let s := (s.incWrap F.TIME_STAT_STEP_GEN 0).incSat F.TIME_STAT_STEP_CNT 0
    let s := s.put64 R.TIME_LASTSTEP_LO R.TIME_LASTSTEP_HI 0 (ofSigned 64 (off / 2 ^ 32))
    let s := timeFault 353 0 0 (stepGen s) s
    let s := if s.flag F.TIME_CTRL_STEP_IE 0 then s.raiseIrq 865 else s
    s.each (List.range 24) portRealign

/-- `n` nominal ticks of the time clock pass: the increments, and 2 ns each of SPLL unless it is dead. -/
def timePass (n : Nat) (s : State) : State :=
  let i := n * timeInc s
  let q := if s.flag F.CLK_PLL_DEAD 1 then 0 else 2 * n
  let x := s.time
  { s with time := { x with now := (x.now + i) % 2 ^ 96, mono := x.mono + i, spll := x.spll + q, elapsed := x.elapsed + 2 * n } }

/-- Nominal ticks in one tick of the time clock: five while domain 11 runs from IRC100 (R512). -/
def timeRate (s : State) : Nat := if s.get F.CLK_DOM_SRC 11 = 1 then 5 else 1

/-! ### When a boundary is due (R106, R107, R110) -/

/-- BEAT_PHASE reduced modulo BEAT_PERIOD (R106).  The register keeps the value written and the reduction is made where it is used:
the spec does not say whether it reads back reduced (DESIGN CHOICE, log 61). -/
def beatPhase (s : State) : Nat := s.get F.BEAT_PHASE_PHASE 0 % periodNs s

/-- BEAT_LAST. -/
def beatLast (s : State) : Nat := s.get64 R.BEAT_LAST_LO R.BEAT_LAST_HI 0

/-- The congruent instant t_b that network time has reached, where one is: one period after the last in a beat of the grid, else
the last congruent instant that network time has run through since the last step, at least 25,000 ns of local elapsed time after
EN was written or the beat began, which is counted from the tick of its boundary (DESIGN CHOICE, log 61). -/
def dueAt (s : State) : Option Nat :=
  let now := s.nowNs
  if s.tab.started && !s.tab.realigned then
    let t := beatLast s + periodNs s
    if t ≤ now then some t else none
  else
    let past := (now - beatPhase s) % periodNs s
    if beatPhase s ≤ now ∧ max (s.tab.mark + 25000) s.tab.stepAt + past ≤ s.time.elapsed then some (now - past) else none

/-- The beat can have a boundary: EN is set, and the K-die and its time counter run. -/
def beatOn (s : State) : Bool := s.flag F.BEAT_CTRL_EN 0 && s.time.run && s.pm.phase != 2 && !s.flag F.KN_STAT_HALT 0

/-- A boundary is due. -/
def beatDue (s : State) : Bool := beatOn s && (dueAt s).isSome

/-- The step that waits longest takes effect, one a tick. -/
def nextStep (s : State) : State :=
  match s.time.steps with
  | [] => s
  | o :: rest => applyStep o { s with time := { s.time with steps := rest } }

/-- One tick of the time clock (R288, R292): the increment, the boundary judged on the result, then at most one step; while a
boundary is due, the step waits for it. -/
def timeTick (s : State) : State :=
  let s := timePass (timeRate s) s
  if beatDue s then s else nextStep s

/-- What passes while no command waits: echoes arrive, and one tick of the time clock passes, if it runs and the K-die is powered. -/
def idleTick (s : State) : State :=
  let s := echoDeliver s
  if s.time.run && s.pm.phase != 2 then timeTick s else s

/-- `n` ticks of the time clock, each as `timeTick` while steps wait (the list is as long as theirs). -/
def timeSteps : List Int → Nat → State → State
  | _ :: rest, n + 1, s =>
    let s := timePass (timeRate s) s
    if beatDue s then timePass (n * timeRate s) s else timeSteps rest n (nextStep s)
  | _, n, s => timePass (n * timeRate s) s

/-- `n` ticks of the time clock. -/
def timeRun (n : Nat) (s : State) : State := if s.time.run then timeSteps s.time.steps n s else s

/-- The counter as TIME_NOW_FRAC latches it (R290). -/
def latchNow (s : State) : State :=
  (s.wr R.TIME_NOW_FRAC 0 (BitVec.ofNat 32 s.time.now)).put64 R.TIME_NOW_LO R.TIME_NOW_HI 0 s.nowNs

/-- TIME_NOW_FRAC (R290): every partition may read it; a fenced port ends the read. -/
def execTimeNowFrac (_ : Init) (s : State) : Res :=
  .next (if fenced s 0x030 then s.updPort 0x030 (fun x => { x with treset := satInc x.treset 0xFFFF }) else latchNow s)

/-- The counter of CAN controller `n` (R302): 25 ns of SPLL a count. -/
def canCount (s : State) : Nat := s.time.spll / 25 % 2 ^ 32

/-- Step 2 of Table 4-1 at the time unit (R302). -/
def latchCan (s : State) : State :=
  (s.each (List.range 16) (fun n s => s.wr R.TIME_CANLAT n (BitVec.ofNat 32 (canCount s)))).wr R.TIME_CANLAT_SEQ 0
    (BitVec.ofNat 32 s.beatLo)

/-! ### Handover (R304, R305) -/

/-- STATE of handover on Pk. -/
def hoState (s : State) (k : Nat) : Nat := s.get F.TIME_HO_STAT_STATE k

/-- STATE changes, with interrupt 866 + k. -/
def setHo (k st : Nat) (s : State) : State :=
  if hoState s k = st then s
  else
    let s := s.put F.TIME_HO_STAT_STATE k st
    if s.flag F.TIME_HO_CTRL_IE k then s.raiseIrq (866 + k) else s

/-- The bytes of a handover frame without its FCS (Table 10-2). -/
def hoFrame (s : State) (msg seq : Nat) : List Nat :=
  let id := beOctets (s.get64 R.TIME_CLKID_LO R.TIME_CLKID_HI 0) 8
  [0x01, 0x80, 0xC2, 0x00, 0x00, 0x0E] ++ id.take 3 ++ id.drop 5 ++ [0x88, 0xB5, 0x4B, msg] ++ beOctets seq 2 ++ id ++
    List.replicate 34 0

/-- A handover frame enters the egress queue of Pk in class 7 while its link is up, untagged and without a cell of the shared buffer: it
leaves by transmit selection like any frame of the class, and MACsec applies (R304). -/
def hoSend (k msg seq : Nat) (s : State) : State :=
  if portUp s k then
    let b := hoFrame s msg seq
    let f := s.sw.next
    let q := s.sw.qseq
    let c : SwCopy := ⟨k, 1, false, 1, 0, 0, 0, gateOpen s k 7, q, 0, 0, 0, 0, none, 0⟩
    let s := cbsSettle k 7 { s with sw := { s.sw with next := f + 1, qseq := q + 1 } }
    s.setFrame f { SwFrame.none with ingress := k, cls := 7, octets := b ++ fcsOf b, raw := b ++ fcsOf b, len := 64, cells := 1, ended := true,
                                     own := true, t := txStamp s k, mono := s.time.mono, gen := stepGen s, copies := [c] }
  else s

/-- One port's handover. -/
def hoSt (s : State) (k : Nat) : HoSt := tget HoSt.init s.time.ho k

/-- A port's handover changed. -/
def State.updHo (s : State) (k : Nat) (f : HoSt → HoSt) : State :=
  { s with time := { s.time with ho := tupd HoSt.init s.time.ho k f } }

/-- A write of REQ. -/
def hoReq (k : Nat) (s : State) : State :=
  let s := s.incWrap F.TIME_HO_STAT_SEQ k
  setHo k 1 (hoSend k 1 (s.get F.TIME_HO_STAT_SEQ k) (s.updHo k (fun x => { x with collided := false })))

/-- A write of TIME_HO_CTRLk. -/
def hoCtrlWrite (k : Nat) (v : Word) (s : State) : State :=
  let s := s.swWrite false R.TIME_HO_CTRL k (v &&& 0x8FFFFFFF#32)
  if !s.flag F.TIME_HO_CTRL_EN k then s
  else
    let s := if bitOf v.toNat 29 && hoState s k == 7 then hoSend k 2 (hoSt s k).peerSeq s
      else if bitOf v.toNat 28 && hoState s k == 7 then hoSend k 3 (hoSt s k).peerSeq s
      else s
    if bitOf v.toNat 30 then hoReq k s else s

/-- A row that writes TIME_HO_CTRLk. -/
def hoRow (k init : Nat) (v : Word) (s : State) : Res := .next (s.timeBus init (R.TIME_HO_CTRL.addr k) (hoCtrlWrite k v))

/-- HANDOVER_REQ (R305). -/
def execHandoverReq (k : Fin 2) (init : Init) (value : Word) (s : State) : Res := hoRow k init value s
/-- HANDOVER_GRANT (R305). -/
def execHandoverGrant (k : Fin 2) (init : Init) (value : Word) (s : State) : Res := hoRow k init value s
/-- HANDOVER_REFUSE (R305). -/
def execHandoverRefuse (k : Fin 2) (init : Init) (value : Word) (s : State) : Res := hoRow k init value s

/-- A collision (R305): the lower CLOCKID wins; each side sends COLLIDE once for a request. -/
def hoCollide (k peer : Nat) (s : State) : State :=
  let own := s.get64 R.TIME_CLKID_LO R.TIME_CLKID_HI 0
  let seq := s.get F.TIME_HO_STAT_SEQ k
  let s := if (hoSt s k).collided then s else hoSend k 4 seq (s.updHo k (fun x => { x with collided := true }))
  if own < peer then setHo k 5 s
  else if peer < own then setHo k 6 s
  else timeFault 357 k 6 seq ((setHo k 6 s).put F.TIME_HO_STAT_EQUAL_ID k 1)

/-- The bytes of a peer's handover frame, without FCS (Table 10-2). -/
def hoPeerFrame (msg seq clockId : Nat) : List Nat :=
  let id := beOctets clockId 8
  [0x01, 0x80, 0xC2, 0x00, 0x00, 0x0E] ++ id.take 3 ++ id.drop 5 ++ [0x88, 0xB5, 0x4B, msg] ++ beOctets seq 2 ++ id ++ List.replicate 34 0

/-- MACsec's verdict on a peer's handover frame at port `k` (R276, R304): its ICV is right where it is that of these bytes under the SA. -/
def hoVerify (k msg seq : Nat) (h : HoPeer) (s : State) : Bool × State :=
  let b := hoPeerFrame msg seq h.clockId
  let ok := match rxMsec s k h.sec, h.sec with
    | some a, some t => a.icv (secOctets t) (a.cipher b) == h.icv
    | _, _ => false
  msecRx k 0x88B5 h.sec ok s

/-- A handover frame that MACsec lets pass moves the handover (R305). -/
def hoTake (k msg seq clockId : Nat) (s : State) : State :=
  let s := (s.put64 R.TIME_HO_PEER_LO R.TIME_HO_PEER_HI k clockId).incSat F.EP_CNT_CNT (12 * k)
  let pend := hoState s k == 1
  if msg = 1 ∨ msg = 4 then
    (if pend then hoCollide k (clockId % 2 ^ 64) s
     else if msg = 1 then setHo k 7 (s.updHo k (fun x => { x with peerSeq := seq % 65536 }))
     else s)
  else if msg = 2 ∨ msg = 3 then
    (if pend ∧ seq = s.get F.TIME_HO_STAT_SEQ k then setHo k msg s else s)
  else s

/-- HANDOVER_FRAME_RX (R304, R305): consumed while EN = 1; one that fails MACsec verification is dropped and counted (R276). -/
def execHandoverFrameRx (k : Fin 2) (msg seq : Nat) (peer : HoPeer) (s : State) : Res :=
  .next (if !s.flag F.TIME_HO_CTRL_EN k || !portUp s k then s
  else
    let r := hoVerify k msg seq peer s
    if r.1 then hoTake k msg seq peer.clockId r.2
    else countDrop k (frameClass r.2 k (r.2.get F.SW_PORT_PCP_DEF_PCP k) none) 0x0A r.2)

/-- HANDOVER_TIMEOUT (R305). -/
def execHandoverTimeout (k : Fin 2) (s : State) : Res :=
  .next (if hoState s k = 1 then timeFault 358 k 4 (s.get F.TIME_HO_STAT_SEQ k) (setHo k 4 s) else s)

end Sys2Proof.Machine
end

