-- ==== Sys2Proof/Machine/Can.lean ====
section
/-!
DEFINITION. The CAN controllers (chapter 11): slots, filters, queues, transmission, error states, link loss, transceivers
and selective wake.
-/

namespace Sys2Proof.Machine

/-- One controller. -/
def canSt (s : State) (n : Nat) : CanSt := tget CanSt.init s.bus.can n

/-- A controller changed. -/
def State.updCan (s : State) (n : Nat) (f : CanSt → CanSt) : State :=
  { s with bus := { s.bus with can := tupd CanSt.init s.bus.can n f } }

/-- One slot. -/
def canSlot (s : State) (n sl : Nat) : CanSlot := tget CanSlot.init s.bus.slot (8 * n + sl)

/-- A slot changed. -/
def State.updCanSlot (s : State) (n sl : Nat) (f : CanSlot → CanSlot) : State :=
  { s with bus := { s.bus with slot := tupd CanSlot.init s.bus.slot (8 * n + sl) f } }

/-- A source of chapter 11 with the record of R343. -/
def busFault (n kind ch slot value : Nat) (s : State) : State :=
  s.raiseRec n (2 ^ 31 + kind * 2 ^ 30 + ch * 2 ^ 16 + slot * 2 ^ 12 + value % 4096) s.beatLo 0 0

/-- A CAN source whose VALUE the spec does not state: a free value. -/
def canFaultFree (n ch slot : Nat) (s : State) : State :=
  let d := s.draw
  busFault n 0 ch slot (Config.freeNat 23 d.1 % 4096) d.2

/-- An event bit of a controller, with interrupt 832 + n where it is enabled (R344). -/
def canEvt (n bit : Nat) (s : State) : State :=
  let s := s.wr R.CAN_EVT n (s.rd R.CAN_EVT n ||| BitVec.ofNat 32 (2 ^ bit))
  if bitOf (s.rd R.CAN_IE n).toNat bit then s.raiseIrq (832 + n) else s

/-- The slot is enabled. -/
def slotOn (s : State) (n sl : Nat) : Bool := s.flag F.CAN_SLOT_CFG_EN (8 * n + sl)

/-- The VE bound to a slot. -/
def slotVe (s : State) (n sl : Nat) : Nat := s.get F.CAN_SLOT_CFG_VE (8 * n + sl)

/-- The VE that CAN_SLOT_CFG names is one of SUBTYPE 0 that names the slot. -/
def slotBound (s : State) (n sl : Nat) : Bool :=
  let v := slotVe s n sl
  veType s v == 2 && s.get F.VE_ID_SUBTYPE v == 0 && s.get F.CANV_BIND_CTRL v == n && s.get F.CANV_BIND_SLOT v == sl

/-- The enabled slots of a controller. -/
def slotsOn (s : State) (n : Nat) : List Nat := (List.range 8).filter (slotOn s n)

/-- An event of an enabled slot (CAN_SLOT_IE bit) reaches the bound VE's vector. -/
def slotEvent (n sl bit : Nat) (s : State) : State :=
  if slotOn s n sl && bitOf (s.rd R.CAN_SLOT_IE (8 * n + sl)).toNat bit then
    veSend (slotVe s n sl) (s.get F.CAN_SLOT_IE_VEC (8 * n + sl)) s
  else s

/-- Event bits of CAN_SLOT_IE. -/
def slotRx : Nat := 31
def slotTxc : Nat := 30
def slotOvr : Nat := 29
def slotBusOff : Nat := 28
def slotState : Nat := 27

/-- The states of Table 11-4. -/
def canDisabled : Nat := 0
def canIntegrating : Nat := 1
def canActive : Nat := 2
def canPassive : Nat := 3
def canBusOff : Nat := 4
def canRecovering : Nat := 5
def canLinkHold : Nat := 6

/-- The state of a controller. -/
def canState (s : State) (n : Nat) : Nat := s.get F.CAN_STAT_STATE n

/-- The CAN clock domains 8 and 9 run (R513). -/
def canClocked (s : State) : Bool := s.get F.CLK_DOM_SRC 8 != 2 && s.get F.CLK_DOM_SRC 9 != 2

/-- A state change, with the STATE event of every enabled slot (R324); leaving RECOVERING sets CAN_EVT.RECOVERED (R340). -/
def setCan (n st : Nat) (s : State) : State :=
  if canState s n = st then s
  else
    let s := if canState s n = canRecovering then canEvt n 29 s else s
    let s := s.put F.CAN_STAT_STATE n st
    let s := if st = canRecovering then s else s.put F.CAN_CMD_BUSOFF_RECOVER n 0
    s.each (slotsOn s n) (fun sl s => slotEvent n sl slotState s)

/-- The controllers' clocks run: block 8 is not gated (R347). -/
def busGated (s : State) : Bool := (portSt s 0x031).causes.contains causePower

/-! ### Queue memory (R313, R317, R319) -/

/-- Data octets of an entry by DATA_CAP. -/
def canCap (s : State) (n sl : Nat) : Nat :=
  match s.get F.CAN_SLOT_CFG_DATA_CAP (8 * n + sl) with | 0 => 8 | 1 => 64 | _ => 2048

/-- Stride of an entry by DATA_CAP. -/
def canStride (s : State) (n sl : Nat) : Nat :=
  match s.get F.CAN_SLOT_CFG_DATA_CAP (8 * n + sl) with | 0 => 32 | 1 => 80 | _ => 2064

/-- Queue memory read as INIT 0x400 + VE. -/
def canRead (n sl a len : Nat) (s : State) : Option (List Nat) × State :=
  let v := slotVe s n sl
  match dmaAddrs s v (0x400 + v) a .read len with
  | .ok l => (some (l.map (fun x => (memGet s.mem x).toNat)), s)
  | .error (c, e, x) =>
    (none, dmaFailed v c x .read (match e with | some w => walkFault v x .read w s | none => s))

/-- Queue memory written as INIT 0x400 + VE; a failure is a late error, with DMA_ERR and FS325 (R319). -/
def canWrite (n sl a : Nat) (data : List Nat) (s : State) : Bool × State :=
  let v := slotVe s n sl
  match dmaStore v (0x400 + v) a data s with
  | .ok t => (true, t)
  | .error (c, e, x) =>
    let s := match e with | some w => walkFault v x .write w s | none => s
    let s := (dmaFailed v c x .write s).put F.CAN_SLOT_STAT_DMA_ERR (8 * n + sl) 1
    (false, canFaultFree 325 n sl s)

/-! ### Frames -/

/-- Format of a header word: 0 base, 1 extended, 2 XL. -/
def canFmt (w0 : Nat) : Nat := if bitOf w0 31 then 2 else if bitOf w0 29 then 1 else 0

/-- The identifier that filters of 11 bits see: ID [28:18] of an extended frame. -/
def canId11 (w0 : Nat) : Nat := if canFmt w0 = 1 then bitsOf w0 28 18 else bitsOf w0 10 0

/-- The arbitration field as a number: of two, the lower one wins (R320). -/
def arbKey (w0 w2 : Nat) : Nat :=
  let rtr := b2n (!bitOf w0 31 && bitOf w2 31)
  if canFmt w0 = 1 then bitsOf w0 28 18 * 2 ^ 21 + 2 ^ 20 + 2 ^ 19 + bitsOf w0 17 0 * 2 + rtr
  else bitsOf w0 10 0 * 2 ^ 21 + rtr * 2 ^ 20

/-- Filter `f` of a controller matches a frame (R314). -/
def canFltMatch (s : State) (n f : Nat) (x : CanFrame) : Bool :=
  let i := 64 * n + f
  let fmt := s.get F.CAN_FLT0_FMT i
  let m := s.get F.CAN_FLT1_MASK i
  let fid := s.get F.CAN_FLT0_FID i
  s.flag F.CAN_FLT0_VALID i && (fmt == 3 || fmt == canFmt x.w0) &&
  (if canFmt x.w0 = 1 then
     (bitsOf x.w0 28 18 &&& m) == (bitsOf fid 28 18 &&& m) && bitsOf x.w0 17 0 == bitsOf fid 17 0
   else (bitsOf x.w0 10 0 &&& m) == (bitsOf fid 10 0 &&& m)) &&
  (!(canFmt x.w0 == 2 && s.flag F.CAN_FLT1_VCID_EN i) || bitsOf x.w2 23 16 == s.get F.CAN_FLT1_VCID i)

/-- The slots that the matching filters name, those enabled. -/
def canSlots (s : State) (n : Nat) (x : CanFrame) : List Nat :=
  let m := (List.range 64).foldl (fun m f => if canFltMatch s n f x then m ||| s.get F.CAN_FLT1_SLOTS (64 * n + f) else m) 0
  (slotsOn s n).filter (bitOf m)

/-- Words 0, 2 and 3 of a frame as Table 11-2 gives them to its format: what the format does not have is 0. -/
def canWords (x : CanFrame) (local_ : Bool) : Nat × Nat × Nat :=
  let xl := bitOf x.w0 31
  let fd := bitOf x.w0 30
  let ide := bitOf x.w0 29
  let low := b2n local_ * 2 ^ 12 + x.data.length % 2 ^ 12
  if xl then (3 * 2 ^ 30 + bitsOf x.w0 10 0, bitsOf x.w2 31 15 * 2 ^ 15 + low, x.w3 % 2 ^ 32)
  else
    (b2n fd * 2 ^ 30 + b2n ide * 2 ^ 29 + (if ide then bitsOf x.w0 28 0 else bitsOf x.w0 10 0),
      (if fd then bitsOf x.w2 30 29 * 2 ^ 29 else b2n (bitOf x.w2 31) * 2 ^ 31) + low, 0)

/-- The header of a receive entry (Table 11-2). -/
def canHeader (x : CanFrame) (sof : Nat) (local_ : Bool) : List Nat :=
  let w := canWords x local_
  leOctets w.1 4 ++ leOctets sof 4 ++ leOctets w.2.1 4 ++ leOctets w.2.2 4

/-- A frame's delivery to one slot (R317, R318). -/
def canDeliver (n sl : Nat) (x : CanFrame) (sof : Nat) (local_ : Bool) (s : State) : State :=
  let i := 8 * n + sl
  if canCap s n sl < x.data.length then s.incSat F.CAN_SLOT_TOOLONG_CNT i
  else if s.flag F.CAN_RXWI_FULL i then
    let s := slotEvent n sl slotOvr ((s.incSat F.CAN_SLOT_OVR_CNT i).put F.CAN_SLOT_STAT_OVR i 1)
    if (canSt s n).said322 then s else canFaultFree 322 n sl (s.updCan n (fun c => { c with said322 := true }))
  else
    let wi := s.get F.CAN_RXWI_WI i
    let r := canWrite n sl (s.get F.CAN_RXBASE_BASE i + canStride s n sl * wi) (canHeader x sof local_ ++ x.data) s
    if r.1 then
      let s := r.2.put F.CAN_RXWI_WI i (wi + 1)
      let s := s.put F.CAN_RXWI_FULL i (b2n ((wi + 1) % 256 == s.get F.CAN_RXAI_AI i))
      gongQualify 0 (slotEvent n sl slotRx s)
    else r.2

/-! ### The dictionary's channel (R316) -/

/-- Controller `n` carries Usest: USEST_CAN_CH while USEST_CAN_EN is 1. -/
def usestCan (s : State) (n : Nat) : Bool :=
  tget 1 s.dict.vals 0x010011 != 0 && tget 15 s.dict.vals 0x010012 == n

/-- An FD frame for the dictionary engine: base identifier 0x7C0 to 0x7CF on its channel. -/
def usestFrame (s : State) (n : Nat) (x : CanFrame) : Bool :=
  usestCan s n && canFmt x.w0 == 0 && bitOf x.w0 30 && decide (0x7C0 ≤ bitsOf x.w0 10 0) && decide (bitsOf x.w0 10 0 ≤ 0x7CF)

/-! ### Completion (R322) -/

/-- One completion record written at the next entry. -/
def canRecord (n sl : Nat) (r : Nat × Nat) (s : State) : Bool × State :=
  let i := 8 * n + sl
  let wi := s.get F.CAN_CQWI_WI i % 64
  let w := canWrite n sl (s.get F.CAN_CQBASE_BASE i + 8 * wi) (leOctets r.1 4 ++ leOctets r.2 4) s
  if w.1 then
    let s := w.2.put F.CAN_CQWI_WI i ((wi + 1) % 64)
    let s := s.put F.CAN_CQWI_FULL i (b2n ((wi + 1) % 64 == s.get F.CAN_CQAI_AI i % 64))
    let s := (s.updCanSlot n sl (fun x => { x with done := x.done ++ [r.1 % 64] })).incSat F.CAN_SLOT_TXDONE_CNT i
    (true, slotEvent n sl slotTxc s)
  else w

/-- The records that wait are written in order, up to the first that fails. -/
def canRecords (n sl : Nat) : List (Nat × Nat) → State → State
  | [], s => s.updCanSlot n sl (fun x => { x with wait := [] })
  | r :: l, s =>
    let w := canRecord n sl r s
    if w.1 then canRecords n sl l w.2 else w.2.updCanSlot n sl (fun x => { x with wait := r :: l })

/-- A submitted frame completes with a code of Table 11-3. -/
def canComplete (n : Nat) (t : CanTx) (code : Nat) (s : State) : State :=
  let s := s.updCan n (fun c => { c with sub := c.sub.filter (fun x => !(x.slot == t.slot && x.entry == t.entry)) })
  if t.slot = 8 then s
  else
    let i := 8 * n + t.slot
    let v := slotVe s n t.slot
    let s := s.put F.CAN_SLOT_STAT_PENDING i (s.get F.CAN_SLOT_STAT_PENDING i - 1)
    let s := if slotBound s n t.slot then veCounted v (code == 3) s else s
    canRecords n t.slot ((canSlot s n t.slot).wait ++ [(code * 2 ^ 28 + min 15 t.att * 2 ^ 24 + t.entry, t.ts)]) s

/-- The frame in transmission. -/
def canTxNow (s : State) (n : Nat) : Option CanTx := (canSt s n).sub.find? (·.tx)

/-- A submitted frame changed. -/
def updTx (n : Nat) (t : CanTx) (f : CanTx → CanTx) (s : State) : State :=
  s.updCan n (fun c => { c with sub := c.sub.map (fun x => if x.slot = t.slot ∧ x.entry = t.entry then f x else x) })

/-- An abort of a submitted frame (R323). -/
def canAbort (n : Nat) (t : CanTx) (s : State) : State :=
  if t.tx then updTx n t (fun x => { x with abort := true }) s else canComplete n t 3 s

/-- Every submitted frame of a test aborted. -/
def canAbortAll (n : Nat) (p : CanTx → Bool) (s : State) : State :=
  s.each ((canSt s n).sub.filter p) (canAbort n)

/-- The controller goes to DISABLED: every submitted frame of every slot is aborted (R328). -/
def canDisable (n : Nat) (s : State) : State :=
  let s := s.updCan n (fun c => { c with sub := c.sub.map (fun x => { x with tx := false }) })
  setCan n canDisabled (canAbortAll n (fun _ => true) s)

/-! ### Enabling (R311) -/

/-- A timing register's prescaler and quanta per bit. -/
def nbtQ (s : State) (n : Nat) : Nat × Nat :=
  (s.get F.CAN_NBT_BRP n + 1, 3 + s.get F.CAN_NBT_TSEG1 n + s.get F.CAN_NBT_TSEG2 n)
def dbtQ (s : State) (n : Nat) : Nat × Nat :=
  (s.get F.CAN_DBT_BRP n + 1, 3 + s.get F.CAN_DBT_TSEG1 n + s.get F.CAN_DBT_TSEG2 n)
def xbtQ (s : State) (n : Nat) : Nat × Nat :=
  (s.get F.CAN_XBT_BRP n + 1, 3 + s.get F.CAN_XBT_TSEG1 n + s.get F.CAN_XBT_TSEG2 n)

/-- Kernel clocks of a bit. -/
def bitClk (q : Nat × Nat) : Nat := q.1 * q.2

/-- The checked settings lie within Table 11-1 (160 MHz over the clocks of a bit). -/
def canCfgOk (s : State) (n : Nat) : Bool :=
  let a := nbtQ s n
  let d := dbtQ s n
  let x := xbtQ s n
  decide (160 ≤ bitClk a) && decide (bitClk a ≤ 16000) && decide (8 ≤ a.2) &&
  (!s.flag F.CAN_CTRL_FD_EN n || (decide (20 ≤ bitClk d) && decide (bitClk d ≤ bitClk a) && decide (5 ≤ d.2))) &&
  (!s.flag F.CAN_CTRL_XL_EN n || (decide (5 ≤ x.2) &&
    (if s.flag F.CAN_CTRL_XL_TMS n then decide (8 ≤ bitClk x) && decide (bitClk x ≤ 20)
     else decide (20 ≤ bitClk x) && decide (bitClk x ≤ bitClk a)))) &&
  (!s.flag F.CAN_CTRL_XL_TMS n || (s.get F.CAN_XLPWM_PWMS n != 0 && s.get F.CAN_XLPWM_PWML n != 0))

/-- A write of CAN_CTRL; EN is accepted only once CAN is ready (R522 sub-step 6). -/
def canCtrlWrite (n : Nat) (v : Word) (s : State) : State :=
  let v := if s.flag F.DICT_STAT_READY 0 then v else v &&& 0x7FFFFFFF#32
  let s := s.swWrite false R.CAN_CTRL n v
  let s := if 8 ≤ n then s.put F.CAN_CTRL_XL_TMS n 0 else s
  if !bitOf v.toNat 31 then canDisable n s
  else if canState s n ≠ canDisabled then s
  else if canCfgOk s n then setCan n (if linkUp s && canClocked s then canIntegrating else canLinkHold) s
  else canFaultFree 330 n 0 (canEvt n 25 s)

/-- CAN_ENABLE (R311). -/
def execCanEnable (n : Fin 16) (init : Init) (value : Word) (s : State) : Res :=
  .next (s.busWrite init (R.CAN_CTRL.addr n) 4 (canCtrlWrite n value))

/-! ### Error counters (R324) -/

/-- The frame in transmission, where there is one, completes with a code. -/
def canEndTx (n code : Nat) (s : State) : State :=
  match canTxNow s n with
  | some t => canComplete n t code s
  | none => s

/-- The controller enters BUS_OFF: the frame in transmission completes with BUS_OFF (R325). -/
def canGoBusOff (n : Nat) (s : State) : State :=
  let s := setCan n canBusOff ((canEvt n 31 s).incSat F.CAN_CNT_CNT (8 * n + 4))
  let s := s.each (slotsOn s n) (fun sl s => slotEvent n sl slotBusOff s)
  let s := busFault 320 0 n 0 (s.get F.CAN_STAT_TEC n) s
  canEndTx n 4 s

/-- The state that TEC and REC give an error-active or error-passive controller. -/
def canCount' (n tec rec_ : Nat) (s : State) : State :=
  let s := (s.put F.CAN_STAT_TEC n (min tec 511)).put F.CAN_STAT_REC n (min rec_ 255)
  if 255 < tec then canGoBusOff n s
  else if (127 < tec ∨ 127 < rec_) ∧ canState s n = canActive then
    busFault 321 0 n 0 tec (setCan n canPassive (canEvt n 30 s))
  else if tec ≤ 127 ∧ rec_ ≤ 127 then setCan n canActive s
  else s

/-- A controller that takes part in bus traffic: its clock is not gated (R347). -/
def canRuns (s : State) (n : Nat) : Bool := (canState s n == canActive || canState s n == canPassive) && !busGated s

/-- The controller takes part in bus traffic again, in the state that its counters give (Table 11-4; DEDUCED, log 65): they outlast
DISABLED and LINK_HOLD. -/
def canIntegrated (n : Nat) (s : State) : State :=
  canCount' n (s.get F.CAN_STAT_TEC n) (s.get F.CAN_STAT_REC n) (setCan n canActive s)

/-- CAN_INTEGRATION_DONE (R324). -/
def execCanIntegrationDone (n : Fin 16) (s : State) : Res :=
  .next (if canState s n = canIntegrating ∧ ¬ busGated s then canIntegrated n s else s)

/-- A frame is received without an error: REC falls by one, and from above 127 to a value of 119 to 127. -/
def canGoodRx (n : Nat) (s : State) : State :=
  let r := s.get F.CAN_STAT_REC n
  if 127 < r then
    let d := s.draw
    canCount' n (s.get F.CAN_STAT_TEC n) (119 + Config.freeNat 24 d.1 % 9) d.2
  else canCount' n (s.get F.CAN_STAT_TEC n) (r - 1) s

/-- Once a beat, a source of a controller. -/
def said324 (n : Nat) (s : State) : State :=
  if (canSt s n).said324 then s else canFaultFree 324 n 0 (s.updCan n (fun c => { c with said324 := true }))

/-- A frame of a format that the configuration does not admit (R310, R326). -/
def canForeign (n : Nat) (s : State) : State :=
  if s.flag F.CAN_CTRL_PXHD n then
    canCount' n (s.get F.CAN_STAT_TEC n) (s.get F.CAN_STAT_REC n + 1) (s.incSat F.CAN_CNT_CNT (8 * n + 3))
  else said324 n (canEvt n 28 (s.incSat F.CAN_CNT_CNT (8 * n + 5)))

/-- The configuration admits a frame's format. -/
def canAdmits (s : State) (n w0 : Nat) : Bool :=
  if bitOf w0 31 then s.flag F.CAN_CTRL_XL_EN n else if bitOf w0 30 then s.flag F.CAN_CTRL_FD_EN n else true

/-- A frame is received (R314): `engine` says whether the dictionary engine takes it. -/
def canRx (n : Nat) (x : CanFrame) (sof : Nat) (engine : Bool) (s : State) : State :=
  let s := (canGoodRx n s).incSat F.CAN_CNT_CNT (8 * n)
  let l := canSlots s n x
  if l.isEmpty then (if engine then s else s.incSat F.CAN_CNT_CNT (8 * n + 2))
  else s.each l (fun sl s => canDeliver n sl x sof false s)

/-- The controller receives: it takes part in bus traffic over a transceiver in NORMAL or SILENT (R329). -/
def canHears (s : State) (n : Nat) : Bool :=
  let m := s.get F.CAN_TRX_STAT_MODE_ACT n
  canRuns s n && (m == 1 || m == 2)

/-- An unsuccessful attempt of the frame in transmission (R321, R323): it completes with `code` once its retries are spent, with
FS323 once; where it would be tried again, it completes as aborted if an abort waits, or waits for the next attempt. -/
def canAttempt (n code : Nat) (t : CanTx) (s : State) : State :=
  let t := { t with att := t.att + 1 }
  if t.slot ≠ 8 ∧ s.get F.CAN_SLOT_CFG_RETRY_LIMIT (8 * n + t.slot) < t.att then
    let s := canComplete n t code s
    if (canSt s n).said323 then s
    else busFault 323 0 n t.slot t.entry (s.updCan n (fun c => { c with said323 := true }))
  else if t.abort then canComplete n t 3 s
  else updTx n t (fun _ => { t with tx := false }) s

/-- The attempt of the frame in transmission, where there is one, has failed. -/
def canRetry (n code : Nat) (s : State) : State :=
  match canTxNow s n with
  | some t => canAttempt n code t s
  | none => s

/-- The error counters after an error frame: `tx` says which counter rises, `err` by how much. -/
def canErrorCount (n : Nat) (tx : Bool) (err : CanErr) (s : State) : State :=
  let tec := s.get F.CAN_STAT_TEC n
  let rec_ := s.get F.CAN_STAT_REC n
  if tx then canCount' n (tec + (if err = .by1 then 0 else 8)) rec_ s
  else canCount' n tec (rec_ + (if err = .by8 then 8 else 1)) s

/-- CAN_BUS_ERROR (R324): an error frame; `tx` and `err` say which counter the rules of ISO 11898-1 raise, and by how much.  In the
data phase of an XL frame with XL_TMS = 1 no error is signalled (R312), and nothing counts; the attempt fails all the same (DEDUCED,
log 65). -/
def execCanBusError (n : Fin 16) (tx : Bool) (err : CanErr) (s : State) : Res :=
  .next (if !canRuns s n then s
    else if err = .xlData ∧ s.flag F.CAN_CTRL_XL_TMS n then canRetry n 2 s
    else canRetry n 2 (canErrorCount n tx err (s.incSat F.CAN_CNT_CNT (8 * n + 3))))

/-- CAN_ARBITRATION_LOST (R321). -/
def execCanArbitrationLost (n : Fin 16) (s : State) : Res := .next (if busGated s then s else canRetry n 1 s)

/-- The transceiver drives the bus: MODE NORMAL, no fault has released it, and block 8 has its clock (R329, R331, R347). -/
def canDrives (s : State) (n : Nat) : Bool :=
  s.get F.CAN_TRX_STAT_MODE_ACT n == 1 && !s.flag F.CAN_TRX_STAT_TRX_FAULT n && !busGated s

/-- Transmitter delay compensation measures the delay of a frame with a data phase of its own, FD with BRS or XL (R312); what it
measures, the bus decides: a free value. -/
def canMeasure (n : Nat) (t : CanTx) (s : State) : State :=
  if s.flag F.CAN_TDC_EN n && (bitOf t.w0 31 || (bitOf t.w0 30 && bitOf t.w2 30)) then
    let d := s.draw
    d.2.put F.CAN_TDC_TDCV n (Config.freeNat 42 d.1 % 128)
  else s

/-- CAN_TX_END (R315, R322). -/
def execCanTxEnd (n : Fin 16) (s : State) : Res :=
  .next (match canTxNow s n with
    | none => s
    | some t =>
      if !canDrives s n then s else
      let x : CanFrame := ⟨t.w0, t.w2, t.w3, t.data⟩
      let w := canWords x false
      let s := canMeasure n t ((s.incSat F.CAN_CNT_CNT (8 * n + 1)).emit (.can n [w.1, w.2.1, w.2.2] t.data))
      let s := canCount' n (s.get F.CAN_STAT_TEC n - 1) (s.get F.CAN_STAT_REC n) s
      let s := canComplete n t 0 s
      s.each ((canSlots s n x).filter (fun sl => sl != t.slot && s.flag F.CAN_SLOT_CFG_LOCAL_RX (8 * n + sl)))
        (fun sl s => canDeliver n sl x t.ts true s))

/-- BUSOFF_RECOVER: recovery starts from BUS_OFF only (R325). -/
def canRecover (n : Nat) (s : State) : State :=
  if canState s n = canBusOff then setCan n canRecovering (s.put F.CAN_CMD_BUSOFF_RECOVER n 1) else s

/-- BUSOFF_RECOVER (R325). -/
def execBusoffRecover (n : Fin 16) (init : Init) (value : Word) (s : State) : Res :=
  .next (s.busWrite init (R.CAN_CMD.addr n) 4 (fun s => if bitOf value.toNat 31 then canRecover n s else s))

/-- CAN_RECOVERY_COMPLETE (R324). -/
def execCanRecoveryComplete (n : Fin 16) (s : State) : Res :=
  .next (if canState s n = canRecovering ∧ ¬ busGated s then
    setCan n canActive ((s.put F.CAN_STAT_TEC n 0).put F.CAN_STAT_REC n 0)
  else s)

/-! ### Slot registers (R313, R317 to R323, R328) -/

/-- An initiator may access the registers of a slot (R313). -/
def slotMay (s : State) (n sl init : Nat) : Bool :=
  init == 0x30 || partOf s init == asgOf s 4 n ||
  (slotOn s n sl && partOf s init == validPart s (s.get F.VEMGR_VEASSIGN_PART (slotVe s n sl)))

/-- A write of a slot register under R313. -/
def slotWrite (n sl init : Nat) (r : Reg) (eff : State → State) (s : State) : State :=
  s.busWrite init (r.addr (8 * n + sl)) 4 (fun s =>
    if slotMay s n sl init then eff s else s.denyWrite init (r.addr (8 * n + sl)))

/-- Data lengths that a format allows. -/
def canLenOk (w0 len : Nat) : Bool :=
  if bitOf w0 31 then decide (1 ≤ len) && decide (len ≤ 2048)
  else if bitOf w0 30 then len ∈ [0, 1, 2, 3, 4, 5, 6, 7, 8, 12, 16, 20, 24, 32, 48, 64]
  else decide (len ≤ 8)

/-- The header of an entry is invalid (R322). -/
def canBadEntry (s : State) (n sl w0 w2 : Nat) : Bool :=
  let xlf := bitOf w0 31
  let fdf := bitOf w0 30
  let ide := bitOf w0 29
  let len := bitsOf w2 11 0
  !canAdmits s n w0 || !canLenOk w0 len || decide (canCap s n sl < len) ||
  (!xlf && !fdf && (bitOf w2 30 || bitOf w2 29)) || (!xlf && fdf && bitOf w2 31) || (xlf && ide) ||
  (!ide && bitsOf w0 28 11 != 0)

/-- The slot's transmit filter and the dictionary's identifiers refuse a frame (R316). -/
def canDenied (s : State) (n sl w0 : Nat) : Bool :=
  let i := 8 * n + sl
  let fmt := s.get F.CAN_TXFLT_FMT i
  let m := bitsOf (s.rd R.CAN_TXFLT i).toNat 21 11
  !((fmt == 3 || fmt == canFmt w0) && (canId11 w0 &&& m) == (s.get F.CAN_TXFLT_TXID i &&& m)) ||
  (usestCan s n && canFmt w0 == 0 && decide (0x7D0 ≤ bitsOf w0 10 0) && decide (bitsOf w0 10 0 ≤ 0x7DF))

/-- A submission (R322). -/
def canSubmit (n sl e : Nat) (s : State) : State :=
  let i := 8 * n + sl
  if !slotOn s n sl then s
  else if bitOf (canSlot s n sl).used e then s.put F.CAN_SLOT_STAT_SUB_ERR i 1
  else
    let v := slotVe s n sl
    let s := s.updCanSlot n sl (fun x => { x with used := x.used ||| 2 ^ e })
    let s := s.put F.CAN_SLOT_STAT_PENDING i (s.get F.CAN_SLOT_STAT_PENDING i + 1)
    let s := if slotBound s n sl then s.updVe v (fun x => { x with fetched := x.fetched + 1 }) else s
    let t : CanTx := ⟨sl, e, 0, 0, 0, [], 0, 0, false, false⟩
    let r := canRead n sl (s.get F.CAN_TXBASE_BASE i + canStride s n sl * e) 16 s
    match r.1 with
    | none => canComplete n t 6 r.2
    | some h =>
      let w (k : Nat) : Nat := leNat ((h.drop (4 * k)).take 4)
      let t := { t with w0 := w 0, w2 := w 2, w3 := w 3 }
      if canBadEntry r.2 n sl (w 0) (w 2) then canComplete n t 5 r.2
      else if canDenied r.2 n sl (w 0) then canComplete n t 7 r.2
      else r.2.updCan n (fun c => { c with sub := c.sub ++ [t] })

/-- CAN_TXSUB (R322). -/
def execCanTxsub (n : Fin 16) (sl : Fin 8) (init : Init) (value : Word) (s : State) : Res :=
  .next (slotWrite n sl init R.CAN_TXSUB (canSubmit n sl (getBits value 5 0)) s)

/-- CAN_TXABORT (R323). -/
def execCanTxabort (n : Fin 16) (sl : Fin 8) (init : Init) (value : Word) (s : State) : Res :=
  .next (slotWrite n sl init R.CAN_TXABORT
    (fun s => canAbortAll n (fun t => t.slot == sl.val && t.entry == getBits value 5 0) s) s)

/-- The submitted frame that wins arbitration: the lowest key, and among equals the first submitted (R320). -/
def canWinner : List CanTx → Option CanTx
  | [] => none
  | t :: l =>
    match canWinner l with
    | some u => if arbKey u.w0 u.w2 < arbKey t.w0 t.w2 then some u else some t
    | none => some t

/-- A selection (R320): the winner's data are read, and a frame whose data cannot be read completes with DMA_ERR. -/
def canSelect (n sof : Nat) : Nat → State → State
  | 0, s => s
  | k + 1, s =>
    match canWinner (canSt s n).sub with
    | none => s
    | some t =>
      if t.slot = 8 then updTx n t (fun x => { x with tx := true, ts := sof }) s
      else
        let i := 8 * n + t.slot
        let r := canRead n t.slot (s.get F.CAN_TXBASE_BASE i + canStride s n t.slot * t.entry + 16) (bitsOf t.w2 11 0) s
        match r.1 with
        | none => canSelect n sof k (canComplete n t 6 r.2)
        | some d => updTx n t (fun x => { x with tx := true, ts := sof, data := d }) r.2

/-- CAN_TX_SELECTION (R320): the frame starts `sof` counts of the controller's counter from now (R302). -/
def execCanTxSelection (n : Fin 16) (sof : Word) (s : State) : Res :=
  .next (if !canRuns s n || !linkUp s || !canDrives s n || (canTxNow s n).isSome then s
    else canSelect n ((canCount s + sof.toNat) % 2 ^ 32) (canSt s n).sub.length s)

/-- A write of CAN_RXAI (R318). -/
def canRxai (n sl v : Nat) (s : State) : State :=
  let i := 8 * n + sl
  let ai := s.get F.CAN_RXAI_AI i
  let own := if s.flag F.CAN_RXWI_FULL i then 256 else (s.get F.CAN_RXWI_WI i + 256 - ai) % 256
  let d := (v + 256 - ai) % 256
  if own < d then s.put F.CAN_SLOT_STAT_IDX_ERR i 1
  else if d = 0 then s
  else (s.put F.CAN_RXAI_AI i v).put F.CAN_RXWI_FULL i 0

/-- CAN_RXAI (R318). -/
def execCanRxai (n : Fin 16) (sl : Fin 8) (init : Init) (value : Word) (s : State) : Res :=
  .next (slotWrite n sl init R.CAN_RXAI (canRxai n sl (getBits value 7 0)) s)

/-- A write of CAN_CQAI (R322): the entries of the acknowledged records return to software. -/
def canCqai (n sl v : Nat) (s : State) : State :=
  let i := 8 * n + sl
  let ai := s.get F.CAN_CQAI_AI i % 64
  let own := if s.flag F.CAN_CQWI_FULL i then 64 else (s.get F.CAN_CQWI_WI i + 64 - ai) % 64
  let d := (v % 64 + 64 - ai) % 64
  if own < d then s.put F.CAN_SLOT_STAT_IDX_ERR i 1
  else if d = 0 then s
  else
    let back := (canSlot s n sl).done.take d
    ((s.put F.CAN_CQAI_AI i (v % 64)).put F.CAN_CQWI_FULL i 0).updCanSlot n sl (fun x =>
      { x with done := x.done.drop d, used := back.foldl (fun u e => u - (u &&& 2 ^ e)) x.used })

/-- CAN_CQAI (R322). -/
def execCanCqai (n : Fin 16) (sl : Fin 8) (init : Init) (value : Word) (s : State) : Res :=
  .next (slotWrite n sl init R.CAN_CQAI (canCqai n sl (getBits value 7 0)) s)

/-- A slot is enabled where its queue and bases are valid (R317), or disabled (R328). -/
def canSlotEn (n sl : Nat) (on : Bool) (s : State) : State :=
  let i := 8 * n + sl
  if on then
    if slotOn s n sl then s
    else if 0x800000 < s.get F.CAN_RXBASE_BASE i + 256 * canStride s n sl ∨ s.get F.CAN_RXBASE_BASE i % 64 ≠ 0 ∨
        s.get F.CAN_TXBASE_BASE i % 64 ≠ 0 ∨ s.get F.CAN_CQBASE_BASE i % 64 ≠ 0 then s.put F.CAN_SLOT_STAT_CFG_ERR i 1
    else s.put F.CAN_SLOT_CFG_EN i 1
  else canAbortAll n (fun t => t.slot == sl) (s.put F.CAN_SLOT_CFG_EN i 0)

/-- A write of CAN_SLOT_CFG. -/
def slotCfgWrite (n sl : Nat) (v : Word) (s : State) : State :=
  let i := 8 * n + sl
  let s := if slotOn s n sl && !bitOf v.toNat 31 then canSlotEn n sl false s else s
  let s := if slotOn s n sl then s else s.put F.CAN_SLOT_CFG_DATA_CAP i (getBits v 29 28)
  let s := ((s.put F.CAN_SLOT_CFG_LOCAL_RX i (getBits v 30 30)).put F.CAN_SLOT_CFG_RETRY_LIMIT i (getBits v 27 24)).put
    F.CAN_SLOT_CFG_VE i (getBits v 9 0)
  if bitOf v.toNat 31 then canSlotEn n sl true s else s

/-- CAN_SLOT_CFG (R328): only the controller's partition (R313). -/
def execCanSlotCfg (n : Fin 16) (sl : Fin 8) (init : Init) (value : Word) (s : State) : Res :=
  .next (s.busWrite init (R.CAN_SLOT_CFG.addr (8 * n + sl)) 4 (slotCfgWrite n sl value))

/-! ### Link loss (R327) -/

/-- The spine link leaves UP (R327).  BUS_OFF ends only by BUSOFF_RECOVER (R325), so that state stays; the loss is reported (DEDUCED,
log 65). -/
def canLinkDown (n : Nat) (s : State) : State :=
  if canState s n = canDisabled then s
  else
    let s := canEvt n 24 s
    let s := if canState s n = canBusOff then s else canEndTx n 8 (setCan n canLinkHold s)
    canFaultFree 328 n 0 s

/-- The link is UP again; after an H-die reset the error counters are 0. -/
def canLinkUp (reset : Bool) (n : Nat) (s : State) : State :=
  let s := s.addSat F.CAN_CNT_CNT (8 * n + 7) (canSt s n).lost
  let s := if reset then (s.put F.CAN_STAT_TEC n 0).put F.CAN_STAT_REC n 0 else s
  let s := if (canSt s n).trxPend then s.put F.CAN_TRX_STAT_MODE_ACT n (s.get F.CAN_TRX_CTRL_MODE n) else s
  let s := s.updCan n (fun c => { c with lost := 0, trxPend := false })
  if canState s n = canLinkHold ∧ canClocked s then setCan n canIntegrating s else s

/-- What a beat boundary does at a controller: records that wait are tried again, and sources can be raised again. -/
def canBeat (n : Nat) (s : State) : State :=
  let s := s.updCan n (fun c => { c with said322 := false, said323 := false, said324 := false })
  s.each (List.range 8) (fun sl s =>
    if (canSlot s n sl).wait.isEmpty then s else canRecords n sl (canSlot s n sl).wait s)

/-! ### Transceivers (R329 to R331, R360) -/

/-- A write of CAN_TRX_CTRL: MODE reaches the transceiver over the spine link, and a new mode clears WAKE_CAUSE; STANDBY written to a
transceiver that a wake has put there confirms nothing (R360, log 37). -/
def trxWrite (n : Nat) (v : Word) (s : State) : State :=
  let s := s.swWrite false R.CAN_TRX_CTRL n v
  let m := getBits v 31 29
  let s := s.put F.CAN_TRX_STAT_TRX_FAULT n 0
  let s := if m = 3 ∧ s.get F.CAN_TRX_STAT_MODE_ACT n = 3 then s else s.put F.CAN_TRX_STAT_WAKE_CAUSE n 0
  if 5 ≤ m then s
  else if linkUp s then (s.put F.CAN_TRX_STAT_MODE_ACT n m).put F.CAN_TRX_STAT_FEC n 0
  else s.updCan n (fun c => { c with trxPend := true })

/-- CAN_TRX_MODE (R329). -/
def execCanTrxMode (n : Fin 16) (init : Init) (value : Word) (s : State) : Res :=
  .next (s.busWrite init (R.CAN_TRX_CTRL.addr n) 4 (trxWrite n value))

/-- A sleeping transceiver wakes (R330): the K-die sees it while it is powered. -/
def trxWake (n cause ticks : Nat) (s : State) : State :=
  let s := (s.put F.CAN_TRX_STAT_WAKE_CAUSE n cause).put F.CAN_TRX_STAT_MODE_ACT n 3
  let s := if s.pm.phase = 2 then s
    else
      let s := canEvt n 27 (s.incSat F.CAN_CNT_CNT (8 * n + 6))
      if cause = 3 then canFaultFree 327 n 0 s else s
  if bitOf (s.get F.GONG_CFG_CAN_MASK 0) n then wakeEvent 3 n ticks s else s

/-- The transceiver sleeps. -/
def trxAsleep (s : State) (n : Nat) : Bool := s.get F.CAN_TRX_STAT_MODE_ACT n == 4

/-- CAN_TRX_WAKE (R329, R330): a dominant phase longer than t_WK_DOM with WAKE_MODE = EDGE. -/
def execCanTrxWake (n : Fin 16) (ticks : Nat) (s : State) : Res :=
  .next (if trxAsleep s n && !s.flag F.CAN_TRX_CTRL_WAKE_MODE n then trxWake n 1 ticks s else s)

/-- A CC frame is the wake-up frame of a transceiver (R329). -/
def wufMatch (s : State) (n : Nat) (x : CanFrame) (dlc : Nat) : Bool :=
  let m := s.get F.CAN_WUF_MASK_WUF_MASK n
  let d := leNat x.data
  let dm := s.get64 R.CAN_WUF_DMASK_LO R.CAN_WUF_DMASK_HI n
  bitOf x.w0 29 == s.flag F.CAN_WUF_ID_WUF_IDE n &&
  (bitsOf x.w0 28 0 &&& m) == (s.get F.CAN_WUF_ID_WUF_ID n &&& m) &&
  (!s.flag F.CAN_WUF_CFG_DLC_MATCH n || dlc == s.get F.CAN_WUF_CFG_WUF_DLC n) &&
  (dm == 0 || (d &&& dm) != 0)

/-- WAKE_FRAME_DECODE (R329): a CC frame seen in SLEEP with WAKE_MODE = FRAME, correct or erroneous; FD frames count as
neither. -/
def execWakeFrameDecode (n : Fin 16) (frame : CanFrame) (dlc : Fin 16) (ok : Bool) (ticks : Nat) (s : State) : Res :=
  .next (if !trxAsleep s n || !s.flag F.CAN_TRX_CTRL_WAKE_MODE n || bitOf frame.w0 30 || bitOf frame.w0 31 then s
  else if ok then
    let s := s.put F.CAN_TRX_STAT_FEC n (s.get F.CAN_TRX_STAT_FEC n - 1)
    if wufMatch s n frame dlc then trxWake n 2 ticks s else s
  else
    let f := s.get F.CAN_TRX_STAT_FEC n + 1
    let s := s.put F.CAN_TRX_STAT_FEC n f
    if 31 < f then trxWake n 3 ticks s else s)

/-- TRX_CONFIRM_TIMEOUT (R360): a woken transceiver that is not confirmed returns to SLEEP. -/
def execTrxConfirmTimeout (n : Fin 16) (s : State) : Res :=
  .next (if s.get F.CAN_TRX_STAT_MODE_ACT n = 3 ∧ s.get F.CAN_TRX_STAT_WAKE_CAUSE n ≠ 0 then
    let s := (s.put F.CAN_TRX_STAT_MODE_ACT n 4).incSat F.GONG_CNT_CNT 3
    if s.pm.phase = 2 then s else pmFault 18 (s.get F.GONG_CNT_CNT 3) s
  else s)

/-- A transceiver releases the bus until MODE is written again (R331). -/
def canTrxFault (n : Nat) (s : State) : State :=
  if s.flag F.CAN_TRX_STAT_TRX_FAULT n then s
  else canFaultFree 326 n 0 (canEvt n 26 (s.put F.CAN_TRX_STAT_TRX_FAULT n 1))

/-- CAN_TXD_TIMEOUT (R331). -/
def execCanTxdTimeout (n : Fin 16) (s : State) : Res :=
  .next (if s.get F.CAN_TRX_STAT_MODE_ACT n = 1 then canTrxFault n s else s)

end Sys2Proof.Machine
end

