-- ==== Sys2Proof/Machine/Tabla.lean ====
section
/-!
DEFINITION. Tabla engines (chapter 4): strokes, validation and loading of tables, cut, switch-over and start at a
boundary.
-/

namespace Sys2Proof.Machine

/-- One engine. -/
def engSt (s : State) (n : Nat) : EngSt := tget EngSt.init s.tab.eng n

/-- An engine replaced. -/
def State.setEng (s : State) (n : Nat) (e : EngSt) : State :=
  { s with tab := { s.tab with eng := tset EngSt.init s.tab.eng n e } }

/-- An engine changed. -/
def State.updEng (s : State) (n : Nat) (f : EngSt → EngSt) : State := s.setEng n (f (engSt s n))

/-- The buffer of a number. -/
def EngSt.buf (e : EngSt) (k : Nat) : Tab (Option Nat) := if k = 0 then e.buf0 else e.buf1

/-- The buffer of a number replaced. -/
def EngSt.setBuf (e : EngSt) (k : Nat) (b : Tab (Option Nat)) : EngSt :=
  if k = 0 then { e with buf0 := b } else { e with buf1 := b }

/-- Number of the active buffer. -/
def activeBuf (s : State) (n : Nat) : Nat := s.get F.TABLA_STAT_ACTIVE n

/-- Number of the inactive buffer. -/
def inactiveBuf (s : State) (n : Nat) : Nat := 1 - activeBuf s n

/-- The stroke at a position of the active table. -/
def activeStroke (s : State) (n k : Nat) : Option Nat := tget none ((engSt s n).buf (activeBuf s n)) k

/-! ### The stroke word (Table 4-2) -/

def skOffset (w : Nat) : Nat := bitsOf w 63 46
def skOp (w : Nat) : Nat := bitsOf w 45 40
def skDst (w : Nat) : Nat := bitsOf w 39 36
def skA (w : Nat) : Nat := bitsOf w 35 32
def skB (w : Nat) : Nat := bitsOf w 31 28
def skX (w : Nat) : Nat := bitsOf w 27 0
def skImm (w : Nat) : Nat := bitsOf w 9 0
def skSub (w : Nat) : Nat := bitsOf w 27 24
def skArg (w : Nat) : Nat := bitsOf w 23 16
def skClass (w : Nat) : Nat := bitsOf w 15 10
def skIndex (w : Nat) : Nat := bitsOf w 9 0
def skN (w : Nat) : Nat := bitsOf w 3 0
def skPol (w : Nat) : Bool := bitOf w 4
def skFlag (w : Nat) : Nat := bitsOf w 6 5
def skSlot (w : Nat) : Nat := bitsOf w 15 0
def skHold (w : Nat) : Nat := bitsOf w 18 16
def skChan (w : Nat) : Nat := bitsOf w 6 0

/-! ### Issue of a stroke (R117, R120) -/

/-- Working register `i` of an engine. -/
def wreg (s : State) (n i : Nat) : Nat := s.get F.TABLA_WREG_W (16 * n + i)

/-- A working register set. -/
def State.setW (s : State) (n i v : Nat) : State := s.put F.TABLA_WREG_W (16 * n + i) v

/-- The engine sets SAT, in its flags and in TABLA_STAT (R117). -/
def State.setSat (s : State) (n : Nat) : State :=
  (s.updEng n (fun e => { e with sat := true })).put F.TABLA_STAT_SAT n 1

/-- The engine sets INV. -/
def State.setInv (s : State) (n : Nat) : State :=
  (s.updEng n (fun e => { e with inv := true })).put F.TABLA_STAT_INV n 1

/-- The engine sets SAFE. -/
def State.setSafe (s : State) (n : Nat) : State :=
  (s.updEng n (fun e => { e with safe := true })).put F.TABLA_STAT_SAFE n 1

/-- A refused write of the engine: INV and TABLA_ERRCNT (R121, R122). -/
def State.strokeRefused (s : State) (n : Nat) : State := (s.setInv n).incSat F.TABLA_ERRCNT_ERR_CNT n

/-- A Tabla source raised with the record of R134. -/
def tablaFault (n eng code w1 : Nat) (s : State) : State := s.raise n (eng * 2 ^ 24 + code * 2 ^ 16) w1 0

/-- A stroke `late` ns after its due time (R117). -/
def strokeLate (n late : Nat) (s : State) : State :=
  if 8 * s.get F.TABLA_CTRL_LATE_TOL n < late then
    let s := (s.put F.TABLA_STAT_LATE n 1).incSat F.TABLA_LATE_LATE_CNT n
    tablaFault 364 n 0 (min (late / 8) 0xFFFF * 2 ^ 16 + (engSt s n).pc) s
  else s

/-- Engine `n` has its clock and may issue: block 4 is not gated (R347), the K-die is powered, and no rule silences every initiator. -/
def tablaRuns (s : State) (n : Nat) : Bool :=
  !(portSt s 0x006).causes.contains causePower && s.pm.phase != 2 && !initSilent s (0x20 + n)

/-- Engine `n` issues the stroke at its position if its operation is `op`: lateness is judged, the stroke's effect `f`
happens, and the position moves on (R117, R120). -/
def stroke (op n late : Nat) (f : Nat → State → State) (s : State) : State :=
  let e := engSt s n
  match activeStroke s n e.pc with
  | some w =>
      if e.live && !e.done && tablaRuns s n && skOp w == op then
        let s := f w (strokeLate n late s)
        s.updEng n (fun x => { x with pc := x.pc + 1, last := some e.pc })
      else s
  | none => s

/-- A stroke whose result goes to W[DST]. -/
def strokeW (op n late : Nat) (f : State → Nat → Nat) (s : State) : State :=
  stroke op n late (fun w s => s.setW n (skDst w) (f s w)) s

/-- A stroke whose result is a chime code and a saturation (R50). -/
def strokeSat (op n late : Nat) (f : State → Nat → Nat × Bool) (s : State) : State :=
  stroke op n late (fun w s => ((s.setW n (skDst w) (f s w).1)).when (f s w).2 (·.setSat n)) s

/-- A stroke that sets C (R119). -/
def strokeC (op n late : Nat) (f : State → Nat → Bool) (s : State) : State :=
  stroke op n late (fun w s => s.updEng n (fun e => { e with c := f s w })) s

/-- A linear result in range, or clamped with SAT (R120). -/
def clampHi (v : Nat) : Nat × Bool := (min v 0x3FF, decide (0x3FF < v))

/-- A linear difference, clamped at 0 with SAT (R120). -/
def clampSub (a b : Nat) : Nat × Bool := (a - b, decide (a < b))

/-- END (R120). -/
def execStrokeEnd (n : Fin 16) (late : Nat) (s : State) : Res :=
  .next (stroke 0x00 n late (fun _ s => s.updEng n (fun e => { e with done := true })) s)

/-- WAIT (R119). -/
def execStrokeWait (n : Fin 16) (late : Nat) (s : State) : Res := .next (stroke 0x01 n late (fun _ s => s) s)

/-- CHIME (`sub` 0) or RAW [15:6] of a measurement word, or none while it is not VALID (R120). -/
def sampleWord (w : Word) (sub : Nat) : Option Nat :=
  if getBits w 31 31 = 0 then none else some (if sub = 0 then getBits w 25 16 else getBits w 15 6)

/-- The sample of a class and index (Table 4-4), or none while it is not valid. -/
def sample (s : State) (cls i sub : Nat) : Option Nat :=
  match cls with
  | 0x00 => sampleWord (s.rd R.PWR_I i) sub
  | 0x01 => sampleWord (s.rd R.PWR_VOUT i) sub
  | 0x02 => sampleWord (s.rd R.PWR_VDS i) sub
  | 0x03 => sampleWord (s.rd R.PWR_I (56 + i)) sub
  | 0x04 => sampleWord (s.rd R.PWR_VOUT (56 + i)) sub
  | 0x05 => sampleWord (s.rd R.PWR_VDS (56 + i)) sub
  | 0x08 => sampleWord (s.rd R.IOX_MFI_AN i) sub
  | 0x09 => some (b2n ((s.rd R.IOX_MFI_DIG (i / 32)).getLsbD (i % 32)))
  | 0x0A => sampleWord (s.rd R.IOX_RAI_V i) sub
  | 0x0B => sampleWord (s.rd R.IOX_BR_I i) sub
  | 0x0C => if s.flag F.SENT_FC_VALID i then some (sentTabla s (i / 2) (i % 2) / 4) else none
  | 0x10 => sampleWord (s.rd R.FEED_I i) sub
  | 0x11 => sampleWord (s.rd R.FEED_V i) sub
  | 0x1F => some (s.get64 R.BEAT_NBI_LO R.BEAT_NBI_HI 0 / 2 ^ i % 1024)
  | _ => none

/-- The effect of RDS. -/
def rds (n w : Nat) (s : State) : State :=
  match sample s (skClass w) (skIndex w) (skSub w) with
  | some v => s.setW n (skDst w) v
  | none => s.setInv n

/-- RDS (R120). -/
def execStrokeRds (n : Fin 16) (late : Nat) (s : State) : Res := .next (stroke 0x02 n late (rds n) s)

/-- Ordinal of the RDT stroke at a position among the table's RDT strokes (R123). -/
def rdtOrdinal (s : State) (n k : Nat) : Nat :=
  ((List.range k).filter (fun i => match activeStroke s n i with
    | some w => skOp w == 0x03
    | none => false)).length

/-- Consumer number of an RDT stroke (R123). -/
def rdtConsumer (n j : Nat) : Nat := 0x8000 + 0x40 * n + j

/-- The effect of RDT: a check of the slot's visible word as a consumer (R123). -/
def rdt (n w : Nat) (s : State) : State :=
  let c := rdtConsumer n (rdtOrdinal s n (engSt s n).pc)
  let s := s.checkWord c (skSlot w) (slotSt s (skSlot w)).visible (skHold w) false
  let k := consSt s c
  if k.safe then (s.setW n (skDst w) 0).setSafe n else s.setW n (skDst w) k.vGood

/-- RDT (R120, R123). -/
def execStrokeRdt (n : Fin 16) (late : Nat) (s : State) : Res := .next (stroke 0x03 n late (rdt n) s)

/-- LDI (R119). -/
def execStrokeLdi (n : Fin 16) (late : Nat) (s : State) : Res := .next (strokeW 0x04 n late (fun _ w => skImm w) s)

/-- MOV (R119). -/
def execStrokeMov (n : Fin 16) (late : Nat) (s : State) : Res :=
  .next (strokeW 0x05 n late (fun s w => wreg s n (skA w)) s)

/-- CLT (R119). -/
def execStrokeClt (n : Fin 16) (late : Nat) (s : State) : Res :=
  .next (strokeC 0x08 n late (fun s w => decide (wreg s n (skA w) < wreg s n (skB w))) s)

/-- CLE (R119). -/
def execStrokeCle (n : Fin 16) (late : Nat) (s : State) : Res :=
  .next (strokeC 0x09 n late (fun s w => decide (wreg s n (skA w) ≤ wreg s n (skB w))) s)

/-- CEQ (R119). -/
def execStrokeCeq (n : Fin 16) (late : Nat) (s : State) : Res :=
  .next (strokeC 0x0A n late (fun s w => decide (wreg s n (skA w) = wreg s n (skB w))) s)

/-- CLTI (R119). -/
def execStrokeClti (n : Fin 16) (late : Nat) (s : State) : Res :=
  .next (strokeC 0x0B n late (fun s w => decide (wreg s n (skA w) < skImm w)) s)

/-- CGEI (R119). -/
def execStrokeCgei (n : Fin 16) (late : Nat) (s : State) : Res :=
  .next (strokeC 0x0C n late (fun s w => decide (skImm w ≤ wreg s n (skA w))) s)

/-- CADD (R50). -/
def execStrokeCadd (n : Fin 16) (late : Nat) (s : State) : Res :=
  .next (strokeSat 0x10 n late (fun s w => chAdd (wreg s n (skA w)) (wreg s n (skB w))) s)

/-- CSUB (R50). -/
def execStrokeCsub (n : Fin 16) (late : Nat) (s : State) : Res :=
  .next (strokeSat 0x11 n late (fun s w => chSub (wreg s n (skA w)) (wreg s n (skB w))) s)

/-- CMUL (R50). -/
def execStrokeCmul (n : Fin 16) (late : Nat) (s : State) : Res :=
  .next (strokeSat 0x12 n late (fun s w => chMul (wreg s n (skA w)) (wreg s n (skB w)) (bitsOf w 4 0)) s)

/-- CMIN (R119). -/
def execStrokeCmin (n : Fin 16) (late : Nat) (s : State) : Res :=
  .next (strokeW 0x13 n late (fun s w => min (wreg s n (skA w)) (wreg s n (skB w))) s)

/-- CMAX (R119). -/
def execStrokeCmax (n : Fin 16) (late : Nat) (s : State) : Res :=
  .next (strokeW 0x14 n late (fun s w => max (wreg s n (skA w)) (wreg s n (skB w))) s)

/-- ADD (R120). -/
def execStrokeAdd (n : Fin 16) (late : Nat) (s : State) : Res :=
  .next (strokeSat 0x18 n late (fun s w => clampHi (wreg s n (skA w) + wreg s n (skB w))) s)

/-- SUB (R120). -/
def execStrokeSub (n : Fin 16) (late : Nat) (s : State) : Res :=
  .next (strokeSat 0x19 n late (fun s w => clampSub (wreg s n (skA w)) (wreg s n (skB w))) s)

/-- AND (R119). -/
def execStrokeAnd (n : Fin 16) (late : Nat) (s : State) : Res :=
  .next (strokeW 0x1A n late (fun s w => wreg s n (skA w) &&& wreg s n (skB w)) s)

/-- OR (R119). -/
def execStrokeOr (n : Fin 16) (late : Nat) (s : State) : Res :=
  .next (strokeW 0x1B n late (fun s w => wreg s n (skA w) ||| wreg s n (skB w)) s)

/-- XOR (R119). -/
def execStrokeXor (n : Fin 16) (late : Nat) (s : State) : Res :=
  .next (strokeW 0x1C n late (fun s w => wreg s n (skA w) ^^^ wreg s n (skB w)) s)

/-- ADDI (R120). -/
def execStrokeAddi (n : Fin 16) (late : Nat) (s : State) : Res :=
  .next (strokeSat 0x1D n late (fun s w => clampHi (wreg s n (skA w) + skImm w)) s)

/-- SUBI (R120). -/
def execStrokeSubi (n : Fin 16) (late : Nat) (s : State) : Res :=
  .next (strokeSat 0x1E n late (fun s w => clampSub (wreg s n (skA w)) (skImm w)) s)

/-- ANDI (R119). -/
def execStrokeAndi (n : Fin 16) (late : Nat) (s : State) : Res :=
  .next (strokeW 0x1F n late (fun s w => wreg s n (skA w) &&& skImm w) s)

/-- SHR (R119). -/
def execStrokeShr (n : Fin 16) (late : Nat) (s : State) : Res :=
  .next (strokeW 0x20 n late (fun s w => wreg s n (skA w) / 2 ^ (bitsOf w 3 0)) s)

/-- SHL (R119): 0x3FF, with SAT, if a set bit is lost. -/
def execStrokeShl (n : Fin 16) (late : Nat) (s : State) : Res :=
  .next (strokeSat 0x21 n late (fun s w => clampHi (wreg s n (skA w) * 2 ^ (bitsOf w 3 0))) s)

/-- The next N strokes are skipped where a flag equals POL (R120). -/
def skip (n w : Nat) (flag : Bool) (s : State) : State :=
  if flag = skPol w then s.updEng n (fun e => { e with pc := e.pc + skN w }) else s

/-- SKC (R120). -/
def execStrokeSkc (n : Fin 16) (late : Nat) (s : State) : Res :=
  .next (stroke 0x24 n late (fun w s => skip n w (engSt s n).c s) s)

/-- Flag FLAG of an engine: 0 C, 1 SAT, 2 INV, 3 SAFE. -/
def EngSt.flagOf (e : EngSt) (k : Nat) : Bool :=
  match k with
  | 0 => e.c
  | 1 => e.sat
  | 2 => e.inv
  | _ => e.safe

/-- SKF (R120). -/
def execStrokeSkf (n : Fin 16) (late : Nat) (s : State) : Res :=
  .next (stroke 0x25 n late (fun w s => skip n w ((engSt s n).flagOf (skFlag w)) s) s)

/-- DRV of the output that a WRO class and index name (R191). -/
def driverOf (s : State) (cls i : Nat) : Nat :=
  match cls with
  | 0x20 => s.get F.IOX_LSO_CFG_DRV i
  | 0x21 => s.get F.IOX_BR_CFG_DRV i
  | 0x22 => s.get F.IOX_BR_CFG_DRV i
  | 0x23 => s.get F.IOX_SSUP_CTRL_DRV i
  | _ => 0x1F

/-- The greatest value of a WRO class (Table 4-4). -/
def wroMax (cls : Nat) : Nat := if cls = 0x22 then 3 else if cls = 0x23 then 1 else 0x3FF

/-- The effect of WRO: the value is posted, or refused (R121). -/
def wro (n w : Nat) (s : State) : State :=
  let v := wreg s n (skA w)
  if driverOf s (skClass w) (skIndex w) = n ∧ v ≤ wroMax (skClass w) then
    s.updEng n (fun e => { e with posts := e.posts ++ [(skClass w, skIndex w, v)] })
  else s.strokeRefused n

/-- WRO (R121). -/
def execStrokeWro (n : Fin 16) (late : Nat) (s : State) : Res := .next (stroke 0x28 n late (wro n) s)

/-- A WRO value reaches its output; while Knell holds or forces it nothing is applied (R121). -/
def wroApply (cls i v : Nat) (s : State) : State :=
  if !linkUp s then s
  else match cls with
    | 0x20 => driveLso i v s
    | 0x21 => driveBr i (s.get F.IOX_BR_CMD_MODE i) v s
    | 0x22 => driveBr i v (s.get F.IOX_BR_CMD_DUTY i) s
    | _ => driveSsup i (v != 0) s

/-- WRO_APPLY (R121): the oldest posted value takes effect. -/
def execStrokeWroApply (n : Fin 16) (s : State) : Res :=
  match (engSt s n).posts with
  | [] => .next s
  | p :: ps => .next (wroApply p.1 p.2.1 p.2.2 (s.updEng n (fun e => { e with posts := ps })))

/-- The engine writes the pending value of a slot, or is refused as R56 says (R122). -/
def postTwin (n slot v addr : Nat) (s : State) : State :=
  if slotProducer s slot = some (0x20 + n) then s.publish slot v
  else (s.denyWrite (0x20 + n) addr).strokeRefused n

/-- WRP (R122). -/
def execStrokeWrp (n : Fin 16) (late : Nat) (s : State) : Res :=
  .next (stroke 0x29 n late (fun w s =>
    postTwin n (0x100 + skChan w) (wreg s n (skA w)) (R.PWR_CMD_PUB.addr (skChan w)) s) s)

/-- PUB (R122). -/
def execStrokePub (n : Fin 16) (late : Nat) (s : State) : Res :=
  .next (stroke 0x2A n late (fun w s => postTwin n (skSlot w) (wreg s n (skA w)) (R.BEAT_PUB.addr 0) s) s)

/-- The effect of SREQ (R213). -/
def sreq (n w : Nat) (s : State) : State :=
  if s.flag F.SENT_CFG_SPC (skIndex w) then sentTrigger (skIndex w) s else s.setInv n

/-- SREQ (R213). -/
def execStrokeSreq (n : Fin 16) (late : Nat) (s : State) : Res := .next (stroke 0x31 n late (sreq n) s)

/-! ### Validation (R119, R124) -/

/-- Operand layouts of R119. -/
inductive Layout where
  | nothing | imm | selector | skip | slot | channel
  deriving DecidableEq, Repr

/-- Operand layout of an operation and whether it uses DST, A and B (Table 4-3); none for an invalid one. -/
def opForm (op : Nat) : Option (Layout × Bool × Bool × Bool) :=
  if op = 0x00 ∨ op = 0x01 then some (.nothing, false, false, false)
  else if op = 0x02 then some (.selector, true, false, false)
  else if op = 0x03 then some (.slot, true, false, false)
  else if op = 0x04 then some (.imm, true, false, false)
  else if op = 0x05 then some (.nothing, true, true, false)
  else if 0x08 ≤ op ∧ op ≤ 0x0A then some (.nothing, false, true, true)
  else if op = 0x0B ∨ op = 0x0C then some (.imm, false, true, false)
  else if op = 0x12 then some (.imm, true, true, true)
  else if (0x10 ≤ op ∧ op ≤ 0x14) ∨ (0x18 ≤ op ∧ op ≤ 0x1C) then some (.nothing, true, true, true)
  else if 0x1D ≤ op ∧ op ≤ 0x21 then some (.imm, true, true, false)
  else if op = 0x24 ∨ op = 0x25 then some (.skip, false, false, false)
  else if op = 0x28 then some (.selector, false, true, false)
  else if op = 0x29 then some (.channel, false, true, false)
  else if op = 0x2A then some (.slot, false, true, false)
  else if op = 0x30 ∨ op = 0x31 then some (.selector, false, false, false)
  else none

/-- A bit or field that the operation does not use is not 0 (R119). -/
def reservedSet (w : Nat) (f : Layout × Bool × Bool × Bool) : Bool :=
  let op := skOp w
  (!f.2.1 && skDst w != 0) || (!f.2.2.1 && skA w != 0) || (!f.2.2.2 && skB w != 0) ||
    (match f.1 with
     | .nothing => skX w != 0
     | .imm => bitsOf w 27 10 != 0
     | .selector => (op != 0x02 && skSub w != 0) || (if op = 0x30 then bitsOf w 23 22 != 0 else skArg w != 0)
     | .skip => bitsOf w 27 7 != 0 || (op == 0x24 && skFlag w != 0)
     | .slot => bitsOf w 27 19 != 0 || (op == 0x2A && skHold w != 0)
     | .channel => bitsOf w 27 7 != 0)

/-- Indices of an RDS class, and whether SUB may be 1 (Table 4-4). -/
def rdsClass (cls : Nat) : Nat × Bool :=
  match cls with
  | 0x00 => (56, true) | 0x01 => (56, true) | 0x02 => (56, true)
  | 0x03 => (16, true) | 0x04 => (16, true) | 0x05 => (16, true)
  | 0x08 => (96, true) | 0x09 => (96, false) | 0x0A => (16, true) | 0x0B => (6, true) | 0x0C => (16, false)
  | 0x10 => (2, true) | 0x11 => (2, true) | 0x1F => (55, false)
  | _ => (0, false)

/-- Indices of a class that WRO, LREQ or SREQ names (Table 4-4). -/
def selCount (op cls : Nat) : Nat :=
  match op, cls with
  | 0x28, 0x20 => 32 | 0x28, 0x21 => 6 | 0x28, 0x22 => 6 | 0x28, 0x23 => 8
  | 0x30, 0x30 => 12 | 0x31, 0x31 => 8
  | _, _ => 0

/-- Class and index in Table 16-1 of the resource that a class and index name; none where it is not assigned. -/
def selResource (cls i : Nat) : Option (Nat × Nat) :=
  match cls with
  | 0x00 => some (2, i) | 0x01 => some (2, i) | 0x02 => some (2, i)
  | 0x03 => some (2, 56 + i) | 0x04 => some (2, 56 + i) | 0x05 => some (2, 56 + i)
  | 0x08 => some (6, i) | 0x09 => some (6, i) | 0x0A => some (7, i) | 0x0B => some (10, i)
  | 0x0C => some (12, i / 2) | 0x20 => some (9, i) | 0x21 => some (10, i) | 0x22 => some (10, i)
  | 0x23 => some (11, i) | 0x30 => some (5, i) | 0x31 => some (12, i)
  | _ => none

/-- Every class, index, slot and channel of a stroke exists (Table 4-4, Table 2-6). -/
def identOk (s : State) (w : Nat) : Bool :=
  let op := skOp w
  if op = 0x02 then
    decide (skIndex w < (rdsClass (skClass w)).1) && decide (skSub w ≤ b2n (rdsClass (skClass w)).2)
  else if op = 0x28 ∨ op = 0x30 ∨ op = 0x31 then decide (skIndex w < selCount op (skClass w))
  else if op = 0x03 ∨ op = 0x2A then (slotProducer s (skSlot w)).isSome
  else if op = 0x29 then decide (skChan w < 72)
  else true

/-- The named resource is assigned to the engine's partition (R124). -/
def assignedOk (s : State) (n w : Nat) : Bool :=
  let op := skOp w
  let r := if op = 0x02 ∨ op = 0x28 ∨ op = 0x30 ∨ op = 0x31 then selResource (skClass w) (skIndex w)
    else if op = 0x29 then some (2, skChan w) else none
  match r with
  | some x => asgOf s x.1 x.2 == asgOf s 1 n
  | none => true

/-- What is wrong with the stroke at a position, as a code of TABLA_LDSTAT, 0 where nothing is; `fin` is the END's
position, `prev` the offset before it. -/
def strokeCode (s : State) (n w k fin prev : Nat) : Nat :=
  match opForm (skOp w) with
  | none => 0x01
  | some f =>
    if reservedSet w f then 0x08
    else if skOffset w < prev then 0x02
    else if skOffset w < 250 ∨ s.get F.BEAT_PERIOD_PERIOD 0 ≤ 8 * skOffset w then 0x03
    else if !identOk s w then 0x04
    else if !assignedOk s n w then 0x05
    else if (skOp w = 0x24 ∨ skOp w = 0x25) ∧ (skN w = 0 ∨ fin ≤ k + skN w) then 0x06
    else 0

/-- Position of the first END of a table, if every position before it holds a stroke. -/
def endPos (get : Nat → Option Nat) : Nat → Nat → Option Nat
  | 0, _ => none
  | k + 1, i => match get i with
    | some w => if skOp w = 0 then some i else endPos get k (i + 1)
    | none => none

/-- The first failing position of a table with its code (R124); none where the table passes. -/
def validateFrom (s : State) (n : Nat) (get : Nat → Option Nat) (fin : Nat) :
    Nat → Nat → Nat → Nat → Option (Nat × Nat)
  | 0, i, _, _ => some (0x07, min i 4095)
  | k + 1, i, prev, twins => match get i with
    | none => some (0x07, i)
    | some w =>
      let c := strokeCode s n w i fin prev
      if c ≠ 0 then some (c, i)
      else if skOp w = 0x03 ∧ twins = 64 then some (0x0A, i)
      else if skOp w = 0 then none
      else validateFrom s n get fin k (i + 1) (skOffset w) (twins + (if skOp w = 0x03 then 1 else 0))

/-- Validation of a table for an engine (R124). -/
def validate (s : State) (n : Nat) (get : Nat → Option Nat) : Option (Nat × Nat) :=
  validateFrom s n get ((endPos get 4096 0).getD 4096) 4096 0 0 0

/-! ### The library (R126, R132) -/

/-- A library table with the END that a position beyond the last chunk reads as. -/
def libTable (s : State) (t : Nat) : List Nat :=
  let l := tget [] s.tab.lib t
  if l.isEmpty ∨ 4096 ≤ l.length ∨ l.any (fun w => skOp w == 0) then l
  else l ++ [skOffset (l.getLastD 0) * 2 ^ 46]

/-- A library table passed validation for an engine. -/
def libValid (s : State) (t n : Nat) : Bool :=
  let l := libTable s t
  !l.isEmpty && (validate s n (fun i => l[i]?)).isNone

/-- Strokes as a buffer. -/
def bufOf (l : List Nat) : Tab (Option Nat) := l.zipIdx.map (fun e => (e.2, some e.1))

/-- The library load of a table starts (R126, R127); `hold` where it waits for a pending mode change. -/
def startLoad (n t : Nat) (hold : Bool) (s : State) : State :=
  let e := engSt s n
  let lost := s.flag F.TABLA_CTRL_ARM n && e.armLib.isNone && e.load.isNone || e.soft
  let s := s.setEng n { e with load := some t, armLib := none, soft := false, hold := hold }
  let s := ((s.put F.TABLA_CTRL_ARM n 0).put F.TABLA_STAT_ARMED n 0).put F.TABLA_STAT_LD_BUSY n 1
  s.when lost (·.put F.TABLA_STAT_ARM_LOST n 1)

/-- TABLA_LIBRARY_LOAD_DONE (R126): the selected table is in the inactive buffer and armed without validation. -/
def execTablaLibraryLoadDone (n : Fin 16) (s : State) : Res :=
  match (engSt s n).load with
  | some t =>
      let s := s.updEng n (fun e =>
        { e.setBuf (inactiveBuf s n) (bufOf (libTable s t)) with load := none, armLib := some t })
      .next (((s.put F.TABLA_STAT_LD_BUSY n 0).put F.TABLA_CTRL_ARM n 1).put F.TABLA_STAT_ARMED n 1)
  | none => .next s

/-! ### Loading by software (R124, R125, R127) -/

/-- A refusal recorded in TABLA_LDSTAT. -/
def ldRefuse (n code idx : Nat) (s : State) : State :=
  ((s.put F.TABLA_LDSTAT_ERR n 1).put F.TABLA_LDSTAT_CODE n code).put F.TABLA_LDSTAT_ERR_IDX n idx

/-- The library load of an engine, running or armed, is given up, but for one that a pending mode change waits for: software owns
the inactive buffer again (R126, R127). -/
def dropLoad (n : Nat) (s : State) : State :=
  let e := engSt s n
  if e.hold || e.load.isNone && e.armLib.isNone then s
  else (((s.setEng n { e with load := none, armLib := none }).put F.TABLA_CTRL_ARM n 0).put F.TABLA_STAT_ARMED n 0).put
    F.TABLA_STAT_LD_BUSY n 0

/-- The library load that a selection in force asks for: none for 0xFF or for the active table, whatever ran before (R126). -/
def followSel (n : Nat) (s : State) : State :=
  let e := engSt s n
  if e.sel = 0xFF ∨ e.actLib = some e.sel then dropLoad n s
  else if e.armLib = some e.sel ∨ e.load = some e.sel then s
  else startLoad n e.sel false s

/-- The effect of a write of TABLA_LD_HI.  The spec does not say what one does while the inactive buffer is validated or armed: it is
taken, and changes the strokes that were validated (DESIGN CHOICE, log 61). -/
def ldHi (n : Nat) (v : Word) (s : State) : State :=
  let i := s.get F.TABLA_LD_IDX_IDX n
  if s.flag F.TABLA_STAT_LD_BUSY n then ldRefuse n 0x09 i s
  else
    let w := v.toNat * 2 ^ 32 + (s.rd R.TABLA_LD_LO n).toNat
    let b := inactiveBuf s n
    let s := s.updEng n (fun e => { e.setBuf b (tset none (e.buf b) i (some w)) with soft := true })
    s.put F.TABLA_LD_IDX_IDX n (i + 1)

/-- TABLA_LD_HI (R124). -/
def execTablaLdHi (n : Fin 16) (init : Init) (value : Word) (s : State) : Res :=
  .next (s.busWrite init (R.TABLA_LD_HI.addr n) 4 (ldHi n value))

/-- The effect of a write of TABLA_CTRL. -/
def tablaCtrl (n : Nat) (v : Word) (s : State) : State :=
  let was := s.flag F.TABLA_CTRL_ARM n
  let s := s.swWrite false R.TABLA_CTRL n v
  if !bitOf v.toNat 30 || was then s
  else if s.flag F.TABLA_STAT_LD_BUSY n then
    tablaFault 363 n 0x09 0 (ldRefuse n 0x09 0 (s.put F.TABLA_CTRL_ARM n 0))
  else s

/-- TABLA_ARM (R124). -/
def execTablaArm (n : Fin 16) (init : Init) (value : Word) (s : State) : Res :=
  .next (s.busWrite init (R.TABLA_CTRL.addr n) 4 (tablaCtrl n value))

/-- TABLA_VALIDATION_DONE (R124, R125). -/
def execTablaValidationDone (n : Fin 16) (s : State) : Res :=
  if s.flag F.TABLA_CTRL_ARM n && !s.flag F.TABLA_STAT_ARMED n then
    let b := (engSt s n).buf (inactiveBuf s n)
    match validate s n (tget none b) with
    | none => .next ((s.wr R.TABLA_LDSTAT n 0).put F.TABLA_STAT_ARMED n 1)
    | some e => .next (tablaFault 363 n e.1 e.2 (ldRefuse n e.1 e.2 (s.put F.TABLA_CTRL_ARM n 0)))
  else .next s

/-! ### At a boundary (R115, R117, R118, R125, R128) -/

/-- Positions of an engine's table that the cut of step 1 skips; none where it executed END (R115). -/
def cutCount (s : State) (n : Nat) : Option Nat :=
  let e := engSt s n
  if e.live && !e.done then some ((endPos (activeStroke s n) 4096 0).getD 4096 - e.pc) else none

/-- The cut of an engine at step 1, and its last position of the beat. -/
def cutEngine (n : Nat) (s : State) : State :=
  let s := match (engSt s n).last with
    | some k => s.put F.TABLA_STAT_LAST_IDX n k
    | none => s
  match cutCount s n with
  | some k => ((s.addSat F.TABLA_SKIP_SKIP n k).incSat F.TABLA_OVR_OVR n).put F.TABLA_STAT_CUT n 1
  | none => s

/-- The RDT consumers of an engine start in the reference state (R123). -/
def resetRdt (n : Nat) (s : State) : State :=
  { s with twin := { s.twin with
      cons := s.twin.cons.filter (fun e => !(decide (rdtConsumer n 0 ≤ e.1) && decide (e.1 < rdtConsumer (n + 1) 0))) } }

/-- The working registers of an engine cleared. -/
def clearW (n : Nat) (s : State) : State := s.clearWords R.TABLA_WREG (16 * n) (16 * n + 16)

/-- Step 5 for an engine: an armed buffer becomes active (R125); `mode` tells that this boundary applies a mode
change, which a held load waits for (R126). -/
def swapEngine (mode : Bool) (n : Nat) (s : State) : State :=
  let e := engSt s n
  if s.flag F.TABLA_STAT_ARMED n && (mode || !e.hold) then
    let s := s.put F.TABLA_STAT_ACTIVE n (inactiveBuf s n)
    let s := s.setEng n { e with actLib := e.armLib, armLib := none, soft := false, hold := false }
    let s := ((s.put F.TABLA_CTRL_ARM n 0).put F.TABLA_STAT_ARMED n 0).put F.TABLA_STAT_SWAPPED n 1
    let s := s.when (s.flag F.TABLA_CTRL_CLR_ON_SWAP n) (clearW n)
    let s := s.when e.armLib.isSome (·.put F.TABLA_CTRL_RUN n 1)
    (resetRdt n s).raiseIrq (876 + n)
  else s

/-- A selected library table put into the active buffer at once, and RUN set (R128). -/
def loadActive (n : Nat) (s : State) : State :=
  let t := (engSt s n).sel
  if t = 0xFF then s
  else
    let s := s.updEng n (fun e => { e.setBuf (activeBuf s n) (bufOf (libTable s t)) with actLib := some t })
    resetRdt n (s.put F.TABLA_CTRL_RUN n 1)

/-- An engine whose partition's reset has completed reloads its table at the boundary (R128). -/
def reloadEngine (n : Nat) (s : State) : State :=
  if (engSt s n).reload then loadActive n (s.updEng n (fun e => { e with reload := false })) else s

/-- The start of an engine at t_b (R117, R118). -/
def startEngine (n : Nat) (s : State) : State :=
  let run := s.flag F.TABLA_CTRL_RUN n && tablaRuns s n && (activeStroke s n 0).isSome
  s.updEng n (fun e => { e with c := false, sat := false, inv := false, safe := false, pc := 0, last := none,
                                done := false, live := run })

/-- RESET_PART stops the engines of a partition at once and resets their pages, PART excepted (R128, R131). -/
def resetPartTabla (p : Nat) (s : State) : State :=
  s.each (List.range 16) (fun n s =>
    if asgOf s 1 n = p then
      let part := s.get F.TABLA_CTRL_PART n
      let sel := (engSt s n).sel
      let s := s.each [R.TABLA_CTRL, R.TABLA_STAT, R.TABLA_LD_IDX, R.TABLA_LD_LO, R.TABLA_LDSTAT, R.TABLA_SKIP,
        R.TABLA_OVR, R.TABLA_LATE, R.TABLA_ERRCNT] (fun r s => s.clearWords r n (n + 1))
      let s := (clearW n s).put F.TABLA_CTRL_PART n part
      resetRdt n (s.setEng n { EngSt.init with sel := sel })
    else s)

/-- The partition's reset has completed: its engines with a selection reload at the next boundary (R128). -/
def restartPartTabla (p : Nat) (s : State) : State :=
  s.each (List.range 16) (fun n s =>
    if asgOf s 1 n = p then s.updEng n (fun e => { e with reload := decide (e.sel ≠ 0xFF) }) else s)

end Sys2Proof.Machine
end

