-- ==== Sys2Proof/Machine/Lin.lean ====
section
/-!
DEFINITION. The LIN channels (chapter 11): frame buffers, schedules, Tabla requests, sleep and wake.
-/

namespace Sys2Proof.Machine

/-- One channel. -/
def linSt (s : State) (l : Nat) : LinSt := tget LinSt.init s.bus.lin l

/-- A channel changed. -/
def State.updLin (s : State) (l : Nat) (f : LinSt → LinSt) : State :=
  { s with bus := { s.bus with lin := tupd LinSt.init s.bus.lin l f } }

/-- The LIN VEs in operation that are bound to a channel. -/
def linVes (s : State) (l : Nat) : List Nat :=
  (assignedVes s).filter (fun n => veType s n == 3 && s.get F.LINV_BIND_CH n == l && (veState s n == 2 || veState s n == 3))

/-- An event bit of a channel, with interrupt 848 + l where it is enabled (R344) and event 0 of the bound VEs (R433). -/
def linEvt (l bit : Nat) (s : State) : State :=
  let s := s.wr R.LIN_EVT l (s.rd R.LIN_EVT l ||| BitVec.ofNat 32 (2 ^ bit))
  let s := s.each (linVes s l) (fun n s => veEvent n 0 s)
  if bitOf (s.rd R.LIN_IE l).toNat bit then s.raiseIrq (848 + l) else s

/-- A LIN source whose VALUE the spec does not state: a free value. -/
def linFaultFree (n l : Nat) (s : State) : State :=
  let d := s.draw
  busFault n 1 l 0 (Config.freeNat 23 d.1 % 4096) d.2

/-- A commander, and a responder. -/
def linCommander (s : State) (l : Nat) : Bool := s.get F.LIN_CFG_MODE l == 1
def linResponder (s : State) (l : Nat) : Bool := s.get F.LIN_CFG_MODE l == 2

/-- States of LIN_STAT. -/
def linIdle : Nat := 0
def linActive : Nat := 1
def linSleep : Nat := 2

/-- State of a channel. -/
def linState (s : State) (l : Nat) : Nat := s.get F.LIN_STAT_STATE l

/-- Data bytes of a frame: 0 and 9 to 15 act as 8. -/
def linLen (s : State) (l id : Nat) : Nat :=
  let n := s.get F.LIN_FRAME_CFG_LEN (64 * l + id)
  if 1 ≤ n ∧ n ≤ 8 then n else 8

/-- The protected identifier of an identifier. -/
def linPid (id : Nat) : Nat :=
  let b (i : Nat) : Nat := b2n (bitOf id i)
  id + (b 0 + b 1 + b 2 + b 4) % 2 * 64 + (1 + b 1 + b 3 + b 4 + b 5) % 2 * 128

/-- The sum with carry of octets. -/
def linSum (l : List Nat) : Nat := l.foldl (fun a b => if 255 < a + b then a + b - 255 else a + b) 0

/-- The checksum of a response: classic for 0x3C and 0x3D and where ENH is 0, else over the PID too (R334). -/
def linChecksum (s : State) (l id : Nat) (data : List Nat) : Nat :=
  let enh := s.flag F.LIN_FRAME_CFG_ENH (64 * l + id) && id != 0x3C && id != 0x3D
  255 - linSum (if enh then linPid id :: data else data)

/-- The data in force of a frame buffer. -/
def linData (s : State) (l id : Nat) : List Nat :=
  (leOctets (s.get64 R.LIN_FRAME_DATA_LO R.LIN_FRAME_DATA_HI (64 * l + id)) 8).take (linLen s l id)

/-- The header of a frame has been sent or received: the frame is on the bus, with the data in force where it is published. -/
def linHeader (l id : Nat) (event : Option Nat) (s : State) : State :=
  let pub := s.get F.LIN_FRAME_CFG_DIR (64 * l + id) == 1
  s.updLin l (fun x => { x with
    bus := some ⟨id, pub, if pub then linData s l id else [], event, s.beatLo % 2 ^ 24⟩ })

/-- A failed response (R334): the buffer's data are unchanged. -/
def linError (l id code : Nat) (s : State) : State :=
  let i := 64 * l + id
  let s := (s.put F.LIN_FRAME_STAT_ERR i 1).put F.LIN_FRAME_STAT_LAST_ERR i code
  let s := linEvt l 29 (s.incSat F.LIN_CNT_CNT (8 * l + (if code = 3 then 2 else 1)))
  busFault (if code = 3 then 337 else 336) 1 l 0 code s

/-- An error before an identifier is known (sync field, PID parity). -/
def linHeaderError (l code : Nat) (s : State) : State :=
  busFault 336 1 l 0 code (linEvt l 29 (s.incSat F.LIN_CNT_CNT (8 * l + 1)))

/-- A collision of an event-triggered frame (R335): table RES_TBL runs once before the schedule continues. -/
def linCollision (l res : Nat) (s : State) : State :=
  let s := linEvt l 28 (s.incSat F.LIN_CNT_CNT (8 * l + 4))
  s.updLin l (fun x => { x with back := some (x.tbl, x.pos), tbl := res, pos := 0 })

/-- A response of the frame on the bus has failed with a code of Table 11-6. -/
def linFail (l : Nat) (b : LinBus) (code : Nat) (s : State) : State :=
  match b.event with
  | some r => if code = 3 then linError l b.id code s else linCollision l r s
  | none => linError l b.id code s

/-- A subscribed response replaces the buffer (R334). -/
def linStore (l : Nat) (b : LinBus) (data : List Nat) (s : State) : State :=
  let i := 64 * l + b.id
  let old := leOctets (s.get64 R.LIN_FRAME_DATA_LO R.LIN_FRAME_DATA_HI i) 8
  let s := s.put64 R.LIN_FRAME_DATA_LO R.LIN_FRAME_DATA_HI i (leNat (data ++ old.drop data.length))
  let s := if s.flag F.LIN_FRAME_STAT_NEW i then s.put F.LIN_FRAME_STAT_OVERWRITE i 1 else s
  (s.put F.LIN_FRAME_STAT_NEW i 1).put F.LIN_FRAME_STAT_BEAT i b.beat

/-- A frame counts as good; a channel whose VE drains counts it there too. -/
def linGood (l : Nat) (s : State) : State :=
  (s.incSat F.LIN_CNT_CNT (8 * l)).each ((linVes s l).filter (fun n => veState s n == 3)) (fun n s =>
    s.incSat F.VE_QRES_CNT (4 * n))

/-- LIN_FRAME_COMPLETE (R334): `octets` are the response with its checksum as the bus carried them. -/
def execLinFrameComplete (l : Fin 12) (octets : List Nat) (bitErr : Bool) (s : State) : Res :=
  .next (match (linSt s l).bus with
    | none => s
    | some b =>
      if busGated s then s else
      let s := s.updLin l (fun x => { x with bus := none })
      let n := linLen s l b.id
      let data := octets.take n
      if b.publish then
        (if bitErr then linFail l b 1 s
         else linGood l (s.emit (.lin l b.id (b.data ++ [linChecksum s l b.id b.data]))))
      else if s.get F.LIN_FRAME_CFG_DIR (64 * l + b.id) ≠ 2 then s
      else if octets.length < n + 1 then linFail l b 4 s
      else if octets.getD n 0 ≠ linChecksum s l b.id data then linFail l b 2 s
      else linGood l (linStore l b data s))

/-- LIN_RESPONSE_TIMEOUT (R334, Table 11-6): only a commander records it. -/
def execLinResponseTimeout (l : Fin 12) (s : State) : Res :=
  .next (match (linSt s l).bus with
    | none => s
    | some b =>
      if !linCommander s l || b.publish || busGated s then s
      else
        let s := s.updLin l (fun x => { x with bus := none })
        if s.get F.LIN_FRAME_CFG_DIR (64 * l + b.id) = 2 then linFail l b 3 s else s)

/-- LIN_HEADER_RX (R333): a responder's header; a sync field out of range or a wrong parity is ignored with its code. -/
def execLinHeaderRx (l : Fin 12) (pid : Fin 256) (sync : Bool) (s : State) : Res :=
  .next (if !linResponder s l || busGated s then s
    else if !sync then linHeaderError l 5 s
    else if linPid (pid.val % 64) ≠ pid.val then linHeaderError l 6 s
    else linHeader l (pid.val % 64) none s)

/-! ### Schedules (R335, R336) -/

/-- Table and place after an entry of a table of `len` entries. -/
def linAdvance (len : Nat) (x : LinSt) : LinSt :=
  if x.pos + 1 < len then { x with pos := x.pos + 1 }
  else match x.back with
    | some (t, p) => { x with tbl := t, pos := p, back := none }
    | none => { x with pos := 0 }

/-- The entry that starts now: the selected table takes over here, outside a resolution table. -/
def linPlace (sel : Nat) (x : LinSt) : LinSt := if x.back.isNone ∧ x.tbl ≠ sel then { x with tbl := sel, pos := 0 } else x

/-- The go-to-sleep frame (R338). -/
def linGoSleep (l : Nat) (s : State) : State :=
  let d := 0x00 :: List.replicate 7 0xFF
  let s := s.emit (.lin l 0x3C (d ++ [255 - linSum d]))
  (s.put F.LIN_CTRL_SLEEP_TX l 0).put F.LIN_STAT_STATE l linSleep

/-- An entry of the schedule begins. -/
def linEntry (l : Nat) (s : State) : State :=
  let x := linPlace (s.get F.LIN_CTRL_SCHED_SEL l) (linSt s l)
  let len := s.get F.LIN_TBL_LEN (4 * l + x.tbl)
  let s := s.put F.LIN_STAT_STATE l linActive
  if len = 0 then s.updLin l (fun _ => { linAdvance 0 x with left := 1 })
  else
    let e := (s.get F.LIN_TBL_START (4 * l + x.tbl) + x.pos) % 256
    let i := 256 * l + e
    let ty := s.get F.LIN_SCHED_TYPE i
    let s := (s.put F.LIN_STAT_ENTRY l e).updLin l (fun _ =>
      { linAdvance len x with left := max 1 (s.get F.LIN_SCHED_DELAY i) })
    if (linSt s l).bus.isSome then
      busFault 338 1 l 0 e (linEvt l 31 (s.incSat F.LIN_CNT_CNT (8 * l + 3)))
    else if ty = 0 then linHeader l (s.get F.LIN_SCHED_ID i) none s
    else if ty = 1 then linHeader l (s.get F.LIN_SCHED_ID i) (some (s.get F.LIN_SCHED_RES_TBL i)) s
    else s

/-- The schedule of a channel runs: a commander on its tables, awake, with RUN = 1. -/
def linRuns (s : State) (l : Nat) : Bool :=
  linCommander s l && !s.flag F.LIN_CFG_SCHED_SRC l && s.flag F.LIN_CTRL_RUN l && linState s l != linSleep &&
  !(linSt s l).gap && !(linSt s l).held && !busGated s

/-- A commander that Tabla drives has no entries: its go-to-sleep frame is sent at the first LIN_ENTRY_START with nothing on the bus
(DESIGN CHOICE, log 65). -/
def linTablaSleeps (s : State) (l : Nat) : Bool :=
  linCommander s l && s.flag F.LIN_CFG_SCHED_SRC l && s.flag F.LIN_CTRL_SLEEP_TX l && (linSt s l).bus.isNone &&
  linState s l != linSleep && !busGated s

/-- LIN_ENTRY_START (R335, R336, R338): taken once the entry before it has lasted its beats. -/
def execLinEntryStart (l : Fin 12) (s : State) : Res :=
  .next (if linTablaSleeps s l then linGoSleep l s
    else if !linRuns s l ∨ (linSt s l).left ≠ 0 then s
    else if s.flag F.LIN_CTRL_SLEEP_TX l ∧ (linSt s l).bus = none then linGoSleep l s
    else linEntry l s)

/-- A beat boundary: the entry in force has a beat less to last (R335). -/
def linBeat (l : Nat) (s : State) : State :=
  if (linSt s l).left = 0 then s else s.updLin l (fun x => { x with left := x.left - 1 })

/-- A write of LIN_CTRL (R338).  RUN = 0 ends the entry in force (DESIGN CHOICE, log 65).  RUN is accepted only once LIN is ready (R522 sub-step 6). -/
def linCtrlWrite (l : Nat) (v : Word) (s : State) : State :=
  let v := if s.flag F.DICT_STAT_READY 0 then v else v &&& 0x7FFFFFFF#32
  let s := s.swWrite false R.LIN_CTRL l v
  let s := if linCommander s l then s else s.put F.LIN_CTRL_SLEEP_TX l 0
  let s := if s.flag F.LIN_CTRL_RUN l then s else s.updLin l (fun x => { x with left := 0 })
  let s := if s.flag F.LIN_CTRL_RUN l ∨ linState s l = linSleep then s else s.put F.LIN_STAT_STATE l linIdle
  if bitOf v.toNat 27 then
    let s := (s.put F.LIN_CTRL_WAKE_TX l 0).emit (.pin 4 l (s.get F.LIN_TIMING_WAKE_US l))
    (s.put F.LIN_STAT_STATE l linIdle).updLin l (fun x => { x with gap := true })
  else s

/-- LIN_SLEEP_TX (R338). -/
def execLinSleepTx (l : Fin 12) (init : Init) (value : Word) (s : State) : Res :=
  .next (s.busWrite init (R.LIN_CTRL.addr l) 4 (linCtrlWrite l value))

/-- LIN_WAKE_TX (R338). -/
def execLinWakeTx (l : Fin 12) (init : Init) (value : Word) (s : State) : Res :=
  .next (s.busWrite init (R.LIN_CTRL.addr l) 4 (linCtrlWrite l value))

/-- LIN_WAKE_GAP_END (R338): the schedule resumes at the first entry of the selected table. -/
def execLinWakeGapEnd (l : Fin 12) (s : State) : Res :=
  .next (if (linSt s l).gap then
    let s := s.updLin l (fun x => { x with gap := false, tbl := s.get F.LIN_CTRL_SCHED_SEL l, pos := 0, back := none, left := 0 })
    if s.flag F.LIN_CTRL_RUN l then s.put F.LIN_STAT_STATE l linActive else s
  else s)

/-- LIN_WAKE_RX (R338): in DEEP_SLEEP the transceivers are unpowered. -/
def execLinWakeRx (l : Fin 12) (s : State) : Res :=
  .next (if linState s l = linSleep ∧ s.pm.phase ≠ 2 then linEvt l 30 s else s)

/-- A channel of a partition that is reset, as R328 has it for a controller (R341; DESIGN CHOICE, log 65): the schedule and the
frame on the bus end, and STATE is IDLE. -/
def linReset (l : Nat) (s : State) : State :=
  ((s.put F.LIN_CTRL_RUN l 0).put F.LIN_STAT_STATE l linIdle).updLin l (fun _ => LinSt.init)

/-- LIN_TXD_TIMEOUT (R338): the bus is released. -/
def execLinTxdTimeout (l : Fin 12) (s : State) : Res :=
  .next (if s.get F.LIN_CFG_MODE l = 0 then s
    else linFaultFree 339 l ((s.put F.LIN_STAT_TRX_FAULT l 1).updLin l (fun x => { x with bus := none })))

/-! ### Frame buffers as 64-bit registers (R9, R334) -/

/-- A write of DATA_HI makes both words effective. -/
def linDataHi (l id : Nat) (v : Word) (s : State) : State :=
  let i := 64 * l + id
  (s.wr R.LIN_FRAME_DATA_LO i (staged s R.LIN_FRAME_DATA_LO i)).wr R.LIN_FRAME_DATA_HI i v

/-- LIN_DATA_HI (R334). -/
def execLinDataHi (l : Fin 12) (id : Fin 64) (init : Init) (value : Word) (s : State) : Res :=
  .next (s.busWrite init (R.LIN_FRAME_DATA_HI.addr (64 * l + id)) 4 (linDataHi l id value))

/-- A read of DATA_LO latches DATA_HI; a refused read changes nothing but its denial's record. -/
def linDataLoRead (l id init : Nat) (s : State) : State :=
  let a := R.LIN_FRAME_DATA_LO.addr (64 * l + id)
  if judgeReq s init a 4 ≠ respOkay then s.refuseReq init a 4 false
  else { s with latch := s.latch.write R.LIN_FRAME_DATA_HI (64 * l + id) (s.rd R.LIN_FRAME_DATA_HI (64 * l + id)) }

/-- LIN_DATA_LO_READ (R334). -/
def execLinDataLoRead (l : Fin 12) (id : Fin 64) (init : Init) (s : State) : Res := .next (linDataLoRead l id init s)

/-! ### Tabla requests (R337) -/

/-- The effect of LREQ: a header for the identifier in [21:16], or a refusal. -/
def lreq (n w : Nat) (s : State) : State :=
  let l := skIndex w
  if linCommander s l && s.flag F.LIN_CFG_SCHED_SRC l && (linSt s l).bus.isNone && linState s l != linSleep then
    linHeader l (bitsOf w 21 16) none s
  else linFaultFree 340 l ((s.setInv n).incSat F.LIN_CNT_CNT (8 * l + 5))

/-- LREQ (R337). -/
def execStrokeLreq (n : Fin 16) (late : Nat) (s : State) : Res := .next (stroke 0x30 n late (lreq n) s)

end Sys2Proof.Machine
end

