-- ==== Sys2Proof/Machine/Spine.lean ====
section
/-!
DEFINITION. The spine link (R35 to R37): replays, retrains, leaving UP, the Knell hold timer and link-up.
-/

namespace Sys2Proof.Machine

/-- A spine source raised: CODE is SPINE_STAT.STATE after the event (R40). -/
def spineFault (n w1 : Nat) (s : State) : State := s.raiseFab n (s.get F.SPINE_STAT_STATE 0) 0 0x1006 w1 0

/-- The ports that a link loss fences (R36). -/
def linkPorts : List Nat := [0x1006, 0x002, 0x004]

/-- Knell's hold timer starts or stops (R36), and SPINE_STAT.HOLDING shows it. -/
def State.setHolding (s : State) (b : Bool) : State :=
  { s with fab := { s.fab with holding := b } }.put F.SPINE_STAT_HOLDING 0 (b2n b)

/-- The spine hold timer expires: every group enters safe state (R36). -/
def holdExpire (s : State) : State := knCauseAll knLink (s.setHolding false)

/-- The link enters DOWN (R35, R36).  R14's blocks show the loss; LIN, whose tables have no field for it, shows nothing, and its
schedule goes on (DESIGN CHOICE, log 59). -/
def State.linkDown (s : State) (out : List Req) : State :=
  if s.get F.SPINE_STAT_STATE 0 = 0 then s
  else
    let was := linkUp s
    let s := s.put F.SPINE_STAT_STATE 0 0
    let s := { s with fab := { s.fab with crcFails := 0, retrainFails := 0, goodSince := true } }
    let s := spineFault 101 (s.get F.SPINE_ERR_RETRAIN_CNT 0) s
    if was then
      let s := s.each linkPorts (fun p s => s.fence p causeLink out)
      let s := (ioLinkDown (pwrLinkDown s)).each (List.range 16) canLinkDown
      if s.fab.holdInForce = 0 then holdExpire s else s.setHolding true
    else s

/-- The H-die is reset: its spine endpoint, which ends a timeout of the link's port (R26), and its blocks, not Knell or the always-on
island (R36). -/
def State.hdieResetNow (s : State) (out : List Req) : State :=
  let s := (s.linkDown out).endCause 0x1006 causeTimeout
  let s := pwrHReset s
  { s with fab := { s.fab with hdieReset := true, released := false, restart := true } }

/-- A flit is replayed (R35); FS99 is raised once in a beat, at the 17th replay. -/
def replay (s : State) : State :=
  let s := s.incSat F.SPINE_ERR_REPLAY_CNT 0
  let n := s.fab.replaysBeat + 1
  let s := { s with fab := { s.fab with replaysBeat := n } }
  if n = 17 then spineFault 99 (s.get F.SPINE_ERR_REPLAY_CNT 0) s else s

/-- A retrain starts (R35). -/
def retrain (s : State) : State :=
  let s := (s.put F.SPINE_STAT_STATE 0 3).incSat F.SPINE_ERR_RETRAIN_CNT 0
  spineFault 100 (s.get F.SPINE_ERR_RETRAIN_CNT 0) s

/-- A retrain has failed: after three in a row the link enters DOWN. -/
def retrainFailed (out : List Req) (s : State) : State :=
  let n := s.fab.retrainFails + 1
  let s := { s with fab := { s.fab with retrainFails := n } }
  if 3 ≤ n then s.linkDown out else s

/-- SPINE_CRC_FAIL (R35): a flit fails its CRC; `fresh` tells that a flit has been received without an error since
the last failure, so that a count of failures and of failed retrains starts again. -/
def execSpineCrcFail (fresh : Bool) (out : List Req) (s : State) : Res :=
  if s.get F.SPINE_STAT_STATE 0 = 2 then
    let s := if fresh then
        { s with fab := { s.fab with crcFails := 0, retrainFails := 0, goodSince := true } } else s
    if s.fab.crcFails < 3 then
      .next (replay { s with fab := { s.fab with crcFails := s.fab.crcFails + 1 } })
    else
      let again := !s.fab.goodSince
      let s := retrain { s with fab := { s.fab with crcFails := 0, goodSince := false } }
      .next (if again then retrainFailed out s else s)
  else .next s

/-- RETRAIN_COMPLETE (R35): the flit is replayed. -/
def execRetrainComplete (s : State) : Res :=
  if s.get F.SPINE_STAT_STATE 0 = 3 then .next (replay (s.put F.SPINE_STAT_STATE 0 2)) else .next s

/-- RETRAIN_TIMEOUT (R35): the retrain has failed; a further one starts unless the link goes DOWN. -/
def execRetrainTimeout (out : List Req) (s : State) : Res :=
  if s.get F.SPINE_STAT_STATE 0 = 3 then
    let s := retrainFailed out s
    .next (if s.get F.SPINE_STAT_STATE 0 = 3 then retrain s else s)
  else .next s

/-- HDIE_SUPPLY_LOSS (R36). -/
def execHdieSupplyLoss (out : List Req) (s : State) : Res := .next (s.hdieResetNow out)

/-- The effect of a write of SPINE_CTRL. -/
def spineCtrl (out : List Req) (v : Word) (s : State) : State :=
  let s := s.swWrite false R.SPINE_CTRL 0 v
  s.when (bitOf v.toNat 31) (·.hdieResetNow out)

/-- SPINE_HRESET (R36). -/
def execSpineHreset (init : Init) (value : Word) (out : List Req) (s : State) : Res :=
  .next (s.busWrite init (R.SPINE_CTRL.addr 0) 4 (spineCtrl out value))

/-- HDIE_RESET_RELEASE (R35): the H-die leaves reset, its oscillator runs, and the link starts TRAINING. -/
def execHdieResetRelease (s : State) : Res :=
  if s.fab.hdieReset && !s.fab.released then
    let s := { s with fab := { s.fab with released := true }, kn := { s.kn with hosc := true } }
    .next (s.put F.SPINE_STAT_STATE 0 1)
  else .next s

/-- Every consumer on the H-die goes to the reference state (R37, R61). -/
def farReference (s : State) : State :=
  { s with twin := { s.twin with
      cons := tupdAll ConsSt.init s.twin.cons ((s.twin.cons.filter (fun e => slotCrosses e.1)).map (·.1))
        (fun _ c => { c with ref := true }) } }

/-- The spine link comes UP after training (R35, R37). -/
def spineUp (s : State) : State :=
  if s.get F.SPINE_STAT_STATE 0 = 1 then
    let s := farReference s.deliverSlots
    let expired := !s.fab.holding
    let s := ((s.put F.SPINE_STAT_STATE 0 2).setHolding false).put F.SPINE_CTRL_HRESET 0 0
    let s := s.incSat F.SPINE_STAT_LINKUP_CNT 0
    let restart := s.fab.restart
    let s := { s with fab := { s.fab with holdInForce := s.get F.SPINE_CTRL_HOLD 0, hdieReset := false,
                                          restart := false } }
    let s := s.each linkPorts (fun p s => (s.endCause p causeLink).openPort p)
    let s := pwrLinkUp restart expired s
    let s := s.each (List.range 16) (canLinkUp restart)
    (knLinkUp (ioLinkUp s)).raiseIrq 624
  else s

/-- SPINE_LINK_UP (R37): training is complete. -/
def execSpineLinkUp (s : State) : Res :=
  .next (if s.get F.CLK_DOM_SRC 15 = 2 then s else match s.bist.prbs with | some (3, _) => s | _ => spineUp s)

/-- TRAINING_TIMEOUT (R35): the link returns to DOWN and stays there. -/
def execTrainingTimeout (s : State) : Res :=
  if s.get F.SPINE_STAT_STATE 0 = 1 then .next (s.linkDown []) else .next s

/-- KNELL_HOLD_EXPIRE (R36): the hold timer counts on the H-die's own oscillator. -/
def execKnellHoldExpire (s : State) : Res :=
  if s.fab.holding && s.kn.hosc then .next (holdExpire s) else .next s

end Sys2Proof.Machine
end

