-- ==== Sys2Proof/Machine/Carillon.lean ====
section
/-!
DEFINITION. The Carillon trios (chapter 13): votes, resynchronisation, rotating LBIST, checkers, TCM and interrupt
controllers.
-/

namespace Sys2Proof.Machine

/-- One trio. -/
def carSt (s : State) (t : Nat) : CarSt := tget CarSt.init s.car t

/-- A trio changed. -/
def State.updCar (s : State) (t : Nat) (f : CarSt → CarSt) : State := { s with car := tupd CarSt.init s.car t f }

/-- The states of Table 13-1. -/
def carTmr : Nat := 0
def carDuplex : Nat := 1
def carResync : Nat := 2
def carLbist : Nat := 3
def carDegraded : Nat := 4
def carFailed : Nat := 5
def carSplit : Nat := 6
def carHeld : Nat := 7

/-- State of a trio. -/
def carState (s : State) (t : Nat) : Nat := s.get F.CAR_STAT_STATE t

/-- A trio's source FS32 + 16 t + m with the record of R388. -/
def carFault (t m w1 : Nat) (s : State) : State :=
  s.raise (32 + 16 * t + m) (t * 2 ^ 30 + s.get F.CAR_MM0_CORES t * 2 ^ 26 + s.get F.CAR_MM0_KIND t % 4 * 2 ^ 24 +
    carState s t * 2 ^ 20) w1 0

/-- An event bit of a trio, with interrupt 544 + t where it is enabled (R389). -/
def carEvt (t bit : Nat) (s : State) : State :=
  let s := s.wr R.CAR_EVT t (s.rd R.CAR_EVT t ||| BitVec.ofNat 32 (2 ^ bit))
  if bitOf (s.rd R.CAR_IE t).toNat bit then s.raiseIrq (544 + t) else s

/-- A trio's counter k. -/
def carCnt (t k : Nat) (s : State) : State := s.incSat F.CAR_CNT_CNT (7 * t + k)

/-- A mismatch is recorded in CAR_MM0 to CAR_MM2 (R375). -/
def carRecord (t kind cores : Nat) (duplex : Bool) (csr addr : Nat) (s : State) : State :=
  let s := s.wr R.CAR_MM0 t (BitVec.ofNat 32
    (2 ^ 31 + kind * 2 ^ 29 + cores * 2 ^ 26 + b2n duplex * 2 ^ 25 + (if kind = 1 then csr % 4096 else 0)))
  (s.wr R.CAR_MM1 t (BitVec.ofNat 32 addr)).wr R.CAR_MM2 t (BitVec.ofNat 32 s.beatLo)

/-- The trio enters FAILED (R382). -/
def carFail (t w1 : Nat) (s : State) : State := carFault t 1 w1 (carEvt t 29 (s.put F.CAR_STAT_STATE t carFailed))

/-- A core is retired (R375). -/
def carRetire (t c : Nat) (s : State) : State :=
  let s := s.put F.CAR_STAT_RETIRED t (s.get F.CAR_STAT_RETIRED t ||| 2 ^ c)
  carCnt t 6 (carEvt t 27 s)

/-- Word 1 of a mismatch's record. -/
def carMm1 (s : State) (t : Nat) : Nat := (s.rd R.CAR_MM1 t).toNat

/-- The cores that execute as a pair while `out` is out. -/
def pairCores (out : Nat) : Nat := if out ≤ 2 then 7 - 2 ^ out else 3

/-- One core of a trio in TMR disagrees (Table 13-2): removed, or retired where it rejoined less than GUARD beats ago. -/
def carOdd (t c : Nat) (s : State) : State :=
  let r := tget 0 (carSt s t).rejoin c
  let guard := max 1 (s.get F.CAR_CTRL_GUARD t)
  let s := carCnt t 0 (carEvt t 31 (s.put F.CAR_STAT_OUT t c))
  if r ≠ 0 ∧ s.beat < r - 1 + guard then
    let s := carRetire t c (s.put F.CAR_STAT_STATE t carDegraded)
    carFault t 3 (carMm1 s t) (carFault t 0 (carMm1 s t) s)
  else
    let s := s.put F.CAR_STAT_STATE t carDuplex
    carFault t 0 (carMm1 s t) s

/-- VOTE_MISMATCH (R371 to R375): in TMR `who` is the odd core, or 3 where all disagree; in the other states the two
executing cores, or the two sources of the copy, disagree. -/
def execVoteMismatch (t : Fin 2) (kind : Fin 3) (who : Fin 4) (csr : Nat) (addr : Word) (s : State) : Res :=
  let st := carState s t
  let pair := pairCores (s.get F.CAR_STAT_OUT t)
  .next (if st = carTmr then
      (if who.val = 3 then carFail t addr.toNat (carRecord t kind 7 false csr addr.toNat s)
       else carOdd t who (carRecord t kind (2 ^ who.val) false csr addr.toNat s))
    else if st = carDuplex ∨ st = carLbist ∨ st = carDegraded then
      carFail t addr.toNat (carRecord t kind pair true csr addr.toNat s)
    else if st = carResync then carFail t addr.toNat (carRecord t 3 pair true csr addr.toNat s)
    else s)

/-- RESYNC_COPY_START (R373). -/
def execResyncCopyStart (t : Fin 2) (s : State) : Res :=
  .next (if carState s t = carDuplex then s.put F.CAR_STAT_STATE t carResync else s)

/-- RESYNC_COMPLETE (R373): the odd core rejoins after a pair stall of `stall` cycles. -/
def execResyncComplete (t : Fin 2) (stall : Nat) (s : State) : Res :=
  .next (if carState s t = carResync then
    let c := s.get F.CAR_STAT_OUT t
    let s := s.updCar t (fun x => { x with rejoin := tset 0 x.rejoin c (s.beat + 1) })
    let s := (s.put F.CAR_STAT_STATE t carTmr).put F.CAR_STAT_OUT t 3
    let n := min stall 0xFFFF
    let s := (s.put F.CAR_STALL_STALL_LAST t n).put F.CAR_STALL_STALL_MAX t (max n (s.get F.CAR_STALL_STALL_MAX t))
    carCnt t 1 (carEvt t 30 s)
  else s)

/-- The next core to be tested after `c`, cyclically, that is not retired. -/
def nextCore (retired c : Nat) : Nat :=
  match [(c + 1) % 3, (c + 2) % 3].find? (fun k => !bitOf retired k) with | some k => k | none => c

/-- LBIST_COMPLETE (R379). -/
def execLbistComplete (t : Fin 2) (pass : Bool) (s : State) : Res :=
  .next (if carState s t = carLbist then
    let c := s.get F.CAR_LBIST_NEXT t
    let s := ((s.put F.CAR_LBIST_LAST_CORE t c).put F.CAR_LBIST_LAST_PASS t (b2n pass)).wr R.CAR_LBIST_BEAT t
      (BitVec.ofNat 32 s.beatLo)
    let s := carCnt t 4 (carEvt t 25 (s.updCar t (fun x => { x with rot := s.beat })))
    if pass then (s.put F.CAR_STAT_STATE t carResync).put F.CAR_LBIST_NEXT t (nextCore (s.get F.CAR_STAT_RETIRED t) c)
    else
      let s := carRetire t c ((s.put F.CAR_STAT_STATE t carDegraded).put F.CAR_STAT_LB_RETIRED t 1)
      let s := s.updCar t (fun x => { x with lbRet := x.lbRet ||| 2 ^ c })
      let s := s.put F.CAR_LBIST_NEXT t (nextCore (s.get F.CAR_STAT_RETIRED t) c)
      let s := carCnt t 5 (carEvt t 26 s)
      carFault t 3 0 (carFault t 4 0 s)
  else s)

/-! ### Checkers (R378) -/

/-- CHECKER_FAULT, at most once a beat. -/
def checkerFault (t : Nat) (s : State) : State :=
  if (carSt s t).said then s
  else carFault t 2 0 (carCnt t 2 (carEvt t 28 (s.updCar t (fun x => { x with said := true }))))

/-- A lane whose halves are not complementary. -/
def laneFault (t : Nat) (s : State) : State := checkerFault t (s.put F.CAR_STAT_CHK_FAULT t 1)

/-- CHECKER_LANE_FAULT (R378): a lane, or the output register pair of a request to `addr`. -/
def execCheckerLaneFault (t : Fin 2) (output : Bool) (addr : Word) (s : State) : Res :=
  let st := carState s t
  .next (if st = carSplit ∨ st = carHeld ∨ st = carFailed then s
    else if output then
      carFail t addr.toNat (checkerFault t (carRecord t 0 0 false 0 addr.toNat s))
    else laneFault t s)

/-- The injection of step 8 of Table 4-1; `bad` says that a lane fails to report it. -/
def carInject (t : Nat) (bad : Bool) (s : State) : State :=
  let s := s.updCar t (fun x => { x with said := false })
  if carState s t = carSplit ∨ carState s t = carHeld then s
  else if bad then laneFault t s
  else carCnt t 3 s

/-- A rotation that is due at a boundary (R379). -/
def carRotate (t : Nat) (s : State) : State :=
  if s.flag F.CAR_CTRL_LBIST_EN t && carState s t == carTmr &&
      decide (max 500 (s.get F.CAR_CTRL_ROT_BEATS t) ≤ s.beat - (carSt s t).rot) then
    let s := (s.put F.CAR_STAT_STATE t carLbist).put F.CAR_STAT_OUT t (s.get F.CAR_LBIST_NEXT t)
    (s.put F.CAR_LBIST_SLICES t 0).updCar t (fun x => { x with lbNs := 0 })
  else s

/-! ### TCM (R376) -/

/-- An access that meets an uncorrectable TCM error fails with ECC_ERR (R369): the trio's load or fetch raises the access fault and
shows the code in CSR 0xFC0, its store is logged (R28), and a request over the fabric ends with that code. -/
def tcmFails (t ofs : Nat) (err : TcmErr) (s : State) : State :=
  let a := 0x40000000 + 0x100000 * t + ofs
  let trap (cause : Nat) : State := (s.updCar t (fun c => { c with fabErr := respEcc })).emit (.trap (0x10 + t) cause a)
  match err with
  | .corrected => s
  | .load => trap 5
  | .fetch => trap 1
  | .store => s.lateErr (0x10 + t) a respEcc false
  | .bus q => s.reqFails q respEcc false

/-- TCM_ECC_ERROR (R376). -/
def execTcmEccError (t : Fin 2) (ofs : Nat) (err : TcmErr) (s : State) : Res :=
  .next (if err = .corrected then
    let s := carEvt t 24 (s.incSat F.CAR_TCM_ECC_CE_CNT t)
    carFault t 5 (s.get F.CAR_TCM_ADDR_OFS t) s
  else
    let s := carEvt t 23 ((s.incSat F.CAR_TCM_ECC_UE_CNT t).put F.CAR_TCM_ADDR_OFS t ofs)
    tcmFails t ofs err (carFault t 6 (s.get F.CAR_TCM_ADDR_OFS t) s))

/-! ### The interrupt controller (R377, R386) -/

/-- Sources claimed by a context. -/
def carClaimed (s : State) (t x : Nat) : Nat := if x = 0 then (carSt s t).claim0 else (carSt s t).claim1

/-- A context's claims changed. -/
def setClaimed (t x v : Nat) (s : State) : State :=
  s.updCar t (fun c => if x = 0 then { c with claim0 := v } else { c with claim1 := v })

/-- Source `i` is assigned to the trio's partition. -/
def carOwns (s : State) (t i : Nat) : Bool := asgOf s 13 i == asgOf s 14 t

/-- Source `i` is pending: its line is asserted and no context has claimed it. -/
def carPending (s : State) (t i : Nat) : Bool :=
  decide (1 ≤ i) && tget false s.irqLine i && !bitOf (carSt s t).claim0 i && !bitOf (carSt s t).claim1 i

/-- Priority of a source. -/
def carPrio (s : State) (t i : Nat) : Nat :=
  bitsOf (s.rd R.CAR_IC_PRIO (128 * t + i / 8)).toNat (4 * (i % 8) + 3) (4 * (i % 8))

/-- Source `i` is delivered in a context. -/
def carDelivers (s : State) (t x i : Nat) : Bool :=
  carPending s t i && carOwns s t i && bitOf (s.rd R.CAR_IC_EN (64 * t + 32 * x + i / 32)).toNat (i % 32) &&
  decide (s.get F.CAR_IC_CTRL_THRESH (2 * t + x) < carPrio s t i)

/-- The source that a claim returns: the highest priority, the lowest number among equals, 0 where there is none. -/
def carBest (s : State) (t x : Nat) : Nat :=
  (s.irqLine.map (·.1)).foldl (fun b i =>
    if carDelivers s t x i && decide (i < 1024) && (b == 0 || decide (carPrio s t b < carPrio s t i)) then i else b) 0

/-- Context 1 is inert outside SPLIT. -/
def ctxLive (s : State) (t x : Nat) : Bool := x == 0 || carState s t == carSplit

/-- An initiator may use the interrupt controller and write the registers of a trio (R386). -/
def carMay (s : State) (t init : Nat) : Bool :=
  init == 0x10 + t || (!s.bootLocked && (init == 0x30 || init == 0x31))

/-- A functional interrupt whose line no register bit holds: its line falls once a context has claimed it. -/
def pulsed (i : Nat) : Bool := decide (512 ≤ i) && decide (i < 960) && !(decide (904 ≤ i) && decide (i < 908))

/-- A read of CAR_IC_CLAIM: the claimed source stands in ID. -/
def carClaim (t x : Nat) (s : State) : State :=
  let i := carBest s t x
  let s := s.put F.CAR_IC_CLAIM_ID (2 * t + x) i
  let s := if pulsed i then s.dropIrq i else s
  if i = 0 then s else setClaimed t x (carClaimed s t x ||| 2 ^ i) s

/-- CAR_IC_CLAIM (R377). -/
def execCarIcClaim (t x : Fin 2) (init : Init) (s : State) : Res :=
  let a := R.CAR_IC_CLAIM.addr (2 * t + x)
  .next (if initSilent s init || s.pm.phase = 2 then s
    else if judgeReq s init a 4 ≠ respOkay then s.refuseReq init a 4 false
    else if carMay s t init && ctxLive s t x then carClaim t x s else s)

/-- A write of CAR_IC_CLAIM completes a claim of its context. -/
def carComplete (t x i : Nat) (s : State) : State :=
  setClaimed t x (carClaimed s t x - (carClaimed s t x &&& 2 ^ i)) s

/-- CAR_IC_COMPLETE (R377). -/
def execCarIcComplete (t x : Fin 2) (init : Init) (value : Word) (s : State) : Res :=
  let a := R.CAR_IC_CLAIM.addr (2 * t + x)
  .next (s.busWrite init a 4 (fun s =>
    if !carMay s t init then s.denyWrite init a
    else if ctxLive s t x then carComplete t x (getBits value 9 0) s else s))

/-! ### Reset and release (R372, R383) -/

/-- RESET_PART of a trio's partition: HELD, and the interrupt controller is cleared; cores that LBIST retired stay retired. -/
def carReset (t : Nat) (s : State) : State :=
  let lb := (carSt s t).lbRet
  let s := s.endCause (0x1004 + t) causeTimeout
  let s := ((s.put F.CAR_STAT_STATE t carHeld).put F.CAR_STAT_OUT t 3).put F.CAR_STAT_CHK_FAULT t 0
  let s := s.put F.CAR_STAT_RETIRED t lb
  let s := ((s.clearWords R.CAR_IC_CTRL (2 * t) (2 * t + 2)).clearWords R.CAR_IC_CLAIM (2 * t) (2 * t + 2)).clearWords
    R.CAR_IC_EN (64 * t) (64 * t + 64)
  (s.clearWords R.CAR_IC_PRIO (128 * t) (128 * t + 128)).updCar t (fun x => { x with claim0 := 0, claim1 := 0, fabErr := 0 })

/-- Split mode of a trio. -/
def carIsSplit (s : State) (t : Nat) : Bool := s.flag (if t = 0 then F.CAR_BOOT_SPLIT0 else F.CAR_BOOT_SPLIT1) 0

/-- The release of a trio from HELD (Table 13-2). -/
def carRelease (t : Nat) (s : State) : State :=
  if carState s t ≠ carHeld then s
  else
    let r := s.get F.CAR_STAT_RETIRED t
    let left := [0, 1, 2].filter (fun c => !bitOf r c)
    let s := s.updCar t (fun x => { x with rot := s.beat })
    if carIsSplit s t then s.put F.CAR_STAT_STATE t carSplit
    else if left.length = 3 then s.put F.CAR_STAT_STATE t carTmr
    else if left.length = 2 then
      (s.put F.CAR_STAT_STATE t carDegraded).put F.CAR_STAT_OUT t (match [0, 1, 2].find? (bitOf r) with | some c => c | none => 3)
    else carFail t 0 s

end Sys2Proof.Machine
end

