-- ==== Sys2Proof/Machine/BelBase.lean ====
section
/-!
DEFINITION. What Belfry's services share: random octets, its identity, buffers in partition memory and its own accesses to
memory (chapters 15 and 16).
-/

namespace Sys2Proof.Machine

/-- The TRNG's states (R459, R460). -/
def rngStartup : Nat := 0
def rngReady : Nat := 1
def rngRestart : Nat := 2
def rngFailed : Nat := 3
def rngState (s : State) : Nat := s.get F.BRNG_STAT_STATE 0

/-- `n` random octets of the DRBG: free values. -/
def State.random (s : State) (n : Nat) : List Nat × State :=
  ((List.range n).map (fun i => Config.freeNat 31 (s.free + i) % 256), { s with free := s.free + n })

/-- The identity key of slot 63, derived from ID_SEED at boot (R452). -/
def deriveIdent (s : State) : State :=
  { s with bel := { s.bel with keys := tset KeySlot.empty s.bel.keys 63 (KeySlot.mk 4 0 0 false 0 (Config.identKey (s.bel.otp.idSeed.getD 0) % n384)) } }

/-- The device identity public key, uncompressed (R452). -/
def identPub (s : State) : List Nat := ecPublic (keySlot s 63).material

/-- MODULE_ID: the first 8 octets of SHA-384 over the identity public key (R431). -/
def moduleId (s : State) : List Nat := (sha384 (identPub s)).take 8

/-- VEMGR_MODID holds the MODULE_ID (Table 15-12). -/
def showModuleId (s : State) : State := s.put64 R.VEMGR_MODID_LO R.VEMGR_MODID_HI 0 (leNat (moduleId s))

/-- A key's material as octets. -/
def KeySlot.octets (k : KeySlot) : List Nat :=
  match k.kind with
  | 1 => beOct k.material 16
  | 2 => beOct k.material 32
  | 6 => beOct k.material 44
  | 7 => beOct k.material 32
  | _ => beOct k.material 48

/-- The slot of the pair key: KIND 7 with USAGE bit 7. -/
def pairKey (s : State) : Option KeySlot :=
  ((List.range 63).map (keySlot s)).find? (fun k => k.kind == 7 && bitOf k.usage 7)

/-- `n` octets from an address lie wholly within one VALID region of a partition's memory (R448). -/
def inPartMem (s : State) (part a n : Nat) : Bool :=
  (List.range 4).any (fun r =>
    let b := s.get F.BSEC_PMEM0_BASE (4 * part + r) * 65536
    s.flag F.BSEC_PMEM1_VALID (4 * part + r) && decide (b ≤ a) &&
    decide (a + n ≤ b + s.get F.BSEC_PMEM1_SIZE (4 * part + r) * 65536))

/-- Belfry's own access (INIT 0x030) to `n` octets of memory succeeds. -/
def belReach (s : State) (a n : Nat) : Bool :=
  let ok (x : Nat) : Bool := judgeReq s 0x30 x 1 == respOkay &&
    (match decodeAddr x with | some .sram => true | some .dram => true | some (.tcm _) => true | some .xspi => true | _ => false)
  n == 0 || (ok a && ok (a + n - 1) && decodeAddr a == decodeAddr (a + n - 1))

/-- Belfry reads `n` octets of memory: none of their lines is poisoned (R396). -/
def belReads (s : State) (a n : Nat) : Bool := belReach s a n && (n == 0 || !poisoned s a n)

/-- Belfry writes `n` octets of memory: none of them lies in a poisoned line that the write does not cover (R28, R396). -/
def belWrites (s : State) (a n : Nat) : Bool := belReach s a n && (poisonHit s ((List.range n).map (a + ·))).isNone

/-- Belfry's write, after which the lines that it covers hold a good code. -/
def State.belStore (s : State) (a : Nat) (d : List Nat) : State := (s.unpoison ((List.range d.length).map (a + ·))).memWrite a d

/-- A poisoned line among octets that Belfry may reach raises the source of its memory (R396). -/
def belEcc (b : Nat × Nat) (s : State) : State :=
  if belReach s b.1 b.2 && b.2 != 0 && poisoned s b.1 b.2 then
    (if b.1 < 0x800000 then memFault 103 0x30 0x1000 b.1 s else memFault 105 0x30 0x1001 b.1 s)
  else s

/-! ### Calls (R456 to R458) -/

/-- Status codes of Table 16-6. -/
def stOk : Nat := 0
def stBadFunc : Nat := 1
def stBadLen : Nat := 2
def stBadHandle : Nat := 3
def stUsage : Nat := 5
def stBuf : Nat := 6
def stAuth : Nat := 7
def stRngNotReady : Nat := 8
def stRngFailed : Nat := 9
def stNoSlot : Nat := 10
def stLcRefused : Nat := 11
def stAuthRefused : Nat := 12
def stAborted : Nat := 13

/-- The functions of Table 16-5. -/
def belFuncs : List Nat :=
  [0x01, 0x10, 0x20, 0x21, 0x22, 0x23, 0x30, 0x31, 0x32, 0x33, 0x34, 0x35, 0x36, 0x40, 0x50, 0x51, 0x60]

/-- The partition on whose behalf a call is served: the owner of the mailbox channel, or the user of the VE. -/
def callPart (s : State) : CallSrc → Nat
  | .mbx c => asgOf s 16 c
  | .cry n => partOf s (0x400 + n)

/-- The initiator that a record of the call names: free where the spec does not state it (a mailbox has no INIT). -/
def callInit : CallSrc → Nat
  | .mbx _ => 0x30
  | .cry n => 0x400 + n

/-- Requests of a CRY VE posted and not yet accepted. -/
def cryPosted (s : State) (n : Nat) : Nat :=
  (s.get F.CRY_REQ_TAIL_IDX n + 65536 - s.get F.CRY_REQ_HEAD_IDX n) % 65536

/-- Index of the next completion of a CRY VE, those that wait included. -/
def cryNext (s : State) (n : Nat) : Nat :=
  s.get F.CRY_CPL_WI_IDX n + ((veSt s n).wait.filter (fun c => c.ring == 2)).length

/-- The completion ring of a CRY VE has room for one more record. -/
def cryRoom (s : State) (n : Nat) : Bool :=
  decide ((cryNext s n + 65536 - s.get F.CRY_CPL_AI_IDX n) % 65536 < ringSize (s.get F.CRY_CFG_CPL_LOG2 n) 4 8)

/-- Belfry runs: its die is powered, it has not halted (R451) and no scan holds it (R464). -/
def belRuns (s : State) : Bool := s.pm.phase != 2 && !s.bel.halted && s.bel.scan == 0

/-- Belfry can serve the call of a source now: the oldest rung channel, or a CRY VE with a posted request. -/
def callReady (s : State) : CallSrc → Bool
  | .mbx c => belRuns s && s.bel.rung.head? == some c
  | .cry n => belRuns s && veType s n == 7 && (veState s n == 2 || veState s n == 3) && cryPosted s n != 0 && cryRoom s n

/-- The 64 octets of the request, or none where a CRY VE's request cannot be read. -/
def callReq (src : CallSrc) (s : State) : Option (List Nat) × State :=
  match src with
  | .mbx c => (some ((List.range 16).foldl (fun o w => o ++ leOctets (s.get F.BMBX_REQ_DATA (16 * c + w)) 4) []), s)
  | .cry n =>
    veRead n 0 (s.get64 R.CRY_REQ_BASE_LO R.CRY_REQ_BASE_HI n +
      64 * (s.get F.CRY_REQ_HEAD_IDX n % ringSize (s.get F.CRY_CFG_REQ_LOG2 n) 4 8)) 64 s

/-- FUNC, LEN and payload of a request. -/
def reqFunc (q : List Nat) : Nat := leNat ((q.drop 2).take 2)
def reqLen (q : List Nat) : Nat := q.getD 0 0
def reqData (q : List Nat) : List Nat := (q.drop 4).take (min (reqLen q) 60)

/-- The completion of a request of a CRY VE: 64 octets in the layout of a mailbox reply. -/
def cryReply (n status : Nat) (data : List Nat) (s : State) : State :=
  let d := leOctets (status * 65536 + data.length) 4 ++ data ++ List.replicate (60 - data.length) 0
  let a := s.get64 R.CRY_CPL_BASE_LO R.CRY_CPL_BASE_HI n +
    64 * (cryNext s n % ringSize (s.get F.CRY_CFG_CPL_LOG2 n) 4 8)
  let s := s.put F.CRY_REQ_HEAD_IDX n (s.get F.CRY_REQ_HEAD_IDX n + 1)
  veComplete n ⟨[(a, d)], 2, 1⟩ (veCounted n (status == stAborted) s)

/-- Belfry returns from a call (R457): the reply with every further byte clear, DONE, the interrupt and the count; a bad call
raises FS387. -/
def callReply (src : CallSrc) (status : Nat) (data : List Nat) (s : State) : State :=
  let s := if status = stBadFunc ∨ status = stBadLen then
      s.raiseSec 387 (callPart s src) status (callInit src) (s.bel.calls + 1) else s
  let s := { s with bel := { s.bel with calls := s.bel.calls + 1 } }
  match src with
  | .cry n => cryReply n status data s
  | .mbx c =>
    let ab := s.bel.aborted.contains c
    let data := if ab then [] else data.take 60
    let status := if ab then stAborted else status
    let d := data ++ List.replicate (60 - data.length) 0
    let s := s.put F.BMBX_RPL_DATA (16 * c) (status * 65536 + data.length)
    let s := s.each (List.range 15) (fun w s => s.put F.BMBX_RPL_DATA (16 * c + w + 1) (leNat ((d.drop (4 * w)).take 4)))
    let s := { s with bel := { s.bel with rung := s.bel.rung.drop 1, aborted := s.bel.aborted.filter (· != c) } }
    let s := ((s.put F.BMBX_STAT_DONE c 1).put F.BMBX_STAT_BUSY c 0).incWrap F.BMBX_STAT_CALLS c
    if s.flag F.BMBX_CTRL_IE c then s.raiseIrq (896 + c / 2) else s

/-- Requests at the front whose FUNC no row of Table 16-5 has complete with BAD_FUNC; a request that cannot be read
completes with BUF_ERR. -/
def callPump (src : CallSrc) : Nat → State → State
  | 0, s => s
  | k + 1, s =>
    if !callReady s src then s
    else
      match callReq src s with
      | (none, s) => callPump src k (callReply src stBuf [] s)
      | (some q, s) => if belFuncs.contains (reqFunc q) then s else callPump src k (callReply src stBadFunc [] s)

/-- Every channel's bad calls at the front of the queue of rung channels. -/
def mbxPump : Nat → State → State
  | 0, s => s
  | k + 1, s =>
    match s.bel.rung with
    | [] => s
    | c :: _ =>
      let s' := callPump (.mbx c) 1 s
      if s'.bel.rung.length < s.bel.rung.length then mbxPump k s' else s'

/-- Bad calls that stand at the front of either kind of source. -/
def belPump (src : CallSrc) (s : State) : State :=
  match src with
  | .mbx _ => mbxPump 16 s
  | .cry n => callPump (.cry n) 256 s

/-- RESET_PART of the caller's partition during a call (R465). -/
def belResetPart (p : Nat) (s : State) : State :=
  { s with bel := { s.bel with
      aborted := s.bel.aborted ++ s.bel.rung.filter (fun c => asgOf s 16 c == p && !s.bel.aborted.contains c) } }

end Sys2Proof.Machine
end

