-- ==== Sys2Proof/Machine/Ve.lean ====
section
/-!
DEFINITION. The virtual endpoints (chapter 15): manager commands, binding checks, quiesce, freeze, save and restore, ring
indices, and the operation of each type.
-/

namespace Sys2Proof.Machine

/-! ### Types and bindings (R416, R420) -/

/-- The types of Table 15-1. -/
def tyEth : Nat := 1
def tyCan : Nat := 2
def tyLin : Nat := 3
def tyIog : Nat := 4
def tyPwg : Nat := 5
def tyTmr : Nat := 6
def tyCry : Nat := 7

/-- The states of Table 15-2. -/
def veUnassigned : Nat := 0
def veAssigned : Nat := 1
def veActive : Nat := 2
def veQuiescing : Nat := 3
def veQuiesced : Nat := 4
def veFrozen : Nat := 5
def veResetting : Nat := 6

/-- SUBTYPE of a VE. -/
def veSub (s : State) (n : Nat) : Nat := s.get F.VE_ID_SUBTYPE n

/-- The user partition of a VE, and the partition of its manager window. -/
def vePart (s : State) (n : Nat) : Nat := validPart s (s.get F.VEMGR_VEASSIGN_PART n)
def veMgr (s : State) (n : Nat) : Nat := s.get F.VEMGR_VEASSIGN_MGR n
def mgrPart (s : State) (m : Nat) : Nat :=
  if s.flag F.VEMGR_MGRCFG_VALID m then validPart s (s.get F.VEMGR_MGRCFG_PART m) else 15

/-- The internal port of an ETH VE or of a tunnelling CAN VE. -/
def vePort (s : State) (n : Nat) : Nat :=
  if veType s n = tyCan then s.get F.CANV_BIND_PORT n else s.get F.ETH_BIND_PORT n

/-- A port that VEs may name. -/
def vePortOk (s : State) (n : Nat) : Bool := 20 ≤ vePort s n && vePort s n ≤ 22

/-- The MAC and VID of filter `f` of an ETH VE. -/
def fltMac (s : State) (n f : Nat) : Nat := s.get F.ETH_FLT1_MAC_HI (8 * n + f) * 2 ^ 32 + s.get F.ETH_FLT0_MAC_LO (8 * n + f)
def fltVid (s : State) (n f : Nat) : Nat := s.get F.ETH_FLT1_VID (8 * n + f)
def fltOn (s : State) (n f : Nat) : Bool := s.flag F.ETH_FLT1_VALID (8 * n + f)

/-- The VALID filters of a VE as keys. -/
def fltKeys (s : State) (n : Nat) : List Nat :=
  ((List.range 8).filter (fltOn s n)).map (fun f => fltMac s n f * 4096 + fltVid s n f)

/-- No element occurs twice. -/
def distinct : List Nat → Bool
  | [] => true
  | x :: l => !l.contains x && distinct l

/-- The ETH VEs of a port. -/
def ethVes (s : State) (p : Nat) : List Nat :=
  (assignedVes s).filter (fun n => veType s n == tyEth && vePort s n == p)

/-- An output of an IOG VE is assigned to the partition and driven by registers (Table 15-5). -/
def iogOutOk (s : State) (part kind idx : Nat) : Bool :=
  match kind with
  | 0 => decide (idx < 32) && s.get F.IOX_LSO_CFG_DRV idx == 0x10 && asgOf s 9 idx == part
  | 1 => decide (idx < 6) && s.get F.IOX_BR_CFG_DRV idx == 0x10 && asgOf s 10 idx == part
  | 2 => decide (idx < 8) && s.get F.IOX_SSUP_CTRL_DRV idx == 0x10 && asgOf s 11 idx == part
  | _ => false

/-- The controller and slot that a CAN VE of SUBTYPE 0 names. -/
def canvCtrl (s : State) (n : Nat) : Nat := s.get F.CANV_BIND_CTRL n
def canvSlot (s : State) (n : Nat) : Nat := s.get F.CANV_BIND_SLOT n

/-- Bit `j` of a VE's input mask. -/
def iogIn (s : State) (n j : Nat) : Bool := bitOf (s.get F.IOG_IN_MASK_MASK (3 * n + j / 32)) (j % 32)

/-- The binding of a VE is valid (R420, Table 15-5). -/
def bindOk (s : State) (n : Nat) : Bool :=
  let part := vePart s n
  match veType s n with
  | 1 => vePortOk s n && distinct ((ethVes s (vePort s n)).foldl (fun l m => l ++ fltKeys s m) [])
  | 2 =>
    if veSub s n = 0 then
      slotVe s (canvCtrl s n) (canvSlot s n) == n && asgOf s 4 (canvCtrl s n) == mgrPart s (veMgr s n)
    else vePortOk s n && s.get64 R.CANV_STREAM_LO R.CANV_STREAM_HI n != 0
  | 3 => s.get F.LINV_BIND_CH n < 12 && asgOf s 5 (s.get F.LINV_BIND_CH n) == part
  | 4 =>
    (List.range 96).all (fun j => !iogIn s n j || asgOf s 6 j == part) &&
    (List.range 16).all (fun k => !s.flag F.IOG_OUT_VALID (16 * n + k) ||
      iogOutOk s part (s.get F.IOG_OUT_KIND (16 * n + k)) (s.get F.IOG_OUT_INDEX (16 * n + k)))
  | 5 => (List.range 16).all (fun k => !s.flag F.PWG_CH_VALID (16 * n + k) ||
      (decide (s.get F.PWG_CH_CH (16 * n + k) < 72) && asgOf s 2 (s.get F.PWG_CH_CH (16 * n + k)) == part &&
       s.get F.PWR_CH_PROD_CMD_PROD (s.get F.PWG_CH_CH (16 * n + k)) == 0x400 + n))
  | 6 => s.get F.TMR_CFG_PERIOD n != 0
  | 7 => true
  | _ => false

/-! ### Frames handed to the switch (R430, R433) -/

/-- The internal port takes a frame now. -/
def portReady (s : State) (p : Nat) : Bool :=
  !swGated s p && s.flag F.SW_CTRL_EN 0 && portEn s p && portUp s p && (arrivingAt s p).isNone

/-- Further cells of a frame, 64 octets each. -/
def moreCells (f : Nat) (octets : List Nat) : Nat → State → State
  | 0, s => s
  | k + 1, s => if octets.isEmpty then s else moreCells f (octets.drop 64) k (nextCell f (octets.take 64) s)

/-- A whole frame enters the switch at an internal port; a frame that the port consumes is complete at once. -/
def swInject (p : Nat) (octets : List Nat) (len : Nat) (origin : Option TxOrigin) (fcsOk : Bool) (s : State) : State :=
  if portConsumes s p octets then
    let s := firstCell p (octets.take 64) len none none s
    match origin with | some o => veTxDone o.ve o.tag 0 0 o.len s | none => s
  else
    let s := firstCell p (octets.take 64) len none origin s
    match arrivingAt s p with
    | none => s
    | some f => endFrame f fcsOk [] (moreCells f (octets.drop 64) (octets.length / 64 + 1) s)

/-- The descriptors of the next TX frame from index `i`, with how their sequence ends: 0 a LAST, 1 not all posted, 2 the next
one is a FIRST, 3 the next one cannot be read, 4 the first one is no FIRST (R430). -/
def txDescs (n i : Nat) (first : Bool) : Nat → State → List (List Nat) × Nat × State
  | 0, s => ([], 1, s)
  | k + 1, s =>
    let a := s.get64 R.ETH_TX_BASE_LO R.ETH_TX_BASE_HI n + 32 * (i % ringSize (s.get F.ETH_TX_CFG_LOG2 n) 6 12)
    match veRead n 0 a 32 s with
    | (none, s) => ([], 3, s)
    | (some d, s) =>
      let isFirst := bitOf (d.getD 15 0) 7
      if first && !isFirst then ([d], 4, s)
      else if !first && isFirst then ([], 2, s)
      else if bitOf (d.getD 15 0) 6 then ([d], 0, s)
      else
        let r := txDescs n (i + 1) false k s
        (d :: r.1, r.2.1, r.2.2)

/-- Words of a descriptor. -/
def descWord (d : List Nat) (k : Nat) : Nat := leNat ((d.drop (4 * k)).take 4)
def descLen (d : List Nat) : Nat := descWord d 2 % 65536

/-- The buffers of a frame read in order, up to the first that fails. -/
def txBuffers (n : Nat) : List (List Nat) → State → List Nat × Bool × State
  | [], s => ([], true, s)
  | d :: l, s =>
    match veRead n 1 (leNat (d.take 8)) (descLen d) s with
    | (none, s) => ([], false, s)
    | (some o, s) =>
      let r := txBuffers n l s
      (o ++ r.1, r.2.1, r.2.2)

/-- TX frames of a VE that have not completed in the switch. -/
def veFrames (s : State) (n : Nat) : List (Nat × SwFrame) :=
  s.sw.frames.filter (fun e => match e.2.origin with | some o => o.ve == n | none => false)

/-- Fewer frames than TXC SIZE await acknowledgement (R430). -/
def txcRoom (s : State) (n : Nat) : Bool :=
  decide ((txcIndex s n + 65536 - s.get F.ETH_TXC_AI_AI n) % 65536 + (veFrames s n).length <
    ringSize (s.get F.ETH_TXC_CFG_LOG2 n) 6 12)

/-- A source address of the VE: the MAC of a VALID filter. -/
def ownMac (s : State) (n mac : Nat) : Bool := (List.range 8).any (fun f => fltOn s n f && fltMac s n f == mac)

/-- The frame that complete descriptors describe: judged, read and handed to the switch. -/
def txFrame (n : Nat) (ds : List (List Nat)) (s : State) : State :=
  let p := vePort s n
  let d0 := ds.getD 0 []
  let w3 := descWord d0 3
  let tag := w3 % 65536
  let total := ds.foldl (fun a d => a + descLen d) 0
  if ds.any (fun d => descLen d == 0) || decide (s.get F.SW_PORT_HDRM_MAX_FRAME p < total + 4) ||
      (bitsOf w3 23 16 != 0 && !bitOf w3 28) then ethTxDone n tag 0 0 2 total s
  else
    let r := txBuffers n ds s
    let s := r.2.2
    let body := r.1 ++ List.replicate (60 - total) 0
    if (r.2.1 ∨ 12 ≤ r.1.length) ∧ ¬ ownMac s n (beAt body 6 6) then ethTxDone n tag 0 0 4 total s
    else
      if !r.2.1 then
        let s := if 64 ≤ r.1.length then swInject p r.1 (max 60 total + 4) none false s else s
        ethTxDone n tag 0 0x0B 3 (max 60 total) s
      else
        let o : TxOrigin := { ve := n, tag := tag, oneStep := bitOf w3 29, echo := bitOf w3 28, echoOfs := bitsOf w3 23 16,
                              refNs := leNat ((d0.drop 16).take 8), refFrac := descWord d0 6,
                              refGen := descWord d0 7 / 2 ^ 24, len := body.length }
        swInject p (body ++ fcsOf body) (body.length + 4) (some o) true s

/-- An ETH VE fetches its next TX frame, where the rings and the port allow it. -/
def ethTx (n : Nat) (s : State) : State :=
  let head := s.get F.ETH_TX_HEAD_HEAD n
  let posted := (s.get F.ETH_TX_TAIL_TAIL n + 65536 - head) % 65536
  if veType s n ≠ tyEth ∨ veState s n ≠ veActive ∨ posted = 0 ∨ ¬ txcRoom s n ∨ ¬ portReady s (vePort s n) then s
  else
    let r := txDescs n head true posted s
    if r.2.1 = 1 then s
    else
      let s := r.2.2
      let used := r.1.length + (if r.2.1 = 3 then 1 else 0)
      let s := s.put F.ETH_TX_HEAD_HEAD n (head + used)
      let s := s.updVe n (fun x => { x with fetched := x.fetched + 1 })
      let total := r.1.foldl (fun a d => a + descLen d) 0
      match r.2.1 with
      | 0 => txFrame n r.1 s
      | 3 =>
        let d := s.draw
        let tag := match r.1 with | x :: _ => descWord x 3 % 65536 | [] => Config.freeNat 32 d.1 % 65536
        ethTxDone n tag 0 0 3 total (if r.1.isEmpty then d.2 else s)
      | _ => ethTxDone n (descWord (r.1.getD 0 []) 3 % 65536) 0 0 2 total s

/-- ETH_TX_FRAME_FETCH (R430). -/
def execEthTxFrameFetch (n : Fin 1024) (s : State) : Res := .next (if veClocked s then ethTx n s else s)

/-! ### Tunnelled CAN (R433) -/

/-- A CAN frame as one ACF CAN message in an NTSCF frame of a VE. -/
def tunFrame (s : State) (n : Nat) (x : CanFrame) : List Nat :=
  let pad := (4 - x.data.length % 4) % 4
  let quads := 4 + (x.data.length + pad) / 4
  let flags := pad * 64 + b2n (bitOf x.w2 31) * 16 + b2n (bitOf x.w0 29) * 8 + b2n (bitOf x.w2 30) * 4 +
    b2n (bitOf x.w0 30) * 2 + b2n (bitOf x.w2 29)
  let acf := [2 + quads / 256, quads % 256, flags, 0] ++ List.replicate 8 0 ++ beOct (x.w0 % 2 ^ 29) 4 ++ x.data ++
    List.replicate pad 0
  let dmac := s.rd R.CANV_TUN_DMAC_HI n |>.toNat
  beOct (dmac % 65536 * 2 ^ 32 + (s.rd R.CANV_TUN_DMAC_LO n).toNat) 6 ++ beOct (Config.freeNat 33 n % 2 ^ 48) 6 ++
  [0x81, 0x00] ++ beOct (s.get F.CANV_TUN_TAG_PCP n * 8192 + s.get F.CANV_TUN_TAG_VID n) 2 ++ [0x22, 0xF0] ++
  [0x82, 0x80 + acf.length / 256 % 8, acf.length % 256, (veSt s n).tunSeq % 256] ++
  beOct (s.get64 R.CANV_STREAM_LO R.CANV_STREAM_HI n) 8 ++ acf

/-- The stream and the CAN frame of an NTSCF frame with one ACF CAN message. -/
def tunParse (l : List Nat) : Option (Nat × CanFrame) :=
  let o := afterTag l + 2
  let m := o + 12
  let f := l.getD (m + 2) 0
  let quads := l.getD m 0 % 2 * 256 + l.getD (m + 1) 0
  let n := 4 * quads - 16 - f / 64
  if typeAt l (afterTag l) = 0x22F0 ∧ l.getD o 0 = 0x82 ∧ l.getD m 0 / 2 = 1 ∧ 4 ≤ quads ∧ m + 16 + n ≤ l.length then
    some (beAt l (o + 4) 8,
      { w0 := b2n (bitOf f 1) * 2 ^ 30 + b2n (bitOf f 3) * 2 ^ 29 + beAt l (m + 12) 4 % 2 ^ 29,
        w2 := b2n (bitOf f 4) * 2 ^ 31 + b2n (bitOf f 2) * 2 ^ 30 + b2n (bitOf f 0) * 2 ^ 29 + n,
        w3 := 0, data := (l.drop (m + 16)).take n })
  else none

/-- A decapsulated frame is written to the receive queue of the VE (R318): entries of 80 octets. A message whose length is none
of a CC or FD frame is no frame. -/
def can1Rx (n : Nat) (x : CanFrame) (s : State) : State :=
  if s.flag F.CAN1_RXWI_FULL n || !canLenOk x.w0 x.data.length then s
  else
    let wi := s.get F.CAN1_RXWI_WI n
    let d := s.draw
    let hdr := leOctets x.w0 4 ++ leOctets (Config.freeNat 34 d.1 % 2 ^ 32) 4 ++ leOctets x.w2 4 ++ leOctets 0 4
    let r := veWrite n 2 (s.get64 R.CAN1_RXBASE_LO R.CAN1_RXBASE_HI n + 80 * wi) (hdr ++ x.data) d.2
    if r.1 then
      let s := r.2.put F.CAN1_RXWI_WI n (wi + 1)
      veEvent n 0 (s.put F.CAN1_RXWI_FULL n (b2n ((wi + 1) % 256 == s.get F.CAN1_RXAI_AI n)))
    else r.2

/-- A header of a tunnelled frame is invalid: an XL entry, or one that R322 refuses. -/
def can1Bad (w0 w2 : Nat) : Bool :=
  bitOf w0 31 || !canLenOk w0 (bitsOf w2 11 0) || (!bitOf w0 30 && (bitOf w2 30 || bitOf w2 29)) ||
  (bitOf w0 30 && bitOf w2 31) || (!bitOf w0 29 && bitsOf w0 28 11 != 0)

/-- A submitted entry is read, encapsulated and handed to the switch. -/
def can1Send (n e : Nat) (s : State) : State :=
  let a := s.get64 R.CAN1_TXBASE_LO R.CAN1_TXBASE_HI n + 80 * e
  match veRead n 0 a 16 s with
  | (none, s) => can1Done n e 6 s
  | (some h, s) =>
    let w0 := descWord h 0
    let w2 := descWord h 2
    if can1Bad w0 w2 then can1Done n e 5 s
    else
      match veRead n 1 (a + 16) (bitsOf w2 11 0) s with
      | (none, s) => can1Done n e 6 s
      | (some d, s) =>
        let l := tunFrame s n ⟨w0, w2, 0, d⟩
        let body := l ++ List.replicate (60 - l.length) 0
        let s := s.updVe n (fun x => { x with tunSeq := (x.tunSeq + 1) % 256 })
        swInject (vePort s n) (body ++ fcsOf body) (body.length + 4)
          (some ⟨n, e, false, false, 0, 0, 0, 0, body.length⟩) true s

/-- Submitted entries are sent while the port takes frames. -/
def can1Pump (n : Nat) : Nat → State → State
  | 0, s => s
  | k + 1, s =>
    match (veSt s n).tun with
    | [] => s
    | e :: l =>
      if portReady s (vePort s n) then can1Pump n k (can1Send n e (s.updVe n (fun x => { x with tun := l })))
      else s

/-- A write of CAN1_TXSUB (R322): an entry that belongs to hardware is not submitted again. -/
def can1Submit (n e : Nat) (s : State) : State :=
  if bitOf (veSt s n).tunUsed e then s
  else can1Pump n 64 (s.updVe n (fun x =>
    { x with tun := x.tun ++ [e], tunUsed := x.tunUsed ||| 2 ^ e, fetched := x.fetched + 1 }))

/-- A write of CAN1_TXABORT (R323): an entry that has not been encapsulated completes ABORTED. -/
def can1Abort (n e : Nat) (s : State) : State :=
  if (veSt s n).tun.contains e then can1Done n e 3 (s.updVe n (fun x => { x with tun := x.tun.filter (· != e) })) else s

/-! ### Received frames (R428, R429) -/

/-- The VE takes a frame for `dst` and `vid`: a broadcast with BCAST, or a filter that matches. -/
def ethTakes (s : State) (n dst vid : Nat) : Bool :=
  if isBcast dst then s.flag F.ETH_BIND_BCAST n
  else (List.range 8).any (fun f => fltOn s n f && fltMac s n f == dst && (fltVid s n f == vid || fltVid s n f == 0xFFF))

/-- A frame is delivered to one ETH VE with the counts of Table 15-14. -/
def ethDeliver (n vid : Nat) (x : SwRx) (s : State) : State :=
  let i : RxInfo := { ftag := (veSt s n).ftag, cls := x.cls, port := x.ingress, gen := x.gen, frac := x.t % 2 ^ 32,
                      ns := x.t / 2 ^ 32, vid := vid, fcsErr := x.fcsErr, echo := false, appended := false, stomped := false }
  let r := ethRx n i x.octets s
  let s := r.2
  let next (s : State) : State := s.updVe n (fun y => { y with ftag := (y.ftag + 1) % 65536 })
  match r.1 with
  | 0 => next ((s.incSat F.ETH_CNT_CNT (8 * n + 2)).when x.fcsErr (fun s => s.incSat F.ETH_CNT_CNT (8 * n + 7)))
  | 1 => s.incSat F.ETH_CNT_CNT (8 * n + 3)
  | 2 => next (s.incSat F.ETH_CNT_CNT (8 * n + 4))
  | _ => next s

/-- A frame delivered while the VE drains counts in QRES2 (R423, R434). -/
def rxCounted (n : Nat) (s : State) : State := if veState s n = veQuiescing then s.incSat F.VE_QRES_CNT (4 * n + 2) else s

/-- The VE takes a frame at the endpoint: it is ACTIVE, or the frame was there when its QUIESCE was accepted (R434). -/
def rxAdmits (s : State) (x : SwRx) (n : Nat) : Bool :=
  veState s n == veActive || (veState s n == veQuiescing && x.due.contains n)

/-- The oldest frame at the endpoint of internal port `p` is delivered, and its cells return as credits. -/
def ethRxFrame (p : Nat) (s : State) : State :=
  match rxTake p s with
  | none => s
  | some (x, s) =>
    let dst := beAt x.octets 0 6
    let vid := if hasTag x.octets then beAt x.octets 14 2 % 4096 else s.get F.SW_PORT_CFG_PVID p
    let eth := (ethVes s p).filter (fun n => ethTakes s n dst vid)
    let on := eth.filter (rxAdmits s x)
    let tun := match tunParse x.octets with
      | some (st, c) => ((assignedVes s).filter (fun n => veType s n == tyCan && veSub s n == 1 && vePort s n == p &&
          rxAdmits s x n && s.get64 R.CANV_STREAM_LO R.CANV_STREAM_HI n == st)).map (fun n => (n, c))
      | none => []
    let s := s.each (eth.filter (fun n => veState s n == veQuiescing && !x.due.contains n)) (fun n s =>
      (s.incSat F.VE_QRES_CNT (4 * n + 3)).incSat F.ETH_CNT_CNT (8 * n + 5))
    let s := if on.isEmpty && tun.isEmpty then s.incSat F.VEMGR_NOVE_CNT (p - 20) else s
    let s := s.each on (fun n s => rxCounted n (ethDeliver n vid x s))
    s.each tun (fun y s => if x.fcsErr then s else rxCounted y.1 (can1Rx y.1 y.2 s))

/-- ETH_RX_FRAME (R428): at internal port 20 + p. -/
def execEthRxFrame (p : Fin 3) (s : State) : Res := .next (if veClocked s then ethRxFrame (20 + p) s else s)

/-! ### Inputs and outputs (R433) -/

/-- The mirror of debounced states of one VE follows the inputs; an edge raises event 0. -/
def iogMirror (n : Nat) (edges : Bool) (s : State) : State :=
  let changed := (List.range 3).any (fun k => ((s.rd R.IOX_MFI_DIG k).toNat &&& s.get F.IOG_IN_MASK_MASK (3 * n + k)) !=
    s.get F.IOG_IN_STATE (3 * n + k))
  let s' := s.each (List.range 3) (fun k s =>
    let new := (s.rd R.IOX_MFI_DIG k).toNat &&& s.get F.IOG_IN_MASK_MASK (3 * n + k)
    let old := s.get F.IOG_IN_STATE (3 * n + k)
    let s := s.put F.IOG_IN_STATE (3 * n + k) new
    if edges then s.put F.IOG_EDGE_EDGE (3 * n + k) (s.get F.IOG_EDGE_EDGE (3 * n + k) ||| (new ^^^ old)) else s)
  if edges && changed then veEvent n 0 s' else s'

/-- Every IOG VE in operation. -/
def iogMirrors (s : State) : State :=
  s.each ((assignedVes s).filter (fun n => veType s n == tyIog && veState s n == veActive)) (fun n s => iogMirror n true s)

/-- MFI_SAMPLE (R195, R196), with the mirrors of the IOG VEs (R433). -/
def execMfiSample (i : Fin 96) (raw ofs : Nat) (s : State) : Res := .next (iogMirrors (mfiSample i raw ofs s))

/-- A value that the user writes is forwarded to its output as INIT 0x400 + n (R433). -/
def iogForward (n k v : Nat) (s : State) : State :=
  let i := 16 * n + k
  let s := s.put F.IOG_OUTVAL_VALUE i v
  if !s.flag F.IOG_OUT_VALID i then s
  else
    let x := s.get F.IOG_OUT_INDEX i
    let w : Word := BitVec.ofNat 32 v
    match s.get F.IOG_OUT_KIND i with
    | 0 => if x < 32 then s.busWrite (0x400 + n) (R.IOX_LSO_DUTY.addr x) 4 (lsoWrite x (0x400 + n) w) else s
    | 1 => if x < 6 then s.busWrite (0x400 + n) (R.IOX_BR_CMD.addr x) 4 (brWrite x (0x400 + n) w) else s
    | 2 => if x < 8 then s.busWrite (0x400 + n) (R.IOX_SSUP_CTRL.addr x) 4
        (ssupWrite x (0x400 + n) (setBits (s.rd R.IOX_SSUP_CTRL x) 0 0 (v % 2))) else s
    | _ => s

/-! ### Power groups and ticks (R424, R433) -/

/-- A value published to the slot of channel `k` of a PWG VE, which is its producer. -/
def pwgPub (n k v : Nat) (s : State) : State :=
  let slot := 0x100 + s.get F.PWG_CH_CH (16 * n + k)
  if slotProducer s slot = some (0x400 + n) then
    (s.publish slot v).updVe n (fun x => { x with lastV := tset 1024 x.lastV k v })
  else s

/-- The VALID channels of a PWG VE. -/
def pwgChans (s : State) (n : Nat) : List Nat := (List.range 16).filter (fun k => s.flag F.PWG_CH_VALID (16 * n + k))

/-- The user counts as live: it has kicked within the last KICK_BEATS beats, or there is no check. -/
def pwgLive (s : State) (n : Nat) : Bool :=
  s.get F.PWG_CFG_KICK_BEATS n == 0 ||
  (match (veSt s n).kick with | some b => decide (s.beat < b + s.get F.PWG_CFG_KICK_BEATS n) | none => false)

/-- The present beat's publications of an ACTIVE VE. -/
def pwgRun (n : Nat) (s : State) : State :=
  if pwgLive s n then
    s.each ((pwgChans s n).filter (bitOf (veSt s n).wrote)) (fun k s => pwgPub n k (s.get F.PWG_CMD_V (16 * n + k)) s)
  else s

/-- Publications of a VE that have not taken effect. -/
def pwgPending (s : State) (n : Nat) : Nat :=
  ((pwgChans s n).filter (fun k => let slot := 0x100 + s.get F.PWG_CH_CH (16 * n + k)
    slotProducer s slot == some (0x400 + n) && (slotSt s slot).pendV.isSome)).length

/-- What a PWG VE publishes in the beat that ends (R424, R433). -/
def pwgBeat (n : Nat) (s : State) : State :=
  match veState s n with
  | 2 => pwgRun n s
  | 3 => s.addSat F.VE_QRES_CNT (4 * n) (pwgPending s n)
  | _ =>
    if veState s n = veQuiesced ∨ veState s n = veFrozen then
      (match s.get F.PWG_CFG_QCMD n with
       | 0 => s
       | 1 => s.each ((pwgChans s n).filter (fun k => tget 1024 (veSt s n).lastV k != 1024))
           (fun k s => pwgPub n k (tget 1024 (veSt s n).lastV k) s)
       | _ => s.each (pwgChans s n) (fun k s => pwgPub n k 0 s))
    else s

/-- The publications of every PWG VE before the slots advance. -/
def vePublish (s : State) : State := s.each ((assignedVes s).filter (fun n => veType s n == tyPwg)) pwgBeat

/-- The tick of a TMR VE (R433). -/
def tmrTick (n nbi : Nat) (s : State) : State :=
  if s.get F.TMR_CFG_PERIOD n ≠ 0 ∧ nbi % s.get F.TMR_CFG_PERIOD n = s.get F.TMR_CFG_PHASE n then
    veEvent n 0 (s.put64 R.TMR_NBI_LO R.TMR_NBI_HI n nbi)
  else s

/-- The network beat index. -/
def nbiNow (s : State) : Nat := s.get64 R.BEAT_NBI_LO R.BEAT_NBI_HI 0

/-- What every VE does at a beat boundary: completions are tried again (R426), tunnelled frames go on, ticks, and the sources
raised once a beat. -/
def veBeat (s : State) : State :=
  if !veClocked s then s else
  s.each (assignedVes s) (fun n s =>
    let s := s.updVe n (fun x => { x with said407 := false, said411 := false })
    if veState s n = veActive ∨ veState s n = veQuiescing then
      let s := veFlush n (veSt s n).wait s
      let s := if veType s n = tyCan then can1Pump n 64 s else s
      if veType s n = tyTmr ∧ veState s n = veActive then tmrTick n (nbiNow s) s else s
    else s)

/-- A write of PWG_KICK. -/
def pwgKick (n : Nat) (s : State) : State := s.updVe n (fun x => { x with kick := some s.beat })

/-- A write of PWG_CMDk by the user. -/
def pwgCmd (n k v : Nat) (s : State) : State :=
  (s.put F.PWG_CMD_V (16 * n + k) v).updVe n (fun x => { x with wrote := x.wrote ||| 2 ^ k })

/-! ### Quiesce (R423 to R426) -/

/-- Frames that were at the VE's internal port when its QUIESCE was accepted (R434). -/
def rxDue (s : State) (n : Nat) : Bool := (tget [] s.sw.rxq (vePort s n)).any (fun x => x.due.contains n)

/-- The frames at the VE's internal port, changed. -/
def markDue (n : Nat) (f : List Nat → List Nat) (s : State) : State :=
  { s with sw := { s.sw with rxq := tupd [] s.sw.rxq (vePort s n) (fun l => l.map (fun x => { x with due := f x.due })) } }

/-- Work of a VE that remains to be drained (Table 15-6): frames in the switch and at its endpoint, submitted CAN frames, the LIN frame on the
bus, pending publications and requests that Belfry has not accepted; and completions that wait to be written. -/
def veWork (s : State) (n : Nat) : Bool :=
  match veType s n with
  | 1 => !(veFrames s n).isEmpty || rxDue s n
  | 2 =>
    if veSub s n = 0 then (canSt s (canvCtrl s n)).sub.any (fun t => t.slot == canvSlot s n)
    else !(veFrames s n).isEmpty || rxDue s n
  | 3 => (linSt s (s.get F.LINV_BIND_CH n)).bus.isSome
  | 5 => pwgPending s n != 0
  | 7 => cryPosted s n != 0
  | _ => false

/-- The drain limit leaves the work of a type alone: it ends with its frame or at the next boundary (Table 15-6). -/
def drainEnds (s : State) (n : Nat) : Bool :=
  (veType s n == tyCan && veSub s n == 0) || veType s n == tyLin || veType s n == tyPwg

/-- Every unresolved copy of a VE's frames is dropped with 0x08 at its egress, and no frame at its endpoint waits for it. -/
def dropVeFrames (n : Nat) (s : State) : State :=
  markDue n (List.filter (· != n))
    (s.each (veFrames s n) (fun e s => s.each (e.2.copies.map (·.port)) (fun p s => dropCopy e.1 p 8 s)))

/-- Requests not accepted complete ABORTED. -/
def abortCry (n : Nat) : Nat → State → State
  | 0, s => s
  | k + 1, s => if cryPosted s n = 0 then s else abortCry n k (cryReply n stAborted [] s)

/-- The work of a VE is aborted (Table 15-6). -/
def veAbort (n : Nat) (s : State) : State :=
  let s := s.updVe n (fun x => { x with aborted := true })
  match veType s n with
  | 1 => dropVeFrames n s
  | 2 =>
    if veSub s n = 0 then
      let c := canvCtrl s n
      s.each ((canSt s c).sub.filter (fun t => t.slot == canvSlot s n)) (fun t s => canComplete c t 3 s)
    else dropVeFrames n s
  | 5 => s.each (pwgChans s n) (fun k s =>
      let slot := 0x100 + s.get F.PWG_CH_CH (16 * n + k)
      if slotProducer s slot = some (0x400 + n) then s.updSlot slot (fun x => { x with pendV := none }) else s)
  | 7 => abortCry n 256 s
  | _ => s

/-- The result of an asynchronous command (R419): VE_CMDRES and the VE's bit in MGR_STPEND. -/
def veResult (n op res : Nat) (s : State) : State :=
  let s := s.updVe n (fun x => { x with busy := none })
  let s := (s.put F.VE_CMDRES_OP n op).put F.VE_CMDRES_RESULT n res
  let i := 32 * veMgr s n + n / 32
  s.put F.MGR_STPEND_PEND i (s.get F.MGR_STPEND_PEND i ||| 2 ^ (n % 32))

/-- The audit of R426. -/
def veAudit (s : State) (n : Nat) : Bool :=
  (veType s n != tyEth && veType s n != tyCan) ||
  ((veSt s n).fetched == s.get F.VE_QRES_CNT (4 * n) + s.get F.VE_QRES_CNT (4 * n + 1) + (veSt s n).early &&
   (veFrames s n).isEmpty)

/-- The VE enters QUIESCED (R423). -/
def veQuiescedNow (n : Nat) (s : State) : State :=
  let ok := veAudit s n
  let ab := (veSt s n).aborted
  let s := s.updVe n (fun x => { x with aborted := false })
  let s := if (veSt s n).busy = some 2 then veResult n 2 0 s else s
  let s := veGo n veQuiesced s
  let s := if ab then veFault 406 n 0 (s.get F.VE_QRES_CNT (4 * n + 1)) s else s
  if ok then s else veFault 408 n 0 0 (s.put F.VE_ERR_AUDIT n 1)

/-- What QUIESCE does to the work of each type (R423, R433). -/
def quiesceType (n : Nat) (s : State) : State :=
  match veType s n with
  | 1 => markDue n (n :: ·) s
  | 2 =>
    if veSub s n = 0 then canSlotEn (canvCtrl s n) (canvSlot s n) false s
    else (markDue n (n :: ·) (s.updVe n (fun x => { x with tun := [] }))).each (veSt s n).tun (fun e s => can1Done n e 3 s)
  | 3 => s.updLin (s.get F.LINV_BIND_CH n) (fun x => { x with held := true })
  | 5 => pwgRun n s
  | _ => s

/-- An ACTIVE VE starts to drain (R423, Table 15-6). -/
def veQuiesce (n : Nat) (s : State) : State :=
  let s := s.each (List.range 4) (fun k s => s.put F.VE_QRES_CNT (4 * n + k) 0)
  quiesceType n ((veGo n veQuiescing s).updVe n (fun x => { x with aborted := false }))

/-- QUIESCE_DRAIN_DONE (R423): no work remains. -/
def execQuiesceDrainDone (n : Fin 1024) (s : State) : Res :=
  .next (if veClocked s ∧ veState s n = veQuiescing ∧ ¬ veWork s n ∧ (veSt s n).wait = [] then mgrLevels (veQuiescedNow n s) else s)

/-- The drain limit (R423). -/
def drainLimit (n : Nat) (s : State) : State :=
  if veState s n ≠ veQuiescing then s
  else if !veWork s n then veQuiescedNow n s
  else if drainEnds s n then s
  else veQuiescedNow n (veAbort n s)

/-- QUIESCE_DRAIN_LIMIT (R423). -/
def execQuiesceDrainLimit (n : Fin 1024) (s : State) : Res :=
  .next (if veClocked s then mgrLevels (drainLimit n s) else s)

/-- RESET_PART of the user partition (R425): an ACTIVE or QUIESCING VE is quiesced at once, and FS410 is raised. -/
def veForce (n : Nat) (s : State) : State :=
  if veState s n = veActive ∨ veState s n = veQuiescing then
    let s := if veState s n = veActive then veQuiesce n s else s
    let s := if veWork s n then veAbort n s else s
    veFault 410 n 0 0 (veQuiescedNow n s)
  else s

/-- Every VE of a partition that is reset. -/
def veResetPart (p : Nat) (s : State) : State :=
  mgrLevels (s.each ((assignedVes s).filter (fun n => vePart s n == p)) veForce)

/-! ### RESET and UNASSIGN (R418) -/

/-- The register families of VE pages that RESET clears. -/
def veCleared : List Reg :=
  (regsVE.filter (fun r => !([R.VE_ID.id, R.VE_STAT.id, R.VE_QRES.id, R.VE_LASTNBI_LO.id, R.VE_LASTNBI_HI.id].contains r.id))) ++
  regsVE_ETH ++ regsVE_CAN ++ regsVE_LIN ++ regsVE_IOG ++ regsVE_PWG ++ regsVE_TMR ++ regsVE_CRY

/-- The page of a VE back at its reset values but for what R418 keeps, and its pending bits clear. -/
def veClear (n : Nat) (s : State) : State :=
  let s := s.resetWords (fun k => veCleared.any (fun r => r.id == k.1 && k.2 / (r.count / 1024) == n))
  let s := { s with ve := tset VeSt.init s.ve n VeSt.init }
  let i := 32 * veMgr s n + n / 32
  let clr (x : Nat) : Nat := x - (x &&& 2 ^ (n % 32))
  (s.put F.MGR_STPEND_PEND i (clr (s.get F.MGR_STPEND_PEND i))).put F.MGR_DBPEND_PEND i (clr (s.get F.MGR_DBPEND_PEND i))

/-- UNASSIGN (R418). -/
def veUnassign (n : Nat) (s : State) : State :=
  let s := veClear n s
  veGo n veUnassigned ((s.put F.VE_ID_TYPE n 0).put F.VE_ID_SUBTYPE n 0)

/-- VE_RESET_COMPLETE (R418). -/
def execVeResetComplete (n : Fin 1024) (s : State) : Res :=
  .next (if veClocked s ∧ veState s n = veResetting then
    mgrLevels (veResult n 7 0 (veGo n veAssigned (veClear n s)))
  else s)

/-! ### Activate -/

/-- An ACTIVE VE starts its type's operation (R433). -/
def veActivate (n : Nat) (s : State) : State :=
  let s := s.updVe n (fun x => { x with fetched := 0, early := 0, aborted := false })
  let s := match veType s n with
    | 2 => if veSub s n = 0 then canSlotEn (canvCtrl s n) (canvSlot s n) true s else s
    | 3 => s.updLin (s.get F.LINV_BIND_CH n) (fun x => { x with held := false })
    | 4 => iogMirror n false s
    | _ => s
  veGo n veActive s

/-! ### Manager commands (R419) -/

/-- A TYPE and SUBTYPE that exist (Table 15-1). -/
def typeOk (ty sub : Nat) : Bool := 1 ≤ ty && ty ≤ 7 && (sub == 0 || (ty == tyCan && sub == 1))

/-- ASSIGN. -/
def veAssign (n ty sub : Nat) (s : State) : State :=
  veGo n veAssigned ((s.put F.VE_ID_TYPE n ty).put F.VE_ID_SUBTYPE n sub)

/-- A command that takes time has started on a VE. -/
def veStart (n op : Nat) (s : State) : State := s.updVe n (fun x => { x with busy := some op })

/-- A command of window `m` for VE `n` (R419, Tables 15-3 and 15-4): result code and state. -/
def mgrRun (m op n : Nat) (s : State) : Nat × State :=
  let st := veState s n
  let arg (k : Nat) : Nat := s.get F.MGR_ARG_ARG (3 * m + k)
  if !s.flag F.VEMGR_VEASSIGN_VALID n || veMgr s n != m then (3, s)
  else if (op = 7 ∨ op = 8) ∧ (st = veActive ∨ st = veQuiescing) then (1, s)
  else if (op = 2 ∨ op = 5 ∨ op = 6 ∨ op = 7) ∧ (veSt s n).busy.isSome then (0xD, s)
  else
    match op with
    | 0 =>
      if st ≠ veUnassigned then (2, s)
      else if !typeOk (bitsOf (arg 0) 7 0) (bitsOf (arg 0) 15 8) then (4, s)
      else (0, veAssign n (bitsOf (arg 0) 7 0) (bitsOf (arg 0) 15 8) s)
    | 1 =>
      if st ≠ veAssigned ∧ st ≠ veQuiesced then (2, s)
      else if !bindOk s n then (5, s)
      else (0, veActivate n s)
    | 2 => if st = veActive then (0, veQuiesce n (veStart n op s)) else (2, s)
    | 3 =>
      if st = veQuiesced then (0, veGo n veFrozen (s.put64 R.VE_LASTNBI_LO R.VE_LASTNBI_HI n (nbiNow s))) else (2, s)
    | 4 => if st = veFrozen then (0, veGo n veQuiesced s) else (2, s)
    | 5 | 6 =>
      if st = (if op = 5 then veFrozen else veAssigned) then
        (0, (veStart n op s).updVe n (fun x => { x with bufA := bitsOf (arg 1) 7 0 * 2 ^ 32 + arg 0, bufL := arg 2 }))
      else (2, s)
    | 7 =>
      if st = veAssigned ∨ st = veQuiesced ∨ st = veFrozen then (0, veGo n veResetting (veStart n op s)) else (2, s)
    | 8 => if st = veAssigned ∨ st = veQuiesced ∨ st = veFrozen then (0, veUnassign n s) else (2, s)
    | _ => (4, s)

/-- The manager window answers (R436). -/
def mgrMay (s : State) (m init : Nat) : Bool :=
  init == 0x30 || (s.flag F.VEMGR_MGRCFG_VALID m && partOf s init == mgrPart s m)

/-- The result of a manager's command, with DONE. -/
def mgrShow (m : Nat) (r : Nat × State) : State := mgrLevels ((r.2.put F.MGR_RES_RESULT m r.1).put F.MGR_RES_DONE m 1)

/-- A write of MGR_CMD with GO = 1: the command is judged, DONE is set and GO clears. -/
def mgrGo (m op : Nat) (v : Word) (s : State) : State :=
  let n := getBits v 9 0
  mgrShow m (mgrRun m op n ((s.put F.MGR_CMD_OP m op).put F.MGR_CMD_VE m n))

/-- A row that writes MGR_CMD. -/
def mgrRow (op m init : Nat) (v : Word) (s : State) : Res :=
  .next (s.busWrite init (R.MGR_CMD.addr m) 4 (fun s =>
    if mgrMay s m init then mgrGo m op v s else s.denyWrite init (R.MGR_CMD.addr m)))

/-- ASSIGN (R417). -/
def execAssign (m : Fin 4) (init : Init) (value : Word) (s : State) : Res := mgrRow 0 m init value s
/-- ACTIVATE (R420). -/
def execActivate (m : Fin 4) (init : Init) (value : Word) (s : State) : Res := mgrRow 1 m init value s
/-- QUIESCE (R423). -/
def execQuiesce (m : Fin 4) (init : Init) (value : Word) (s : State) : Res := mgrRow 2 m init value s
/-- FREEZE (R417, R432). -/
def execFreeze (m : Fin 4) (init : Init) (value : Word) (s : State) : Res := mgrRow 3 m init value s
/-- THAW (R417). -/
def execThaw (m : Fin 4) (init : Init) (value : Word) (s : State) : Res := mgrRow 4 m init value s
/-- SAVE (R431). -/
def execSave (m : Fin 4) (init : Init) (value : Word) (s : State) : Res := mgrRow 5 m init value s
/-- RESTORE (R432). -/
def execRestore (m : Fin 4) (init : Init) (value : Word) (s : State) : Res := mgrRow 6 m init value s
/-- RESET of a VE (R418). -/
def execVeReset (m : Fin 4) (init : Init) (value : Word) (s : State) : Res := mgrRow 7 m init value s
/-- UNASSIGN (R418). -/
def execUnassign (m : Fin 4) (init : Init) (value : Word) (s : State) : Res := mgrRow 8 m init value s

/-! ### Blobs (R431, R432) -/

/-- One piece of a type state: a field, the words of its family per VE, the word, and how many bits it takes. -/
structure BlobItem where
  fld : Fld
  per : Nat
  off : Nat
  bits : Nat

/-- A 64-bit register of a page. -/
def blob64 (lo hi : Fld) : List BlobItem := [⟨lo, 1, 0, 32⟩, ⟨hi, 1, 0, 32⟩]

/-- What every type state begins with: VE_EVT, the mailbox registers and the MSI vector table. -/
def blobCommon : List BlobItem :=
  [⟨F.VE_EVT_EVT, 1, 0, 8⟩, ⟨F.MBX_CFG_UP_LOG2, 1, 0, 4⟩, ⟨F.MBX_CFG_DN_LOG2, 1, 0, 4⟩, ⟨F.MBX_UP_WI_IDX, 1, 0, 16⟩,
   ⟨F.MBX_UP_AI_IDX, 1, 0, 16⟩, ⟨F.MBX_DN_WI_IDX, 1, 0, 16⟩, ⟨F.MBX_DN_AI_IDX, 1, 0, 16⟩] ++
  blob64 F.MBX_UP_BASE_LO_W F.MBX_UP_BASE_HI_W ++ blob64 F.MBX_DN_BASE_LO_W F.MBX_DN_BASE_HI_W ++
  (List.range 8).flatMap (fun v => [⟨F.VEC_ADDR_LO_W, 8, v, 32⟩, ⟨F.VEC_ADDR_HI_W, 8, v, 32⟩, ⟨F.VEC_DATA_DATA, 8, v, 32⟩,
    ⟨F.VEC_CTRL_MASK, 8, v, 1⟩, ⟨F.VEC_CTRL_PEND, 8, v, 1⟩])

/-- The binding and operation registers of a type, without status and counters; fields marked LOCAL are left out. -/
def blobType (ty : Nat) : List BlobItem :=
  match ty with
  | 1 => [⟨F.ETH_BIND_BCAST, 1, 0, 1⟩] ++
    (List.range 8).flatMap (fun f => [⟨F.ETH_FLT0_MAC_LO, 8, f, 32⟩, ⟨F.ETH_FLT1_VALID, 8, f, 1⟩, ⟨F.ETH_FLT1_VID, 8, f, 12⟩,
      ⟨F.ETH_FLT1_MAC_HI, 8, f, 16⟩]) ++
    blob64 F.ETH_TX_BASE_LO_W F.ETH_TX_BASE_HI_W ++ blob64 F.ETH_TXC_BASE_LO_W F.ETH_TXC_BASE_HI_W ++
    blob64 F.ETH_RX_BASE_LO_W F.ETH_RX_BASE_HI_W ++
    [⟨F.ETH_TX_CFG_LOG2, 1, 0, 4⟩, ⟨F.ETH_TXC_CFG_LOG2, 1, 0, 4⟩, ⟨F.ETH_RX_CFG_LOG2, 1, 0, 4⟩, ⟨F.ETH_TX_TAIL_TAIL, 1, 0, 16⟩,
     ⟨F.ETH_RX_TAIL_TAIL, 1, 0, 16⟩, ⟨F.ETH_TX_HEAD_HEAD, 1, 0, 16⟩, ⟨F.ETH_RX_HEAD_HEAD, 1, 0, 16⟩, ⟨F.ETH_TXC_WI_WI, 1, 0, 16⟩,
     ⟨F.ETH_TXC_AI_AI, 1, 0, 16⟩]
  | 2 => [⟨F.CANV_BIND_CTRL, 1, 0, 4⟩, ⟨F.CANV_BIND_SLOT, 1, 0, 3⟩, ⟨F.CANV_STREAM_LO_W, 1, 0, 32⟩,
      ⟨F.CANV_STREAM_HI_W, 1, 0, 32⟩, ⟨F.CANV_TUN_DMAC_LO_W, 1, 0, 32⟩, ⟨F.CANV_TUN_DMAC_HI_W, 1, 0, 16⟩,
      ⟨F.CANV_TUN_TAG_PCP, 1, 0, 3⟩, ⟨F.CANV_TUN_TAG_VID, 1, 0, 12⟩] ++
    blob64 F.CAN1_RXBASE_LO_W F.CAN1_RXBASE_HI_W ++ blob64 F.CAN1_TXBASE_LO_W F.CAN1_TXBASE_HI_W ++
    blob64 F.CAN1_CQBASE_LO_W F.CAN1_CQBASE_HI_W ++
    [⟨F.CAN1_RXWI_FULL, 1, 0, 1⟩, ⟨F.CAN1_RXWI_WI, 1, 0, 8⟩, ⟨F.CAN1_RXAI_AI, 1, 0, 8⟩, ⟨F.CAN1_CQWI_FULL, 1, 0, 1⟩,
     ⟨F.CAN1_CQWI_WI, 1, 0, 8⟩, ⟨F.CAN1_CQAI_AI, 1, 0, 8⟩]
  | 3 => [⟨F.LINV_BIND_CH, 1, 0, 4⟩]
  | 4 => (List.range 3).flatMap (fun k => [⟨F.IOG_IN_MASK_MASK, 3, k, 32⟩, ⟨F.IOG_EDGE_EDGE, 3, k, 32⟩]) ++
    (List.range 16).flatMap (fun k => [⟨F.IOG_OUT_VALID, 16, k, 1⟩, ⟨F.IOG_OUT_KIND, 16, k, 2⟩, ⟨F.IOG_OUT_INDEX, 16, k, 6⟩,
      ⟨F.IOG_OUTVAL_VALUE, 16, k, 12⟩])
  | 5 => (List.range 16).flatMap (fun k => [⟨F.PWG_CH_VALID, 16, k, 1⟩, ⟨F.PWG_CH_CH, 16, k, 7⟩, ⟨F.PWG_CMD_V, 16, k, 10⟩]) ++
    [⟨F.PWG_CFG_QCMD, 1, 0, 2⟩, ⟨F.PWG_CFG_KICK_BEATS, 1, 0, 16⟩]
  | 6 => [⟨F.TMR_CFG_PHASE, 1, 0, 16⟩, ⟨F.TMR_CFG_PERIOD, 1, 0, 16⟩]
  | 7 => blob64 F.CRY_REQ_BASE_LO_W F.CRY_REQ_BASE_HI_W ++ blob64 F.CRY_CPL_BASE_LO_W F.CRY_CPL_BASE_HI_W ++
    [⟨F.CRY_CFG_CPL_LOG2, 1, 0, 4⟩, ⟨F.CRY_CFG_REQ_LOG2, 1, 0, 4⟩, ⟨F.CRY_REQ_TAIL_IDX, 1, 0, 16⟩,
     ⟨F.CRY_REQ_HEAD_IDX, 1, 0, 16⟩, ⟨F.CRY_CPL_WI_IDX, 1, 0, 16⟩, ⟨F.CRY_CPL_AI_IDX, 1, 0, 16⟩]
  | _ => []

/-- Octets of the type state (Table 15-8). -/
def stateSize (ty : Nat) : Nat :=
  match ty with | 1 => 1024 | 2 => 512 | 3 => 256 | 4 => 256 | 5 => 256 | 6 => 128 | 7 => 512 | _ => 0

/-- Items packed into a number, the first in the lowest bits. -/
def blobPack (s : State) (n : Nat) : List BlobItem → Nat
  | [] => 0
  | i :: l => s.get i.fld (i.per * n + i.off) % 2 ^ i.bits + 2 ^ i.bits * blobPack s n l

/-- Items unpacked into the page of a VE. -/
def blobUnpack (n : Nat) : List BlobItem → Nat → State → State
  | [], _, s => s
  | i :: l, v, s => blobUnpack n l (v / 2 ^ i.bits) (s.put i.fld (i.per * n + i.off) (v % 2 ^ i.bits))

/-- The type state of a VE as octets. -/
def veStateOctets (s : State) (n : Nat) : List Nat :=
  leOctets (blobPack s n (blobCommon ++ blobType (veType s n))) (stateSize (veType s n))

/-- A type that may move to a peer module (Table 15-1). -/
def movable (ty sub : Nat) : Bool := ty == tyEth || ty == tyTmr || ty == tyCry || (ty == tyCan && sub == 1)

/-- The additional data of a blob: bytes 0x00 to 0x3F. -/
def blobHeader (s : State) (n keyId nbi : Nat) (iv : List Nat) : List Nat :=
  let ty := veType s n
  [0x4B, 0x5A, 0x56, 0x42] ++ leOctets 1 2 ++ [ty, veSub s n] ++ leOctets 0x0100 2 ++
  leOctets (b2n (movable ty (veSub s n))) 2 ++ leOctets (0x40 + stateSize ty + 16) 4 ++ moduleId s ++ leOctets n 2 ++
  leOctets keyId 2 ++ leOctets 0 4 ++ leOctets nbi 8 ++ iv ++ List.replicate 12 0

/-- A SAVE ends (R431): the result, and the blob written where it is 0. -/
def saveRun (n : Nat) (s : State) : Nat × State :=
  let a := (veSt s n).bufA
  let size := 0x40 + stateSize (veType s n) + 16
  match pairKey s with
  | none => (0xC, s)
  | some k =>
    if !inPartMem s (mgrPart s (veMgr s n)) a (veSt s n).bufL || (veSt s n).bufL < size then (0xB, s)
    else if !belWrites s a size then (0xE, belEcc (a, size) s)
    else
      let r := s.random 12
      let s := r.2
      let hdr := blobHeader s n k.keyId (s.get64 R.VE_LASTNBI_LO R.VE_LASTNBI_HI n) r.1
      let c := gcmSeal k.octets r.1 hdr (veStateOctets s n)
      (0, s.belStore a (hdr ++ c.1 ++ c.2))

/-- SAVE_COMPLETE (R431): the DRBG, which draws the IV, is READY. -/
def execSaveComplete (n : Fin 1024) (s : State) : Res :=
  .next (if veClocked s ∧ (veSt s n).busy = some 5 ∧ rngState s = rngReady then
    let r := saveRun n s
    mgrLevels (veResult n 5 r.1 r.2)
  else s)

/-- A blob judged for a VE (R432): the first failure, or 0 with the state it leads to. -/
def restoreRun (n : Nat) (s : State) : Nat × State :=
  let a := (veSt s n).bufA
  let len := (veSt s n).bufL
  if !inPartMem s (mgrPart s (veMgr s n)) a len then (0xB, s)
  else if !belReads s a len then (0xE, belEcc (a, len) s)
  else
    let b := s.memRead a len
    let u (o k : Nat) : Nat := leNat ((b.drop o).take k)
    let total := u 0x0C 4
    if len < 0x50 ∨ b.take 4 ≠ [0x4B, 0x5A, 0x56, 0x42] ∨ u 4 2 ≠ 1 ∨ stateSize (u 6 1) = 0 ∨
        total ≠ 0x40 + stateSize (u 6 1) + 16 ∨ len < total then (7, s)
    else
      match pairKey s with
      | none => (0xC, s)
      | some k =>
        if k.keyId ≠ u 0x1A 2 then (0xC, s)
        else
          match gcmOpen k.octets ((b.drop 0x28).take 12) (b.take 0x40) ((b.drop 0x40).take (total - 0x50))
              ((b.drop (total - 16)).take 16) with
          | none => (6, s)
          | some st =>
            if u 6 1 ≠ veType s n ∨ u 7 1 ≠ veSub s n then (8, s)
            else if u 9 1 ≠ 1 ∨ u 8 1 ≠ 0 then (7, s)
            else if (b.drop 0x10).take 8 ≠ moduleId s ∧ ¬ (bitOf (u 0x0A 2) 0 ∧ movable (u 6 1) (u 7 1)) then (9, s)
            else if u 0x20 8 < s.get64 R.VE_LASTNBI_LO R.VE_LASTNBI_HI n then (0xA, s)
            else
              let s' := blobUnpack n (blobCommon ++ blobType (veType s n)) (leNat st) s
              if !bindOk s' n then (5, s)
              else (0, veGo n veFrozen (s'.put64 R.VE_LASTNBI_LO R.VE_LASTNBI_HI n (u 0x20 8)))

/-- FS409 for the blob codes (R432). -/
def restoreFault (n res : Nat) (s : State) : State := if 6 ≤ res ∧ res ≤ 0xC then veFault 409 n res 0 s else s

/-- RESTORE_COMPLETE (R432). A VE that another command has taken out of ASSIGNED meanwhile is in no state for RESTORE. -/
def execRestoreComplete (n : Fin 1024) (s : State) : Res :=
  .next (if veClocked s ∧ (veSt s n).busy = some 6 then
    let r := if veState s n = veAssigned then restoreRun n s else (2, s)
    mgrLevels (restoreFault n r.1 (veResult n 6 r.1 r.2))
  else s)

/-! ### Page writes (R415, R421, R422, R437) -/

/-- The initiator is the user, or the manager, of a VE; Belfry counts as both. -/
def isUser (s : State) (n init : Nat) : Bool := init == 0x30 || partOf s init == vePart s n
def isMgr (s : State) (n init : Nat) : Bool := init == 0x30 || partOf s init == mgrPart s (veMgr s n)

/-- A write of a page field by one of the named parties in a state that admits it; any other is refused, ignored, or ignored
with WSTATE (R415, R437). -/
def pageWrite (n init a : Nat) (user mgr stateOk : Bool) (eff : State → State) (s : State) : State :=
  s.busWrite init a 4 (fun s =>
    if !isUser s n init && !isMgr s n init then s.denyWrite init a
    else if !((user && isUser s n init) || (mgr && isMgr s n init)) then s
    else if !stateOk then s.put F.VE_ERR_WSTATE n 1
    else eff s)

/-- The common registers of a page take writes: not in UNASSIGNED, FROZEN and RESETTING (Table 15-2). -/
def commonOk (s : State) (n : Nat) : Bool := let st := veState s n; 1 ≤ st && st ≤ 4

/-- The ring indices that the user may also write in QUIESCED. -/
def ringOk (s : State) (n : Nat) : Bool := veState s n == veActive || veState s n == veQuiesced

/-- A refused index (R422). -/
def idxErr (n : Nat) (s : State) : State :=
  let s := s.put F.VE_ERR_IDX_ERR n 1
  if (veSt s n).said411 then s else veFault 411 n 0 0 (s.updVe n (fun x => { x with said411 := true }))

/-- A producer's write of its index: never more than SIZE entries ahead of the consumer. -/
def produce (n : Nat) (wi ai : Fld) (size v : Nat) (then_ : State → State) (s : State) : State :=
  if size < (v + 65536 - s.get ai n) % 65536 then idxErr n s else then_ (s.put wi n v)

/-- A consumer's write of its index: forward, and never past the producer. -/
def consume (n : Nat) (wi ai : Fld) (v : Nat) (s : State) : State :=
  let old := s.get ai n
  if (s.get wi n + 65536 - old) % 65536 < (v + 65536 - old) % 65536 then idxErr n s else s.put ai n v

/-- The doorbell of a VE in its manager window. -/
def doorbell (n : Nat) (s : State) : State :=
  let i := 32 * veMgr s n + n / 32
  mgrLevels (s.put F.MGR_DBPEND_PEND i (s.get F.MGR_DBPEND_PEND i ||| 2 ^ (n % 32)))

/-- The register of a ring index. -/
def ringReg : VeRing → Reg
  | .mbxUpWi => R.MBX_UP_WI | .mbxUpAi => R.MBX_UP_AI | .mbxDnWi => R.MBX_DN_WI | .mbxDnAi => R.MBX_DN_AI
  | .ethTxTail => R.ETH_TX_TAIL | .ethRxTail => R.ETH_RX_TAIL | .ethTxcAi => R.ETH_TXC_AI
  | .cryReqTail => R.CRY_REQ_TAIL | .cryCplAi => R.CRY_CPL_AI

/-- The page holds the register: the VE is of the ring's type. -/
def ringHere (r : VeRing) (s : State) (n : Nat) : Bool :=
  match r with
  | .mbxUpWi | .mbxUpAi | .mbxDnWi | .mbxDnAi => true
  | .ethTxTail | .ethRxTail | .ethTxcAi => veType s n == tyEth
  | .cryReqTail | .cryCplAi => veType s n == tyCry

/-- An accepted write of a ring index (R422). -/
def ringEffect (n : Nat) (r : VeRing) (v : Nat) (s : State) : State :=
  match r with
  | .mbxUpWi => produce n F.MBX_UP_WI_IDX F.MBX_UP_AI_IDX (ringSize (s.get F.MBX_CFG_UP_LOG2 n) 4 8) v (doorbell n) s
  | .mbxUpAi => consume n F.MBX_UP_WI_IDX F.MBX_UP_AI_IDX v s
  | .mbxDnWi => produce n F.MBX_DN_WI_IDX F.MBX_DN_AI_IDX (ringSize (s.get F.MBX_CFG_DN_LOG2 n) 4 8) v (veEvent n 2) s
  | .mbxDnAi => consume n F.MBX_DN_WI_IDX F.MBX_DN_AI_IDX v s
  | .ethTxTail => produce n F.ETH_TX_TAIL_TAIL F.ETH_TX_HEAD_HEAD (ringSize (s.get F.ETH_TX_CFG_LOG2 n) 6 12) v id s
  | .ethRxTail => produce n F.ETH_RX_TAIL_TAIL F.ETH_RX_HEAD_HEAD (ringSize (s.get F.ETH_RX_CFG_LOG2 n) 6 12) v id s
  | .ethTxcAi => consume n F.ETH_TXC_WI_WI F.ETH_TXC_AI_AI v s
  | .cryReqTail => produce n F.CRY_REQ_TAIL_IDX F.CRY_REQ_HEAD_IDX (ringSize (s.get F.CRY_CFG_REQ_LOG2 n) 4 8) v
      (belPump (.cry n)) s
  | .cryCplAi => consume n F.CRY_CPL_WI_IDX F.CRY_CPL_AI_IDX v s

/-- A write of a ring index: the mailbox's WI of UP and AI of DOWN are the user's and the other two the manager's. -/
def ringWrite (n : Nat) (r : VeRing) (init : Nat) (v : Word) (s : State) : State :=
  let user := !(r == .mbxUpAi || r == .mbxDnWi)
  let ok := match r with
    | .mbxUpWi | .mbxUpAi | .mbxDnWi | .mbxDnAi => commonOk s n
    | _ => ringOk s n
  pageWrite n init ((ringReg r).addr n) user (!user) ok (ringEffect n r (getBits v 15 0)) s

/-- VE_RING_INDEX_WRITE (R422). -/
def execVeRingIndexWrite (n : Fin 1024) (ring : VeRing) (init : Init) (value : Word) (s : State) : Res :=
  .next (if ringHere ring s n then ringWrite n ring init value s else s)

/-- A write of VEC_CTRL: unmasking a vector with PEND set sends one MSI (R421). -/
def vecCtrl (n v : Nat) (w : Word) (s : State) : State :=
  let i := 8 * n + v
  let s := s.put F.VEC_CTRL_MASK i (getBits w 31 31)
  if getBits w 31 31 = 0 ∧ s.flag F.VEC_CTRL_PEND i then veSend n v (s.put F.VEC_CTRL_PEND i 0) else s

/-- VEC_UNMASK (R421): a write of VEC_CTRL by the user or the manager. -/
def execVecUnmask (n : Fin 1024) (v : Fin 8) (init : Init) (value : Word) (s : State) : Res :=
  .next (pageWrite n init (R.VEC_CTRL.addr (8 * n + v)) true true (commonOk s n) (vecCtrl n v value) s)

/-- PWG_KICK (R433). -/
def execPwgKick (n : Fin 1024) (init : Init) (value : Word) (s : State) : Res :=
  .next (if veType s n = tyPwg then
    pageWrite n init (R.PWG_KICK.addr n) true false (veState s n == veActive)
      (fun s => if bitOf value.toNat 0 then pwgKick n s else s) s
  else s)

end Sys2Proof.Machine
end

