-- ==== Sys2Proof/Machine/Bel.lean ====
section
/-!
DEFINITION. Belfry's functions, the random number generator, the secure watchdog, authorisation certificates, the lifecycle
and scan protection (chapter 16).  The layout of each function's payload is the model's own: one octet for a handle, a KIND
or a mask, two for USAGE and a count, nine for a buffer descriptor (R458), in the order in which Table 16-5 lists them.
-/

namespace Sys2Proof.Machine

/-! ### Mailbox (R456) -/

/-- An initiator may use channel `c` (R467). -/
def mbxMay (s : State) (c init : Nat) : Bool := init == 0x30 || partOf s init == asgOf s 16 c

/-- A write of BMBX_CTRL: IE, and RING while no call is in progress. -/
def mbxCtrl (c : Nat) (v : Word) (s : State) : State :=
  let s := s.put F.BMBX_CTRL_IE c (getBits v 30 30)
  if getBits v 31 31 = 1 ∧ ¬ s.flag F.BMBX_STAT_BUSY c then
    let s := s.put F.BMBX_STAT_BUSY c 1
    belPump (.mbx c) { s with bel := { s.bel with rung := s.bel.rung ++ [c] } }
  else s

/-- MAILBOX_RING (R456). -/
def execMailboxRing (c : Fin 16) (init : Init) (value : Word) (s : State) : Res :=
  .next (s.busWrite init (R.BMBX_CTRL.addr c) 4 (fun s =>
    if mbxMay s c init then mbxCtrl c value s else s.denyWrite init (R.BMBX_CTRL.addr c)))

/-! ### Serving a call -/

/-- What a function answers: status, payload of the reply, and the state. -/
abbrev CallRes := Nat × List Nat × State

/-- A call of function `func` is served (R456, R458): its LEN is judged, and Belfry's effect follows.  Where the source has no
such call to serve, nothing happens. -/
def belCall (func : Nat) (lenOk : Nat → Bool) (src : CallSrc) (f : List Nat → State → CallRes) (s : State) : State :=
  if !callReady s src then s
  else
    match callReq src s with
    | (none, s) => belPump src (callReply src stBuf [] s)
    | (some q, _) =>
      if reqFunc q ≠ func then s
      else if !lenOk (reqLen q) then belPump src (callReply src stBadLen [] s)
      else
        let r := f (reqData q) s
        belPump src (callReply src r.1 r.2.1 r.2.2)

/-- A buffer descriptor of a payload: address and length (R458). -/
def bufDesc (d : List Nat) (o : Nat) : Nat × Nat := (leNat ((d.drop o).take 5), leNat ((d.drop (o + 5)).take 4))

/-- A buffer that the caller may name and that Belfry can read (R448, R458). -/
def bufOk (s : State) (src : CallSrc) (b : Nat × Nat) : Bool := inPartMem s (callPart s src) b.1 b.2 && belReads s b.1 b.2

/-- A buffer that the caller may name and of which Belfry can write the first `n` octets. -/
def bufOut (s : State) (src : CallSrc) (b : Nat × Nat) (n : Nat) : Bool :=
  inPartMem s (callPart s src) b.1 b.2 && decide (n ≤ b.2) && belWrites s b.1 n

/-- A call whose buffers fail: BUF_ERR, with the ECC errors that Belfry met in those that the caller may name. -/
def bufFail (src : CallSrc) (l : List (Nat × Nat)) (s : State) : CallRes :=
  (stBuf, [], s.each (l.filter (fun b => inPartMem s (callPart s src) b.1 b.2)) belEcc)

/-- The octets of a buffer. -/
def bufRead (s : State) (b : Nat × Nat) : List Nat := s.memRead b.1 b.2

/-- A refusal to use a key, recorded where R454 says so. -/
def refuseKey (src : CallSrc) (st : Nat) (s : State) : CallRes :=
  (st, [], if st = 4 ∨ st = 5 then keyRefused (callPart s src) st (callInit src) s else s)

/-- The handle may be used for USAGE bit `u` and the key has one of the kinds. -/
def mayUse (s : State) (src : CallSrc) (h u : Nat) (kinds : List Nat) : Nat :=
  let st := keyUse s (callPart s src) h u
  if st = 0 ∧ ¬ kinds.contains (keySlot s h).kind then stUsage else st

/-- A key slot set. -/
def State.setKey (s : State) (h : Nat) (k : KeySlot) : State :=
  { s with bel := { s.bel with keys := tset KeySlot.empty s.bel.keys h k } }

/-- The first slot that holds no key. -/
def freeSlot (s : State) : Option Nat := (List.range 63).find? (fun h => (keySlot s h).kind == 0)

/-- The status that a request for random octets meets (R459, R460): 0 while READY. -/
def rngStatus (s : State) : Nat :=
  if rngState s = rngReady then 0 else if rngState s = rngFailed then stRngFailed else stRngNotReady

/-- A generate request: `n` octets, and the count towards a reseed (R459). -/
def State.generate (s : State) (n : Nat) : List Nat × State :=
  let r := s.random n
  (r.1, { r.2 with bel := { r.2.bel with drbgCount := (r.2.bel.drbgCount + 1) % 65536 } })

/-- The debug enables in force. -/
def dbgEn (s : State) : Nat := s.get F.BSEC_DEBUG_EN 0

/-- The number of thermometer bits of SEC_MIN. -/
def secMin (s : State) : Nat := s.bel.otp.secMin

/-! ### Lifecycle, debug enables and certificates (R449, R462, R463) -/

/-- The lifecycle states of Table 16-2. -/
def lcBlank : Nat := 0
def lcProv : Nat := 1
def lcField : Nat := 2
def lcRma : Nat := 3
def lcState (s : State) : Nat := s.get F.BSEC_LC_STATE 0

/-- The enables with those they include. -/
def dbgClosure (m : Nat) : Nat :=
  let m := if bitOf m 3 then m ||| 0b0111 else m
  let m := if bitOf m 2 then m ||| 0b0001 else m
  if bitOf m 1 then m ||| 0b0001 else m

/-- Enables are opened: FS391 and interrupt 909 (R462). -/
def dbgOpen (m part init : Nat) (s : State) : State :=
  let d := s.draw
  let s := d.2.put F.BSEC_DEBUG_EN 0 (dbgEn s ||| dbgClosure (m % 16))
  (s.raiseSec 391 part 0 init (Config.freeNat 35 d.1 % 2 ^ 32)).raiseIrq 909

/-- Enables are closed (R462). -/
def dbgShut (m : Nat) (s : State) : State := s.put F.BSEC_DEBUG_EN 0 (dbgEn s - (dbgEn s &&& m % 16))

/-- A lifecycle transition is programmed (R449): PENDING until the next power-on or wake reset, every enable closed, FS393. -/
def lcProgram (target part init : Nat) (s : State) : State :=
  let s := { s with bel := { s.bel with otp := { s.bel.otp with lc := target } } }
  let s := dbgShut 0xF ((s.put F.BSEC_LC_PENDING 0 1).put F.BSEC_LC_PEND_STATE 0 target)
  let d := s.draw
  d.2.raiseSec 393 part target init (Config.freeNat 35 d.1 % 2 ^ 32)

/-- A transition by certificate (Table 16-3): from the current state, and never back in OTP. -/
def lcByCert (target part init : Nat) (s : State) : Nat × State :=
  let st := lcState s
  if target ≤ s.bel.otp.lc then (stLcRefused, s)
  else if st = lcProv ∧ target = lcField then (stOk, lcProgram target part init s)
  else if (st = lcProv ∨ st = lcField) ∧ target = lcRma then
    (stOk, lcProgram target part init
      { s with bel := { s.bel with otp := { s.bel.otp with idSeed := none, ksKey := none } } })
  else (stLcRefused, s)

/-- Scan entry (R464): the groups are forced, the initiators held, and the clear begins. -/
def scanEnter (s : State) : State :=
  let s := knCauseAll knTocsin s
  { s with bel := { s.bel with scan := 1, keys := [], drbg := false, drbgCount := 0 } }

/-- The octets of a certificate without its signature and key (Table 16-7). -/
def certBody (c : List Nat) : List Nat := c.take 64

/-- The challenge as octets. -/
def challenge (s : State) : List Nat := (List.range 4).foldl (fun l k => l ++ leOctets (s.get F.BDBG_CHAL_CHAL k) 4) []

/-- The checks of R463 on a certificate. -/
def certOk (s : State) (c : List Nat) : Bool :=
  let at_ (o n : Nat) : List Nat := (c.drop o).take n
  at_ 0 4 == [0x4B, 0x5A, 0x41, 0x43] && leNat (at_ 4 2) == 1 && decide (c.getD 6 3 ≤ 2) &&
  s.bel.chal && at_ 0x18 16 == challenge s &&
  at_ 0x10 8 == moduleId s &&
  bitOf (c.getD 8 0) (lcState s) &&
  (if lcState s = lcBlank then
     s.bel.otp.testKeyHash == some (beNat (sha384 (at_ 0xA0 97))) && ecdsaVerify (at_ 0xA0 97) (sha384 (certBody c)) (at_ 0x40 96)
   else
     match s.bel.ownerKey with
     | some q => ecdsaVerify q (sha384 (certBody c)) (at_ 0x40 96)
     | none => false)

/-- A new challenge, drawn only from a READY DRBG (R460, R463). -/
def newChallenge (s : State) : State :=
  if rngState s = rngReady then
    let r := s.random 16
    let s := { r.2 with bel := { r.2.bel with chal := true } }
    s.each (List.range 4) (fun k s => s.put F.BDBG_CHAL_CHAL k (leNat ((r.1.drop (4 * k)).take 4)))
  else { s with bel := { s.bel with chal := false } }

/-- A refused certificate (R463). -/
def certRefused (part init : Nat) (s : State) : State :=
  let s := s.incSat F.BDBG_STAT_REFUSALS 0
  s.raiseSec 392 part stAuthRefused init (s.get F.BDBG_STAT_REFUSALS 0)

/-- A certificate is submitted (R463): its status, and the effect of one that is accepted. -/
def certSubmit (c : List Nat) (part init : Nat) (s : State) : Nat × State :=
  if !certOk s c then (stAuthRefused, newChallenge (certRefused part init s))
  else
    match c.getD 6 3 with
    | 0 => (stOk, newChallenge (dbgOpen (c.getD 7 0) part init s))
    | 1 =>
      let r := lcByCert (c.getD 7 0) part init s
      (r.1, newChallenge r.2)
    | _ =>
      if lcState s = lcBlank ∨ lcState s = lcRma then (stOk, scanEnter (newChallenge s))
      else (stAuthRefused, newChallenge (certRefused part init s))

/-! ### Functions (Table 16-5) -/

/-- INFO (R458). -/
def execInfo (src : CallSrc) (s : State) : Res :=
  .next (belCall 0x01 (· == 0) src (fun _ s =>
    (stOk, [lcState s, dbgEn s, rngState s, 0] ++ leOctets (secMin s) 4, s)) s)

/-- RNG_GET (R459). -/
def execRngGet (src : CallSrc) (s : State) : Res :=
  .next (belCall 0x10 (· == 2) src (fun d s =>
    let n := leNat (d.take 2)
    if n = 0 ∨ 60 < n then (stBadLen, [], s)
    else if rngStatus s ≠ 0 then (rngStatus s, [], s)
    else let r := s.generate n; (stOk, r.1, r.2)) s)

/-- KEY_INFO (R454). -/
def execKeyInfo (src : CallSrc) (s : State) : Res :=
  .next (belCall 0x20 (· == 1) src (fun d s =>
    let h := d.getD 0 0
    let k := keySlot s h
    if 63 ≤ h ∨ k.kind = 0 then (stBadHandle, [], s)
    else if !bitOf k.mask (callPart s src) then refuseKey src 4 s
    else (stOk, [k.kind] ++ leOctets k.usage 2 ++ leOctets k.mask 2 ++ leOctets k.keyId 2, s)) s)

/-- A number of random octets as key material. -/
def materialOf (o : List Nat) : Nat := beNat o

/-- Octets of key material by KIND. -/
def materialSize (kind : Nat) : Nat :=
  match kind with | 1 => 16 | 2 => 32 | 6 => 44 | 7 => 32 | _ => 48

/-- KEY_GENERATE (R454). -/
def execKeyGenerate (src : CallSrc) (s : State) : Res :=
  .next (belCall 0x21 (· == 4) src (fun d s =>
    let kind := d.getD 0 0
    if kind = 0 ∨ 7 < kind then (stBadLen, [], s)
    else if rngStatus s ≠ 0 then (rngStatus s, [], s)
    else
      match freeSlot s with
      | none => (stNoSlot, [], s)
      | some h =>
        let r := s.generate (materialSize kind)
        let m := materialOf r.1
        let m := if kind = 4 ∨ kind = 5 then m % n384 else m
        (stOk, [h], r.2.setKey h ⟨kind, leNat ((d.drop 1).take 2), 2 ^ callPart s src, d.getD 3 0 != 0, 0, m⟩)) s)

/-- KEY_IMPORT (R454). -/
def execKeyImport (src : CallSrc) (s : State) : Res :=
  .next (belCall 0x22 (· == 10) src (fun d s =>
    let h := d.getD 0 0
    let st := mayUse s src h 8 [1, 2, 3, 7]
    let b := bufDesc d 1
    if st ≠ 0 then refuseKey src st s
    else if !bufOk s src b then bufFail src [b] s
    else
      let w := bufRead s b
      match Config.unwrapKey (keySlot s h).material w with
      | none => (stAuth, [], s)
      | some m =>
        match freeSlot s with
        | none => (stNoSlot, [], s)
        | some g =>
          (stOk, [g], s.setKey g ⟨1 + Config.unwrapKind w % 7, Config.unwrapUsage w % 512, 2 ^ callPart s src,
            Config.unwrapPersist w, 0, m⟩)) s)

/-- A slot is erased with its keystore record, and VALID of every SA whose key came from it clears (R455). -/
def destroyKey (h : Nat) (s : State) : State :=
  let s := s.setKey h KeySlot.empty
  s.each (List.range 6) (fun p s =>
    s.each ((epSt s p).keys.filter (fun e => match e.2 with | some k => k.1 == h | none => false)) (fun e s => clearSa p e.1 s))

/-- KEY_DESTROY (R455). -/
def execKeyDestroy (src : CallSrc) (s : State) : Res :=
  .next (belCall 0x23 (· == 1) src (fun d s =>
    let h := d.getD 0 0
    let k := keySlot s h
    if 63 ≤ h ∨ k.kind = 0 then (stBadHandle, [], s)
    else if !bitOf k.mask (callPart s src) then refuseKey src 4 s
    else (stOk, [], destroyKey h s)) s)

/-- GCM_SEAL (R458): handle, IV, AAD, input and output buffers. -/
def execGcmSeal (src : CallSrc) (s : State) : Res :=
  .next (belCall 0x30 (· == 37) src (fun d s =>
    let h := d.getD 0 0
    let st := mayUse s src h 0 [1, 2]
    let i := bufDesc d 19
    let o := bufDesc d 28
    if st ≠ 0 then refuseKey src st s
    else if !bufOk s src (bufDesc d 1) || !bufOk s src (bufDesc d 10) || !bufOk s src i || !bufOut s src o i.2 then
      bufFail src [bufDesc d 1, bufDesc d 10, i] s
    else
      let r := gcmSeal (keySlot s h).octets (bufRead s (bufDesc d 1)) (bufRead s (bufDesc d 10)) (bufRead s i)
      (stOk, r.2, s.belStore o.1 r.1)) s)

/-- GCM_OPEN (R458): handle, IV, AAD, input and output buffers, and the tag. -/
def execGcmOpen (src : CallSrc) (s : State) : Res :=
  .next (belCall 0x31 (· == 53) src (fun d s =>
    let h := d.getD 0 0
    let st := mayUse s src h 1 [1, 2]
    let i := bufDesc d 19
    let o := bufDesc d 28
    if st ≠ 0 then refuseKey src st s
    else if !bufOk s src (bufDesc d 1) || !bufOk s src (bufDesc d 10) || !bufOk s src i || !bufOut s src o i.2 then
      bufFail src [bufDesc d 1, bufDesc d 10, i] s
    else
      match gcmOpen (keySlot s h).octets (bufRead s (bufDesc d 1)) (bufRead s (bufDesc d 10)) (bufRead s i)
          ((d.drop 37).take 16) with
      | none => (stAuth, [], s)
      | some p => (stOk, [], s.belStore o.1 p)) s)

/-- CMAC (R458). -/
def execCmac (src : CallSrc) (s : State) : Res :=
  .next (belCall 0x32 (· == 10) src (fun d s =>
    let h := d.getD 0 0
    let st := mayUse s src h 2 [1, 2]
    let i := bufDesc d 1
    if st ≠ 0 then refuseKey src st s
    else if !bufOk s src i then bufFail src [i] s
    else (stOk, aesCmac (keySlot s h).octets (bufRead s i), s)) s)

/-- SHA384 (R458). -/
def execSha384 (src : CallSrc) (s : State) : Res :=
  .next (belCall 0x33 (· == 9) src (fun d s =>
    let i := bufDesc d 0
    if !bufOk s src i then bufFail src [i] s else (stOk, sha384 (bufRead s i), s)) s)

/-- A signature of a digest with a secret key, written to a buffer: its secret number is drawn from the DRBG. -/
def signTo (src : CallSrc) (key : Nat) (digest : List Nat) (o : Nat × Nat) (s : State) : CallRes :=
  if rngStatus s ≠ 0 then (rngStatus s, [], s)
  else if !bufOut s src o 96 then bufFail src [(o.1, 96)] s
  else
    let r := s.generate 48
    (stOk, [], r.2.belStore o.1 (ecdsaSign key (1 + beNat r.1 % (n384 - 1)) digest))

/-- ECDSA_SIGN (R458): handle, digest and signature buffer. -/
def execEcdsaSign (src : CallSrc) (s : State) : Res :=
  .next (belCall 0x34 (· == 58) src (fun d s =>
    let h := d.getD 0 0
    let st := mayUse s src h 3 [4]
    if st ≠ 0 then refuseKey src st s
    else signTo src (keySlot s h).material ((d.drop 1).take 48) (bufDesc d 49) s) s)

/-- ECDSA_VERIFY (R458): handle, digest and signature buffer; the handle 0x3F says that the buffer holds the public key and
then the signature. -/
def execEcdsaVerify (src : CallSrc) (s : State) : Res :=
  .next (belCall 0x35 (· == 58) src (fun d s =>
    let h := d.getD 0 0
    let st := if h = 0x3F then 0 else mayUse s src h 3 [4]
    let b := bufDesc d 49
    if st ≠ 0 then refuseKey src st s
    else if !bufOk s src b || b.2 < (if h = 0x3F then 193 else 96) then bufFail src [b] s
    else
      let o := bufRead s b
      let q := if h = 0x3F then o.take 97 else ecPublic (keySlot s h).material
      let sig := if h = 0x3F then (o.drop 97).take 96 else o.take 96
      (if ecdsaVerify q ((d.drop 1).take 48) sig then stOk else stAuth, [], s)) s)

/-- KDF (R458): handle, label and context buffers, output handle; SP 800-108 with AES-CMAC. -/
def execKdf (src : CallSrc) (s : State) : Res :=
  .next (belCall 0x36 (· == 20) src (fun d s =>
    let h := d.getD 0 0
    let g := d.getD 19 0
    let st := mayUse s src h 4 [1, 2]
    if st ≠ 0 then refuseKey src st s
    else if 63 ≤ g then (stBadHandle, [], s)
    else if (keySlot s g).kind ≠ 0 then (stNoSlot, [], s)
    else if !bufOk s src (bufDesc d 1) || !bufOk s src (bufDesc d 10) then bufFail src [bufDesc d 1, bufDesc d 10] s
    else
      let k := kdfCtr (keySlot s h).octets (bufRead s (bufDesc d 1)) (bufRead s (bufDesc d 10)) 32
      (stOk, [g], s.setKey g ⟨2, (keySlot s h).usage, 2 ^ callPart s src, false, 0, beNat k⟩)) s)

/-- IDENT_SIGN (R452): digest and signature buffer. -/
def execIdentSign (src : CallSrc) (s : State) : Res :=
  .next (belCall 0x40 (· == 57) src (fun d s =>
    signTo src (keySlot s 63).material (d.take 48) (bufDesc d 48) s) s)

/-- AUTH_SUBMIT (R463): the buffer of a certificate, from a secure partition. -/
def execAuthSubmit (src : CallSrc) (s : State) : Res :=
  .next (belCall 0x50 (· == 9) src (fun d s =>
    let b := bufDesc d 0
    let part := callPart s src
    if !partSecure s part then (stAuthRefused, [], certRefused part (callInit src) s)
    else if !bufOk s src b then bufFail src [b] s
    else
      let r := certSubmit (bufRead s b) part (callInit src) s
      (r.1, [], r.2)) s)

/-- DEBUG_CLOSE (R462). -/
def execDebugClose (src : CallSrc) (s : State) : Res :=
  .next (belCall 0x51 (· == 1) src (fun d s => (stOk, [], dbgShut (d.getD 0 0) s)) s)

/-- LC_ADVANCE (R449): target state, and the buffer of OWNER_HASH. -/
def execLcAdvance (src : CallSrc) (s : State) : Res :=
  .next (belCall 0x60 (fun n => n == 1 || n == 10) src (fun d s =>
    let part := callPart s src
    let b := bufDesc d 1
    if d.getD 0 0 ≠ lcProv ∨ lcState s ≠ lcBlank ∨ s.bel.otp.lc ≠ lcBlank ∨ ¬ partSecure s part ∨
        rngState s ≠ rngReady then (stLcRefused, [], s)
    else if d.length < 10 then (stBadLen, [], s)
    else if !bufOk s src b || b.2 < 48 then bufFail src [b] s
    else
      let seed := s.generate 48
      let o := { seed.2.bel.otp with ownerHash := beNat ((bufRead s b).take 48), idSeed := some (beNat seed.1),
                                     testKeyHash := none }
      (stOk, [], lcProgram lcProv part (callInit src) { seed.2 with bel := { seed.2.bel with otp := o } })) s)

/-! ### Random numbers (R459, R460) -/

/-- The start-up tests pass: the DRBG is instantiated. -/
def rngReadyNow (s : State) : State :=
  let s := { s with bel := { s.bel with drbg := true, drbgCount := 0 } }
  let s := ((s.put F.BRNG_STAT_STATE 0 rngReady).put F.BRNG_STAT_RESTARTS 0 0).raiseIrq 908
  if s.bel.chal then s else newChallenge s

/-- RNG_STARTUP_DONE (R459). -/
def execRngStartupDone (s : State) : Res :=
  .next (if (rngState s = rngStartup ∨ rngState s = rngRestart) ∧ s.pm.phase ≠ 2 then rngReadyNow s else s)

/-- A failed health test (R460): the DRBG is uninstantiated and the tests restart. -/
def rngFail (s : State) : State :=
  let s := s.incSat F.BRNG_STAT_HEALTH_FAILS 0
  let s := { s with bel := { s.bel with drbg := false, drbgCount := 0 } }
  (s.put F.BRNG_STAT_STATE 0 rngRestart).raiseSec 389 15 0 0x30 (s.get F.BRNG_STAT_HEALTH_FAILS 0)

/-- A request for random octets that Belfry serves when a health test fails completes with RNG_FAILED (R460, R465): the oldest rung
channel's. -/
def rngDrop (s : State) : State :=
  match s.bel.rung with
  | [] => s
  | c :: _ =>
    match (callReq (.mbx c) s).1 with
    | some q =>
      if belRuns s && reqFunc q == 0x10 && reqLen q == 2 && decide (1 ≤ leNat ((reqData q).take 2)) && decide (leNat ((reqData q).take 2) ≤ 60)
      then belPump (.mbx c) (callReply (.mbx c) stRngFailed [] s) else s
    | none => s

/-- RNG_HEALTH_FAIL (R460). -/
def execRngHealthFail (s : State) : Res := .next (if rngState s = rngReady then rngDrop (rngFail s) else s)

/-- RNG_STARTUP_FAIL (R460): a failed restart; three in a row leave FAILED. -/
def execRngStartupFail (s : State) : Res :=
  .next (if rngState s = rngReady ∨ rngState s = rngFailed ∨ s.pm.phase = 2 then s
  else
    let s := { s.incSat F.BRNG_STAT_HEALTH_FAILS 0 with boot := { s.boot with budget := false } }
    let n := s.get F.BRNG_STAT_RESTARTS 0 + 1
    let s := s.put F.BRNG_STAT_RESTARTS 0 (min n 3)
    if 3 ≤ n then
      (s.put F.BRNG_STAT_STATE 0 rngFailed).raiseSec 390 15 0 0x30 (s.get F.BRNG_STAT_HEALTH_FAILS 0)
    else s.put F.BRNG_STAT_STATE 0 rngRestart)

/-! ### Secure watchdog, debug access, scan -/

/-- The timeout in force in ms: 0 acts as 1 (R461). -/
def bwdgTmo (s : State) : Nat := max 1 (s.get F.BWDG_CTRL_TMO 0)

/-- The count restarts. -/
def bwdgRestart (s : State) : State :=
  { s.put F.BWDG_STAT_REM 0 (bwdgTmo s) with bel := { s.bel with bwdgAt := s.time.elapsed } }

/-- Milliseconds that remain (BWDG_STAT.REM): the watchdog's time is taken from the time clock (DESIGN CHOICE, log 66). -/
def bwdgRem (s : State) : Nat := s.get F.BWDG_STAT_REM 0 - (s.time.elapsed - s.bel.bwdgAt) / 1000000

/-- BWDG_KICK (R461, R467): only Belfry's. -/
def execBwdgKick (init : Init) (_value : Word) (s : State) : Res :=
  .next (s.busWrite init (R.BWDG_KICK.addr 0) 4 (fun s =>
    if init = 0x30 then bwdgRestart s else s.denyWrite init (R.BWDG_KICK.addr 0)))

/-- The BDBG registers answer to the JTAG access port and to Belfry (R467). -/
def dbgMay (init : Nat) : Bool := init == jtagInit || init == 0x30

/-- BDBG_CLOSE (R462). -/
def execBdbgClose (init : Init) (value : Word) (s : State) : Res :=
  .next (s.busWrite init (R.BDBG_CTRL.addr 0) 4 (fun s =>
    if dbgMay init then dbgShut (getBits value 3 0) s else s.denyWrite init (R.BDBG_CTRL.addr 0)))

/-- SCAN_CLEAR_DONE (R464): the chains are enabled only where every cleared location reads back as zero. -/
def execScanClearDone (ok : Bool) (s : State) : Res :=
  .next (if s.bel.scan = 1 then
    (if ok then
      { ((s.put F.BSEC_SCAN_CLEARED 0 1).put F.BSEC_SCAN_ENABLED 0 1) with bel := { s.bel with scan := 2 } }
     else { s with bel := { s.bel with scan := 3 }, toc := { s.toc with errnHeld := true } })
  else s)

/-- BELFRY_SRAM_ECC_UE (R469). -/
def execBelfrySramEccUe (s : State) : Res :=
  let d := s.draw
  .next (d.2.raiseSec 397 15 0 0x30 (Config.freeNat 35 d.1 % 2 ^ 32))

end Sys2Proof.Machine
end

