-- ==== Sys2Proof/Machine/Bist.lean ====
section
/-!
DEFINITION. The periodic self-test and the PRBS link test (chapter 17, R486 to R492).
-/

namespace Sys2Proof.Machine

/-- Units of a self-test task (Table 17-3). -/
def bistUnits (k : Nat) : Nat :=
  match k with
  | 1 => 4672
  | 2 => 3
  | 3 => 80
  | 4 => 144
  | _ => 16

/-- Time that a unit of a task needs, in ns (Table 17-5). -/
def bistNeeds (k : Nat) : Nat :=
  match k with
  | 1 => 12000
  | 2 => 10000
  | 3 => 12000
  | 4 => 4000
  | _ => 2000

/-- Task k is enabled (Table 17-8). -/
def bistOn (s : State) (k : Nat) : Bool := bitOf (s.get F.BIST_CTRL_TASK_EN 0) (k - 1)

/-- The BIST block is clocked. -/
def bistClocked (s : State) : Bool := !(portSt s 0x090).causes.contains causePower

/-- Beat of the last slice that a task took. -/
def bistLast (s : State) (k : Nat) : Nat := tget 0 s.bist.lastSlice k

/-- A task whose PERIOD has elapsed. -/
def bistDue (s : State) (t : Nat) : Bool :=
  bistOn s t && decide (max 1 (s.get F.BIST_TASK_PERIOD (t - 1)) ≤ s.beat - bistLast s t)

/-- The task of a slice (R487): the due task that has waited longest, else MBIST, else none (0). -/
def bistChoose (s : State) : Nat :=
  let k := [2, 3, 4, 5].foldl
    (fun k t => if bistDue s t && (k == 0 || decide (bistLast s t < bistLast s k)) then t else k) 0
  if k = 0 ∧ bistOn s 1 then 1 else k

/-- A unit can run in this slice (R486, R488). -/
def bistRuns (s : State) (k u : Nat) : Bool :=
  decide (bistNeeds k ≤ s.get F.BEAT_BIST_LEN_LEN 0) &&
  (k != 5 || (s.get F.CAN_TRX_STAT_MODE_ACT u == 1 && (canTxNow s u).isNone))

/-- The unit passes (R488): a loop-back by its two RAW values, any other unit by the verdict of its test. -/
def bistPass (k : Nat) (pass : Bool) (raw0 raw1 : Nat) : Bool :=
  if k = 3 then decide (raw0 ≤ 8) && decide (32441 ≤ raw1) && decide (raw1 ≤ 33095) else pass

/-- Word 1 of a self-test record (R499). -/
def bistWord (k raw0 raw1 : Nat) : Nat := if k = 5 then 0 else if k = 3 ∧ raw0 ≤ 8 then raw1 else raw0

/-- A record of this chapter's sources for a unit of a task (R499). -/
def bistFault (n k u w1 : Nat) (s : State) : State := s.raise n (k * 2 ^ 27 + u % 2048 * 2 ^ 16) w1 0

/-- A failed loop-back is a sense fault of its channel, feed or bridge until the unit next passes (R490). -/
def loopFailed (u ofs : Nat) (s : State) : State :=
  let s := { s with bist := { s.bist with loopFail := u :: s.bist.loopFail.filter (· != u) } }
  if u < 72 then s.senseFault u ofs
  else if u < 74 then feedSense (u - 72) ofs s
  else s.put F.IOX_BR_I_VALID (u - 74) 0

/-- A loop-back that passes ends the sense fault it had set. -/
def loopPassed (u : Nat) (s : State) : State :=
  if s.bist.loopFail.contains u then
    let s := { s with bist := { s.bist with loopFail := s.bist.loopFail.filter (· != u) } }
    if u < 74 then senseEnd u s else s
  else s

/-- One unit has been tested: its age starts again, its result is counted, and the task moves to its next unit. -/
def bistUnit (k u : Nat) (pass : Bool) (raw0 raw1 ofs : Nat) (s : State) : State :=
  let key := 8192 * k + u
  let s := { s with bist := { s.bist with tested := tset 0 s.bist.tested key s.beat, late := s.bist.late.filter (· != key) } }
  let nx := (u + 1) % bistUnits k
  let s := s.put F.BIST_STAT_NEXT (k - 1) nx
  let s := if nx = 0 then s.incSat F.BIST_STAT2_PASSES (k - 1) else s
  if bistPass k pass raw0 raw1 then (if k = 3 then loopPassed u s else s)
  else
    let s := (s.incSat F.BIST_STAT_FAILS (k - 1)).put F.BIST_STAT1_LAST_FAIL (k - 1) u
    let s := bistFault (415 + k) k u (bistWord k raw0 raw1) s
    if k = 3 then loopFailed u ofs s else s

/-- A slice that LBIST takes whole (R379). -/
def lbistSlice (s : State) : State :=
  let s := (s.incSat F.BIST_SLICE_LB_SLICES 0).put F.BIST_SLICE_LAST_TASK 0 0
  s.each [0, 1] (fun t s => if carState s t = carLbist then
    (s.incSat F.CAR_LBIST_SLICES t).updCar t (fun x => { x with lbNs := x.lbNs + s.get F.BEAT_BIST_LEN_LEN 0 }) else s)

/-- A BIST slice (R487). -/
def bistSlice (pass : Bool) (raw0 raw1 ofs : Nat) (s : State) : State :=
  if !s.tab.started || !bistClocked s || !s.flag F.BIST_CTRL_EN 0 then s
  else if [0, 1].any (fun t => carState s t == carLbist) then lbistSlice s
  else
    let k := bistChoose s
    if k = 0 then s.put F.BIST_SLICE_LAST_TASK 0 0xF
    else
      let u := s.get F.BIST_STAT_NEXT (k - 1)
      let s := s.put F.BIST_SLICE_LAST_TASK 0 k
      let s := if bistRuns s k u then bistUnit k u pass raw0 raw1 ofs s else s.incSat F.BIST_STAT1_SKIPS (k - 1)
      { s with bist := { s.bist with lastSlice := tset 0 s.bist.lastSlice k s.beat } }

/-- BIST_SLICE (R487). -/
def execBistSlice (pass : Bool) (raw0 raw1 ofs : Nat) (s : State) : Res := .next (bistSlice pass raw0 raw1 ofs s)

/-- BIST_COVERAGE_LATE (R489): a unit's age exceeds MAX_AGE; raised once until that unit has been tested. -/
def execBistCoverageLate (task : Fin 6) (unit : Nat) (s : State) : Res :=
  let key := 8192 * task.val + unit
  let age := s.get F.BIST_TASK_MAX_AGE (task - 1)
  if 1 ≤ task.val ∧ unit < bistUnits task ∧ age ≠ 0 ∧ age < s.beat - tget 0 s.bist.tested key ∧ key ∉ s.bist.late then
    .next (bistFault 421 task unit 0 { s with bist := { s.bist with late := key :: s.bist.late } })
  else .next s

/-! ### The PRBS link test -/

/-- A test is running. -/
def prbsRuns (s : State) : Bool := s.flag F.BIST_PRBS_STAT_RUNNING 0

/-- The partition that holds the block writes it (R497). -/
def bistMay (s : State) (init : Nat) : Bool := init == 0x30 || partOf s init == slotOwner s 0x090

/-- A GO that R491 does not refuse. -/
def prbsMay (s : State) (kind idx : Nat) : Bool :=
  let lab := lcState s == lcBlank || lcState s == lcRma
  !prbsRuns s && (lab || s.get F.DICT_MODE_MODE 0 == 3) &&
  (match kind with
   | 0 => decide (idx < 20)
   | 1 => decide (idx < 16) && canState s idx == canDisabled
   | 2 => decide (idx < 12) && !s.flag F.LIN_CTRL_RUN idx
   | 3 => lab
   | _ => false)

/-- What a target's link returns to after the test. -/
def prbsLink (s : State) (kind idx : Nat) : Nat :=
  match kind with
  | 0 => if portUp s idx then 1 + s.get F.EP_STAT_SPEED_ACT idx + 8 * s.get F.EP_STAT_ROLE_ACT idx + 16 * s.get F.EP_STAT_SQI idx
         else 0
  | 3 => b2n (linkUp s)
  | _ => 0

/-- GO (R491): the test starts and takes the target's link down, or is refused. -/
def prbsGo (outst : List Req) (s : State) : State :=
  let kind := s.get F.BIST_PRBS_CTRL_KIND 0
  let idx := s.get F.BIST_PRBS_CTRL_INDEX 0
  if prbsMay s kind idx then
    let s := { s with bist := { s.bist with prbs := some (kind, idx), prbsSaved := prbsLink s kind idx } }
    let s := (s.put F.BIST_PRBS_STAT_RUNNING 0 1).put F.BIST_PRBS_STAT_LOCKED 0 0
    if kind = 0 then phyDown idx s else if kind = 3 then s.linkDown outst else s
  else s.put F.BIST_PRBS_STAT_RESULT 0 1

/-- Bits checked and bit errors met since the last count, while the checker is locked (R492). -/
def prbsCount (bits errs : Nat) (s : State) : State :=
  if s.flag F.BIST_PRBS_STAT_LOCKED 0 then
    (s.put64 R.BIST_PRBS_BITS_LO R.BIST_PRBS_BITS_HI 0
      (min (s.get64 R.BIST_PRBS_BITS_LO R.BIST_PRBS_BITS_HI 0 + bits) (2 ^ 64 - 1))).addSat F.BIST_PRBS_ERRS_ERRS 0 errs
  else s

/-- The target returns to the state it had before the test (R492). -/
def prbsRestore (kind idx saved : Nat) (s : State) : State :=
  if saved = 0 then s
  else if kind = 0 then phyUp idx ((saved - 1) % 8) ((saved - 1) / 8 % 2 == 1) ((saved - 1) / 16) s
  else spineUp (s.put F.SPINE_STAT_STATE 0 1)

/-- The test ends: its RESULT, DONE, interrupt 928 (R492). -/
def prbsEnd (bits errs : Nat) (s : State) : State :=
  match s.bist.prbs with
  | none => s
  | some (kind, idx) =>
    let s := prbsCount bits errs s
    let res := if !s.flag F.BIST_PRBS_STAT_LOCKED 0 then 2 else if s.get F.BIST_PRBS_ERRS_ERRS 0 = 0 then 0 else 3
    let saved := s.bist.prbsSaved
    let s := { s with bist := { s.bist with prbs := none, prbsSaved := 0 } }
    let s := (s.put F.BIST_PRBS_STAT_RUNNING 0 0).put F.BIST_PRBS_STAT_RESULT 0 res
    (prbsRestore kind idx saved (s.put F.BIST_PRBS_STAT_DONE 0 1)).raiseIrq 928

/-- A write of BIST_PRBS_CTRL: the settings, then GO, then STOP; both clear at once (R491, R492). -/
def prbsWrite (outst : List Req) (bits errs : Nat) (v : Word) (s : State) : State :=
  let s := s.wr R.BIST_PRBS_CTRL 0 (setBits v 31 30 0)
  let s := s.when (v.getLsbD 31) (prbsGo outst)
  s.when (v.getLsbD 30) (prbsEnd bits errs)

/-- A write of BIST_PRBS_CTRL by software. -/
def prbsRow (init : Nat) (v : Word) (outst : List Req) (bits errs : Nat) (s : State) : State :=
  let a := R.BIST_PRBS_CTRL.addr 0
  s.busWrite init a 4 (fun s => if bistMay s init then prbsWrite outst bits errs v s else s.denyWrite init a)

/-- PRBS_GO (R491). -/
def execPrbsGo (init : Init) (value : Word) (outst : List Req) (s : State) : Res :=
  .next (prbsRow init value outst 0 0 s)

/-- PRBS_STOP (R492). -/
def execPrbsStop (init : Init) (value : Word) (bits errs : Nat) (s : State) : Res :=
  .next (prbsRow init value [] bits errs s)

/-- PRBS_DURATION_END (R492): DUR ms have passed; a DUR of 0 lasts until STOP. -/
def execPrbsDurationEnd (bits errs : Nat) (s : State) : Res :=
  .next (if s.get F.BIST_PRBS_CTRL_DUR 0 = 0 then s else prbsEnd bits errs s)

/-- The checker is at work. -/
def prbsChecks (s : State) : Bool := prbsRuns s && s.get F.BIST_PRBS_CTRL_DIR 0 != 1

/-- PRBS_LOCK (R492): BITS and ERRS count from here. -/
def execPrbsLock (s : State) : Res :=
  .next (if prbsChecks s && !s.flag F.BIST_PRBS_STAT_LOCKED 0 then
    ((s.put F.BIST_PRBS_STAT_LOCKED 0 1).put64 R.BIST_PRBS_BITS_LO R.BIST_PRBS_BITS_HI 0 0).put F.BIST_PRBS_ERRS_ERRS 0 0
  else s)

/-- PRBS_LOCK_LOSS (R492). -/
def execPrbsLockLoss (bits errs : Nat) (s : State) : Res :=
  .next (if s.flag F.BIST_PRBS_STAT_LOCKED 0 && prbsRuns s then
    ((prbsCount bits errs s).put F.BIST_PRBS_STAT_LOCKED 0 0).incSat F.BIST_PRBS_STAT_LOCK_LOSSES 0
  else s)

end Sys2Proof.Machine
end

