-- ==== Sys2Proof/Machine/Clk.lean ====
section
/-!
DEFINITION. Clocks: CLKIN and its monitor, the PLLs, clock domains and HALT_SAFE (chapter 18).
-/

namespace Sys2Proof.Machine

/-- A raise of a clock source (R519). -/
def clkFault (n pll dom w1 : Nat) (s : State) : State := s.raise n (pll * 2 ^ 28 + dom * 2 ^ 16) w1 0

/-- A bit of CLK_EVT, with interrupt 513 where CLK_IE enables it (R520). -/
def clkEvt (bit : Nat) (s : State) : State :=
  let s := s.wr R.CLK_EVT 0 (setBits (s.rd R.CLK_EVT 0) bit bit 1)
  if (s.rd R.CLK_IE 0).getLsbD bit then s.raiseIrq 513 else s

/-- Who writes the CLK block (R517): the partition that holds the slot, and Belfry before the boot lock. -/
def clkMay (s : State) (init : Nat) : Bool := partOf s init == slotOwner s 0x003 || (init == 0x30 && !s.bootLocked)

/-- The clock domains that a PLL serves (Table 18-2). -/
def pllDomains (p : Nat) : List Nat :=
  match p with
  | 0 => [0, 1]
  | 1 => [2, 3, 4, 5, 6, 7, 8, 9, 10]
  | 2 => [11, 12, 13, 14, 15]
  | _ => [16, 17]

/-- Domains without a forced source (Table 18-2). -/
def domStops (d : Nat) : Bool := d == 8 || d == 9 || d == 14 || d == 15 || d == 16 || d == 17

/-- OSC_DLY_END (R502, R503): the monitor starts to count CLKIN. -/
def execOscDlyEnd (s : State) : Res :=
  .next (if s.clk.osc ∧ s.clk.mon = 0 then { s with clk := { s.clk with mon := 1, quals := [] } } else s)

/-- A count lies within 6 % of the nominal count of 25 MHz or of 50 MHz (R503). -/
def nearNominal (nom c : Nat) : Bool := decide (nom * 94 ≤ 100 * c) && decide (100 * c ≤ nom * 106)

/-- The qualification's run of good windows after one more (R503). -/
def qualNext (l : List Nat) (c : Nat) : List Nat :=
  if (c :: l).all (nearNominal 250) || (c :: l).all (nearNominal 500) then (c :: l).take 8
  else if nearNominal 250 c || nearNominal 500 c then [c] else []

/-- A boot milestone is passed, `us` µs after PGOOD rose or after the release of RESET_CHIP (R532, R544). -/
def milestone (k us : Nat) (s : State) : State :=
  { s with boot := { s.boot with times := tset 0 s.boot.times k (min us 0xFFFFFFFF) } }

/-- CLKIN_QUALIFIED (R503): FREQ and QUAL, CAL from the eight counts, and the PLLs start. -/
def execClkinQualified (us : Nat) (s : State) : Res :=
  .next (if s.clk.mon = 1 ∧ s.clk.quals.length = 8 then
    let s := (s.put F.CLK_STAT_FREQ 0 (b2n (s.clk.quals.all (nearNominal 500)))).put F.CLK_STAT_QUAL 0 1
    let s := s.put F.CLK_MON_CAL 0 (2 * s.clk.quals.foldl (· + ·) 0)
    milestone 1 us { s with clk := { s.clk with mon := 2, badRun := 0, okRun := 0, pllOn := true } }
  else s)

/-- A window is good (R507): |16 c − CAL| ≤ CAL / 50. -/
def goodWindow (cal c : Nat) : Bool := decide (50 * ((16 * c - cal) + (cal - 16 * c)) ≤ cal)

/-- CAL after a good window (R507): a 64th of the way, rounded toward zero. -/
def calMove (cal c : Nat) : Nat := if cal ≤ 16 * c then cal + (16 * c - cal) / 64 else cal - (cal - 16 * c) / 64

/-- CAL follows a good window and is held at its bounds, with CAL_LIMIT and FS4 (R507). -/
def calFollow (c : Nat) (s : State) : State :=
  let nom := if s.flag F.CLK_STAT_FREQ 0 then 8000 else 4000
  let lo := nom * 965 / 1000
  let hi := nom * 1035 / 1000
  let m := calMove (s.get F.CLK_MON_CAL 0) c
  if m < lo ∨ hi < m then
    let s := clkEvt 26 (s.put F.CLK_MON_CAL 0 (if m < lo then lo else hi))
    if s.clk.calSaid then s
    else clkFault 4 0 0 (s.get F.CLK_MON_CAL 0) { s with clk := { s.clk with calSaid := true } }
  else
    let s := s.put F.CLK_MON_CAL 0 m
    if lo < m ∧ m < hi then { s with clk := { s.clk with calSaid := false } } else s

/-- A window after qualification (R507, R510). -/
def watchWindow (c : Nat) (s : State) : State :=
  if goodWindow (s.get F.CLK_MON_CAL 0) c then
    if s.flag F.CLK_STAT_FALLBACK 0 then { s with clk := { s.clk with okRun := s.clk.okRun + 1 } }
    else calFollow c { s with clk := { s.clk with badRun := 0 } }
  else
    let s := s.incSat F.CLK_MON_CNT_BAD_WIN 0
    if s.flag F.CLK_STAT_FALLBACK 0 then
      { (s.put F.CLK_STAT_CLKIN_OK 0 0) with clk := { s.clk with okRun := 0 } }
    else { s with clk := { s.clk with badRun := s.clk.badRun + 1 } }

/-- MONITOR_WINDOW (R503, R507): a window of 1,000 IRC100 cycles ends with `count` rising edges of CLKIN. -/
def execMonitorWindow (count : Nat) (s : State) : Res :=
  .next (if s.clk.mon = 0 then s
  else
    let s := s.put F.CLK_MON_LAST 0 (min count 1023)
    if s.clk.mon = 1 then { s with clk := { s.clk with quals := qualNext s.clk.quals count } }
    else watchWindow count s)

/-- Domain 14 stops: the PHYs of P0 to P19 go down (R509, R513). -/
def stopPhys (s : State) : State := (s.put F.CLK_DOM_SRC 14 2).each (List.range 20) phyDown

/-- A PLL that is on CLKIN enters holdover and switches its reference to IRC100 ÷ 4 (R509). -/
def pllFallback (p : Nat) (s : State) : State :=
  if s.flag F.CLK_PLL_DEAD p || s.flag F.CLK_PLL_REF p then s
  else ((s.put F.CLK_PLL_LOCK p 0).put F.CLK_PLL_REF p 1).put F.CLK_PLL_HOLD p 1

/-- CLKIN_FAIL (R508, R509): FAIL_WIN bad windows in a row; not in HALT_SAFE. -/
def execClkinFail (s : State) : Res :=
  .next (if s.clk.mon ≠ 2 || s.flag F.CLK_STAT_FALLBACK 0 || s.clk.badRun < max 1 (s.get F.CLK_MON_CFG_FAIL_WIN 0) ||
      s.flag F.KN_STAT_HALT 0 then s
  else
    let s := stopPhys (s.each [0, 1, 2, 3] pllFallback)
    let s := ((s.put F.CLK_STAT_FALLBACK 0 1).put F.CLK_STAT_CLKIN_OK 0 0).put F.TIME_STAT_CLK_FALLBACK 0 1
    let s := timeFallback { s with clk := { s.clk with badRun := 0, okRun := 0 } }
    clkFault 1 0 0 (s.get F.CLK_MON_CAL 0) ((clkEvt 31 s).incSat F.CLK_MON_CNT_FALLBACKS 0))

/-- CLKIN_OK (R510): OK_WIN good windows in a row in fallback. -/
def execClkinOk (s : State) : Res :=
  .next (if s.flag F.CLK_STAT_FALLBACK 0 && !s.flag F.CLK_STAT_CLKIN_OK 0 && decide (max 1 (s.get F.CLK_MON_CFG_OK_WIN 0) ≤ s.clk.okRun)
    then clkEvt 30 (s.put F.CLK_STAT_CLKIN_OK 0 1) else s)

/-- A PLL on IRC100 ÷ 4 goes back to CLKIN (R510). -/
def pllRestore (p : Nat) (s : State) : State :=
  if s.flag F.CLK_PLL_REF p && !s.flag F.CLK_PLL_DEAD p then
    ((s.put F.CLK_PLL_LOCK p 0).put F.CLK_PLL_REF p 0).put F.CLK_PLL_HOLD p 1
  else s

/-- RESTORE (R510): ignored while CLKIN_OK is 0. -/
def clkRestore (s : State) : State :=
  if s.flag F.CLK_STAT_CLKIN_OK 0 && s.flag F.CLK_STAT_FALLBACK 0 then
    let s := s.each [0, 1, 2, 3] pllRestore
    let s := if s.flag F.CLK_PLL_DEAD 2 then s else s.put F.CLK_DOM_SRC 14 0
    let s := ((s.put F.CLK_STAT_FALLBACK 0 0).put F.CLK_STAT_CLKIN_OK 0 0).put F.TIME_STAT_CLK_FALLBACK 0 0
    clkFault 5 0 0 0 (clkEvt 29 { s with clk := { s.clk with badRun := 0, okRun := 0 } })
  else s

/-- A write of CLK_CTRL. -/
def clkCtrl (v : Word) (s : State) : State := s.when (v.getLsbD 31) clkRestore

/-- CLK_RESTORE (R510). -/
def execClkRestore (init : Init) (value : Word) (s : State) : Res :=
  let a := R.CLK_CTRL.addr 0
  .next (s.busWrite init a 4 (fun s => if clkMay s init then clkCtrl value s else s.denyWrite init a))

/-- DDR training starts (R523): port 0x1001 is fenced for the reset until it completes. -/
def ddrTrain (s : State) : State :=
  { (s.fence 0x1001 causeReset []) with boot := { s.boot with ddr := 1 } }

/-- The first lock of NPLL starts the time counter and that of DPLL the DDR training (boot step 5, R288, R523). -/
def pllFirst (p : Nat) (s : State) : State :=
  if p = 2 then { s with time := { s.time with run := true } }
  else if p = 3 ∧ s.boot.ddr = 0 then ddrTrain s
  else s

/-- PLL_LOCK (R505): a PLL locks, or relocks after a reference change. -/
def execPllLock (p : Fin 4) (us : Nat) (s : State) : Res :=
  .next (if s.clk.pllOn && !s.flag F.CLK_PLL_DEAD p then
    let s := pllFirst p ((s.put F.CLK_PLL_LOCK p 1).put F.CLK_PLL_HOLD p 0)
    if ([0, 1, 2, 3] : List Nat).all (fun q => s.flag F.CLK_PLL_LOCK q) && !s.boot.chip && tget 0 s.boot.times 2 == 0 then milestone 2 us s
    else s
  else s)

/-- A running PLL loses lock: counted, and NPLL takes the time unit out of SYNCED with HO_CAUSE 4 (R505, Table 10-1). -/
def pllUnlock (p : Nat) (s : State) : State :=
  if s.flag F.CLK_PLL_LOCK p then
    let s := (s.put F.CLK_PLL_LOCK p 0).incSat F.CLK_PLL_UNLOCKS p
    if p = 2 then toHoldover 4 s else s
  else s

/-- PLL_LOSS_OF_LOCK (R505). -/
def execPllLossOfLock (p : Fin 4) (s : State) : Res := .next (pllUnlock p s)

/-- A domain of a dead PLL is switched to its forced source, or stops with its consequences (R513). -/
def domForced (outst : List Req) (d : Nat) (s : State) : State :=
  if domStops d then
    let s := s.put F.CLK_DOM_SRC d 2
    if d = 8 then s.each (List.range 16) canLinkDown
    else if d = 14 then stopPhys s
    else if d = 15 then s.linkDown outst
    else if d = 16 then
      (s.fence 0x1001 causePower outst).memKeep (fun c => !(decide (0x400000000 ≤ c) && decide (c < 0x800000000)))
    else s
  else { (s.put F.CLK_DOM_BUSY d 1) with clk := { s.clk with toForced := d :: s.clk.toForced } }

/-- PLL_DEAD (R505, R513). -/
def execPllDead (p : Fin 4) (outst : List Req) (s : State) : Res :=
  .next (if s.clk.pllOn && !s.flag F.CLK_PLL_DEAD p then
    let s := clkFault 2 p 0 0 (clkEvt 28 ((pllUnlock p s).put F.CLK_PLL_DEAD p 1))
    s.each (pllDomains p) (domForced outst)
  else s)

/-- A domain of a dead PLL goes to its forced source: CLK_EVT.FORCED and FS3 with the gap (R513). -/
def domRaise (d g : Nat) (s : State) : State :=
  clkFault 3 ((([0, 1, 2, 3] : List Nat).find? (fun p => (pllDomains p).contains d)).getD 0) d g (clkEvt 27 s)

/-- FORCED_SWITCH (R513): no stop acknowledgement within 32 IRC100 cycles; the first new edge comes 4 + 8 cycles later, so
that GAP is 44. -/
def execForcedSwitch (d : Fin 20) (s : State) : Res :=
  .next (if s.clk.toForced.contains d && !s.clk.path.contains d then
    let s := (s.put F.CLK_DOM_OLD_DEAD d 1).put F.CLK_DOMLOST_GAP d 44
    domRaise d 44 { s with clk := { s.clk with path := d :: s.clk.path } }
  else s)

/-- No forced switch of a domain is in progress any more. -/
def domForget (d : Nat) (s : State) : State :=
  { s with clk := { s.clk with toForced := s.clk.toForced.filter (· != d), path := s.clk.path.filter (· != d) } }

/-- A domain runs from its new source after a gap of `g` IRC100 cycles (R511 to R513); a forced domain whose old source did acknowledge
the stop is reported here. -/
def domNew (d : Nat) (forced : Bool) (g : Nat) (s : State) : State :=
  let s := if forced && !s.clk.path.contains d then domRaise d g s else s
  let s := ((s.put F.CLK_DOM_BUSY d 0).put F.CLK_DOMLOST_GAP d g).incSat F.CLK_DOMLOST_SWITCHES d
  let s := (domForget d s).when forced (·.put F.CLK_DOM_SRC d 1)
  clkEvt 25 (if forced ∧ d = 11 ∧ s.time.run then timePass (5 * g) s else s)

/-- DOMAIN_SWITCH_DONE (R511, R513): the first new edge, `gap` IRC100 cycles after the request; the time counter catches up
(R512). -/
def execDomainSwitchDone (d : Fin 20) (gap : Nat) (s : State) : Res :=
  .next (if s.flag F.CLK_DOM_BUSY d then
    domNew d (s.clk.toForced.contains d) (if s.clk.path.contains d then 44 else min gap 0xFFFF) s
  else s)

/-- A write of CLK_DOMd: OLD_DEAD clears; a DIV of domains 0, 1, 10 and 12 starts a switch unless one is in progress
(R511). -/
def clkDomWrite (d : Nat) (v : Word) (s : State) : State :=
  let s := if v.getLsbD 30 then s.put F.CLK_DOM_OLD_DEAD d 0 else s
  if (d = 0 ∨ d = 1 ∨ d = 10 ∨ d = 12) ∧ ¬ s.flag F.CLK_DOM_BUSY d then
    (s.put F.CLK_DOM_DIV d (getBits v 27 26)).put F.CLK_DOM_BUSY d 1
  else s

/-- CLK_DOM_DIV (R511). -/
def execClkDomDiv (d : Fin 20) (init : Init) (value : Word) (s : State) : Res :=
  let a := R.CLK_DOM.addr d
  .next (s.busWrite init a 4 (fun s => if clkMay s init then clkDomWrite d value s else s.denyWrite init a))

/-- In HALT_SAFE the H-die holds the K-die in reset, and the spine link with it is down (R514). -/
def haltHold (s : State) : State :=
  if s.flag F.KN_STAT_HALT 0 && s.pm.phase != 2 then { s with pm := { s.pm with phase := 2 } }.linkDown [] else s

/-- HEARTBEAT_LOSS (R482, R514). -/
def execHeartbeatLoss (s : State) : Res := .next (haltHold (heartbeatLost s))

/-- IRC100_OUT_OF_RANGE (R514): the heartbeat edges over 32 LRC32 cycles leave 570 to 960; Knell judges the heartbeat lost. -/
def execIrc100OutOfRange (count : Nat) (s : State) : Res :=
  .next (if count < 570 ∨ 960 < count then haltHold (heartbeatLost s) else s)

/-- PMIC_EN falls: the K-die loses its supply and with it the spine link. -/
def pmicDrop (outst : List Req) (s : State) : State :=
  let s := { s with pm := { s.pm with phase := 2, en := false } }
  (s.linkDown outst).emit (.pin 5 0 0)

/-- HALT_SAFE_POWER_DOWN (R514): t_HALT_PWR after HALT_SAFE, Gong drops PMIC_EN. -/
def execHaltSafePowerDown (outst : List Req) (s : State) : Res :=
  .next (if s.flag F.KN_STAT_HALT 0 ∧ s.pm.en then pmicDrop outst s else s)

end Sys2Proof.Machine
end

