-- ==== Sys2Proof/Machine/Fabric.lean ====
section
/-!
DEFINITION. The fabric's commands: target timeouts, fences that open or last too long, release of late-error
entries and the Carillon DRAM windows (chapter 1).
-/

namespace Sys2Proof.Machine

/-- TARGET_TIMEOUT (R26): the request ends with TIMEOUT (a read with that response, a write in the log with DISCARDED = 0), FS97 is
raised for it, and its port is fenced, which ends the other requests outstanding there. -/
def execTargetTimeout (port : Nat) (req : Req) (others : List Req) (s : State) : Res :=
  if reqsAt port [req] = [] ∨ fenced s port then .next s
  else
    let s := s.reqFails req respTimeout false
    let s := s.fenceSw port causeTimeout others
    .next (s.raiseFab 97 respTimeout req.init port (req.addr % 2 ^ 32) (req.addr / 2 ^ 32 % 256))

/-- PORT_OPEN (R25): the block of a fenced port signals ready. -/
def execPortOpen (port : Nat) (s : State) : Res := .next (s.openSw port)

/-- FENCE_STUCK (R25): a fence longer than FENCE_MAX raises FS106; the port stays fenced. -/
def execFenceStuck (port : Nat) (s : State) : Res :=
  if fenced s port && !(portSt s port).stuck then
    let s := s.updPort port (fun x => { x with stuck := true })
    .next (s.raiseFab 106 (portSt s port).reason 0 port 0 0)
  else .next s

/-- Entries of the late-error log that belong to software (R29). -/
def lateOwned (s : State) : Nat :=
  if s.flag F.LATE_ERR_WR_FULL 0 then 64
  else (s.get F.LATE_ERR_WR_WR_IDX 0 + 64 - s.get F.LATE_ERR_RD_RD_IDX 0) % 64

/-- Entries that a write of RD_IDX = `v` releases (R29). -/
def lateReleased (s : State) (v : Nat) : Nat :=
  let d := (v + 64 - s.get F.LATE_ERR_RD_RD_IDX 0) % 64
  if s.flag F.LATE_ERR_WR_FULL 0 && d = 0 then 64 else d

/-- The effect of a write of LATE_ERR_RD (R29). -/
def lateErrRd (v : Word) (s : State) : State :=
  let s := if bitOf v.toNat 31 then s.wr R.LATE_ERR_OVF 0 0 else s
  let i := bitsOf v.toNat 5 0
  let n := lateReleased s i
  if n ≤ lateOwned s ∧ 0 < n then
    let rd := s.get F.LATE_ERR_RD_RD_IDX 0
    let s := s.each (List.range n) (fun k s => s.put F.LATE_ERR_E0_VALID ((rd + k) % 64) 0)
    (s.put F.LATE_ERR_RD_RD_IDX 0 i).put F.LATE_ERR_WR_FULL 0 0
  else s

/-- LATE_ERR_RD (R29). -/
def execLateErrRd (init : Init) (value : Word) (s : State) : Res :=
  .next (s.busWrite init (R.LATE_ERR_RD.addr 0) 4 (lateErrRd value))

/-- The effect of trio `n`'s write of its DRAM window (R33): a locked register ignores it. -/
def carwin (n : Nat) (v : Word) (s : State) : State :=
  if s.flag F.FABRIC_CARWIN_LOCK n then s
  else (s.put F.FABRIC_CARWIN_WIN_IDX n (bitsOf v.toNat 5 0)).put F.FABRIC_CARWIN_LOCK n (bitsOf v.toNat 31 31)

/-- A write of FABRIC_CARWINn: only trio n's is admitted (R33). -/
def carwinWrite (n init : Nat) (v : Word) (s : State) : State :=
  if init = 0x10 + n then carwin n v s else s.denyWrite init (R.FABRIC_CARWIN.addr n)

/-- FABRIC_CARWIN (R33). -/
def execFabricCarwin (n : Fin 2) (init : Init) (value : Word) (s : State) : Res :=
  .next (s.busWrite init (R.FABRIC_CARWIN.addr n) 4 (carwinWrite n init value))

end Sys2Proof.Machine
end

