-- ==== Sys2Proof/Machine/Pm.lean ====
section
/-!
DEFINITION. The power modes and Gong (chapter 12): requests, gating, sleep entry, wake events, the false-wake timer and the
boot supervision.
-/

namespace Sys2Proof.Machine

/-- Only the power partition writes the PM_* and GONG_* fields (R346). -/
def pmMay (s : State) (init : Nat) : Bool := partOf s init == slotOwner s 0x004

/-- A write of the PMODE/GONG block by the power partition; any other is refused (R346). -/
def pmWrite (init a : Nat) (f : State → State) (s : State) : State :=
  s.busWrite init a 4 (fun s => if pmMay s init then f s else s.denyWrite init a)

/-! ### Harts (R350, R351, R413) -/

/-- Power leaves blocks 0 and 1: the harts, their interrupt controllers and the IOMMU lose their state (Table 12-1). -/
def aclLose (s : State) : State :=
  let s := { s with harts := [], acl := ⟨[], AplicDom.init, AplicDom.init, [], [], [], s.acl.poison⟩ }
  (s.clearBlock idsCSR).clearBlock idsIOMMU

/-! ### Requests (R346 to R350) -/

/-- A VE of an A-cluster partition is ACTIVE or QUIESCING (R350). -/
def veBusy (s : State) : Bool :=
  (List.range 1024).any (fun n => s.flag F.VEMGR_VEASSIGN_VALID n && s.get F.BSEC_PARTCFG_KIND (vePart s n) == 1 &&
    (veState s n == veActive || veState s n == veQuiescing))

/-- The condition of a wake line's trigger holds, given its level before and now (R355). -/
def lineCond (s : State) (n : Nat) (was now : Bool) : Bool :=
  match bitsOf (s.get F.GONG_WLCFG_TRIG 0) (2 * n + 1) (2 * n) with
  | 0 => now
  | 1 => !now
  | 2 => !was && now
  | _ => was && !now

/-- An armed level line is active (R355). -/
def wakeActive (s : State) : Bool :=
  (List.range 8).any (fun n => bitOf (s.get F.GONG_WAKE_EN_LINES 0) n &&
    bitsOf (s.get F.GONG_WLCFG_TRIG 0) (2 * n + 1) (2 * n) < 2 &&
    lineCond s n (bitOf (s.get F.GONG_WLSTAT_LEVEL 0) n) (bitOf (s.get F.GONG_WLSTAT_LEVEL 0) n))

/-- Gong latches the wake inputs and their configuration at sleep entry (R198, R352). -/
def latchMfi (s : State) : State :=
  let on := (List.range 96).filter (fun i => s.flag F.IOX_MFI_CFG_WAKE_EN i)
  { s with pm := { s.pm with
      mfiLatch := (on.filter (fun i => (s.rd R.IOX_MFI_DIG (i / 32)).getLsbD (i % 32))).map (fun i => (i, true)),
      mfiRun := [], mfiWake := on.map (fun i => (i, (s.rd R.IOX_MFI_CFG i).toNat, (s.rd R.IOX_MFI_TH i).toNat)),
      mfiPoll := (s.rd R.IOX_MFI_WAKECFG 0).toNat } }

/-- The steps of R350: P20, P21 and the ports of blocks 0 and 1 are fenced, blocks 0 and 1 lose power, and every other block
follows SLEEP_EN. -/
def sleepSteps (outst : List Req) (s : State) : State :=
  let s := (s.fenceSw 0x2014 causePower outst).fenceSw 0x2015 causePower outst
  let s := applyGates outst (s.put F.PM_STAT_MODE 0 modeSleep)
  latchMfi { aclLose s with pm := { s.pm with caused := false } }

/-- Steps 1 and 2 of R352: the retained mode, and the armed transceivers and ports. -/
def armWake (s : State) : State :=
  let s := s.put F.GONG_MODE_RET_BOOT_MODE 0 (s.get F.DICT_MODE_MODE 0)
  let s := s.each (List.range 16) (fun n s =>
    s.put F.CAN_TRX_STAT_MODE_ACT n (if bitOf (s.get F.GONG_CFG_CAN_MASK 0) n then 4 else 0))
  let s := latchMfi s
  { s with pm := { s.pm with
      phase := 1
      slept := true
      tc10 := (List.range 20).filter (fun p => s.flag F.EP_TC10_EN p && s.flag F.EP_TC10_WAKE_DS p) } }

/-- A request is judged at acceptance (R350): the RESULT that refuses it. -/
def sleepRefused (s : State) (deep flash : Bool) : Option Nat :=
  if veBusy s then some 2
  else if flash || s.dict.load.isSome then some 6
  else if deep && wakeActive s then some 3
  else none

/-- A request without an effect ends with RESULT 1. -/
def pmRefuse (s : State) : State := pmResult 1 s

/-- SLEEP or DEEP_SLEEP is entered from a mode. -/
def sleepEnter (deep : Bool) (outst : List Req) (s : State) : State :=
  let s := if pmMode s = modeSleep then s else sleepSteps outst s
  if deep then armWake (s.put F.PM_STAT_PENDING 0 1) else pmEnter modeSleep s

/-- The mode request `t` (R346, Table 12-2). -/
def pmRequest (t : Nat) (flash : Bool) (outst : List Req) (s : State) : State :=
  let m := pmMode s
  if s.flag F.PM_STAT_PENDING 0 then
    (if t = modeRun then pmAbort { s with pm := { s.pm with phase := 0 } } else s.put F.PM_STAT_RESULT 0 5)
  else if t = modeRun then (if m = modeDoze ∨ m = modeSleep then pmLeave s else pmRefuse s)
  else if t = modeDoze then (if m = modeRun then s.put F.PM_STAT_PENDING 0 1 else pmRefuse s)
  else if (t = modeSleep ∧ (m = modeRun ∨ m = modeDoze)) ∨ (t = modeDeep ∧ m ≤ modeSleep) then
    match sleepRefused s (t == modeDeep) flash with
    | some r => pmResult r s
    | none => sleepEnter (t == modeDeep) outst s
  else pmRefuse s

/-- A write of PM_REQ: TARGET and GO together make a request. -/
def pmReqWrite (v : Word) (flash : Bool) (outst : List Req) (s : State) : State :=
  let s := s.put F.PM_REQ_TARGET 0 (getBits v 2 0)
  if v.getLsbD 31 then pmRequest (getBits v 2 0) flash outst s else s

/-- The rows of PM_REQ. -/
def pmReqRow (init : Nat) (v : Word) (flash : Bool) (outst : List Req) (s : State) : Res :=
  .next (pmWrite init (R.PM_REQ.addr 0) (pmReqWrite v flash outst) s)

/-- PM_REQ_RUN (R346). -/
def execPmReqRun (init : Init) (value : Word) (s : State) : Res := pmReqRow init value false [] s
/-- PM_REQ_DOZE (R349); `flash` says that an xSPI program or erase is in progress. -/
def execPmReqDoze (init : Init) (value : Word) (flash : Bool) (outst : List Req) (s : State) : Res :=
  pmReqRow init value flash outst s
/-- PM_REQ_SLEEP (R350). -/
def execPmReqSleep (init : Init) (value : Word) (flash : Bool) (outst : List Req) (s : State) : Res :=
  pmReqRow init value flash outst s
/-- PM_REQ_DEEP_SLEEP (R350, R352). -/
def execPmReqDeepSleep (init : Init) (value : Word) (flash : Bool) (outst : List Req) (s : State) : Res :=
  pmReqRow init value flash outst s

/-- A DOZE request waits for the cores (R349). -/
def dozePending (s : State) : Bool := s.flag F.PM_STAT_PENDING 0 && pmMode s == modeRun

/-- DOZE_ENTRY (R349). -/
def execDozeEntry (outst : List Req) (s : State) : Res :=
  .next (if dozePending s then applyGates outst (pmEnter modeDoze s) else s)

/-- DOZE_EXIT (R349): an interrupt to a core ends DOZE, or aborts the pending entry. -/
def execDozeExit (s : State) : Res :=
  .next (if dozePending s then pmAbort s else if pmMode s = modeDoze ∧ s.pm.phase ≠ 2 then pmToRun s else s)

/-! ### Gating (R347, Table 12-3) -/

/-- RUN_EN of a block is not fixed. -/
def runFree (b : Nat) : Bool := b == 6 || b == 7 || b == 8 || b == 11 || b == 13

/-- SLEEP_EN of a block is not fixed. -/
def sleepFree (b : Nat) : Bool := b == 4 || (6 ≤ b && b ≤ 8) || (10 ≤ b && b ≤ 13) || b == 15

/-- A write of PM_GATEb: fixed fields ignore it. -/
def pmGateWrite (b : Nat) (v : Word) (outst : List Req) (s : State) : State :=
  let s := if runFree b then s.put F.PM_GATE_RUN_EN b (getBits v 0 0) else s
  let s := if sleepFree b then s.put F.PM_GATE_SLEEP_EN b (getBits v 1 1) else s
  applyGates outst s

/-- PM_GATE (R347). -/
def execPmGate (b : Fin 17) (init : Init) (value : Word) (outst : List Req) (s : State) : Res :=
  .next (pmWrite init (R.PM_GATE.addr b) (pmGateWrite b value outst) s)

/-! ### DEEP_SLEEP (R352, R353) -/

/-- A channel is kept through DEEP_SLEEP (R353). -/
def kept (s : State) (ch : Nat) : Bool := (s.rd R.GONG_KEEP (ch / 32)).getLsbD (ch % 32)

/-- A channel's sleep action (R353): a group in safe state decides; a kept channel's gate stays; any other turns off. -/
def sleepCh (ch : Nat) (s : State) : State :=
  let c := chSt s ch
  if groupSafe s (s.get F.PWR_CH_CFG_KNELL_GRP ch) || kept s ch then s else s.setCh ch (c.put F.PWR_STATE_GATE_ON 0)

/-- The outputs' sleep action (R353). -/
def sleepOutputs (s : State) : State :=
  let s := s.each (List.range 72) sleepCh
  let s := s.each (List.range 32) (fun j s => if groupSafe s (s.get F.IOX_LSO_CFG_KNELL_GRP j) then s else quietLso j s)
  let s := s.each (List.range 6) (fun b s => if groupSafe s (s.get F.IOX_BR_CFG_KNELL_GRP b) then s else quietBr b s)
  s.each (List.range 8) (fun n s => if groupSafe s (s.get F.IOX_SSUP_CTRL_KNELL_GRP n) then s else quietSsup n s)

/-- PMIC_EN falls with the outputs in their sleep action: the H-die outside the island loses power, the link is DOWN without
its hold timer, and DRAM loses its contents (R345, R353). -/
def deepDrop (s : State) : State :=
  let s := sleepOutputs s
  let s := (s.put F.SPINE_STAT_STATE 0 0).put F.SPINE_STAT_HOLDING 0 0
  let s := { s with fab := { s.fab with holding := false, hdieReset := true, released := false, restart := true }, late := [],
                    kn := { s.kn with intended := true },
                    boot := { s.boot with step := 0, pgood := false } }
  let s := beatState { s.clearBlock idsTIME with time := TimeSt.init }
  let s := { s with pm := { s.pm with
      phase := 2, en := false, fw := 0, bootWait := false,
      kept := (List.range 72).filter (fun ch => kept s ch && (chSt s ch).gate) } }
  (((s.memKeep (· < 0x400000000)).put F.PM_STAT_MODE 0 modeDeep).put F.PM_STAT_PENDING 0 0).emit (.pin 5 0 0)

/-- PMIC_EN_DROP (R352 steps 3 and 4). -/
def execPmicEnDrop (s : State) : Res :=
  .next (if s.pm.phase = 1 then { deepDrop s with boot := { (deepDrop s).boot with wakeOk := true } } else s)

/-! ### Wake events (R354 to R356) -/

/-- WAKE_LINE (R355): a line is qualified at a level; its trigger decides. -/
def execWakeLine (n : Fin 8) (level : Bool) (ticks : Nat) (s : State) : Res :=
  let old := s.get F.GONG_WLSTAT_LEVEL 0
  let c := lineCond s n (bitOf old n) level
  let s := s.put F.GONG_WLSTAT_LEVEL 0 (withBits old n n (b2n level))
  .next (if c then wakeEvent 1 n ticks s else s)

/-- KEEP_TRIP (R353): a kept channel's comparator turns its gate off. -/
def execKeepTrip (ch : Fin 72) (ticks : Nat) (s : State) : Res :=
  .next (if s.pm.phase = 2 ∧ pmMode s = modeDeep ∧ s.pm.kept.contains ch.val then
    let s := s.setCh ch ((chSt s ch).put F.PWR_STATE_GATE_ON 0)
    wakeEvent 6 ch ticks
      { s with pm := { s.pm with kept := s.pm.kept.filter (· != ch.val), trips := s.pm.trips ++ [ch.val] } }
  else s)

/-- One poll of a wake input (R198): its sample against the retained thresholds, and the count of polls that differ. -/
def mfiPolled (ticks : Nat) (x : Nat × Nat) (s : State) : State :=
  let i := x.1
  match s.pm.mfiWake.find? (fun e => e.1 == i) with
  | none => s
  | some (_, cfg, th) =>
    let was := tget false s.pm.mfiLatch i
    let now := hysteresis th (mfiSt s i).samp x.2
    let s := s.setMfi i { mfiSt s i with samp := now }
    let edge := bitsOf cfg 12 11
    let d := if edge = 3 then s.draw else (0, s)
    let s := d.2
    let dir := if edge = 0 then true else if edge = 1 then now else if edge = 2 then !now else Config.freeBool 36 d.1
    let n := if now != was && dir then tget 0 s.pm.mfiRun i + 1 else 0
    let s := { s with pm := { s.pm with mfiRun := tset 0 s.pm.mfiRun i n } }
    if bitsOf s.pm.mfiPoll 28 27 + 1 ≤ n then wakeEvent 2 i ticks s else s

/-- GONG_MFI_POLL (R198): one sample of each polled input, as input and RAW. -/
def execGongMfiPoll (samples : List (Nat × Nat)) (ticks : Nat) (s : State) : Res :=
  .next (if pmMode s = modeSleep ∨ pmMode s = modeDeep then s.each samples (mfiPolled ticks) else s)

/-- WAKE_TIMER (R356): the timer expires after CNT × 2^PRE ticks. -/
def execWakeTimer (s : State) : Res :=
  .next (wakeEvent 5 0 (s.get F.GONG_TIMER_CNT_CNT 0 * 2 ^ s.get F.GONG_TIMER_CFG_PRE 0) s)

/-- GONG_LRC_CAL (R356): LRC32 cycles of the last 100 ms, while CLKIN is qualified. -/
def execGongLrcCal (count : Nat) (s : State) : Res :=
  .next (if s.flag F.CLK_STAT_QUAL 0 then s.put F.GONG_LRC_CAL_CNT 0 count else s)

/-! ### Boot supervision and false wakes (R358, R359) -/

/-- A write of GONG_CTRL: BOOT_DONE clears FAIL_RUN, STAY stops the false-wake timer. -/
def gongCtrl (v : Word) (s : State) : State :=
  let s := if v.getLsbD 30 then { s.put F.GONG_BOOT_FAIL_RUN 0 0 with pm := { s.pm with bootWait := false } } else s
  if v.getLsbD 31 then { s with pm := { s.pm with fw := 0 } } else s

/-- BOOT_DONE (R358). -/
def execBootDone (init : Init) (value : Word) (s : State) : Res :=
  .next (pmWrite init (R.GONG_CTRL.addr 0) (gongCtrl value) s)

/-- STAY (R359). -/
def execStay (init : Init) (value : Word) (s : State) : Res :=
  .next (pmWrite init (R.GONG_CTRL.addr 0) (gongCtrl value) s)

/-- A failed boot after a wake is counted; the third in a row starts the lockout (R358). -/
def wakeBootFail (s : State) : State :=
  let s := { s with pm := { s.pm with bootFails := s.pm.bootFails + 1 } }
  let s := (s.incSat F.GONG_CNT_CNT 2).incSat F.GONG_BOOT_FAIL_RUN 0
  if 3 ≤ s.get F.GONG_BOOT_FAIL_RUN 0 then
    { s.incSat F.GONG_CNT_CNT 5 with pm := { s.pm with lockout := true, lockouts := s.pm.lockouts + 1 } }
  else s

/-- The transceivers of CAN_MASK sleep on and the others are off (R358). -/
def trxSleepOn (s : State) : State :=
  s.each (List.range 16) (fun n s =>
    s.put F.CAN_TRX_STAT_MODE_ACT n (if bitOf (s.get F.GONG_CFG_CAN_MASK 0) n then 4 else 0))

/-- The wake whose boot has failed is over. -/
def wakeOver (s : State) : State :=
  { s with boot := { s.boot with wakeOk := false }, pm := { s.pm with caused := false, irqWait := false } }

/-- BOOT_TIMEOUT (R358): PMIC_EN falls again and the retained configuration sleeps on; the third failure in a row starts the
lockout. -/
def execBootTimeout (s : State) : Res :=
  .next (if s.pm.bootWait ∧ ¬ s.boot.romWait then trxSleepOn (wakeBootFail (wakeOver (deepDrop s))) else s)

/-- WAKE_LOCKOUT_END (R358). -/
def execWakeLockoutEnd (s : State) : Res :=
  .next (if s.pm.lockout then { s.put F.GONG_BOOT_FAIL_RUN 0 0 with pm := { s.pm with lockout := false } } else s)

/-- FALSE_WAKE (R359): the timer expires; FS16 and interrupt 530, and GRACE begins. -/
def execFalseWake (s : State) : Res :=
  .next (if s.pm.fw = 1 then
    (pmFault 16 (s.get F.GONG_CNT_CNT 1) { s with pm := { s.pm with fw := 2 } }).raiseIrq 530
  else s)

/-- The forced return of R359: the entry of R350 without its checks; a pending request completes with RESULT 4. -/
def forcedReturn (outst : List Req) (s : State) : State :=
  let deep := s.pm.wokeFrom == modeDeep
  let s := { s.incSat F.GONG_CNT_CNT 1 with pm := { s.pm with fw := 0, phase := 0 } }
  if s.flag F.PM_STAT_PENDING 0 then
    let s := pmAbort s
    let s := (if pmMode s = modeSleep then s else sleepSteps outst s).raiseIrq 528
    if deep then armWake s else s
  else sleepEnter deep outst s

/-- GRACE_END (R359). -/
def execGraceEnd (outst : List Req) (s : State) : Res := .next (if s.pm.fw = 2 then forcedReturn outst s else s)

end Sys2Proof.Machine
end

