-- ==== Sys2Proof/Machine/ObjBase.lean ====
section
/-!
DEFINITION. What a dictionary object is (R66 to R72) and how one is laid out over register fields. A value is the number
that its octets spell, little-endian.
-/

namespace Sys2Proof.Machine

/-- Access of an object (R68). -/
inductive ObjAcc where
  | ro | wo | rw | rwb | rwm
  deriving DecidableEq, Repr

/-- The resource of an object for R72: none named by its chapter, the device, or an entry of Table 16-1 (class and index). -/
inductive ObjRes where
  | free
  | device
  | of (cls idx : Nat)
  | ve (n : Nat)
  deriving DecidableEq, Repr

/-- A family of objects: the number of the first, the dimensions of the family outermost first, the type code of Table 3-2,
octets, access, rights mask (R71), IMMEDIATE or not, and its meaning by index in the family. -/
structure ObjDef where
  base : Nat
  dims : List (Nat × Nat)
  ty : Nat
  len : Nat
  acc : ObjAcc
  rights : Nat
  imm : Bool
  res : Nat → ObjRes
  read : State → Nat → Nat
  /-- What was last written to it, without the bits that the hardware shows beside it. -/
  held : State → Nat → Nat
  /-- The Default of Table 3-12 and its like. -/
  dflt : Nat → Nat
  /-- A value takes effect. -/
  put : Nat → Nat → State → State
  /-- The value is within the object's range. -/
  ok : State → Nat → Nat → Bool

/-- Type codes of Table 3-2. -/
def tBool : Nat := 0x01
def tU8 : Nat := 0x02
def tU16 : Nat := 0x03
def tU32 : Nat := 0x04
def tU64 : Nat := 0x05
def tS16 : Nat := 0x06
def tS32 : Nat := 0x07
def tChime : Nat := 0x09
def tTwin : Nat := 0x0A
def tTime : Nat := 0x0B
def tEnum : Nat := 0x0C
def tBits : Nat := 0x0D
def tOct : Nat := 0x0E

/-- Octets of a type; OCT[n] states its own. -/
def tyLen (t : Nat) : Nat :=
  match t with
  | 0x01 => 1 | 0x02 => 1 | 0x03 => 2 | 0x04 => 4 | 0x05 => 8 | 0x06 => 2 | 0x07 => 4 | 0x08 => 8
  | 0x09 => 2 | 0x0A => 4 | 0x0B => 12 | 0x0C => 1 | 0x0D => 4 | _ => 0

/-- Roles of R71 as bits of a rights mask. -/
def roOwner : Nat := 1
def roManager : Nat := 2
def roPartition : Nat := 4
def roService : Nat := 8
def roBelfry : Nat := 16

/-- Rights columns. -/
def rAll : Nat := 31
def rO : Nat := 1
def rOM : Nat := 3
def rOMP : Nat := 7
def rOS : Nat := 9
def rOMS : Nat := 11
def rOB : Nat := 17

/-- A family of objects that are values of the dictionary engine's own, with a Default. -/
def objV (base : Nat) (dims : List (Nat × Nat)) (ty len : Nat) (acc : ObjAcc) (rights : Nat) (res : Nat → ObjRes) (d : Nat) :
    ObjDef :=
  { base := base, dims := dims, ty := ty, len := len, acc := acc, rights := rights, imm := false, res := res,
    read := fun s i => tget d s.dict.vals (base + dimOffset dims.reverse i),
    held := fun s i => tget d s.dict.vals (base + dimOffset dims.reverse i), dflt := fun _ => d,
    put := fun i v s => { s with dict := { s.dict with vals := tset d s.dict.vals (base + dimOffset dims.reverse i) v } },
    ok := fun _ _ _ => true }

/-- A family of RO objects. -/
def objR (base : Nat) (dims : List (Nat × Nat)) (ty len rights : Nat) (res : Nat → ObjRes) (read : State → Nat → Nat) : ObjDef :=
  { base := base, dims := dims, ty := ty, len := len, acc := .ro, rights := rights, imm := true, res := res, read := read,
    held := read, dflt := fun _ => 0, put := fun _ _ s => s, ok := fun _ _ _ => true }

/-- A family of RO objects that show one field each. -/
def objF (base : Nat) (dims : List (Nat × Nat)) (ty rights : Nat) (res : Nat → ObjRes) (f : Fld) : ObjDef :=
  objR base dims ty (tyLen ty) rights res (fun s i => s.get f i)

/-- A field at a bit position of an object's value; `ix` tells the field's index for an object's. -/
structure Part where
  pos : Nat
  fld : Fld
  ix : Nat → Nat

/-- The greatest value of a part. -/
def Part.top (p : Part) : Nat := p.fld.top

/-- The value that parts spell, over the words a function gives. -/
def layRead (l : List Part) (rd : Reg → Nat → Word) (i : Nat) : Nat :=
  l.foldl (fun a p => a + getBits (rd p.fld.reg (p.ix i)) p.fld.hi p.fld.lo * 2 ^ p.pos) 0

/-- Parts written from a value. -/
def layPut (l : List Part) (i v : Nat) (s : State) : State :=
  s.each l (fun p s => s.put p.fld (p.ix i) (v / 2 ^ p.pos % (p.top + 1)))

/-- The bits of a value that parts define. -/
def layMask (l : List Part) : Nat := l.foldl (fun a p => a + p.top * 2 ^ p.pos) 0

/-- A family of objects laid out over register fields; its Default is what the fields hold after reset. -/
def objL (base : Nat) (dims : List (Nat × Nat)) (ty len : Nat) (acc : ObjAcc) (rights : Nat) (res : Nat → ObjRes)
    (l : List Part) : ObjDef :=
  { base := base, dims := dims, ty := ty, len := len, acc := acc, rights := rights, imm := false, res := res,
    read := fun s i => layRead l s.rd i, held := fun s i => layRead l s.rd i, dflt := fun i => layRead l Reg.reset i, put := layPut l,
    ok := fun _ _ v => v &&& layMask l == v }

/-- One field at bit 0. -/
def p0 (f : Fld) : List Part := [⟨0, f, id⟩]

/-- The same value with a range beside its layout. -/
def ObjDef.range (o : ObjDef) (p : Nat → Bool) : ObjDef := { o with ok := fun s i v => o.ok s i v && p v }

/-- Another range. -/
def ObjDef.checks (o : ObjDef) (f : State → Nat → Nat → Bool) : ObjDef := { o with ok := f }

/-- Another way to read the value. -/
def ObjDef.reads (o : ObjDef) (f : State → Nat → Nat) : ObjDef := { o with read := f, held := f }

/-- An effect after the value has been put. -/
def ObjDef.after (o : ObjDef) (f : Nat → State → State) : ObjDef := { o with put := fun i v s => f i (o.put i v s) }

/-- Another way to put the value. -/
def ObjDef.by (o : ObjDef) (f : Nat → Nat → State → State) : ObjDef := { o with put := f }

/-- IMMEDIATE. -/
def ObjDef.now (o : ObjDef) : ObjDef := { o with imm := true }

/-- A Default of its own. -/
def ObjDef.default (o : ObjDef) (d : Nat → Nat) : ObjDef := { o with dflt := d }

/-- A value of lo to hi. -/
def within (lo hi v : Nat) : Bool := decide (lo ≤ v) && decide (v ≤ hi)

/-- The fields of a register that software may write and that hold what is written. -/
def Reg.plain (r : Reg) : List FieldDef := r.fields.filter (fun f => f.acc == .rw || f.acc == .rwl || f.acc == .rws)

/-- A whole register word at a bit position. -/
def wordParts (pos : Nat) (r : Reg) (ix : Nat → Nat) : List Part := r.plain.map (fun f => ⟨pos + f.lo, ⟨r, f.hi, f.lo⟩, ix⟩)

/-- `n` consecutive words of a family as one value; object i starts at word n × i. -/
def wordsParts (r : Reg) (n : Nat) : List Part :=
  (List.range n).flatMap (fun w => wordParts (32 * w) r (fun i => n * i + w))

/-- One field of each of `n` resources as one bit set. -/
def bitParts (f : Fld) (n : Nat) : List Part := (List.range n).map (fun p => ⟨p, f, fun _ => p⟩)

/-- A register word as an RO value. -/
def rdNat (r : Reg) (s : State) (i : Nat) : Nat := (s.rd r i).toNat

/-- `n` register words as an RO value. -/
def rdWords (r : Reg) (n : Nat) (s : State) (i : Nat) : Nat :=
  (List.range n).foldl (fun a w => a + (s.rd r (n * i + w)).toNat * 2 ^ (32 * w)) 0

/-- Resource functions. -/
def resFree : Nat → ObjRes := fun _ => .free
def resDevice : Nat → ObjRes := fun _ => .device
def resSlot (n : Nat) : Nat → ObjRes := fun _ => .of 0 n

end Sys2Proof.Machine
end

