-- ==== Sys2Proof/Machine/ObjA.lean ====
section
/-!
DEFINITION. The objects of chapters 1 to 7 (Tables 1-17, 3-12, 4-9, 5-12, 6-6 and 7-9).
-/

namespace Sys2Proof.Machine

/-- SPINE_HOLD waits for the first commit after the base image (R45). -/
def putSpineHold (_ v : Nat) (s : State) : State :=
  if s.flag F.DICT_STAT_READY 0 then s.put F.SPINE_CTRL_HOLD 0 v
  else { s with dict := { s.dict with hold := some v } }

/-- Fabric objects (Table 1-17). -/
def objs01 : List ObjDef :=
  [(objL 0x010040 [] tU8 1 .rwb rO resFree (p0 F.SPINE_CTRL_HOLD)).by putSpineHold,
   objF 0x7F0100 [] tU32 rOMS resFree F.LATE_ERR_OVF_OVF_CNT,
   objF 0x7F0101 [] tU16 rOMS resFree F.SPINE_ERR_REPLAY_CNT,
   objF 0x7F0102 [] tU16 rOMS resFree F.SPINE_ERR_RETRAIN_CNT,
   objF 0x7F0103 [] tU16 rOMS resFree F.SPINE_STAT_LINKUP_CNT,
   objF 0x7F0104 [] tBool rOMS resFree F.FABRIC_AUDIT_STAT_MISMATCH]

/-- A session descriptor (R103): a role, a partition, a key slot handle, transports, a peer slot, and three octets of 0. -/
def sessDescOk (v : Nat) : Bool :=
  octet v 0 ≤ 3 && octet v 1 ≤ 15 && octet v 3 ≤ 3 && octet v 4 ≤ 15 && v / 2 ^ 40 == 0

/-- Dictionary objects (Table 3-12). -/
def objs03 : List ObjDef :=
  [objR 0x000001 [] tU32 4 rAll resFree (fun _ _ => 0x09400B01),
   objR 0x000002 [] tEnum 1 rAll resFree (fun _ _ => 0xB1),
   objR 0x000010 [] tOct 16 rAll resFree (fun s _ => leNat s.dict.nonce),
   objR 0x000011 [] tOct 48 rAll resFree (fun s _ => leNat s.dict.baseHash),
   objR 0x000012 [] tU32 4 rAll resFree (fun s _ => s.dict.baseSec),
   objF 0x000013 [] tEnum rAll resFree F.DICT_SLOT_ACTIVE,
   objF 0x010001 [] tEnum rAll resFree F.DICT_MODE_MODE,
   objF 0x010002 [] tEnum rAll resFree F.DICT_MODE_PEND_MODE,
   objV 0x010010 [] tBool 1 .rwb rO resFree 1,
   objV 0x010011 [] tBool 1 .rwb rO resFree 1,
   (objV 0x010012 [] tU8 1 .rwb rO resFree 15).range (within 0 15),
   (objV 0x010020 [] tU16 2 .rwm rOM resFree 4).range (within 1 65535),
   (objV 0x700100 [(64, 1)] tOct 8 .rwb rOB resFree 0).range sessDescOk,
   objF 0x7F0110 [] tU32 rOMS resFree F.DICT_CNT_AUTH_AUTH,
   objF 0x7F0111 [] tU32 rOMS resFree F.DICT_CNT_REPLAY_REPLAY,
   objF 0x7F0112 [] tU32 rOMS resFree F.DICT_CNT_DROP_DROP,
   objR 0x7F0113 [] tU32 4 rOMS resFree (fun s _ => s.dict.changes % 2 ^ 32)]

/-- An initiator listed in Table 1-3, or none. -/
def producerOk (v : Nat) : Bool :=
  v == 0x7FF || v < 8 || v == 0x10 || v == 0x11 || within 0x20 0x2F v || within 0x30 0x35 v || within 0x400 0x7FE v

/-- A written selection starts its library load at once (R126). -/
def putSel (n v : Nat) (s : State) : State :=
  followSel n (s.updEng n (fun e => { e with sel := v }))

/-- Octets of a library chunk put into a table; the strokes before it that no chunk gives are END. -/
def putLib (i v : Nat) (s : State) : State :=
  let t := i / 32
  let l := tget [] s.tab.lib t
  let c := i % 32
  let head := l.take (128 * c) ++ List.replicate (128 * c - l.length) 0
  let mid := (List.range 128).map (fun k => v / 2 ^ (64 * k) % 2 ^ 64)
  { s with tab := { s.tab with lib := tset [] s.tab.lib t (head ++ mid ++ l.drop (128 * c + 128)) } }

/-- A library chunk read. -/
def readLib (s : State) (i : Nat) : Nat :=
  ((tget [] s.tab.lib (i / 32)).drop (128 * (i % 32))).take 128 |>.zipIdx.foldl (fun a e => a + e.1 * 2 ^ (64 * e.2)) 0

/-- Beat and Tabla objects (Table 4-9). -/
def objs04 : List ObjDef :=
  [(objL 0x380100 [] tU32 4 .rwb rO (resSlot 0x005) (p0 F.BEAT_PERIOD_PERIOD)).range (within 25000 2000000),
   objL 0x380101 [] tU32 4 .rwb rO (resSlot 0x005) (p0 F.BEAT_PHASE_PHASE),
   objL 0x380102 [] tU16 2 .rwb rO (resSlot 0x005) (p0 F.BEAT_BIST_LEN_LEN),
   objL 0x380103 [] tU32 4 .rwb rO (resSlot 0x005) (p0 F.BEAT_BIST_OFS_OFS),
   objR 0x380104 [] tU64 8 rAll (resSlot 0x005) (fun s _ => s.beat),
   objR 0x380105 [] tU64 8 rAll (resSlot 0x005) (fun s _ => s.get64 R.BEAT_NBI_LO R.BEAT_NBI_HI 0),
   objF 0x380106 [] tEnum rAll (resSlot 0x005) F.BEAT_STAT_STATE,
   ({ (objV 0x380110 [(16, 1)] tU8 1 .rwm rOMP (fun i => .of 1 i) 0xFF).reads (fun s n => (engSt s n).sel) with
      ok := fun s n v => v == 0xFF || (decide (v < 64) && libValid s v n) }).now.by putSel,
   (objL 0x380200 [(512, 1)] tU16 2 .rwb rO (resSlot 0x005) (p0 F.BEAT_SLOT_PROD_PROD)).range producerOk,
   ((objV 0x384000 [(64, 0x20), (32, 1)] tOct 1024 .rwb rO (resSlot 0x005) 0).reads readLib).by putLib,
   objF 0x7F0120 [] tU32 rOMS (resSlot 0x005) F.BEAT_CUTS_CUTS,
   objF 0x7F0130 [(16, 1)] tU32 rOMS (fun i => .of 1 i) F.TABLA_SKIP_SKIP]

/-! ### Channels (Table 5-12) -/

/-- The 72 channels, 0x100 objects apart. -/
def chDims : List (Nat × Nat) := [(72, 0x100)]
def resCh (i : Nat) : ObjRes := .of 2 i

/-- An RWB object of a channel. -/
def chB (ii ty : Nat) (f : Fld) : ObjDef := objL (0x100000 + ii) chDims ty (tyLen ty) .rwb rO resCh (p0 f)
/-- An RWM object of a channel. -/
def chM (ii ty : Nat) (f : Fld) : ObjDef := objL (0x100000 + ii) chDims ty (tyLen ty) .rwm rOMP resCh (p0 f)
/-- An RO object of a channel. -/
def chR (ii ty : Nat) (read : State → Nat → Nat) : ObjDef := objR (0x100000 + ii) chDims ty (tyLen ty) rAll resCh read

/-- The producers a channel's slots admit (R139): none, the dictionary engine, or an initiator of its partition. -/
def chProdOk (s : State) (ch v : Nat) : Bool :=
  v == 0x7FF || v == 0x31 || (producerOk v && v != 0x30 && v != 0x32 && partOf s v == asgOf s 2 ch)

/-- Channel objects (Table 5-12). -/
def objs05 : List ObjDef :=
  [chR 0x00 tU32 (rdNat R.PWR_STATE),
   chB 0x01 tU8 F.PWR_CH_CFG_CLASS,
   (chB 0x02 tU16 F.PWR_CH_CFG_R_EQ).range (within 100 65535),
   chB 0x03 tEnum F.PWR_CH_CFG_SENSE_MODE,
   (chB 0x04 tU8 F.PWR_CH_CFG_AMB_SEL).range (fun v => v ≤ 8 || v == 15),
   (chB 0x05 tEnum F.PWR_CH_CFG_SAFE_ACTION).range (within 0 2),
   chB 0x06 tU8 F.PWR_CH_CFG_KNELL_GRP,
   chB 0x07 tBool F.PWR_CH_CFG_PRE_EN,
   (chB 0x08 tU16 F.PWR_CH_PROD_CMD_PROD).checks chProdOk,
   chB 0x09 tU8 F.PWR_CH_PROD_CMD_HOLD,
   (chB 0x0A tU16 F.PWR_CH_PROD_LIM_PROD).checks chProdOk,
   chB 0x0B tU8 F.PWR_CH_PROD_LIM_HOLD,
   chM 0x10 tBool F.PWR_POLICY_MODE_EN,
   chM 0x11 tU8 F.PWR_POLICY_TIER,
   chM 0x12 tChime F.PWR_POLICY_TRIP_I,
   chM 0x13 tChime F.PWR_POLICY_SHORT_I,
   chM 0x14 tChime F.PWR_PROT_SHORT_VDS,
   chM 0x15 tU8 F.PWR_RETRY_RETRY_MAX,
   chM 0x16 tU16 F.PWR_RETRY_RETRY_CLR,
   (chM 0x17 tU16 F.PWR_TAU_TAU_TRIM).range (within 1 511),
   objL 0x100018 chDims tU8 1 .rwm rOMP resCh [⟨0, F.PWR_GATE_ON_SLEW, id⟩, ⟨4, F.PWR_GATE_OFF_SLEW, id⟩],
   chM 0x19 tU8 F.PWR_PRE_PRE_SLOPE,
   chM 0x1A tU8 F.PWR_PRE_PRE_TMAX,
   chM 0x1B tChime F.PWR_PRE_PRE_I,
   chM 0x1C tChime F.PWR_DIAG_OL_ON_I,
   chM 0x1D tBool F.PWR_DIAG_OL_OFF_EN,
   chM 0x1E tChime F.PWR_DIAG_OL_OFF_V,
   chM 0x1F tU8 F.PWR_DIAG_OL_BEATS,
   chM 0x20 tChime F.PWR_FETF_FETF_VDS,
   chM 0x21 tChime F.PWR_FETF_FETF_I,
   chM 0x22 tU8 F.PWR_PROT_VDS_BLANK,
   chM 0x23 tEnum F.PWR_PROT_FILT,
   ObjDef.by { objR 0x100030 chDims tTwin 4 rOMP resCh (fun s i => (slotSt s (0x100 + i)).visible) with
     acc := .rw
     imm := false
     dflt := fun _ => 0xFFFF0000
     ok := fun _ _ v => v < 1024 } (fun i v s => s.publish (0x100 + i) v),
   chR 0x31 tChime (fun s i => s.get F.PWR_I_CHIME i),
   chR 0x32 tChime (fun s i => s.get F.PWR_VOUT_CHIME i),
   chR 0x33 tChime (fun s i => s.get F.PWR_MODEL_I_TH i),
   chR 0x34 tU64 (fun s i => s.get64 R.PWR_Q_LO R.PWR_Q_HI i),
   objR 0x100035 chDims tOct 16 rAll resCh (fun s i =>
     rdNat R.PWR_TRIP_REC0 s i + rdNat R.PWR_TRIP_REC1 s i * 2 ^ 32 + rdNat R.PWR_TRIP_REC2 s i * 2 ^ 64 +
     rdNat R.PWR_TRIP_REC3 s i * 2 ^ 96),
   chR 0x36 tChime (fun s i => s.get F.PWR_EFF_LVL i),
   objF 0x7F2000 [(72, 0x10), (6, 1)] tU32 rOMS (fun i => .of 2 (i / 6)) F.PWR_CNT_CNT]

/-! ### Feeds (Table 6-6) -/

/-- The feeds are divided among partitions by the slot of their block. -/
def resFeed : Nat → ObjRes := resSlot 0x009
def feedB (ii ty : Nat) (f : Fld) : ObjDef := objL (0x110000 + ii) [(2, 0x100)] ty (tyLen ty) .rwb rO resFeed (p0 f)
def feedM (ii ty : Nat) (f : Fld) : ObjDef := objL (0x110000 + ii) [(2, 0x100)] ty (tyLen ty) .rwm rOM resFeed (p0 f)
def feedR (ii ty : Nat) (read : State → Nat → Nat) : ObjDef := objR (0x110000 + ii) [(2, 0x100)] ty (tyLen ty) rAll resFeed read

/-- Feed objects (Table 6-6). -/
def objs06 : List ObjDef :=
  [feedR 0x00 tU32 (rdNat R.FEED_STAT),
   (feedB 0x01 tU16 F.FEED_CFG_R_EQ).range (within 50 65535),
   feedB 0x02 tBool F.FEED_CFG_KN_EN,
   feedB 0x03 tU8 F.FEED_CFG_KN_GRP,
   (feedB 0x04 tU8 F.FEED_CFG_KN_TIER).range (within 1 7),
   feedM 0x10 tChime F.FEED_BUDGET_BUDGET,
   feedM 0x11 tChime F.FEED_BUDGET_HYST,
   feedM 0x12 tBool F.FEED_FAST_EN,
   feedM 0x13 tChime F.FEED_FAST_FAST_I,
   (feedM 0x14 tU8 F.FEED_FAST_CNT).range (within 1 15),
   (feedM 0x15 tU8 F.FEED_FAST_TIER).range (within 1 7),
   feedM 0x16 tU16 F.FEED_RESTORE_MIN_OFF,
   feedM 0x17 tBool F.FEED_LEDGER_EN,
   feedM 0x18 tChime F.FEED_LEDGER_LIMIT,
   (feedM 0x19 tU8 F.FEED_LEDGER_PERSIST).range (within 1 255),
   feedM 0x1A tChime F.FEED_QUIESC_QUIESC_I,
   feedR 0x30 tChime (fun s i => s.get F.FEED_I_CHIME i),
   feedR 0x31 tChime (fun s i => s.get F.FEED_V_CHIME i),
   feedR 0x32 tChime (fun s i => s.get F.FEED_AVG_AVG i),
   feedR 0x33 tS32 (fun s i => ofSigned 32 (feedSt s i).imb),
   feedR 0x34 tU64 (fun s i => s.get64 R.FEED_QF_LO R.FEED_QF_HI i),
   feedR 0x35 tU64 (fun s i => s.get64 R.FEED_QR_LO R.FEED_QR_HI i),
   feedR 0x36 tU8 (fun s i => s.get F.FEED_STAT_SHED_LVL i),
   objR 0x110037 [(2, 0x100)] tOct 24 rAll resFeed (fun s i =>
     rdWords R.FEED_MAP_BUD 2 s i + rdWords R.FEED_MAP_KN 2 s i * 2 ^ 64 + rdWords R.FEED_MAP_MODE 2 s i * 2 ^ 128),
   objF 0x7F2500 [(2, 0x10), (6, 1)] tU32 rOMS resFeed F.FEED_CNT_CNT]

/-! ### Inputs and outputs (Table 7-9) -/

def resMfi (i : Nat) : ObjRes := .of 6 i
def resRai (i : Nat) : ObjRes := .of 7 i
def resTemp (i : Nat) : ObjRes := .of 8 i
def resLso (i : Nat) : ObjRes := .of 9 i
def resBr (i : Nat) : ObjRes := .of 10 i
def resSsup (i : Nat) : ObjRes := .of 11 i
def resSent (i : Nat) : ObjRes := .of 12 i

def mfiDims : List (Nat × Nat) := [(96, 0x100)]
def lsoDims : List (Nat × Nat) := [(32, 0x100)]
def brDims : List (Nat × Nat) := [(6, 0x100)]
def ssupDims : List (Nat × Nat) := [(8, 0x100)]

/-- Inputs. -/
def objs07in : List ObjDef :=
  [(objL 0x200000 mfiDims tEnum 1 .rwb rO resMfi (p0 F.IOX_MFI_CFG_MODE)).by
     (fun i v s => mfiCfgAfter i (s.get F.IOX_MFI_CFG_MODE i) (s.put F.IOX_MFI_CFG_MODE i v)),
   objL 0x200001 mfiDims tU8 1 .rwm rOMP resMfi
     [⟨0, F.IOX_MFI_CFG_WET, id⟩, ⟨3, F.IOX_MFI_CFG_PULL, id⟩, ⟨4, F.IOX_MFI_CFG_BOOST_MS, id⟩],
   objL 0x200002 mfiDims tChime 2 .rwm rOMP resMfi (p0 F.IOX_MFI_TH_TH_RISE),
   objL 0x200003 mfiDims tChime 2 .rwm rOMP resMfi (p0 F.IOX_MFI_TH_TH_FALL),
   objL 0x200004 mfiDims tU8 1 .rwm rOMP resMfi (p0 F.IOX_MFI_CFG_DEB),
   objL 0x200005 mfiDims tU8 1 .rwb rO resMfi [⟨0, F.IOX_MFI_CFG_WAKE_EN, id⟩, ⟨1, F.IOX_MFI_CFG_WAKE_EDGE, id⟩],
   objR 0x200010 mfiDims tBool 1 rAll resMfi (fun s i => b2n ((s.rd R.IOX_MFI_DIG (i / 32)).getLsbD (i % 32))),
   objF 0x200011 mfiDims tChime rAll resMfi F.IOX_MFI_AN_CHIME,
   (objL 0x206000 [(16, 0x100)] tU8 1 .rwb rO resRai (p0 F.IOX_RAI_CFG_REF)).after raiCfgAfter,
   objF 0x206010 [(16, 0x100)] tChime rAll resRai F.IOX_RAI_V_CHIME,
   objF 0x206011 [(16, 0x100)] tU16 rAll resRai F.IOX_RAI_V_RAW,
   (objL 0x207000 ssupDims tU16 2 .rwb rO resTemp [⟨0, F.IOX_TEMP_CFG_SRC_IDX, id⟩, ⟨14, F.IOX_TEMP_CFG_SRC_KIND, id⟩]).after
     tempAfter,
   (objL 0x207001 ssupDims tOct 64 .rwb rO resTemp (wordsParts R.IOX_TEMP_PT 16)).after tempAfter,
   objR 0x207010 ssupDims tS16 2 rAll resTemp (fun s i => ofSigned 16 (toSigned 12 (s.get F.IOX_TEMP_T i))),
   (objL 0x208000 ssupDims tU32 4 .rwb rO resSent (wordParts 0 R.SENT_CFG id)).by
     (fun i v s => sentCfgWrite i (BitVec.ofNat 32 v) s),
   objR 0x208010 [(8, 0x100), (2, 1)] tU16 2 rAll (fun i => .of 12 (i / 2)) (fun s i => s.get F.SENT_FC_DATA i),
   objR 0x208012 ssupDims tU32 4 rAll resSent (rdNat R.SENT_SLOW),
   objL 0x20FF00 [] tU8 1 .rwb rO (resSlot 0x00C) [⟨0, F.IOX_MFI_WAKECFG_POLL, id⟩, ⟨3, F.IOX_MFI_WAKECFG_WDEB, id⟩]]

/-- Outputs. -/
def objs07out : List ObjDef :=
  [(objL 0x210000 lsoDims tU8 1 .rwb rO resLso (p0 F.IOX_LSO_CFG_DRV)).range drvValid,
   ((objL 0x210001 lsoDims tEnum 1 .rwb rO resLso (p0 F.IOX_LSO_CFG_SAFE_ACTION)).range (within 0 2)).after followLso,
   (objL 0x210002 lsoDims tU8 1 .rwb rO resLso (p0 F.IOX_LSO_CFG_KNELL_GRP)).after followLso,
   objL 0x210003 lsoDims tChime 2 .rwm rOMP resLso (p0 F.IOX_LSO_CFG_OL_ON_I),
   ((objL 0x210010 lsoDims tU16 2 .rw rOMP resLso (p0 F.IOX_LSO_DUTY_DUTY)).by driveLso).now,
   ((objL 0x21FF00 [(4, 0x10)] tU16 2 .rwm rOM (resSlot 0x00C) (p0 F.IOX_LSO_PWM_PER)).range (within 40 10000)).by
     (fun g v s => pwmAfter g (s.get F.IOX_LSO_PWM_PER g) (s.put F.IOX_LSO_PWM_PER g v)),
   (objL 0x212000 brDims tU8 1 .rwb rO resBr (p0 F.IOX_BR_CFG_DRV)).range drvValid,
   ((objL 0x212001 brDims tEnum 1 .rwb rO resBr (p0 F.IOX_BR_CFG_SAFE_ACTION)).range (within 0 2)).after followBr,
   (objL 0x212002 brDims tU8 1 .rwb rO resBr (p0 F.IOX_BR_CFG_KNELL_GRP)).after followBr,
   (objL 0x212003 brDims tU16 2 .rwb rO resBr (p0 F.IOX_BR_CFG_R_EQ)).range (within 500 65535),
   (objL 0x212004 brDims tU32 4 .rwm rOMP resBr (p0 F.IOX_BR_PWM_PER)).range (within 2500 100000),
   objL 0x212005 brDims tU8 1 .rwm rOMP resBr (p0 F.IOX_BR_PWM_DT),
   objL 0x212006 brDims tU8 1 .rwm rOMP resBr (p0 F.IOX_BR_PWM_DIR_GAP),
   objL 0x212007 brDims tChime 2 .rwm rOMP resBr (p0 F.IOX_BR_ILIM_ILIM),
   objL 0x212009 brDims tChime 2 .rwm rOMP resBr (p0 F.IOX_BR_PROT_VDS_TH),
   ((objL 0x212010 brDims tU16 2 .rw rOMP resBr [⟨0, F.IOX_BR_CMD_DUTY, id⟩, ⟨10, F.IOX_BR_CMD_MODE, id⟩]).by
     (fun b v s => driveBr b (bitsOf v 11 10) (bitsOf v 9 0) s)).now,
   objR 0x212011 brDims tU32 4 rAll resBr (rdNat R.IOX_BR_STAT),
   objF 0x212012 brDims tChime rAll resBr F.IOX_BR_I_CHIME,
   (objL 0x213000 ssupDims tU8 1 .rwb rO resSsup (p0 F.IOX_SSUP_CTRL_DRV)).range drvValid,
   ((objL 0x213001 ssupDims tEnum 1 .rwb rO resSsup (p0 F.IOX_SSUP_CTRL_SAFE_ACTION)).range (within 0 2)).after followSsup,
   (objL 0x213002 ssupDims tU8 1 .rwb rO resSsup (p0 F.IOX_SSUP_CTRL_KNELL_GRP)).after followSsup,
   ((objL 0x213010 ssupDims tBool 1 .rw rOMP resSsup (p0 F.IOX_SSUP_CTRL_EN)).by
     (fun n v s => driveSsup n (v != 0) s)).now,
   objR 0x7F2600 [(6, 2), (2, 1)] tU32 4 rOMS (fun i => .of 10 (i / 2)) (fun s i =>
     s.get (if i % 2 = 0 then F.IOX_BR_CNT_LIM_CNT else F.IOX_BR_CNT_FAULT_CNT) (i / 2))]

end Sys2Proof.Machine
end

