-- ==== Sys2Proof/Machine/ObjB.lean ====
section
/-!
DEFINITION. The objects of chapters 8 to 11 (Tables 8-8, 9-7, 10-6 and 11-11).
-/

namespace Sys2Proof.Machine

/-! ### The switch (Table 8-8) -/

def resSw : Nat → ObjRes := resSlot 0x010
def portDims : List (Nat × Nat) := [(24, 1)]

/-- HDRM follows MAX_FRAME. -/
def swHdrm (p : Nat) (s : State) : State := s.put F.SW_PORT_HDRM_HDRM p ((s.get F.SW_PORT_HDRM_MAX_FRAME p + 63) / 64)

/-- MAC, FID, port mask and flags of an FDB_STATIC entry. -/
def fsMac (v : Nat) : Nat := beNat (leOctets v 6)
def fsFid (v : Nat) : Nat := bitsOf v 63 48
def fsPorts (v : Nat) : Nat := bitsOf v 87 64
def fsValid (v : Nat) : Bool := bitOf v 88

/-- A valid entry's mask has exactly one bit for a unicast MAC (R224), and some for a group; broadcast has no entry. -/
def fsMaskOk (v : Nat) : Bool :=
  !fsValid v || (if isBcast (fsMac v) then false else if isGroup (fsMac v) then fsPorts v != 0 else oneBit (fsPorts v))

/-- A static entry inserted where its key or a free way is found. -/
def fsInsert (v : Nat) (s : State) : State :=
  let fid := fsFid v
  let mac := fsMac v
  match (match fdbFind s fid mac with | some i => some i | none => fdbFree s fid mac) with
  | some i => s.setFdb i (some ⟨fid, mac, true, false, fsPorts v, 0⟩)
  | none => s

/-- A bit of each port as one BITS32. -/
def swBits (num : Nat) (acc : ObjAcc) (rights : Nat) (f : Fld) : ObjDef :=
  objL num [] tBits 4 acc rights resSw (bitParts f 24)

/-- Switch objects (Table 8-8). -/
def objs08 : List ObjDef :=
  [objR 0x300001 [] tU32 4 rAll resSw (rdNat R.SW_STAT),
   objR 0x300002 [] tU32 4 rAll resSw (rdNat R.SW_POOL),
   objR 0x300003 [] tU32 4 rAll resSw (rdNat R.SW_SHFREE),
   swBits 0x300010 .rwb rO F.SW_PORT_CFG_EN,
   swBits 0x300011 .rwm rOM F.SW_PORT_CFG_CT_EN,
   swBits 0x300012 .rwm rOM F.SW_PORT_CFG_LEARN,
   swBits 0x300013 .rwm rOM F.SW_PORT_CFG_UNK_UC,
   swBits 0x300014 .rwm rOM F.SW_PORT_CFG_UNK_MC,
   swBits 0x300015 .rwb rO F.SW_PORT_CFG_HAIRPIN,
   ObjDef.by { objV 0x300020 [(8, 1)] tU8 1 .rwb rO resSw 4 with
     read := fun s k => s.get ⟨R.SW_ALPHA, 4 * k + 2, 4 * k⟩ 0
     held := fun s k => s.get ⟨R.SW_ALPHA, 4 * k + 2, 4 * k⟩ 0
     ok := fun _ _ v => v ≤ 7 } (fun k v s => s.put ⟨R.SW_ALPHA, 4 * k + 2, 4 * k⟩ 0 v),
   objL 0x300030 [] tU16 2 .rwm rOM resSw (p0 F.SW_FDB_CFG_AGE_S),
   objL 0x300100 [(24, 8), (8, 1)] tU32 4 .rwb rO resSw (p0 F.SW_Q_MIN_MIN),
   objL 0x300200 [(24, 8), (8, 1)] tU32 4 .rwb rO resSw (p0 F.SW_Q_LIMIT_LIMIT),
   ((objL 0x300300 portDims tU16 2 .rwb rO resSw (p0 F.SW_PORT_HDRM_MAX_FRAME)).range (within 64 9728)).after swHdrm,
   (objL 0x300320 portDims tU16 2 .rwb rO resSw (p0 F.SW_PORT_CFG_PVID)).range (within 1 4094),
   objL 0x300340 portDims tU32 4 .rwb rO resSw (wordParts 0 R.SW_PORT_PCP id),
   objL 0x300360 portDims tU8 1 .rwm rOM resSw [⟨0, F.SW_PORT_AGE_DISCARD_AGE, id⟩, ⟨1, F.SW_PORT_AGE_FLUSH_ON_DOWN, id⟩],
   objL 0x300380 portDims tU32 4 .rwm rOM resSw (p0 F.SW_PORT_AGE_AGE_LIMIT),
   objL 0x301000 [(4096, 1)] tOct 12 .rwb rO resSw
     (wordParts 0 R.SW_VLAN0 id ++ wordParts 32 R.SW_VLAN1 id ++ wordParts 64 R.SW_VLAN2 id),
   ((objV 0x302000 [(1024, 1)] tOct 12 .rwb rO resSw 0).checks (fun _ _ v => fsFid v ≤ 4095 && v < 2 ^ 89 && fsMaskOk v)).after
     (fun i s => let v := tget 0 s.dict.vals (0x302000 + i); if fsValid v then fsInsert v s else s),
   objF 0x7F3000 [(24, 0x80), (8, 0x10), (16, 1)] tU32 rOMS resSw F.SW_DROP_CNT,
   objR 0x7F3C00 [(24, 4), (3, 1)] tU32 4 rOMS resSw (fun s i =>
     (s.rd (if i % 3 = 0 then R.SW_CT_RX else if i % 3 = 1 then R.SW_CT_TX else R.SW_CT_CNT) (i / 3)).toNat)]

/-! ### Ports and shared tables (Table 9-7) -/

def epDims : List (Nat × Nat) := [(24, 0x100)]
def resPort (i : Nat) : ObjRes := .of 3 i
def resPort8 (i : Nat) : ObjRes := .of 3 (i / 8)

/-- The bits of an entry of a shared table that software writes. -/
def tblMask (t : Nat) : Nat :=
  (tblFields t).foldl (fun a f => if f.acc = .rw then a + (2 ^ (f.hi + 1 - f.lo) - 1) * 2 ^ f.lo else a) 0

/-- Entries of a shared table as objects. -/
def tblObj (base n t len : Nat) : ObjDef :=
  { objV base [(n, 1)] tOct len .rwm rOM resSw 0 with
    read := fun s i => tblGet s t i % 256 ^ len
    held := fun s i => tblGet s t i &&& tblMask t
    put := fun i v s => tblWrite t i v s
    ok := fun _ _ v => v &&& tblMask t == v && (tblValueOk t v || v == 0) }

/-- The 64 entries of a stream gate's list. -/
def gateListRead (s : State) (g : Nat) : Nat :=
  (List.range 64).foldl (fun a j => a + tblGet s 2 (64 * g + j) % 2 ^ 32 * 2 ^ (32 * j)) 0
def gateListPut (g v : Nat) (s : State) : State :=
  s.each (List.range 64) (fun j s => tblWrite 2 (64 * g + j) (v / 2 ^ (32 * j) % 2 ^ 32) s)
def gateListMask : Nat := (List.range 64).foldl (fun a j => a + tblMask 2 * 2 ^ (32 * j)) 0

/-- GCL_CTRL: EP_GCL_CTRL without CHANGE. -/
def gclParts : List Part := [⟨31, F.EP_GCL_CTRL_EN, id⟩, ⟨30, F.EP_GCL_CTRL_BEAT_LOCK, id⟩,
  ⟨8, F.EP_GCL_CTRL_ADMIN_LEN, id⟩, ⟨0, F.EP_GCL_CTRL_CYCLE_BEATS, id⟩]

/-- POLICER: EP_POL_RATE and EP_POL_BURST. -/
def polParts : List Part := wordParts 0 R.EP_POL_RATE id ++ wordParts 32 R.EP_POL_BURST id

/-- A value of POLICER put into EP_POL_RATE and EP_POL_BURST: the bucket is settled at the rate in force until now (R268). -/
def polPut (i v : Nat) (s : State) : State := layPut polParts i v (polSettle (i / 8) (i % 8) s)

/-- Port objects (Table 9-7). -/
def objs09 : List ObjDef :=
  [objR 0x310000 epDims tU32 4 rAll resPort (fun s p => epStatWord s p),
   (objL 0x310001 epDims tEnum 1 .rwb rO resPort (p0 F.EP_CFG_SPEED)).range (within 0 3),
   (objL 0x310002 epDims tEnum 1 .rwb rO resPort (p0 F.EP_CFG_ROLE)).range (within 0 1),
   objL 0x310003 epDims tBool 1 .rwb rO resPort (p0 F.EP_CFG_AN_EN),
   objL 0x310004 epDims tU32 4 .rwb rO resPort (wordParts 0 R.EP_PLCA id),
   objL 0x310005 epDims tU32 4 .rwb rO resPort
     [⟨31, F.EP_TC10_EN, id⟩, ⟨28, F.EP_TC10_WAKE_DS, id⟩, ⟨0, F.EP_TC10_FWD_MASK, id⟩],
   ({ objL 0x310006 epDims tEnum 1 .rw rOS resPort (p0 F.EP_TEST_MODE) with
      ok := fun _ p v => v == 0 || (v ≤ 7 && p < 20 && Config.testMode p v) }).now.by setTestAs,
   (objL 0x310010 epDims tU32 4 .rwm rOM resPort gclParts).by
     (fun p v s => gclCtrlWrite p (BitVec.ofNat 32 v) s),
   objL 0x310011 epDims tU32 4 .rwm rOM resPort (p0 F.EP_GCL_CYCLE_CYCLE_NS),
   objL 0x310012 epDims tTime 12 .rwm rOM resPort [⟨0, F.EP_GCL_BASE_LO_W, id⟩, ⟨32, F.EP_GCL_BASE_HI_W, id⟩],
   (objL 0x310013 epDims tOct 1024 .rwm rOM resPort (wordsParts R.EP_GCL_ADMIN 256)).default (fun _ => 0),
   (objL 0x310020 [(24, 0x100), (8, 1)] tU32 4 .rwm rOM resPort8 (wordParts 0 R.EP_CBS_SLOPE id)).by
     (fun i v s => cbsSlopeWrite (i / 8) (i % 8) (BitVec.ofNat 32 v) s),
   (objL 0x310028 [(24, 0x100), (8, 1)] tU16 2 .rwm rOM resPort8 (p0 F.EP_CBS_MAXINT_MAX_INT)).by
     (fun i v s => cbsMaxIntWrite (i / 8) (i % 8) (BitVec.ofNat 32 v) s),
   ((objL 0x310030 [(24, 0x100), (8, 1)] tOct 8 .rwm rOM resPort8
     polParts).by polPut).default (fun _ => 0),
   objL 0x310040 epDims tU32 4 .rwb rO resPort ((wordParts 0 R.EP_MSEC_CTRL id).filter (fun p => p.pos != 0)),
   tblObj 0x318000 512 0 16,
   tblObj 0x318400 127 1 8,
   ({ objV 0x318480 [(127, 1)] tOct 256 .rwm rOM resSw 0 with
      read := gateListRead, held := gateListRead, ok := fun _ _ v => v &&& gateListMask == v }).by gateListPut,
   tblObj 0x318600 255 3 16,
   tblObj 0x318800 64 4 16,
   tblObj 0x318840 64 5 8,
   objF 0x7F3D00 [(24, 0x10), (12, 1)] tU32 rOMS (fun i => .of 3 (i / 12)) F.EP_CNT_CNT]

/-! ### Network time (Table 10-6) -/

def resTime : Nat → ObjRes := resSlot 0x030

/-- The clock identity: octet 0 is the most significant of EUI-64. -/
def clkIdGet (s : State) (_ : Nat) : Nat := leNat (beOctets (s.get64 R.TIME_CLKID_LO R.TIME_CLKID_HI 0) 8)
def clkIdPut (_ v : Nat) (s : State) : State := s.put64 R.TIME_CLKID_LO R.TIME_CLKID_HI 0 (beNat (leOctets v 8))

/-- Time objects (Table 10-6). -/
def objs10 : List ObjDef :=
  [objR 0x380001 [] tTime 12 rAll resTime (fun s _ => s.time.now / 2 ^ 32 % 2 ^ 64 + s.time.now % 2 ^ 32 * 2 ^ 64),
   objF 0x380002 [] tEnum rAll resTime F.TIME_STAT_STATE,
   objL 0x380003 [] tU16 2 .rwb rO resTime (p0 F.TIME_CTRL_SYNC_TMO),
   ((objV 0x380004 [] tOct 8 .rwb rO resTime 0).reads clkIdGet).by clkIdPut,
   objL 0x380005 [] tU16 2 .rwb rO resTime (p0 F.TIME_HO_CFG_HO_TMO),
   objL 0x380006 [] tBits 4 .rwb rO resTime (bitParts F.TIME_HO_CTRL_EN 2),
   objL 0x380010 portDims tU8 1 .rwm rOM resTime [⟨0, F.TIME_PORT_CFG_ONESTEP_EN, id⟩, ⟨1, F.TIME_PORT_CFG_TC_EN, id⟩],
   objL 0x380030 portDims tU32 4 .rwb rO resTime (wordParts 0 R.TIME_PORT_LAT id),
   objF 0x7F0140 [] tU32 rOMS resTime F.TIME_STAT_STEP_CNT,
   objR 0x7F0141 [] tU32 4 rOMS resTime (fun s _ => s.time.entries),
   objF 0x7F01C0 portDims tU32 rOMS resTime F.TIME_PORT_SKIP_CNT]

/-! ### CAN and LIN (Table 11-11) -/

def canDims : List (Nat × Nat) := [(16, 0x100)]
def linDims : List (Nat × Nat) := [(12, 0x100)]
def resCan (i : Nat) : ObjRes := .of 4 i
def resLin (i : Nat) : ObjRes := .of 5 i

/-- FILTERS: word 0 then word 1 of each filter. -/
def fltParts : List Part :=
  (List.range 64).flatMap (fun f =>
    wordParts (64 * f) R.CAN_FLT0 (fun n => 64 * n + f) ++ wordParts (64 * f + 32) R.CAN_FLT1 (fun n => 64 * n + f))

/-- SLOT_BIND: VE number and EN of each slot. -/
def bindParts : List Part :=
  (List.range 8).flatMap (fun sl =>
    [⟨16 * sl, F.CAN_SLOT_CFG_VE, fun n => 8 * n + sl⟩, ⟨16 * sl + 15, F.CAN_SLOT_CFG_EN, fun n => 8 * n + sl⟩])

/-- A slot's binding written, its other fields kept (R328). -/
def bindPut (n v : Nat) (s : State) : State :=
  s.each (List.range 8) (fun sl s =>
    let h := v / 2 ^ (16 * sl) % 65536
    let o := (s.rd R.CAN_SLOT_CFG (8 * n + sl)).toNat
    slotCfgWrite n sl (BitVec.ofNat 32 (withBits (withBits o 9 0 h) 31 31 (h / 32768))) s)

/-- WAKE_CONFIG: CAN_TRX_CTRL, CAN_WUF_ID, CAN_WUF_MASK, CAN_WUF_CFG, DATA and DMASK. -/
def wakeRegs : List Reg := [R.CAN_TRX_CTRL, R.CAN_WUF_ID, R.CAN_WUF_MASK, R.CAN_WUF_CFG, R.CAN_WUF_DATA_LO, R.CAN_WUF_DATA_HI,
  R.CAN_WUF_DMASK_LO, R.CAN_WUF_DMASK_HI]
def wakeParts : List Part := wakeRegs.zipIdx.flatMap (fun e => wordParts (32 * e.2) e.1 id)

/-- Fields of PROTOCOL (R342). -/
def protoParts : List Part :=
  [⟨1, F.CAN_CTRL_FD_EN, id⟩, ⟨2, F.CAN_CTRL_XL_EN, id⟩, ⟨3, F.CAN_CTRL_XL_TMS, id⟩, ⟨4, F.CAN_CTRL_PXHD, id⟩]

/-- PROTOCOL put into CAN_CTRL: CAN8 to CAN15 have no XL_TMS (Table 11-1). -/
def canProtoPut (n v : Nat) (s : State) : State :=
  let s := layPut protoParts n v s
  if 8 ≤ n then s.put F.CAN_CTRL_XL_TMS n 0 else s

/-- CAN and LIN objects (Table 11-11). -/
def objs11 : List ObjDef :=
  [objR 0x340000 canDims tU32 4 rAll resCan (rdNat R.CAN_STAT),
   objL 0x340001 canDims tU32 4 .rwb rO resCan (wordParts 0 R.CAN_NBT id),
   objL 0x340002 canDims tU32 4 .rwb rO resCan (wordParts 0 R.CAN_DBT id),
   objL 0x340003 canDims tU32 4 .rwb rO resCan (wordParts 0 R.CAN_XBT id),
   (objL 0x340004 canDims tU8 1 .rwb rO resCan protoParts).by canProtoPut,
   objL 0x340005 canDims tU32 4 .rwb rO resCan (wordParts 0 R.CAN_TDC id),
   objL 0x340006 canDims tU32 4 .rwb rO resCan (wordParts 0 R.CAN_XLPWM id),
   objL 0x340007 canDims tOct 512 .rwb rO resCan fltParts,
   (objL 0x340008 canDims tOct 16 .rwb rO resCan bindParts).by bindPut,
   ((objL 0x340009 canDims tOct 32 .rwb rO resCan wakeParts).by
     (fun n v s => trxWrite n (BitVec.ofNat 32 v) (layPut wakeParts n v s))).default (fun _ => 0),
   objL 0x340010 canDims tOct 8 .rwm rOM resCan
     ((List.range 8).map (fun sl => ⟨8 * sl, F.CAN_SLOT_CFG_RETRY_LIMIT, fun n => 8 * n + sl⟩)),
   (objV 0x340011 canDims tBool 1 .wo rOM resCan 0).now.by (fun n v s => if v = 1 then canRecover n s else s),
   objR 0x340012 canDims tU32 4 rAll resCan (fun s n => s.get F.CAN_STAT_TEC n * 2 ^ 16 + s.get F.CAN_STAT_REC n * 2 ^ 8),
   objR 0x350000 linDims tU32 4 rAll resLin (rdNat R.LIN_STAT),
   (objL 0x350001 linDims tU32 4 .rwb rO resLin (wordParts 0 R.LIN_CFG id)).range (fun v => within 1000 20000 (bitsOf v 14 0)),
   objL 0x350002 linDims tOct 1024 .rwb rO resLin (wordsParts R.LIN_SCHED 256),
   objL 0x350003 linDims tOct 16 .rwb rO resLin (wordsParts R.LIN_TBL 4),
   objL 0x350004 linDims tOct 256 .rwb rO resLin (wordsParts R.LIN_FRAME_CFG 64),
   objL 0x350010 linDims tU8 1 .rwm rOMP resLin (p0 F.LIN_CTRL_SCHED_SEL),
   objF 0x7F4000 [(16, 0x10), (8, 1)] tU32 rOMS (fun i => .of 4 (i / 8)) F.CAN_CNT_CNT,
   objF 0x7F4200 [(12, 0x10), (8, 1)] tU32 rOMS (fun i => .of 5 (i / 8)) F.LIN_CNT_CNT]

end Sys2Proof.Machine
end

