-- ==== Sys2Proof/Machine/ObjC.lean ====
section
/-!
DEFINITION. The objects of chapters 12 to 19 (Tables 12-9, 13-7, 14-7, 15-15, 16-12, 17-9, 18-7 and 19-16).
-/

namespace Sys2Proof.Machine

def resPm : Nat → ObjRes := resSlot 0x004

/-- Set bits of a number below 2^n. -/
def popBits (n v : Nat) : Nat := ((List.range n).filter (bitOf v)).length

/-- An RWM or RWB object of one field of the power modes. -/
def pmObj (num ty : Nat) (acc : ObjAcc) (f : Fld) : ObjDef :=
  objL num [] ty (tyLen ty) acc (if acc = .rwm then rOM else rO) resPm (p0 f)

/-- Power-mode objects (Table 12-9). -/
def objs12 : List ObjDef :=
  [objF 0x600100 [] tEnum rAll resPm F.PM_STAT_MODE,
   ((objV 0x600101 [] tEnum 1 .wo rOM resPm 0).range (· ≤ 3)).now.by (fun _ v s => pmRequest v false [] s),
   objL 0x600102 [] tBits 4 .rwm rOM resPm (wordParts 0 R.GONG_WAKE_EN id),
   pmObj 0x600103 tU16 .rwm F.GONG_CFG_CAN_MASK,
   pmObj 0x600104 tU16 .rwb F.GONG_WLCFG_TRIG,
   (pmObj 0x600105 tU16 .rwm F.GONG_FWT_TMO).range (within 1 6000),
   pmObj 0x600106 tU8 .rwm F.GONG_QUAL_QUAL,
   (pmObj 0x600107 tU16 .rwb F.GONG_TRX_TRX_TMO).range (within 10 5000),
   (pmObj 0x600108 tU16 .rwb F.GONG_BOOT_BOOT_TMO).range (within 100 10000),
   objL 0x600109 [] tOct 8 .rwm rOM resPm [⟨0, F.GONG_TIMER_CNT_CNT, id⟩, ⟨32, F.GONG_TIMER_CFG_PRE, id⟩],
   (objL 0x60010A [] tOct 12 .rwb rO resPm (wordsParts R.GONG_KEEP 3)).range (fun v => v < 2 ^ 72 && popBits 72 v ≤ 8),
   pmObj 0x60010B tBool .rwb F.GONG_CFG_AUTO_RUN,
   objR 0x600110 [] tU32 4 rAll resPm (rdNat R.GONG_CAUSE),
   objF 0x7F0160 [(6, 1)] tU32 rOMS resPm F.GONG_CNT_CNT]

def resTrio (t : Nat) : ObjRes := .of 14 t

/-- Carillon objects (Table 13-7). -/
def objs13 : List ObjDef :=
  [objR 0x010050 [(2, 1)] tU32 4 rAll resTrio (rdNat R.CAR_STAT),
   objR 0x010052 [(2, 1)] tBool 1 rAll resTrio (fun s t => b2n (carIsSplit s t)),
   objL 0x480100 [(2, 1)] tBool 1 .rwb rO resTrio (p0 F.CAR_CTRL_LBIST_EN),
   (objL 0x480102 [(2, 1)] tU16 2 .rwb rO resTrio (p0 F.CAR_CTRL_ROT_BEATS)).range (within 500 65535),
   (objL 0x480104 [(2, 1)] tU8 1 .rwb rO resTrio (p0 F.CAR_CTRL_GUARD)).range (within 1 255),
   objF 0x7F0170 [(2, 8), (7, 1)] tU32 rOMS (fun i => .of 14 (i / 7)) F.CAR_CNT_CNT]

/-- A-cluster objects (Table 14-7). -/
def objs14 : List ObjDef :=
  [objV 0x010060 [] tBool 1 .rwb rO (resSlot 0x050) 1,
   objF 0x7F0180 [(4, 1)] tU32 rOMS (resSlot 0x050) F.IOMMU_VX_CNT_CNT]

/-- Key identifier of the pair key, 0 where the device holds none. -/
def pairKeyId (s : State) : Nat := match pairKey s with | some k => k.keyId | none => 0

/-- VE objects (Table 15-15). -/
def objs15 : List ObjDef :=
  [objR 0x000020 [] tOct 8 rAll resFree (fun s _ => s.get64 R.VEMGR_MODID_LO R.VEMGR_MODID_HI 0),
   objR 0x500000 [(1024, 1)] tU32 4 rOMS .ve (fun s n => rdNat R.VE_STAT s n + s.get F.VE_ID_TYPE n),
   (objV 0x500400 [(1024, 1)] tOct 128 .rwb rO .ve 0).range (fun v => bitsOf v 31 17 == 0),
   objR 0x501000 [] tU16 2 rOMS resFree (fun s _ => pairKeyId s),
   objR 0x7F8000 [(1024, 8), (8, 1)] tU32 4 rOMS (fun i => .ve (i / 8)) (fun s i =>
     if veType s (i / 8) = tyEth then s.get F.ETH_CNT_CNT i else 0)]

def resBel : Nat → ObjRes := resSlot 0x070

/-- A policy set for a provisioned slot (R454, R468). -/
def keyPolicy (h v : Nat) (s : State) : State :=
  let k := keySlot s h
  if k.kind = 0 ∨ bitsOf v 39 32 = 0 then s
  else s.setKey h { k with mask := bitsOf v 15 0, usage := bitsOf v 31 16, kind := bitsOf v 39 32, persist := bitOf v 40 }

/-- Bits of SEC_MIN set up to a value. -/
def secAdvance (v : Nat) (s : State) : State :=
  { s with bel := { s.bel with otp := { s.bel.otp with secMin := max s.bel.otp.secMin v } } }

/-- The counters of SEC_COUNTERS. -/
def secCounter (s : State) (k : Nat) : Nat :=
  match k with
  | 0 => s.bel.calls % 2 ^ 32
  | 1 => s.bel.wmDenials
  | 2 => s.bel.asgDenials
  | 3 => s.get F.BDBG_STAT_REFUSALS 0
  | _ => s.get F.BRNG_STAT_HEALTH_FAILS 0

/-- Secure-world objects (Table 16-12). -/
def objs16 : List ObjDef :=
  [objF 0x000030 [] tEnum rAll resBel F.BSEC_LC_STATE,
   objR 0x000031 [] tOct 97 rAll resBel (fun s _ => leNat (identPub s)),
   objF 0x000032 [] tBits rAll resBel F.BSEC_DEBUG_EN,
   objF 0x000033 [] tEnum rAll resBel F.BRNG_STAT_STATE,
   objR 0x000034 [] tU32 4 rAll resBel (fun s _ => s.bel.otp.secMin),
   objR 0x700001 [] tOct 8 rOB resBel (fun s _ => s.get F.BSEC_SSRAM_WM_WM 0 + s.get F.BSEC_DRAM_WM_WM 0 * 2 ^ 32),
   objR 0x700002 [] tOct 64 rOB resBel (rdWords R.BSEC_PARTCFG 16),
   ((objV 0x700200 [(63, 1)] tOct 8 .rwb rOB resBel 0).range (fun v => v < 2 ^ 41)).after
     (fun h s => keyPolicy h (tget 0 s.dict.vals (0x700200 + h)) s),
   ((objV 0x700300 [] tU32 4 .wo rO resBel 0).range (· ≤ 256)).now.by (fun _ v s => secAdvance v s),
   objR 0x7F0190 [(5, 1)] tU32 4 rOMS resBel secCounter]

/-- A reaction below its minimum takes the minimum (R472). -/
def reactClamp (n : Nat) (s : State) : State := s.put F.TOC_SRC_REACT n (max (s.get F.TOC_SRC_REACT n) (s.get F.TOC_SRC_MIN n))

/-- The producers a group admits (R480). -/
def knProdOk (p : Nat) : Bool := p == 0x10 || p == 0x11 || p == 0x7FF

/-- PRBS_CONTROL: what STOP reads is the tester's, a free value here. -/
def putPrbs (_ v : Nat) (s : State) : State :=
  let a := s.draw
  let b := a.2.draw
  prbsWrite [] (Config.freeNat 37 a.1 % 2 ^ 64) (Config.freeNat 37 b.1 % 2 ^ 32) (BitVec.ofNat 32 v) b.2

/-- Fault-handling objects (Table 17-9). -/
def objs17 : List ObjDef :=
  [(objL 0x400000 [(512, 1)] tU32 4 .rwb rO (resSlot 0x001) (wordParts 0 R.TOC_SRC id)).after reactClamp,
   objR 0x400400 [] tOct 64 rAll (resSlot 0x001) (rdWords R.TOC_PEND 16),
   (objL 0x400500 [(8, 1)] tU32 4 .rwb rO (resSlot 0x002) (wordParts 0 R.KN_GRP id)).range (fun v => knProdOk (bitsOf v 31 21)),
   objR 0x400510 [(8, 1)] tU32 4 rAll (resSlot 0x002) (rdNat R.KN_GSTAT),
   (objL 0x400600 [(16, 1)] tOct 16 .rwb rO (resSlot 0x001)
     (wordParts 0 R.WDG_CFG id ++ wordParts 32 R.WDG_WIN id ++ wordParts 64 R.WDG_PRE id ++ wordParts 96 R.WDG_FIRST id)).default
     (fun _ => 0),
   objL 0x480001 [(5, 1)] tU32 4 .rwb rO (resSlot 0x090) (wordParts 0 R.BIST_TASK id),
   objR 0x480011 [(5, 1)] tOct 12 rAll (resSlot 0x090) (fun s k =>
     rdNat R.BIST_STAT s k + rdNat R.BIST_STAT1 s k * 2 ^ 32 + rdNat R.BIST_STAT2 s k * 2 ^ 64),
   (objV 0x480020 [] tU32 4 .wo rOS (resSlot 0x090) 0).now.by putPrbs,
   objR 0x480021 [] tOct 16 rOMS (resSlot 0x090) (fun s _ =>
     rdNat R.BIST_PRBS_STAT s 0 + s.get64 R.BIST_PRBS_BITS_LO R.BIST_PRBS_BITS_HI 0 * 2 ^ 32 + rdNat R.BIST_PRBS_ERRS s 0 * 2 ^ 96),
   objF 0x7F0200 [(512, 1)] tU32 rOMS (resSlot 0x001) F.TOC_CNT_CNT]

def resClk : Nat → ObjRes := resSlot 0x003

/-- DIV of some domains, written as CLK_DOMd.DIV is (R511). -/
def divObj (num : Nat) (dims : List (Nat × Nat)) (dom : Nat → Nat) : ObjDef :=
  (objL num dims tU8 1 .rwm rOM resClk [⟨0, F.CLK_DOM_DIV, dom⟩]).by (fun i v s => clkDomWrite (dom i) (BitVec.ofNat 32 (v * 2 ^ 26)) s)

/-- The counters of CLOCK_COUNTERS. -/
def clkCounter (s : State) (k : Nat) : Nat :=
  if k = 0 then s.get F.CLK_MON_CNT_BAD_WIN 0 else if k = 1 then s.get F.CLK_MON_CNT_FALLBACKS 0
  else s.get F.CLK_PLL_UNLOCKS (k - 2)

/-- Clock objects (Table 18-7). -/
def objs18 : List ObjDef :=
  [objR 0x600001 [] tU32 4 rAll resClk (rdNat R.CLK_STAT),
   (objL 0x600002 [] tU8 1 .rwb rO resClk (p0 F.CLK_MON_CFG_FAIL_WIN)).range (within 1 15),
   (objL 0x600003 [] tU16 2 .rwb rO resClk (p0 F.CLK_MON_CFG_OK_WIN)).range (within 1 65535),
   (objV 0x600004 [] tBool 1 .wo rOM resClk 0).now.by (fun _ v s => if v = 1 then clkRestore s else s),
   divObj 0x600010 [(2, 1)] id,
   divObj 0x60001A [(2, 2)] (fun i => 10 + 2 * i),
   objR 0x7F01A0 [(6, 1)] tU32 4 rOMS resClk clkCounter]

/-- BOOT_TIMES as 8 words. -/
def bootTimes (s : State) : Nat := (List.range 8).foldl (fun a k => a + min (tget 0 s.boot.times k) (2 ^ 32 - 1) * 2 ^ (32 * k)) 0

/-- Boot and device objects (Table 19-16). -/
def objs19 : List ObjDef :=
  [objR 0x010070 [] tU32 4 rAll resDevice (rdNat R.RESET_CAUSE),
   objR 0x010071 [] tOct 32 rAll resDevice (fun s _ => bootTimes s),
   objR 0x010072 [] tU8 1 rAll resDevice (fun s _ => s.boot.straps % 16),
   objR 0x010080 [] tS16 2 rAll resDevice (fun s _ => ofSigned 16 s.temp.k),
   objR 0x010081 [] tS16 2 rAll resDevice (fun s _ => ofSigned 16 s.temp.h),
   (objV 0x010082 [] tS16 2 .rwb rO resDevice 920).range (within 0 1000),
   (objV 0x010083 [] tS16 2 .rwb rO resDevice 1120).range (within 0 1200),
   objR 0x7F01B0 [(5, 1)] tU32 4 rOMS resDevice (fun s k => tget 0 s.boot.resets k)]

end Sys2Proof.Machine
end

