-- ==== Sys2Proof/Machine/Objects.lean ====
section
/-!
DEFINITION. The object dictionary as a whole: every object by its number (R65, R66), and the checks a value passes (R74).
-/

namespace Sys2Proof.Machine

/-- Every object of the device. -/
def objects : List ObjDef :=
  objs01 ++ objs03 ++ objs04 ++ objs05 ++ objs06 ++ objs07in ++ objs07out ++ objs08 ++ objs09 ++ objs10 ++ objs11 ++
  objs12 ++ objs13 ++ objs14 ++ objs15 ++ objs16 ++ objs17 ++ objs18 ++ objs19

/-- Index in a family of the object with a number. -/
def ObjDef.index? (o : ObjDef) (n : Nat) : Option Nat := if n < o.base then none else dimIndex o.dims (n - o.base) 0

/-- The object with a number among families. -/
def findIn : List ObjDef → Nat → Option (ObjDef × Nat)
  | [], _ => none
  | o :: t, n => match o.index? n with | some i => some (o, i) | none => findIn t n

/-- The object with a number (R65). -/
def findObj (n : Nat) : Option (ObjDef × Nat) := findIn objects n

/-- Number of object `i` of a family. -/
def ObjDef.number (o : ObjDef) (i : Nat) : Nat := o.base + dimOffset o.dims.reverse i

/-- How many objects a family has. -/
def ObjDef.count (o : ObjDef) : Nat := o.dims.foldl (fun a d => a * d.1) 1

/-- Every object of a family. -/
def ObjDef.all (o : ObjDef) : List Nat := (List.range o.count).map o.number

/-- The numbers of every OVERLAY object (R69). -/
def overlayObjs : List Nat := (objects.filter (fun o => o.acc == .rwm)).flatMap ObjDef.all

/-- A value is one of its type and within the object's range (R66, R74 step 7). -/
def objValueOk (s : State) (o : ObjDef) (i v : Nat) : Bool :=
  (o.ty != tBool || v ≤ 1) && (o.ty != tChime || v ≤ 0x3FF) && o.ok s i v

/-- The partition an object's resource is assigned to (R72); none where the chapter names no resource. -/
def objPart (s : State) (r : ObjRes) : Option Nat :=
  match r with
  | .free => none
  | .device => some 16
  | .of c i => some (asgOf s c i)
  | .ve n => some (vePart s n)

/-- The base value of an object: its record in the base image, else its Default (R69). -/
def baseValue (s : State) (o : ObjDef) (i : Nat) : Nat :=
  match tget none s.dict.base (o.number i) with | some v => v | none => o.dflt i

end Sys2Proof.Machine
end

