-- ==== Sys2Proof/Machine/Dict.lean ====
section
/-!
DEFINITION. The dictionary engine: the checks of a request, staged writes, modes, replies and subscriptions (R74 to R88,
R94 to R97, R101).
-/

namespace Sys2Proof.Machine

/-! ### Status codes of Table 3-3 -/

def dOkay : Nat := 0x00
def dSuperseded : Nat := 0x02
def dNoObject : Nat := 0x10
def dNoRights : Nat := 0x11
def dWrongAccess : Nat := 0x12
def dBaseOnly : Nat := 0x13
def dBadLength : Nat := 0x14
def dOutOfRange : Nat := 0x15
def dBusy : Nat := 0x16
def dBadVersion : Nat := 0x20
def dBadService : Nat := 0x21
def dTooLong : Nat := 0x23
def dModeRefused : Nat := 0x30
def dModeBusy : Nat := 0x31
def dOverlayInvalid : Nat := 0x32
def dImgSignature : Nat := 0x40
def dImgRollback : Nat := 0x41
def dImgFormat : Nat := 0x42
def dImgSequence : Nat := 0x43
def dImgInUse : Nat := 0x44

/-- The services of Table 3-5 that a requester may ask for. -/
def svRead : Nat := 1
def svWrite : Nat := 2
def svReadMulti : Nat := 3
def svWriteMulti : Nat := 4
def svSubscribe : Nat := 5
def svModeReq : Nat := 7
def svImageLoad : Nat := 8

/-- Modes of R94. -/
def moService : Nat := 3
def moLimp : Nat := 4
def moNone : Nat := 15

/-- The mode in force. -/
def modeNow (s : State) : Nat := s.get F.DICT_MODE_MODE 0

/-- The engine serves: the base image is applied, its block has its clock, and its initiator is not silent (Table 3-10). -/
def dictRuns (s : State) : Bool :=
  s.flag F.DICT_STAT_READY 0 && !(portSt s 0x080).causes.contains causePower && !initSilent s 0x31

/-! ### Requesters (R71, R72, R85, R103) -/

/-- Descriptor of a Usest session, 0 where it is undefined. -/
def sessDesc (s : State) (n : Nat) : Nat := if 1 ≤ n ∧ n ≤ 64 then tget 0 s.dict.vals (0x700100 + n - 1) else 0

/-- A requester: its role as a bit of a rights mask (0 for session 0), and its partition. -/
structure DWho where
  role : Nat
  part : Nat
  deriving DecidableEq, Repr

/-- Who sent a request. -/
def reqWho (s : State) (r : DReq) : DWho :=
  match r.src with
  | .win w b => ⟨if b then roBelfry else if s.flag F.BSEC_PARTCFG_MANAGER w then roManager else roPartition, w⟩
  | _ => if r.sess = 0 then ⟨0, 16⟩ else ⟨2 ^ octet (sessDesc s r.sess) 0, octet (sessDesc s r.sess) 1⟩

/-- Step 3 of R74: the role is in the mask, and a PARTITION's object is its own, which one without a resource never is (R72); session 0 reads group 0x00 objects that
all may read (R85). -/
def rightsOk (s : State) (w : DWho) (n : Nat) (o : ObjDef) (i : Nat) : Bool :=
  if w.role = 0 then o.rights == rAll && n / 65536 == 0
  else (o.rights &&& w.role) != 0 &&
    (w.role != roPartition || (match objPart s (o.res i) with | some p => p == w.part | none => false))

/-- The output's driver is the dictionary engine, where the object drives one (R165, R211). -/
def driverOk (s : State) (o : ObjDef) (i : Nat) : Bool :=
  if o.base = 0x100030 then s.get F.PWR_CH_PROD_CMD_PROD i == 0x31
  else if o.base = 0x210010 then s.get F.IOX_LSO_CFG_DRV i == 0x1E
  else if o.base = 0x212010 then s.get F.IOX_BR_CFG_DRV i == 0x1E
  else if o.base = 0x213010 then s.get F.IOX_SSUP_CTRL_DRV i == 0x1E
  else true

/-! ### Values on their carriers (R66) -/

/-- A request came over a network, whose payloads are big-endian. -/
def DReq.net (r : DReq) : Bool := match r.src with | .win _ _ => false | _ => true

/-- A number of `n` octets in the order of the carrier. -/
def dOct (net : Bool) (v n : Nat) : List Nat := if net then beOct v n else leOctets v n
def dNat (net : Bool) (l : List Nat) : Nat := if net then beNat l else leNat l

/-- A value's octets in the order of the carrier. -/
def valOctets (net : Bool) (o : ObjDef) (v : Nat) : List Nat :=
  let l := leOctets v o.len
  if !net || o.ty == tOct then l
  else if o.ty = tTime then (l.take 8).reverse ++ (l.drop 8).reverse
  else l.reverse

/-- The value that octets in the order of the carrier spell. -/
def octetsVal (net : Bool) (o : ObjDef) (l : List Nat) : Nat :=
  if !net || o.ty == tOct then leNat l
  else if o.ty = tTime then leNat ((l.take 8).reverse ++ (l.drop 8).reverse)
  else leNat l.reverse

/-! ### The checks of R74 -/

/-- Steps 1 to 4 for a request to read or to write object `n`: the failing status or the object. -/
def judgeObj (s : State) (w : DWho) (n : Nat) (write : Bool) : Nat × Option (ObjDef × Nat) :=
  if n / 65536 = 0x70 ∧ w.role ≠ roOwner ∧ w.role ≠ roBelfry then (dNoRights, none)
  else
    match findObj n with
    | none => (dNoObject, none)
    | some (o, i) =>
      if !rightsOk s w n o i || (write && !driverOk s o i) then (dNoRights, none)
      else if (if write then o.acc == .ro else o.acc == .wo) then (dWrongAccess, none)
      else if write && o.acc == .rwb then (dBaseOnly, none)
      else (dOkay, some (o, i))

/-- A staged NEXT_BEAT write is one that waits for a boundary; IMMEDIATE and TWIN writes do not (R67, R70). -/
def ObjDef.stages (o : ObjDef) : Bool := !o.imm && o.ty != tTwin

/-- A write checked in full; `more` writes of the same request are already to be staged, for the boundary after `skip` more. -/
def judgeWrite (s : State) (w : DWho) (net : Bool) (n : Nat) (data : List Nat) (skip more : Nat) : Nat × Option (ObjDef × Nat × Nat) :=
  match judgeObj s w n true with
  | (st, none) => (st, none)
  | (_, some (o, i)) =>
    if w.role = roService ∧ modeNow s ≠ moService then (dNoRights, none)
    else if data.length ≠ o.len then (dBadLength, none)
    else
      let v := octetsVal net o data
      if !objValueOk s o i v then (dOutOfRange, none)
      else if o.stages && decide (256 ≤ (s.dict.staged.filter (fun x => x.skip == skip)).length + more) then (dBusy, none)
      else (dOkay, some (o, i, v))

/-! ### Replies (R82, R84, R101) -/

/-- Octets put into the DATA of a window. -/
def winData (w : Nat) (l : List Nat) (s : State) : State :=
  s.each (List.range ((l.length + 3) / 4)) (fun k s =>
    let part := (l.drop (4 * k)).take 4
    let old := leOctets (s.rd R.DICT_WDATA (256 * w + k)).toNat 4
    s.wr R.DICT_WDATA (256 * w + k) (BitVec.ofNat 32 (leNat (part ++ old.drop part.length))))

/-- A window request has its final status (R101). -/
def winDone (w status : Nat) (data : List Nat) (s : State) : State :=
  let s := winData w data s
  let s := (s.put F.DICT_WSTAT_STATUS w status).put F.DICT_WSTAT_LEN w data.length
  let s := ((s.put F.DICT_WSTAT_DONE w 1).put F.DICT_WSTAT_BUSY w 0).put F.DICT_WCMD_GO w 0
  if s.flag F.DICT_WIRQ_IE w then s.raiseIrq (912 + w) else s

/-- One session. -/
def sessSt (s : State) (n : Nat) : DSess := tget DSess.init s.dict.sess n

/-- Key and salt of a session; session 0 has both all zero (R85). -/
def sessKey (s : State) (n : Nat) : List Nat := if n = 0 then List.replicate 36 0 else (sessSt s n).key

/-- The IV of a message (R84). -/
def usestIv (s : State) (n dir seq : Nat) : List Nat := (sessKey s n).drop 32 ++ beOct n 2 ++ [dir, 0] ++ beOct seq 4

/-- A message of the device, protected (R84, R85). -/
def usestSeal (s : State) (n dir seq : Nat) (header payload : List Nat) : List Nat :=
  let key := (sessKey s n).take 32
  let iv := usestIv s n dir seq
  if n = 0 then header ++ payload ++ (gcmSeal key iv (header ++ payload) []).2
  else
    let c := gcmSeal key iv header payload
    header ++ c.1 ++ c.2

/-- The smallest CAN FD data length that holds `n` octets. -/
def fdLen (n : Nat) : Nat :=
  if n ≤ 8 then n else if n ≤ 12 then 12 else if n ≤ 16 then 16 else if n ≤ 20 then 20 else if n ≤ 24 then 24
  else if n ≤ 32 then 32 else if n ≤ 48 then 48 else 64

/-- The frames of a message: SEG, up to 63 octets, padding of 0xCC (R79). -/
def canSegments (l : List Nat) : List (List Nat) :=
  let n := (l.length + 62) / 63
  (List.range n).map (fun k =>
    let b := (if k + 1 = n then 128 + k else k) :: (l.drop (63 * k)).take 63
    b ++ List.replicate (fdLen b.length - b.length) 0xCC)

/-- A frame of the dictionary engine joins the submitted frames of its channel (R316, R320); its slot number is 8. -/
def canOwnFrame (k : Nat) (f : List Nat) (s : State) : State :=
  let n := tget 15 s.dict.vals 0x010012
  if canState s n = canDisabled then s
  else
    let e := (canSt s n).sub.foldl (fun m t => if t.slot = 8 then max m (t.entry + 1) else m) 0
    s.updCan n (fun c => { c with sub := c.sub ++
      [CanTx.mk 8 e (2 ^ 30 + 0x7D0 + k) (2 ^ 30 + f.length) 0 f 0 0 false false] })

/-- The UDP/IPv6 datagram of a message (R78): from port 47,210 with hop limit 255, the rest of both headers as those protocols have
them (PRESUMED, log 23). -/
def usestIp (addr port : Nat) (own msg : List Nat) : List Nat :=
  let n := 8 + msg.length
  let ends := own ++ beOct addr 16
  let udp (c : Nat) := beOct 47210 2 ++ beOct port 2 ++ beOct n 2 ++ beOct c 2 ++ msg
  let sum := onesSum (ends ++ beOct n 4 ++ [0, 0, 0, 17] ++ udp 0) % 65535
  [0x60, 0, 0, 0] ++ beOct n 2 ++ [17, 255] ++ ends ++ udp (if sum = 65535 ∨ sum = 0 then 0xFFFF else 65535 - sum)

/-- A message leaves on the carrier of a source: as a frame through P23 (R78), or in segments on the CAN channel (R79). -/
def usestSend (src : DSrc) (msg : List Nat) (s : State) : State :=
  match src with
  | .udp a p path =>
    let body := path.drop 16 ++ [0x86, 0xDD] ++ usestIp a p (path.take 16) msg
    let body := body ++ List.replicate (60 - body.length) 0
    (swInject 23 (body ++ fcsOf body) (body.length + 4) none true s).emit (.usest a p msg)
  | .can k => s.each (canSegments msg) (canOwnFrame k)
  | .win _ _ => s

/-- A Usest header (Table 3-4). -/
def usestHeader (svc sess seq obj status len param : Nat) : List Nat :=
  [1, svc] ++ beOct sess 2 ++ beOct seq 4 ++ beOct obj 3 ++ [status] ++ beOct len 2 ++ beOct param 2

/-- PARAM of a reply: 0 for a request whose PARAM is 0; the spec states none for another. -/
def replyParam (p : Nat) (s : State) : Nat × State :=
  if p = 0 then (0, s) else let d := s.draw; (Config.freeNat 38 d.1 % 65536, d.2)

/-- The reply to a request: its final status and data. -/
def dictReply (r : DReq) (status : Nat) (data : List Nat) (s : State) : State :=
  match r.src with
  | .win w _ => winDone w status data s
  | src =>
    let p := replyParam r.param s
    let h := usestHeader (128 + r.svc) r.sess r.seq r.obj status data.length p.1
    usestSend src (usestSeal s r.sess 1 r.seq h data) p.2

/-! ### Requests whose writes are open (R82) -/

/-- A request's statuses, with the reply once each is final. -/
def dictFinish (x : DOpen) (s : State) : State :=
  if x.sts.all Option.isSome then
    let sts := x.sts.map (fun y => y.getD 0)
    let s := { s with dict := { s.dict with open_ := s.dict.open_.filter (fun y => y.id != x.id) } }
    if x.req.svc = svWriteMulti then
      dictReply x.req dOkay ((x.objs.zip sts).foldl (fun a e => a ++ dOct x.req.net e.1 3 ++ [e.2]) []) s
    else dictReply x.req (sts.headD 0) [] s
  else s

/-- One write of an open request has its final status. -/
def dictStatus (id pos st : Nat) (s : State) : State :=
  match s.dict.open_.find? (fun y => y.id == id) with
  | none => s
  | some x =>
    let x := { x with sts := x.sts.set pos (some st) }
    dictFinish x { s with dict := { s.dict with open_ := s.dict.open_.map (fun y => if y.id = id then x else y) } }

/-- A request opened with statuses to come; its number is answered. -/
def dictOpen (r : DReq) (objs : List Nat) (s : State) : Nat × State :=
  let id := s.dict.nextId
  (id, { s with dict := { s.dict with
    nextId := id + 1, open_ := s.dict.open_ ++ [⟨id, r, objs, objs.map (fun _ => none)⟩] } })

/-- One accepted write: in effect at once, or staged in place of an earlier one of the same boundary (R70, R77). -/
def acceptWrite (id skip pos n : Nat) (o : ObjDef) (i v : Nat) (s : State) : State :=
  if o.stages then
    let old := s.dict.staged.filter (fun x => x.obj == n && x.skip == skip)
    let s := { s with dict := { s.dict with
      staged := s.dict.staged.filter (fun (x : DStaged) => !(x.obj == n && x.skip == skip)) ++ [DStaged.mk n v skip id pos] } }
    s.each old (fun x s => dictStatus x.id x.pos dSuperseded s)
  else dictStatus id pos dOkay (o.put i v s)

/-- Accepted writes of one request, in order. -/
def acceptWrites (r : DReq) (skip : Nat) (l : List (Nat × ObjDef × Nat × Nat)) (s : State) : State :=
  let x := dictOpen r (l.map (fun e => e.1)) s
  if l.isEmpty then (match x.2.dict.open_.find? (fun y => y.id == x.1) with | some y => dictFinish y x.2 | none => x.2)
  else x.2.each l.zipIdx (fun e s => acceptWrite x.1 skip e.2 e.1.1 e.1.2.1 e.1.2.2.1 e.1.2.2.2 s)

/-! ### The services -/

/-- The oldest accepted request is served where it asks for the row's service (R75). -/
def serveFront (p : DReq → Bool) (f : DReq → State → State) (s : State) : State :=
  match s.dict.queue with
  | [] => s
  | r :: l => if dictRuns s && p r then f r { s with dict := { s.dict with queue := l } } else s

/-- READ (R74). -/
def execDictRead (s : State) : Res :=
  .next (serveFront (fun r => r.svc == svRead) (fun r s =>
    match judgeObj s (reqWho s r) r.obj false with
    | (_, some (o, i)) => dictReply r dOkay (valOctets r.net o (o.read s i)) s
    | (st, none) => dictReply r st [] s) s)

/-- WRITE (R74); `late` tells that it is accepted within t_STAGE_CUT of the boundary (R100). -/
def execDictWrite (late : Bool) (s : State) : Res :=
  .next (serveFront (fun r => r.svc == svWrite) (fun r s =>
    match judgeWrite s (reqWho s r) r.net r.obj r.data (b2n late) 0 with
    | (_, some (o, i, v)) => acceptWrites r (b2n late) [(r.obj, o, i, v)] s
    | (st, none) => dictReply r st [] s) s)

/-- Groups of `k` octets, `n` of them. -/
def chunks (k : Nat) (l : List Nat) : Nat → List (List Nat)
  | 0 => []
  | n + 1 => l.take k :: chunks k (l.drop k) n

/-- The records of a READ_MULTI's reply: OBJECT, status, length and value of each object asked for (R81). -/
def readOut (r : DReq) (s : State) : List Nat :=
  (chunks 3 r.data (r.data.length / 3)).foldl (fun a c =>
    let x := judgeObj s (reqWho s r) (dNat r.net c) false
    let v := match x.2 with | some (o, i) => valOctets r.net o (o.read s i) | none => []
    a ++ c ++ [x.1] ++ dOct r.net v.length 2 ++ v) []

/-- READ_MULTI (R81). -/
def readMulti (r : DReq) (s : State) : State :=
  if r.data.length % 3 ≠ 0 ∨ 192 < r.data.length then dictReply r dBadLength [] s
  else if 1024 < (readOut r s).length then dictReply r dTooLong [] s
  else dictReply r dOkay (readOut r s) s

/-- READ_MULTI (R81). -/
def execDictReadMulti (s : State) : Res := .next (serveFront (fun r => r.svc == svReadMulti) readMulti s)

/-- The records of a WRITE_MULTI, none where their lengths do not add up. -/
def multiRecs (net : Bool) : Nat → List Nat → Option (List (Nat × List Nat))
  | 0, l => if l.isEmpty then some [] else none
  | k + 1, l =>
    if l.isEmpty then some []
    else
      let n := dNat net ((l.drop 3).take 2)
      if l.length < 5 + n then none
      else (multiRecs net k (l.drop (5 + n))).map (fun t => (dNat net (l.take 3), (l.drop 5).take n) :: t)

/-- Every record checked in order, those before it counted against the capacity (R81). -/
def judgeAll (s : State) (w : DWho) (net : Bool) (skip : Nat) :
    Nat → List (Nat × List Nat) → List (Nat × Nat × Option (ObjDef × Nat × Nat))
  | _, [] => []
  | more, (n, d) :: t =>
    let j := judgeWrite s w net n d skip more
    let m := match j.2 with | some (o, _, _) => if o.stages then more + 1 else more | none => more
    (n, j.1, j.2) :: judgeAll s w net skip m t

/-- WRITE_MULTI (R81): all or none. -/
def writeMulti (late : Bool) (r : DReq) (s : State) : State :=
  match multiRecs r.net r.data.length r.data with
  | none => dictReply r dBadLength [] s
  | some recs =>
    let js := judgeAll s (reqWho s r) r.net (b2n late) 0 recs
    match js.find? (fun j => j.2.1 != dOkay) with
    | some bad =>
      let out := js.foldl (fun a j => a ++ dOct r.net j.1 3 ++ [j.2.1]) []
      if 1024 < out.length then dictReply r dTooLong [] s else dictReply r bad.2.1 out s
    | none =>
      if 1024 < 4 * js.length then dictReply r dTooLong [] s
      else acceptWrites r (b2n late) (js.filterMap (fun j => j.2.2.map (fun x => (j.1, x)))) s

/-- WRITE_MULTI (R81). -/
def execDictWriteMulti (late : Bool) (s : State) : Res :=
  .next (serveFront (fun r => r.svc == svWriteMulti) (writeMulti late) s)

/-! ### Modes (R94 to R96) -/

/-- Table 3-7: the roles a transition among modes 0 to 5 is allowed to; 0 where it is refused. -/
def modeTable (m t : Nat) : Nat :=
  let row := match m with
    | 0 => [0, 3, 3, 11, 3, 1]
    | 1 => [3, 0, 0, 0, 3, 0]
    | 2 => [3, 0, 0, 0, 3, 0]
    | 3 => [11, 0, 0, 0, 3, 1]
    | 4 => [3, 0, 0, 11, 0, 0]
    | 5 => [1, 0, 0, 11, 3, 0]
    | 15 => [3, 0, 0, 11, 3, 0]
    | _ => [3, 0, 0, 0, 3, 0]
  row.getD t 0

/-- Overlay `k` as validated. -/
def ovlOf (s : State) (k : Nat) : Option DOvl := tget none s.dict.ovl k

/-- The outcome of judging a transition from the mode in force (R95). -/
def modeJudge (s : State) (role t : Nat) : Nat :=
  let m := modeNow s
  if 6 ≤ t ∧ t ≤ 14 then
    match ovlOf s t with
    | none => dOverlayInvalid
    | some o => if bitOf o.from_ m && (o.rights &&& role) != 0 then (if s.dict.newOvl.contains t then dOverlayInvalid else dOkay)
        else dModeRefused
  else if (modeTable m t &&& role) = 0 then dModeRefused
  else if (ovlOf s t).isNone then dOverlayInvalid else dOkay

/-- An object's value in a mode: its record in the overlay, else its base value (R69). -/
def modeValue (s : State) (t : Nat) (o : ObjDef) (i : Nat) : Nat :=
  match (match ovlOf s t with | some x => (x.recs.find? (fun e => e.1 == o.number i)).map (·.2) | none => none) with
  | some v => v
  | none => baseValue s o i

/-- TABLA_SELn as a mode gives it. -/
def modeSel (s : State) (t n : Nat) : Nat :=
  match findObj (0x380110 + n) with | some (o, i) => modeValue s t o i | none => 0xFF

/-- A library load for a pending mode change is given up. -/
def cancelHeld (n : Nat) (s : State) : State :=
  if (engSt s n).hold then
    let s := s.updEng n (fun e => { e with load := none, armLib := none, hold := false })
    ((s.put F.TABLA_CTRL_ARM n 0).put F.TABLA_STAT_ARMED n 0).put F.TABLA_STAT_LD_BUSY n 0
  else s

/-- The loads that a pending mode change starts or restarts (R126). -/
def modeLoads (t : Nat) (s : State) : State :=
  s.each (List.range 16) (fun n s =>
    let v := modeSel s t n
    let held := (engSt s n).hold
    let s := cancelHeld n s
    if v = 0xFF ∨ (v = (engSt s n).sel ∧ !held) ∨ (engSt s n).actLib = some v then s else startLoad n v true s)

/-- MODE_REQ (R95, R96). -/
def modeReq (late : Bool) (r : DReq) (s : State) : State :=
  let role := (reqWho s r).role
  let t := r.param
  if role = roService ∧ t ≠ moService ∧ modeNow s ≠ moService then dictReply r dNoRights [] s
  else if role = roPartition ∨ 15 < t then dictReply r dModeRefused [] s
  else if s.dict.pend.isSome ∧ t ≠ moLimp then dictReply r dModeBusy [] s
  else if t = modeNow s then dictReply r dOkay [] s
  else
    let j := modeJudge s role t
    if j ≠ dOkay then dictReply r j [] s
    else
      let s := match s.dict.pend with
        | some p => dictStatus p.2.2 0 dSuperseded { s with dict := { s.dict with pend := none } }
        | none => s
      let x := dictOpen r [0] s
      let s := { x.2 with dict := { x.2.dict with pend := some (t, b2n late, x.1) } }
      modeLoads t ((s.put F.DICT_MODE_PENDING 0 1).put F.DICT_MODE_PEND_MODE 0 t)

/-- MODE_REQ (R96); `late` tells that it is accepted within t_MODE_CUT of the boundary. -/
def execModeReq (late : Bool) (s : State) : Res :=
  .next (serveFront (fun r => r.svc == svModeReq) (modeReq late) s)

/-! ### Subscriptions (R88) -/

/-- SUBSCRIBE. -/
def subscribe (r : DReq) (s : State) : State :=
  let same (x : DSub) : Bool := x.sess == r.sess && x.obj == r.obj
  match judgeObj s (reqWho s r) r.obj false with
  | (st, none) => dictReply r st [] s
  | (_, some _) =>
    let rest := s.dict.subs.filter (fun x => !same x)
    if r.param = 0 then dictReply r dOkay [] { s with dict := { s.dict with subs := rest } }
    else if r.param < tget 4 s.dict.vals 0x010020 then dictReply r dOutOfRange [] s
    else if 64 ≤ rest.length then dictReply r dBusy [] s
    else dictReply r dOkay [] { s with dict := { s.dict with subs := rest ++ [⟨r.src, r.sess, r.obj, r.param, 1⟩] } }

/-- SUBSCRIBE (R88). -/
def execSubscribe (s : State) : Res := .next (serveFront (fun r => r.svc == svSubscribe) subscribe s)

/-- The NOTIFY of a subscription: the value as committed, PARAM bits [15:0] of the beat number. -/
def notify (x : DSub) (s : State) : State :=
  match findObj x.obj with
  | none => s
  | some (o, i) =>
    let e := sessSt s x.sess
    let d := valOctets true o (o.read s i)
    let h := usestHeader 6 x.sess e.note x.obj 0 d.length (s.beat % 65536)
    let msg := usestSeal s x.sess 2 e.note h d
    usestSend x.src msg { s with dict := { s.dict with
      sess := tset DSess.init s.dict.sess x.sess { e with note := e.note + 1 } } }

/-- Every subscription at a boundary. -/
def notifyAll (s : State) : State :=
  let due := s.dict.subs.filter (fun x => x.left ≤ 1)
  let s := { s with dict := { s.dict with
    subs := s.dict.subs.map (fun (x : DSub) => { x with left := if x.left ≤ 1 then x.period else x.left - 1 }) } }
  s.each due notify

/-! ### The commit (R97) -/

/-- The port whose gate control list an object is part of (R264). -/
def gclPort (n : Nat) : Option Nat :=
  let p := n / 256 % 256
  if n / 65536 = 0x31 ∧ p < 24 ∧ 0x10 ≤ n % 256 ∧ n % 256 ≤ 0x13 then some p else none

/-- A value of an engine's selection as a mode change gives it: its table is in the inactive buffer, or is loaded now (R126). -/
def commitSel (n v : Nat) (s : State) : State :=
  followSel n (s.updEng n (fun e => { e with sel := v }))

/-- Values take effect, those that differ from what is held; the answer lists the ports whose lists changed. -/
def commitList (mode : Bool) : List (Nat × Nat) → State → List Nat × State
  | [], s => ([], s)
  | (n, v) :: t, s =>
    match findObj n with
    | none => commitList mode t s
    | some (o, i) =>
      if mode && o.held s i == v then commitList mode t s
      else
        let changed := o.held s i != v
        let s := if mode && o.base == 0x380110 then commitSel i v s else o.put i v s
        let r := commitList mode t s
        (match gclPort n with | some p => if changed then p :: r.1 else r.1 | none => r.1, r.2)

/-- An object of OVERLAY persistence (R69). -/
def isOverlay (n : Nat) : Bool := match findObj n with | some (o, _) => o.acc == .rwm | none => false

/-- The values of every OVERLAY object in a mode. -/
def modeValues (s : State) (t : Nat) : List (Nat × Nat) :=
  overlayObjs.filterMap (fun n => (findObj n).map (fun x => (n, modeValue s t x.1 x.2)))

/-- The mode in force changes (R97). -/
def enterMode (t : Nat) (s : State) : State :=
  let s := ((s.put F.DICT_MODE_MODE 0 t).put F.DICT_MODE_PENDING 0 0).put F.DICT_MODE_PEND_MODE 0 15
  let s := s.incWrap F.DICT_MODE_CHG_CNT 0
  { s with dict := { s.dict with changes := s.dict.changes + 1 } }

/-- The commit at a boundary (R97): staged writes, then the values of a mode that is due, then MODE. -/
def dictCommit (s : State) : State :=
  let due := s.dict.staged.filter (fun x => x.skip == 0)
  let mode : Option (Nat × Nat) := match s.dict.pend with
    | some (t, 0, id) => some (t, id)
    | _ => none
  let lost (x : DStaged) : Bool := mode.isSome && isOverlay x.obj
  let s := { s with dict := { s.dict with
    staged := (s.dict.staged.filter (fun x => x.skip != 0)).map (fun x => { x with skip := x.skip - 1 })
    newOvl := []
    pend := match s.dict.pend with
      | some (t, k + 1, id) => some (t, k, id)
      | _ => none } }
  let a := commitList false ((due.filter (fun x => !lost x)).map (fun x => (x.obj, x.val))) s
  let b := match mode with
    | some (t, _) =>
      let r := commitList true (modeValues a.2 t) a.2
      (r.1, r.2.each (List.range 16) (fun n s => s.updEng n (fun e => { e with hold := false })))
    | none => ([], a.2)
  let ports := a.1 ++ b.1
  let s := b.2.each ((List.range 24).filter (fun p => ports.contains p)) gclChange
  let s := match mode with | some (t, _) => enterMode t s | none => s
  let s := match s.dict.hold with
    | some v => let s := s.put F.SPINE_CTRL_HOLD 0 v; { s with dict := { s.dict with hold := none } }
    | none => s
  let s := s.each due (fun x s => dictStatus x.id x.pos (if lost x then dSuperseded else dOkay) s)
  let s := match mode with | some (_, id) => dictStatus id 0 dOkay s | none => s
  notifyAll s

/-! ### Windows (R101) -/

/-- GO in a window: the request is accepted for service, or refused at once. -/
def windowGo (w : Nat) (belfry : Bool) (s : State) : State :=
  let svc := s.get F.DICT_WCMD_SVC w
  let n := s.get F.DICT_WSTAT_LEN w
  let s := (s.put F.DICT_WCMD_GO w 1).put F.DICT_WSTAT_BUSY w 1
  if !(svc == svRead || svc == svWrite || svc == svReadMulti || svc == svWriteMulti || svc == svModeReq) then
    winDone w dBadService [] s
  else if 1024 < n then winDone w dTooLong [] s
  else
    let data := ((List.range ((n + 3) / 4)).foldl (fun a k => a ++ leOctets (s.rd R.DICT_WDATA (256 * w + k)).toNat 4) []).take n
    { s with dict := { s.dict with queue := s.dict.queue ++
      [⟨.win w belfry, 0, svc, 0, s.get F.DICT_WOBJ_OBJ w, s.get F.DICT_WCMD_PARAM w, data⟩] } }

/-- A write of DICT_WCMD (R101): SVC and PARAM, and GO unless the window is BUSY. -/
def winCmd (w init : Nat) (v : Word) (s : State) : State :=
  let busy := s.flag F.DICT_WSTAT_BUSY w
  let s := (s.put F.DICT_WCMD_SVC w (getBits v 23 16)).put F.DICT_WCMD_PARAM w (getBits v 15 0)
  if v.getLsbD 31 && !busy then windowGo w (init == 0x30) s else s

end Sys2Proof.Machine
end

