-- ==== Sys2Proof/Machine/Image.lean ====
section
/-!
DEFINITION. Configuration images: their validation, the slots in flash, and the loading of one over Usest (R89 to R93).
-/

namespace Sys2Proof.Machine

/-! ### Flash (Table 19-3) -/

/-- The xSPI window. -/
def flashBase : Nat := 0x20000000

/-- Offset of a configuration slot: 0 A, 1 B. -/
def slotOfs (k : Nat) : Nat := if k = 0 then 0x300000 else 0x400000

/-- Offset within a slot of the frame of an image: the base image, or overlay `n`. -/
def frameOfs (kind n : Nat) : Nat := if kind = 0 then 0 else 0xF0000 + 0x1000 * n

/-- Greatest total length of an image (R89). -/
def imgMax (kind : Nat) : Nat := if kind = 0 then 983040 else 4096

/-- Address of an image's frame. -/
def frameAddr (slot kind n : Nat) : Nat := flashBase + slotOfs slot + frameOfs kind n

/-- Flash erased: its cells read as unwritten. -/
def flashErase (a n : Nat) (s : State) : State := s.memKeep (fun c => !(decide (a ≤ c) && decide (c < a + n)))

/-- The slot that is not active. -/
def activeSlot (s : State) : Nat := s.get F.DICT_SLOT_ACTIVE 0
def spareSlot (s : State) : Nat := 1 - activeSlot s

/-- State and generation of a slot (R91). -/
def cfgState (s : State) (k : Nat) : Nat := tget 0 s.dict.slotSt k
def cfgGen (s : State) (k : Nat) : Nat := tget 0 s.dict.slotGen k
def slEmpty : Nat := 0
def slPending : Nat := 1
def slTrial : Nat := 2
def slConfirmed : Nat := 3
def slBad : Nat := 4

/-- Address of a slot's record (R91): GENERATION in its first word and STATE in its second (DESIGN CHOICE, log 58: the spec lays out no
record). -/
def slotRecord (k : Nat) : Nat := flashBase + slotOfs k + 0xFF000

/-- What the engine knows of a slot's record; DICT_SLOT shows it. -/
def slotKnow (k st gen : Nat) (s : State) : State :=
  let s := { s with dict := { s.dict with slotSt := tset 0 s.dict.slotSt k st, slotGen := tset 0 s.dict.slotGen k gen } }
  let s := s.put (if k = 0 then F.DICT_SLOT_STATE_A else F.DICT_SLOT_STATE_B) 0 st
  if activeSlot s = k then s.put F.DICT_SLOT_GEN 0 gen else s

/-- A slot record written, with a GENERATION of 32 bits (R91). -/
def slotPut (k st gen : Nat) (s : State) : State :=
  slotKnow k st (gen % 2 ^ 32) (s.memWrite (slotRecord k) (leOctets (gen % 2 ^ 32) 4 ++ leOctets st 4))

/-- The slot records read at boot. -/
def slotsLoad (s : State) : State :=
  s.each [0, 1] (fun k s => let a := slotRecord k; slotKnow k (s.memWord (a + 4) % 8) (s.memWord a) s)

/-- A dictionary source with the record of R105. -/
def dictFault (n kind code index w1 w3 : Nat) (s : State) : State :=
  s.raise n (kind * 2 ^ 28 + code * 2 ^ 16 + index) w1 w3

/-! ### Validation (R89, R90) -/

/-- Index of a failure of the header or the signature. -/
def hdrIdx : Nat := 0xFFFFFFFF

/-- A record: object, type code and octets. -/
structure ImgRec where
  obj : Nat
  ty : Nat
  data : List Nat
  deriving DecidableEq, Repr

/-- The records of an image up to the first that is not as R90 lays it out, with that one's index.  Octets left over after RECORDS records
fail as the record of index RECORDS, for which the spec has no index (DESIGN CHOICE, log 58). -/
def imgRecs : Nat → Nat → List Nat → List ImgRec × Option Nat
  | 0, _, [] => ([], none)
  | 0, i, _ => ([], some i)
  | k + 1, i, l =>
    let n := leNat ((l.drop 6).take 2)
    let pad := (4 - n % 4) % 4
    if l.length < 8 + n + pad ∨ l.getD 3 0 ≠ 0 ∨ l.getD 5 0 ≠ 0 ∨ ((l.drop (8 + n)).take pad).any (· != 0) then ([], some i)
    else
      let r := imgRecs k (i + 1) (l.drop (8 + n + pad))
      (⟨leNat (l.take 3), l.getD 4 0, (l.drop 8).take n⟩ :: r.1, r.2)

/-- A record fits its object; a value out of range has its own status (R90, R139, R191). -/
def recOk (s : State) (kind : Nat) (seen : List Nat) (r : ImgRec) : Nat :=
  match findObj r.obj with
  | none => dImgFormat
  | some (o, i) =>
    if o.ty ≠ r.ty ∨ o.len ≠ r.data.length ∨ seen.contains r.obj ∨
        (if kind = 0 then o.acc = .ro ∨ o.acc = .wo else o.acc ≠ .rwm) then dImgFormat
    else if objValueOk s o i (leNat r.data) then dOkay else dOutOfRange

/-- The first record that does not fit: its status and index. -/
def recsOk (s : State) (kind : Nat) : Nat → List Nat → List ImgRec → Option (Nat × Nat)
  | _, _, [] => none
  | i, seen, r :: t =>
    let c := recOk s kind seen r
    if c = dOkay then recsOk s kind (i + 1) (r.obj :: seen) t else some (c, i)

/-- The VALID static entries among records, in index order: the record's index, and the entry (R253). -/
def staticRecs (l : List ImgRec) : List (Nat × Nat) :=
  let l := l.zipIdx.filter (fun e => decide (0x302000 ≤ e.1.obj) && decide (e.1.obj < 0x302400) && fsValid (leNat e.1.data))
  if l.isEmpty then [] else
    (List.range 1024).filterMap (fun n => (l.find? (fun e => e.1.obj == 0x302000 + n)).map (fun e => (e.2, leNat e.1.data)))

/-- The indexes of the static entries that meet a full bucket, inserted in order: a key that is there already takes no way more
(R224, R253). -/
def fdbOverflow (used : List (Nat × Nat)) : List (Nat × Nat) → List Nat
  | [] => []
  | (i, v) :: t =>
    let b := fdbBucket (fsFid v) (fsMac v)
    let key := (b, fsFid v * 2 ^ 48 + fsMac v)
    if used.contains key then fdbOverflow used t
    else if 4 ≤ (used.filter (fun u => u.1 == b)).length then i :: fdbOverflow used t
    else fdbOverflow (key :: used) t

/-- The first of several failing records: each has its status and its index. -/
def firstBad (l : List (Nat × Nat)) : Option (Nat × Nat) :=
  l.foldl (fun b x => match b with | some y => if x.2 < y.2 then some x else some y | none => some x) none

/-- The first record of a list that fails, with its status: it is laid out wrong, does not fit its object, or meets a full bucket. -/
def imgBad (s : State) (kind : Nat) (l : List ImgRec × Option Nat) : Option (Nat × Nat) :=
  firstBad ((recsOk s kind 0 [] l.1).toList ++ (l.2.map (fun i => (dImgFormat, i))).toList ++
    (if kind = 0 then (fdbOverflow [] (staticRecs l.1)).map (fun i => (dImgFormat, i)) else []))

/-- The state a base image's own records are judged in: its beat period and its Tabla library (R126). -/
def imgScratch (recs : List (Nat × Nat)) (s : State) : State :=
  let s := { s with tab := { s.tab with lib := [] } }
  s.each (recs.filter (fun e => e.1 == 0x380100 || (0x384000 ≤ e.1 && e.1 < 0x384800))) (fun e s =>
    match findObj e.1 with
    | some (o, i) => if o.len ≤ 4 ∧ !(within 25000 2000000 e.2) then s else o.put i e.2 s
    | none => s)

/-- A header's fields (Table 3-6). -/
def hdrNat (img : List Nat) (ofs n : Nat) : Nat := leNat ((img.drop ofs).take n)

/-- The header is as stated for an image of a kind in a frame. -/
def hdrOk (kind num : Nat) (img : List Nat) : Bool :=
  let len := hdrNat img 0x0C 4
  hdrNat img 0 4 == 0x4D495A4B && hdrNat img 4 2 == 1 && hdrNat img 6 1 == kind &&
  hdrNat img 7 1 == (if kind = 0 then 0xFF else num) && hdrNat img 8 4 == 0x09400B01 &&
  decide (192 ≤ len) && decide (len ≤ imgMax kind) && decide (len ≤ img.length) &&
  (if kind = 0 then decide (hdrNat img 0x18 1 ≤ 15) else hdrNat img 0x18 1 == 0) &&
  (if kind = 1 ∧ 6 ≤ num then decide (hdrNat img 0x19 1 < 32) else hdrNat img 0x19 3 == 0) &&
  hdrNat img 0x1C 4 == 0 && (kind == 1 || hdrNat img 0x20 48 == 0) && hdrNat img 0x50 16 == 0

/-- The signature of an image of `len` octets under the owner key. -/
def signedOk (s : State) (img : List Nat) (len : Nat) : Bool :=
  match s.bel.ownerKey with
  | some q => ecdsaVerify q (sha384 (img.take (len - 96))) ((img.drop (len - 96)).take 96)
  | none => false

/-- What a valid image yields. -/
structure ImgOk where
  recs : List (Nat × Nat)
  mode : Nat
  rights : Nat
  from_ : Nat
  hash : List Nat
  sec : Nat
  deriving DecidableEq, Repr

/-- An image in a frame: what it yields, or its failing code and the index of its first failing record.  `base` is the base image an
overlay binds to: its hash and its records; another BASE_HASH, for which Table 3-3 names no status, is IMG_FORMAT (DESIGN
CHOICE, log 58). -/
def imgCheck (s : State) (kind num : Nat) (base : Option (List Nat × List (Nat × Nat))) (img : List Nat) : Except (Nat × Nat) ImgOk :=
  let len := hdrNat img 0x0C 4
  if !hdrOk kind num img then .error (dImgFormat, hdrIdx)
  else if !signedOk s img len then .error (dImgSignature, hdrIdx)
  else if hdrNat img 0x10 4 < s.bel.otp.secMin then .error (dImgRollback, hdrIdx)
  else if kind == 1 && (match base with | some b => b.1 != (img.drop 0x20).take 48 | none => true) then
    .error (dImgFormat, hdrIdx)
  else
    let l := imgRecs (hdrNat img 0x14 4) 0 ((img.take (len - 96)).drop 96)
    let recs := l.1.map (fun r => (r.obj, leNat r.data))
    match imgBad (imgScratch (match base with | some b => b.2 | none => recs) s) kind l with
    | some e => .error e
    | none => .ok ⟨recs, hdrNat img 0x18 1, hdrNat img 0x19 1, hdrNat img 0x1A 2, sha384 (img.take len), hdrNat img 0x10 4⟩

/-- The octets of a frame that an image may fill; its LENGTH bounds what is read. -/
def frameOctets (s : State) (slot kind n : Nat) : List Nat :=
  let a := frameAddr slot kind n
  s.memRead a (min (imgMax kind) (max 192 (s.memWord (a + 0x0C))))

/-- The base image of a slot. -/
def baseCheck (s : State) (slot : Nat) : Except (Nat × Nat) ImgOk := imgCheck s 0 0 none (frameOctets s slot 0 0)

/-- Overlay `n` of a slot whose base image is `b`. -/
def ovlCheck (s : State) (slot n : Nat) (b : ImgOk) : Except (Nat × Nat) ImgOk :=
  imgCheck s 1 n (some (b.hash, b.recs)) (frameOctets s slot 1 n)

/-! ### IMAGE_LOAD (R92) -/

/-- The fields of OBJECT of an IMAGE_LOAD (Table 3-5). -/
def loadKind (r : DReq) : Nat := r.obj / 65536 % 256
def loadNum (r : DReq) : Nat := r.obj / 256 % 256
def loadFirst (r : DReq) : Bool := bitOf r.obj 0
def loadCommit (r : DReq) : Bool := bitOf r.obj 1

/-- The slot that a load names: the inactive one for a base image and for an overlay that follows one there, else the active
one. -/
def loadSlot (s : State) (kind : Nat) : Nat :=
  if kind = 0 ∨ cfgState s (spareSlot s) = slPending then spareSlot s else activeSlot s

/-- An overlay of the active slot that is never replaced. -/
def loadInUse (s : State) (kind num slot : Nat) : Bool :=
  kind == 1 && slot == activeSlot s && (num < 6 || num == modeNow s)

/-- A load is given up. -/
def loadDrop (s : State) : State := { s with dict := { s.dict with load := none } }

/-- The outcome of a chunk and its octets in flash: FIRST erases the frame, or the whole slot for a base image; chunks follow
in index order.  A chunk of fewer than 1,024 octets before the last, for which the spec has no status, is taken (DESIGN
CHOICE, log 58). -/
def loadChunk (r : DReq) (s : State) : Nat × State :=
  let kind := loadKind r
  let num := loadNum r
  let slot := match s.dict.load with
    | some l => if loadFirst r then loadSlot s kind else l.slot
    | none => loadSlot s kind
  if 1 < kind ∨ (kind = 1 ∧ 14 < num) then (dImgFormat, loadDrop s)
  else if loadInUse s kind num slot then (dImgInUse, loadDrop s)
  else
    let next := if loadFirst r then 0 else
      match s.dict.load with
      | some l => if l.kind = kind ∧ (kind = 0 ∨ l.num = num) then l.next else r.param + 1
      | none => r.param + 1
    if r.param ≠ next then (dImgSequence, loadDrop s)
    else if imgMax kind < 1024 * r.param + r.data.length then (dImgFormat, loadDrop s)
    else
      let s := if loadFirst r then
          (if kind = 0 then slotPut slot slEmpty 0 (flashErase (flashBase + slotOfs slot) 0x100000 s)
           else flashErase (frameAddr slot 1 num) 0x1000 s) else s
      let s := s.memWrite (frameAddr slot kind num + 1024 * r.param) r.data
      (dOkay, { s with dict := { s.dict with load := some ⟨kind, num, slot, r.param + 1⟩ } })

/-- IMAGE_LOAD without COMMIT (R92). -/
def execImageLoad (s : State) : Res :=
  .next (serveFront (fun r => r.svc == svImageLoad && !loadCommit r) (fun r s =>
    let x := loadChunk r s
    dictReply r x.1 [] x.2) s)

/-- A failed validation at COMMIT: FS402 and the code (R92). -/
def commitFail (r : DReq) (kind num : Nat) (e : Nat × Nat) (s : State) : State :=
  dictReply r e.1 [] (dictFault 402 (2 + kind) e.1 (if kind = 0 then 0xFF else num) e.2 0 s)

/-- COMMIT: the image is validated, and the slot record or the overlay follows (R92).  An overlay in a slot whose base image does not
verify binds to none: IMG_FORMAT with the index of the header (DESIGN CHOICE, log 58). -/
def imageCommit (r : DReq) (s : State) : State :=
  let x := loadChunk r s
  if x.1 ≠ dOkay then dictReply r x.1 [] x.2
  else
    let kind := loadKind r
    let num := loadNum r
    let slot := match x.2.dict.load with | some l => l.slot | none => spareSlot s
    let s := loadDrop x.2
    match kind, baseCheck s slot with
    | 0, .ok _ => dictReply r dOkay [] (slotPut slot slPending (cfgGen s (activeSlot s) + 1) s)
    | 0, .error e => commitFail r 0 num e (slotPut slot slBad (cfgGen s slot) s)
    | _, .error _ => commitFail r 1 num (dImgFormat, hdrIdx) s
    | _, .ok b =>
      let live := slot == activeSlot s
      match ovlCheck s slot num b with
      | .error e =>
        commitFail r 1 num e (s.when live (fun s =>
          let s := { s with dict := { s.dict with ovl := tset none s.dict.ovl num none } }
          s.put ⟨R.DICT_STAT, num, num⟩ 0 0))
      | .ok o =>
        dictReply r dOkay [] (s.when live (fun s =>
          let s := { s with dict := { s.dict with
            ovl := tset none s.dict.ovl num (some ⟨o.recs, o.rights, o.from_⟩), newOvl := num :: s.dict.newOvl } }
          s.put ⟨R.DICT_STAT, num, num⟩ 0 1))

/-- IMAGE_COMMIT (R92). -/
def execImageCommit (s : State) : Res :=
  .next (serveFront (fun r => r.svc == svImageLoad && loadCommit r) imageCommit s)

/-! ### Slots (R93) -/

/-- CONFIRM makes an active TRIAL slot CONFIRMED. -/
def slotConfirm (s : State) : State :=
  let k := activeSlot s
  if cfgState s k = slTrial then slotPut k slConfirmed (cfgGen s k) s else s

/-- A write of DICT_SLOT: only by a manager partition (Table 3-10). -/
def slotWrite' (init : Nat) (v : Word) (s : State) : State :=
  if s.flag F.BSEC_PARTCFG_MANAGER (partOf s init) then (if v.getLsbD 31 then slotConfirm s else s)
  else s.denyWrite init (R.DICT_SLOT.addr 0)

/-- SLOT_CONFIRM (R93). -/
def execSlotConfirm (init : Init) (value : Word) (s : State) : Res :=
  .next (s.busWrite init (R.DICT_SLOT.addr 0) 4 (slotWrite' init value))

end Sys2Proof.Machine
end

