-- ==== Sys2Proof/Machine/Usest.lean ====
section
/-!
DEFINITION. Usest: datagrams and CAN FD segments, authentication and replay (R78 to R87).
-/

namespace Sys2Proof.Machine

/-- A message dropped without a word. -/
def usestDrop (s : State) : State := s.incSat F.DICT_CNT_DROP_DROP 0

/-- KIND and word 3 of a record of R105 for a carrier. -/
def srcKind : DSrc → Nat
  | .can _ => 1
  | _ => 0
def srcWord : DSrc → Nat
  | .udp _ p _ => p
  | .can k => k
  | .win _ _ => 0

/-- A tag that fails (R87). -/
def usestAuth (src : DSrc) (sess seq : Nat) (s : State) : State :=
  dictFault 400 (srcKind src) 0 sess seq (srcWord src) (s.incSat F.DICT_CNT_AUTH_AUTH 0)

/-- A sequence that is refused (R87). -/
def usestReplay (src : DSrc) (sess seq : Nat) (s : State) : State :=
  dictFault 401 (srcKind src) 0 sess seq (srcWord src) (s.incSat F.DICT_CNT_REPLAY_REPLAY 0)

/-- The session is defined and its descriptor allows the carrier (R103); session 0 is open to both (R85). -/
def sessAllows (s : State) (n : Nat) (src : DSrc) : Bool :=
  n == 0 ||
  (let d := sessDesc s n
   d != 0 && (match src with
    | .udp _ _ _ => bitOf (octet d 3) 0
    | .can k => bitOf (octet d 3) 1 && octet d 4 == k
    | .win _ _ => false))

/-- A sequence is acceptable (R86). -/
def DSess.fresh (x : DSess) (seq : Nat) : Bool :=
  seq != 0 && x.hi != 2 ^ 32 - 1 && (decide (x.hi < seq) || (decide (x.hi < seq + 64) && !bitOf x.seen (x.hi - seq)))

/-- A sequence taken: H and the record of the 64 up to it (R86). -/
def DSess.take (x : DSess) (seq : Nat) : DSess :=
  if x.hi < seq then { x with hi := seq, seen := (x.seen * 2 ^ (min 64 (seq - x.hi)) + 1) % 2 ^ 64 }
  else { x with seen := x.seen ||| 2 ^ (x.hi - seq) }

/-- The payload of a message in clear, none where its tag fails (R84, R85). -/
def usestOpen (s : State) (sess seq : Nat) (msg : List Nat) : Option (List Nat) :=
  let header := msg.take 16
  let body := (msg.take (msg.length - 16)).drop 16
  let tag := msg.drop (msg.length - 16)
  let key := (sessKey s sess).take 32
  let iv := usestIv s sess 0 seq
  if msg.length < 32 ∨ key.length ≠ 32 then none
  else if sess = 0 then (gcmOpen key iv (header ++ body) [] tag).map (fun _ => body)
  else gcmOpen key iv header body tag

/-- An authentic message whose header cannot be used is answered with ERR (R87). -/
def usestErr (src : DSrc) (sess seq obj st : Nat) (s : State) : State :=
  dictReply ⟨src, sess, 0x7F, seq, obj, 0, []⟩ st [] s

/-- The status of a header that cannot be used, for a payload of `n` octets; session 0 may only read. -/
def headerBad (sess ver svc len n : Nat) : Option Nat :=
  if ver ≠ 1 then some dBadVersion
  else if !(if sess = 0 then svc == svRead || svc == svReadMulti
      else (1 ≤ svc && svc ≤ 5) || svc == svModeReq || svc == svImageLoad) then some dBadService
  else if 1024 < len ∨ len < n then some dTooLong
  else if n < len then some dBadLength
  else none

/-- A whole message has arrived (R84 to R87): dropped, answered with ERR, or accepted for service.  The spec gives the engine's queue no
capacity: it is unbounded, and BUSY never comes of it; and SESSION and SEQUENCE of a message too short for its header are
read from the octets that are there (DESIGN CHOICE, log 58). -/
def usestMsg (src : DSrc) (msg : List Nat) (s : State) : State :=
  let sess := beNat ((msg.drop 2).take 2)
  let seq := beNat ((msg.drop 4).take 4)
  let obj := beNat ((msg.drop 8).take 3)
  if !sessAllows s sess src then usestDrop s
  else
    match usestOpen s sess seq msg with
    | none => usestAuth src sess seq s
    | some data =>
      let x := sessSt s sess
      if sess ≠ 0 ∧ !x.fresh seq then usestReplay src sess seq s
      else
        let s := if sess = 0 then s else
          { s with dict := { s.dict with sess := tset DSess.init s.dict.sess sess (x.take seq) } }
        let svc := msg.getD 1 0
        match headerBad sess (msg.getD 0 0) svc (beNat ((msg.drop 12).take 2)) data.length with
        | some st => usestErr src sess seq obj st s
        | none => { s with dict := { s.dict with queue := s.dict.queue ++
            [⟨src, sess, svc, seq, obj, beNat ((msg.drop 14).take 2), data⟩] } }

/-! ### Ethernet (R78) -/

/-- A link-local IPv6 address: fe80::/10.  The spec gives the device no interface identifier: one that the switch delivers to P23 is
taken as the device's (DESIGN CHOICE, log 23). -/
def linkLocal (a : Nat) : Bool := a / 2 ^ 118 == 0x3FA

/-- The Ethernet header of the way back of a frame: its addresses exchanged, and its VLAN tag. -/
def backHeader (l : List Nat) : List Nat := (l.drop 6).take 6 ++ l.take 6 ++ (l.take (afterTag l)).drop 12

/-- USEST_DATAGRAM: the oldest frame that P23 holds; one to UDP port 47,210 at a link-local address is Usest. -/
def usestDatagram (s : State) : State :=
  match rxTake 23 s with
  | none => s
  | some (x, s) =>
    let ip := x.octets.drop (afterTag x.octets + 2)
    let udp := ip.drop 40
    if x.fcsErr || typeAt x.octets (afterTag x.octets) != 0x86DD || ip.getD 0 0 / 16 != 6 || ip.getD 6 0 != 17 ||
        beNat ((udp.drop 2).take 2) != 47210 then s
    else
      let src := beNat ((ip.drop 8).take 16)
      let own := (ip.drop 24).take 16
      if !linkLocal (beNat own) then s
      else if !linkLocal src ∨ ip.getD 7 0 ≠ 255 ∨ tget 1 s.dict.vals 0x010010 = 0 then usestDrop s
      else usestMsg (.udp src (beNat (udp.take 2)) (own ++ backHeader x.octets))
        ((udp.take (beNat ((udp.drop 4).take 2))).drop 8) s

/-- USEST_DATAGRAM (R78). -/
def execUsestDatagram (s : State) : Res := .next (if dictRuns s then usestDatagram s else s)

/-! ### CAN FD (R79) -/

/-- The partial message of a peer slot: next segment index, 0 where there is none, and octets so far. -/
def partOf' (s : State) (k : Nat) : Nat × List Nat := tget (0, []) s.dict.part k
def setPart (k : Nat) (x : Nat × List Nat) (s : State) : State :=
  { s with dict := { s.dict with part := tset (0, []) s.dict.part k x } }

/-- A partial message is discarded and counted. -/
def partDrop (k : Nat) (s : State) : State := if (partOf' s k).1 = 0 then s else usestDrop (setPart k (0, []) s)

/-- The octets of a whole message: its header's LENGTH tells them from the padding. -/
def unpad (l : List Nat) : List Nat :=
  let n := 32 + beNat ((l.drop 12).take 2)
  if n ≤ l.length then l.take n else l

/-- A segment of a peer slot. -/
def usestSegment (k : Nat) (octets : List Nat) (s : State) : State :=
  match octets with
  | [] => s
  | seg :: body =>
    let i := seg % 128
    let s := if i = 0 ∨ i ≠ (partOf' s k).1 then partDrop k s else s
    if i ≠ (partOf' s k).1 then s
    else
      let all := (partOf' s k).2 ++ body.take 63
      if bitOf seg 7 then usestMsg (.can k) (unpad all) (setPart k (0, []) s)
      else setPart k (i + 1, all) s

/-- A segment of peer slot `k` reaches the engine: while it runs and Usest is enabled on CAN. -/
def usestHears (k : Nat) (octets : List Nat) (s : State) : State :=
  if dictRuns s && tget 1 s.dict.vals 0x010011 != 0 then usestSegment k octets s else s

/-- USEST_CAN_SEGMENT (R79): a frame of peer slot `k` on the dictionary's channel, which receives FD frames (R316). -/
def execUsestCanSegment (k : Fin 16) (octets : List Nat) (s : State) : Res :=
  let n := tget 15 s.dict.vals 0x010012
  .next (if canHears s n && s.flag F.CAN_CTRL_FD_EN n then usestHears k octets s else s)

/-- CAN_FRAME_RX (R314): the frame began `sof` counts of the controller's counter before now (R302); the dictionary engine takes
its FD frames whatever the slots do (R316). -/
def execCanFrameRx (n : Fin 16) (frame : CanFrame) (sof : Word) (s : State) : Res :=
  .next (if canState s n = canLinkHold ∧ ¬ linkUp s then s.updCan n (fun c => { c with lost := c.lost + 1 })
    else if !canHears s n then s
    else if !canAdmits s n frame.w0 then canForeign n s
    else
      let engine := usestFrame s n frame
      let s := canRx n frame ((canCount s + 2 ^ 32 - sof.toNat) % 2 ^ 32) engine s
      if engine then usestHears (frame.w0 % 16) frame.data s else s)

/-- USEST_SEGMENT_TIMEOUT (R79). -/
def execUsestSegmentTimeout (k : Fin 16) (s : State) : Res := .next (if dictRuns s then partDrop k s else s)

/-! ### Sessions at boot (R83) -/

/-- "USEST". -/
def usestLabel : List Nat := [0x55, 0x53, 0x45, 0x53, 0x54]

/-- Key and salt of a session from its base key slot, nothing where the slot holds no AES-256 key that USAGE bit 6 permits for it
(R453, R454) or no BOOT_NONCE was drawn (R460).  The KDF has s big-endian in its context, and a 32-bit counter and length,
which R83 does not state (DESIGN CHOICE, log 58). -/
def sessDerive (s : State) (n : Nat) : List Nat :=
  let k := keySlot s (octet (sessDesc s n) 2)
  if sessDesc s n = 0 ∨ k.kind ≠ 2 ∨ ¬ bitOf k.usage 6 ∨ s.dict.nonce = [] then []
  else kdfCtr k.octets usestLabel (s.dict.nonce ++ beOct n 2) 36

/-- BOOT_NONCE drawn, and every session with it. -/
def drawNonce (s : State) : State :=
  let r := s.random 16
  { r.2 with dict := { r.2.dict with nonce := r.1 } }

/-- The sessions of a boot, with new keys. -/
def startSessions (s : State) : State :=
  s.each (List.range 64) (fun k s =>
    { s with dict := { s.dict with sess := tset DSess.init s.dict.sess (k + 1) { DSess.init with key := sessDerive s (k + 1) } } })

end Sys2Proof.Machine
end

