-- ==== Sys2Proof/Machine/Reset.lean ====
section
/-!
DEFINITION. Power-up and the resets (R521, R530 to R533): what each of them clears and keeps, and how the device comes out
of it.
-/

namespace Sys2Proof.Machine

/-- The resets of Table 19-7 that rerun boot, by TYPE. -/
def rsPower : Nat := 0
def rsWake : Nat := 1
def rsSupply : Nat := 2
def rsChip : Nat := 3

/-! ### What a reset keeps -/

/-- A register family of the always-on island: Gong, Knell and RESET_CAUSE (R365, R483, R532). -/
def islandReg (id : Nat) : Bool :=
  (idsKNELL.1 ≤ id && id < idsKNELL.2) || (R.GONG_CFG.id ≤ id && id < idsPMODE.2) || id == R.RESET_CAUSE.id

/-- A K-die register family that RESET_CHIP keeps: the clock unit's status (R517) and Tocsin's record (R486). -/
def chipKeeps (id : Nat) : Bool :=
  [R.CLK_STAT, R.CLK_MON, R.CLK_MON_CNT, R.CLK_PLL, R.CLK_DOMLOST, R.TOC_CNT, R.TOC_RSTCAUSE, R.TOC_RSTBEAT, R.WDG_CNT,
   R.BSEC_LC].any (fun (r : Reg) => r.id == id)

/-- What a supply reset keeps of the K-die: TOC_RSTCAUSE (Table 19-9) and the lifecycle, which takes effect only at a power-on
or wake reset (R530).  Transceivers are island blocks. -/
def supplyKeeps (id : Nat) : Bool :=
  [R.TOC_RSTCAUSE, R.TOC_RSTBEAT, R.BSEC_LC, R.CAN_TRX_STAT].any (fun (r : Reg) => r.id == id)

/-- A register family keeps its words through a reset of a type. -/
def keepsReg (ty id : Nat) : Bool :=
  islandReg id || (ty == rsChip && chipKeeps id) || (ty == rsSupply && supplyKeeps id) ||
  (ty == rsWake && id == R.CAN_TRX_STAT.id)

/-- Memory that a reset loses: DRAM at each, and SRAM and the TCMs with the K-die's supply (R530). -/
def keepsCell (ty a : Nat) : Bool :=
  (0x20000000 ≤ a && a < 0x30000000) || (ty == rsChip && a < 0x400000000)

/-- Key slots after a reset: the persistent keys, which step 6 loads, and none once KS_KEY is destroyed (R449, R455). -/
def keptKeys (b : BelSt) : Tab KeySlot :=
  if b.otp.lc = 3 then [] else b.keys.filter (fun e => e.1 < 63 && e.2.persist)

/-- Belfry after a reset of a type: a scan under way that loses its supply leaves the chains disabled (R464). -/
def belAfter (ty : Nat) (b : BelSt) : BelSt :=
  { BelSt.init with
    otp := b.otp, keys := keptKeys b, bwdgHit := b.bwdgHit
    scan := if ty = rsChip then b.scan else if b.scan = 1 then 3 else b.scan }

/-- Power channels after a reset: only what the gates did remains, for the restart of R162. -/
def chAfter (l : Tab ChSt) : Tab ChSt :=
  l.filterMap (fun e => if e.2.gate then some (e.1, ChSt.init.put F.PWR_STATE_GATE_ON 1) else none)

/-- The debug enables of a lifecycle state at reset (Table 16-2). -/
def lcDebug (st : Nat) : Nat := match st with | 0 => 0xF | 3 => 3 | _ => 0

/-- The lifecycle state that OTP gives: FIELD without its identity seed is RMA (R449). -/
def otpLc (o : Otp) : Nat := if o.lc = 2 ∧ o.idSeed = none then 3 else o.lc

/-- Belfry's registers with a reset value from OTP: the lifecycle where the reset lets a transition take effect, the debug
enables, and BWDG with TMO, or 1,000 ms (R449, R461, R462). -/
def otpRegs (ty : Nat) (s : State) : State :=
  let s := if ty = rsPower ∨ ty = rsWake then
      ((s.put F.BSEC_LC_STATE 0 (otpLc s.bel.otp)).put F.BSEC_LC_PENDING 0 0).put F.BSEC_LC_PEND_STATE 0 0 else s
  let s := s.put F.BSEC_DEBUG_EN 0 (lcDebug (lcState s))
  bwdgRestart (s.put F.BWDG_CTRL_TMO 0 (if s.bel.otp.bwdgTmo = 0 then 1000 else s.bel.otp.bwdgTmo))

/-- The K-die and the H-die outside the island are reset (R530), by TYPE 1 to 3.  Knell, Gong, flash, OTP and the waiting
commands stay; FAILED of the random number generator ends only with a K-die power-up (R460). -/
def kdieReset (ty : Nat) (s : State) : State :=
  let rng := rngState s
  let chip : Bool := ty == rsChip
  let lock (p : Nat) : Nat := s.get F.CLK_PLL_LOCK p
  let s := (s.resetWords (fun k => !keepsReg ty k.1)).memKeep (keepsCell ty)
  let s := { s with
    stage := [], latch := []
    fab := { s.fab with ports := linkShut, crcFails := 0, retrainFails := 0, goodSince := true, replaysBeat := 0,
                        hdieReset := true, released := false, restart := !chip }
    twin := { s.twin with slots := [], cons := [] }
    ch := if chip then [] else chAfter s.ch
    feed := [], tab := ⟨[], [], false, false, 0, 0⟩
    io := s.io.after
    sw := SwSt.init, ports := PortsSt.init, time := TimeSt.init, bus := ⟨[], [], []⟩, car := []
    dict := DictSt.fresh [] []
    late := [], temp := State.reset.temp
    toc := { State.reset.toc with log := if chip then s.toc.log else [] }
    wdg := [], bist := State.reset.bist
    clk := if chip then s.clk else ClkSt.init
    harts := [], ve := []
    acl := { State.reset.acl with poison := s.acl.poison.filter (fun x => keepsCell ty (64 * x)) }
    bel := belAfter ty s.bel
    irqLine := [] }
  let s := if chip ∧ rng = rngFailed then s.put F.BRNG_STAT_STATE 0 rngFailed else s
  let s := s.each [0, 1, 2, 3] (fun p s => if chip then (s.put F.CLK_PLL_DEAD p 0).put F.CLK_PLL_LOCK p (lock p) else s)
  tocRefresh (otpRegs ty s)

/-- RESET_CAUSE and RESET_COUNTERS at a reset (R532, R544). -/
def causeWrite (ty origin src : Nat) (s : State) : State :=
  let s := s.wr R.RESET_CAUSE 0 (BitVec.ofNat 32 (ty * 2 ^ 28 + origin * 2 ^ 25 + src * 2 ^ 16 + b2n s.pm.brown * 2 ^ 15 +
    b2n s.bel.otp.strapDis * 2 ^ 14))
  { s with boot := { s.boot with resets := tupd 0 s.boot.resets ty (fun n => satInc n (2 ^ 32 - 1)) } }

/-- What boot starts from: no milestone, no training, the conditions of R524 not yet broken. -/
def bootFresh (step : Nat) (chip wakeOk : Bool) (b : BootSt) : BootSt :=
  { b with step := step, times := [], ddr := 0, budget := true, missed := [], chip := chip, wakeOk := wakeOk, romWait := false,
           aEntry := 0, started := false, again := false, bwdg := false, jtag := false, off := false }

/-! ### Power-on and OFF (R361, R521) -/

/-- The machine right after a power-on reset: what flash, OTP and the surroundings hold stays; `brown` says that the flag in
the supply-sensing cell has survived. -/
def powerOn (brown : Bool) (s : State) : State :=
  let z := State.reset
  let s := { z with
    mem := (s.memKeep (keepsCell rsPower)).mem
    dict := DictSt.fresh [] []
    bel := { belAfter rsPower s.bel with bwdgHit := false, scan := 0 }
    pm := { z.pm with brown := brown && s.pm.brown }
    irqCnt := s.irqCnt, out := s.out, free := s.free, pending := s.pending
    boot := { z.boot with resets := [] } }
  tocRefresh (otpRegs rsPower (causeWrite rsPower 0 0 s))

/-- POWER_ON_RESET (R521 step 1, R530); `brown` says that the brownout flag is still set (R361). -/
def execPowerOnReset (brown : Bool) (s : State) : Res := .next (powerOn brown s)

/-- OFF (R361): the island resets, Knell's latches are lost, and every output is unpowered. -/
def aonOff (s : State) : State :=
  let s := powerOn true { s with pm := { s.pm with brown := true } }
  { s with boot := { s.boot with off := true, resets := [] } }

/-- AON_OFF (R361): VBAT12 falls below V_AON_OFF in any mode; the counters of R544 are the island's. -/
def execAonOff (s : State) : Res := .next (aonOff s)

/-- PMIC_EN rises and the boot supervision starts (R357, R358). -/
def pmicOn (s : State) : State :=
  { (s.emit (.pin 5 0 1)) with pm := { s.pm with bootWait := true, en := true }, boot := { s.boot with step := 2, pgood := false } }

/-- AON_UP_DONE (R521 step 2): t_AON_UP has passed since VBAT12 rose. -/
def execAonUpDone (s : State) : Res :=
  .next (if !s.boot.off ∧ s.boot.step = 0 ∧ pmMode s = modeRun ∧ ¬ s.boot.again then pmicOn s else s)

/-- PMIC_EN_RISE (R357, R530): t_PMIC_OFF after PMIC_EN fell, for a wake event in DEEP_SLEEP or after a supply reset; never in
HALT_SAFE (R514). -/
def execPmicEnRise (s : State) : Res :=
  .next (if s.pm.phase ≠ 2 || s.flag F.KN_STAT_HALT 0 then s
  else if s.boot.again then
    let s := pmicOn (causeWrite rsSupply 0 0 (kdieReset rsSupply s))
    { s with boot := bootFresh 2 false false s.boot }
  else if pmMode s = modeDeep ∧ s.pm.caused then
    let ok := s.boot.wakeOk
    let s := pmicOn (causeWrite rsWake 0 0 (kdieReset rsWake s))
    let s := { s with boot := bootFresh 2 false ok s.boot, pm := { s.pm with caused := false, irqWait := true } }
    fwStart modeDeep s
  else s)

/-- PGOOD_RISE (R521 step 3). -/
def execPgoodRise (s : State) : Res :=
  .next (if s.boot.step = 2 then { s with boot := { s.boot with pgood := true } } else s)

/-- OSC_DLY in steps of 100 µs: OTP, else the straps, else 255 (R502, R528); and whether it comes from the straps. -/
def oscDly (o : Otp) (straps : Nat) : Nat × Bool :=
  if o.clkOscDly ≠ 0 then (o.clkOscDly, false)
  else if o.strapDis then (255, false)
  else (match straps % 4 with | 0 => 10 | 1 => 50 | 2 => 100 | _ => 255, true)

/-- SPLITn from OTP and the straps as last sampled (R381, R528). -/
def splitOf (s : State) (straps n : Nat) : Nat :=
  b2n (bitOf s.bel.otp.carSplit n || (!s.bel.otp.strapDis && bitOf straps (2 + n)))

/-- CAR_BOOT and the conditions of R524 that OSC_DLY and OTP decide. -/
def strapRegs (straps : Nat) (s : State) : State :=
  let s := (s.put F.CAR_BOOT_SPLIT0 0 (splitOf s straps 0)).put F.CAR_BOOT_SPLIT1 0 (splitOf s straps 1)
  { s with boot := { s.boot with budget := decide (s.get F.CLK_STAT_OSC_DLY 0 ≤ 50) && !s.bel.otp.xspi1s } }

/-- Out of reset with the link not yet UP, the K-die shows LINK_DOWN (R162, R183, R194). -/
def showDown (s : State) : State :=
  let s := s.each (List.range 72) (fun ch s => s.put F.PWR_STATE_LINK_DOWN ch 1)
  (s.each [0, 1] (fun f s => s.put F.FEED_STAT_LINK_DOWN f 1)).put F.IOX_STAT_LINK_DOWN 0 1

/-- Reset is released with the straps sampled (R521 steps 3 and 4, R528): the oscillator is started. -/
def release (straps : Nat) (s : State) : State :=
  let s := showDown s
  let d := oscDly s.bel.otp straps
  let s := strapRegs straps ((s.put F.CLK_STAT_OSC_DLY 0 d.1).put F.CLK_STAT_DLY_SRC 0 (b2n d.2))
  { s with
    pm := { s.pm with phase := 0 }
    clk := { s.clk with osc := true }
    boot := { s.boot with step := 3, straps := straps } }

/-- RESET_RELEASE (R521 step 3), not in HALT_SAFE (R514): t_POR after PGOOD; `straps` are the levels of OSCDLY0, OSCDLY1, CAR0_SPLIT and CAR1_SPLIT. -/
def execResetRelease (straps : Fin 16) (us : Nat) (s : State) : Res :=
  .next (if s.boot.pgood ∧ s.boot.step = 2 ∧ ¬ s.flag F.KN_STAT_HALT 0 then milestone 0 us (release straps s) else s)

/-! ### Supply reset and RESET_CHIP -/

/-- A supply reset before BOOT_DONE counts as a boot failure (R358, R530). -/
def supplyFail (s : State) : State :=
  if s.pm.bootWait then
    wakeBootFail { s with pm := { s.pm with bootWait := false } }
  else s

/-- SUPPLY_RESET (R530): PGOOD falls while PMIC_EN is high; Gong drops PMIC_EN and raises it again after t_PMIC_OFF. -/
def execSupplyReset (outst : List Req) (s : State) : Res :=
  .next (if s.boot.off ∨ s.boot.step < 2 ∨ ¬ s.boot.pgood ∨ ¬ s.pm.en then s
  else
    let s := supplyFail (s.hdieResetNow outst)
    let s := { s with pm := { s.pm with phase := 2, en := false }, boot := { s.boot with step := 0, pgood := false, again := true } }
    s.emit (.pin 5 0 0))

/-- RESET_CHIP and its release (R531): the K-die and the H-die outside the island are reset, the clocks run on with the straps as
sampled before, the time counter starts again, the spine link retrains, and DDR training runs again. -/
def chipReset (outst : List Req) (s : State) : State :=
  let bw := s.toc.resetChip = none ∧ s.boot.bwdg
  let src := s.toc.resetChip.getD 0
  let s := showDown (causeWrite rsChip (b2n bw) src (kdieReset rsChip (s.hdieResetNow outst)))
  let s := { s with
    boot := bootFresh 5 true false s.boot
    pm := { s.pm with phase := 0 }
    time := { s.time with run := s.flag F.CLK_PLL_LOCK 2 } }
  strapRegs s.boot.straps (s.when (s.flag F.CLK_PLL_LOCK 3) ddrTrain)

/-- RESET_CHIP (R531), which a source (R471, R473) or BWDG (R461) requests; during the scan clear it waits (R465), and a supply
reset goes before it (R533).  RESET_CAUSE names the request that stands. -/
def execResetChip (outst : List Req) (s : State) : Res :=
  .next (if s.pm.phase ≠ 2 ∧ s.bel.scan ≠ 1 then chipReset outst s else s)

/-- BWDG_EXPIRED (R461): RESET_CHIP follows without any mask, and FS388 waits for the next boot. -/
def execBwdgExpired (s : State) : Res :=
  .next (if s.pm.phase = 2 then s
  else
    { s with bel := { s.bel with bwdgHit := true }
             boot := { s.boot with bwdg := true, resets := tupd 0 s.boot.resets 4 (fun n => satInc n (2 ^ 32 - 1)) } })

/-! ### RESET_PART and the TAP (R530) -/

/-- The ports of the blocks of which a partition's reset resets a unit: Tabla, the input and output block, the CAN and LIN block and the
IOMMU.  A fence after a timeout there has had its reset (R26; DESIGN CHOICE, log 60). -/
def partPorts (s : State) (p : Nat) : List Nat :=
  let any (cls n : Nat) : Bool := (List.range n).any (fun i => asgOf s cls i == p)
  [(0x006, any 1 16), (0x00C, any 9 32 || any 10 6 || any 11 8), (0x031, any 4 16), (0x035, any 5 12),
   (0x050, slotOwner s 0x050 == p), (0x1003, (assignedVes s).any (fun n => validPart s (s.get F.VEMGR_VEASSIGN_PART n) == p))].filterMap
     (fun e => if e.2 then some e.1 else none)

/-- A partition's resources after its reset, as each chapter states: its Tabla engines (R128, R131), LSO, bridges and sensor
supplies (R194), CAN controllers and LIN channels (R328, R341), the IOMMU (R401), virtual endpoints (R425), trios (R383), calls to Belfry (R465) and its
watchdog (R484). -/
def partReset (p : Nat) (s : State) : State :=
  let s := s.each (partPorts s p) (fun m s => s.endCause m causeTimeout)
  let s := restartPartTabla p (resetPartTabla p s)
  let s := resetPartOutputs p s
  let s := s.each (List.range 16) (fun n s => s.when (asgOf s 4 n == p) (canDisable n))
  let s := s.each (List.range 12) (fun l s => s.when (asgOf s 5 l == p) (linReset l))
  let s := s.when (slotOwner s 0x050 == p) resetIommu
  let s := veResetPart p s
  let s := s.each [0, 1] (fun t s => s.when (asgOf s 14 t == p) (carReset t))
  wdgResetPart p (belResetPart p s)

/-- RESET_PART (R471, R530): the partition's reset runs, and a request for it that stands is met. -/
def execResetPart (part : Fin 16) (s : State) : Res :=
  let s := partReset part s
  .next { s with toc := { s.toc with resetPart := s.toc.resetPart.filter (· != part.val) } }

/-- TAP_RESET (R530): only the JTAG TAP, which holds no state of its own here. -/
def execTapReset (s : State) : Res := .next s

/-! ### DDR training (R523) -/

/-- A boot or supply source raised (R545): KIND, VALUE and word 1. -/
def bootFault (n kind value w1 : Nat) (s : State) : State := s.raise n (kind % 16 * 2 ^ 27 + value % 2 ^ 16) w1 0

/-- DDR_TRAINING_DONE (R523): port 0x1001 opens, or stays fenced with FS30. -/
def execDdrTrainingDone (ok : Bool) (s : State) : Res :=
  .next (if s.boot.ddr = 1 ∧ s.pm.phase ≠ 2 then
    (if ok then
      ({ s with boot := { s.boot with ddr := 2 } }.endCause 0x1001 causeReset).openPort 0x1001
     else bootFault 30 0 0 0 { s with boot := { s.boot with ddr := 3 } })
  else s)

end Sys2Proof.Machine
end

