-- ==== Sys2Proof/Machine/Boot.lean ====
section
/-!
DEFINITION. Boot from the first-stage bundle to the release of the A-cluster (R451, R521 to R529).
-/

namespace Sys2Proof.Machine

/-! ### The assignment registers (R442 to R448) -/

/-- Assignments of the eight indices that BSEC_ASG_SEL selects, as BSEC_ASG_DATA shows them (R445). -/
def asgWord (s : State) : Nat :=
  let k := 4096 * s.get F.BSEC_ASG_SEL_CLASS 0 + s.get F.BSEC_ASG_SEL_INDEX 0 / 8 * 8
  (List.range 8).foldl (fun a j => a + tget 15 s.bel.asg (k + j) % 16 * 16 ^ j) 0

/-- BSEC_ASG_DATA follows the table. -/
def asgShow (s : State) : State := s.wr R.BSEC_ASG_DATA 0 (BitVec.ofNat 32 (asgWord s))

/-- A write of BSEC_ASG_DATA sets the eight selected entries. -/
def asgPut (v : Nat) (s : State) : State :=
  let k := 4096 * s.get F.BSEC_ASG_SEL_CLASS 0 + s.get F.BSEC_ASG_SEL_INDEX 0 / 8 * 8
  asgShow { s with bel := { s.bel with
    asg := (List.range 8).foldl (fun t j => tset 15 t (k + j) (bitsOf v (4 * j + 3) (4 * j))) s.bel.asg } }

/-- The registers that the assignment lock fixes (R446), and that the manifest may name (R526). -/
def asgRegs : List Reg :=
  [R.BSEC_SSRAM_WM, R.BSEC_DRAM_WM, R.BSEC_ASG_SEL, R.BSEC_ASG_DATA, R.BSEC_PARTCFG, R.BSEC_VMIDMAP, R.BSEC_PMEM0,
   R.BSEC_PMEM1]

/-- The word of a list of families at an address. -/
def findReg : List Reg → Nat → Option (Reg × Nat)
  | [], _ => none
  | r :: t, a => match r.index? a with | some i => some (r, i) | none => findReg t a

/-- Belfry writes one of these registers. -/
def asgWrite (r : Reg) (i : Nat) (v : Word) (s : State) : State :=
  if r.id = R.BSEC_ASG_DATA.id then asgPut v.toNat s
  else
    let s := s.swWrite true r i v
    if r.id = R.BSEC_ASG_SEL.id then asgShow s else s

/-! ### The first-stage bundle (R526, Table 19-4) -/

/-- A field of the bundle. -/
def bunNat (b : List Nat) (o n : Nat) : Nat := leNat ((b.drop o).take n)
def bunLen (b : List Nat) : Nat := bunNat b 0x0C 4
def secOfs (b : List Nat) (k : Nat) : Nat := bunNat b (0x20 + 8 * k) 4
def secLen (b : List Nat) (k : Nat) : Nat := bunNat b (0x24 + 8 * k) 4
def bunEntry (b : List Nat) : Nat := bunNat b 0x50 8
def bunLoad (b : List Nat) : Nat := bunNat b 0x58 4
def bunPub (b : List Nat) : List Nat := (b.drop 0x60).take 97

/-- The octets of a section. -/
def secOct (b : List Nat) (k : Nat) : List Nat := (b.drop (secOfs b k)).take (secLen b k)

/-- MAGIC "KZFS". -/
def bunMagic (b : List Nat) : Bool := b.take 4 == [0x4B, 0x5A, 0x46, 0x53]

/-- MAGIC, FORMAT, PART_ID and the limit on LENGTH. -/
def bunHead (b : List Nat) : Bool :=
  bunMagic b && bunNat b 4 2 == 1 && bunNat b 8 4 == 0x09400B01 && decide (0x100 + 96 ≤ bunLen b) && decide (bunLen b ≤ 1048576)

/-- Octets that the destination of a section holds. -/
def secRoom (b : List Nat) (k : Nat) : Nat :=
  match k with | 0 => 0x40000 | 1 => 0x100000 | 2 => 0x100000 | 3 => 0x100000 | 4 => 0x800000 - bunLoad b | _ => 0

/-- Every section lies in the bundle and fits its destination. -/
def bunFits (b : List Nat) : Bool :=
  (List.range 6).all (fun k => decide (secOfs b k + secLen b k ≤ bunLen b) && decide (secLen b k ≤ secRoom b k))

/-- The records of a manifest: offset and value. -/
def manifest : Nat → List Nat → List (Nat × Nat)
  | 0, _ => []
  | k + 1, l => (leNat (l.take 4), leNat ((l.drop 4).take 4)) :: manifest k (l.drop 8)

def bunManifest (b : List Nat) : List (Nat × Nat) := manifest (secLen b 1 / 8) (secOct b 1)

/-- The register that a record names, where it may name one. -/
def recReg (r : Nat × Nat) : Option (Reg × Nat) := findReg asgRegs (0x10700000 + r.1)

/-- Belfry applies the records in order. -/
def applyManifest (l : List (Nat × Nat)) (s : State) : State :=
  s.each l (fun r s => match recReg r with | some x => asgWrite x.1 x.2 (BitVec.ofNat 32 r.2) s | none => s)

/-- A region of a non-secure partition touches secure memory (R448). -/
def badRegion (s : State) (p r : Nat) : Bool :=
  let a := s.get F.BSEC_PMEM0_BASE (4 * p + r) * 65536
  let n := s.get F.BSEC_PMEM1_SIZE (4 * p + r) * 65536
  let sram := min (s.get F.BSEC_SSRAM_WM_WM 0) 128 * 65536
  let dram := 0x400000000 + min (s.get F.BSEC_DRAM_WM_WM 0) 8192 * 2 ^ 21
  s.flag F.BSEC_PMEM1_VALID (4 * p + r) && !partSecure s p && decide (0 < n) &&
  (decide (a < sram) || (decide (a < dram) && decide (0x400000000 < a + n) && decide (0x400000000 < dram)))

/-- What a manifest leaves breaks R442 or R448. -/
def badAssign (s : State) : Bool :=
  (List.range 16).any (fun i =>
    let p := s.get F.BSEC_VMIDMAP_PART i
    (p != 15 && s.get F.BSEC_PARTCFG_KIND p != 1) || (List.range 4).any (badRegion s i))

/-- The manifest of a bundle is valid (R526). -/
def manifestOk (s : State) (b : List Nat) : Bool :=
  secLen b 1 % 8 == 0 && (bunManifest b).all (fun r => (recReg r).isSome) && !badAssign (applyManifest (bunManifest b) s)

/-- Owner key, signature, rollback and manifest (R451 step 2). -/
def bunSigned (s : State) (b : List Nat) : Bool :=
  let n := bunLen b - 96
  beNat (sha384 (bunPub b)) == s.bel.otp.ownerHash && ecdsaVerify (bunPub b) (sha384 (b.take n)) ((b.drop n).take 96) &&
  decide (s.bel.otp.secMin ≤ bunNat b 0x10 4) && manifestOk s b

/-- A bundle is accepted: in BLANK unverified (Table 16-2). -/
def bunOk (s : State) (b : List Nat) : Bool :=
  bunHead b && bunFits b && (lcState s == lcBlank || bunSigned s b)

/-- Copy `k` of the bundle in flash. -/
def bunCopy (s : State) (k : Nat) : List Nat :=
  let a := flashBase + 0x100000 * k
  s.memRead a (min 0x100000 (max 0x100 (s.memWord (a + 0x0C))))

/-- An accepted bundle reaches its destinations and the assignment is locked (R451 steps 3 to 5): the identity key, TABLA_CTRL.PART
(R129) and BSEC_LOCK.ASG. -/
def bunBoot (b : List Nat) (s : State) : State :=
  let s := showModuleId (deriveIdent s)
  let s := applyManifest (bunManifest b) s
  let s := s.each (List.range 16) (fun n s => s.put F.TABLA_CTRL_PART n (tget 15 s.bel.asg (4096 + n)))
  let s := (s.memWrite 0x40000000 (secOct b 2)).memWrite 0x40100000 (secOct b 3)
  let s := if bitOf (bunNat b 6 2) 0 then s.memWrite (bunLoad b) (secOct b 4) else s
  let s := { s with
    bel := { s.bel with ownerKey := some (bunPub b), bundle := [], bundleNext := 0 }
    boot := { s.boot with step := 6, aEntry := bunEntry b, jtag := false } }
  tocRefresh (s.put F.BSEC_LOCK_ASG 0 1)

/-- Every clock that step 6 needs runs: all four PLLs lock. -/
def pllsLocked (s : State) : Bool := ([0, 1, 2, 3] : List Nat).all (fun q => s.flag F.CLK_PLL_LOCK q)

/-- Fields of Table 16-4: a lifecycle or key field stops the boot (R450), and so does SEC_MIN, whose value would be open (DESIGN CHOICE,
log 66). -/
def OtpField.secure : OtpField → Bool
  | .lc | .ownerHash | .testKeyHash | .idSeed | .ksKey | .secMin => true
  | .clkOscDly | .carSplit0 | .carSplit1 | .strapDis | .bwdgTmo | .xspiCs | .xspi1s => false

/-- OTP as read with uncorrectable errors: each boot field in error reads 0 (R529). -/
def otpRead (bad : List OtpField) (o : Otp) : Otp :=
  { o with
    clkOscDly := if OtpField.clkOscDly ∈ bad then 0 else o.clkOscDly
    carSplit := (if OtpField.carSplit0 ∈ bad then 0 else o.carSplit % 2) + (if OtpField.carSplit1 ∈ bad then 0 else o.carSplit / 2 % 2 * 2)
    strapDis := if OtpField.strapDis ∈ bad then false else o.strapDis
    bwdgTmo := if OtpField.bwdgTmo ∈ bad then 0 else o.bwdgTmo
    xspiCs := if OtpField.xspiCs ∈ bad then 0 else o.xspiCs
    xspi1s := if OtpField.xspi1s ∈ bad then false else o.xspi1s }

/-- What the boot fields decide, with those in error reading 0: OSC_DLY, SPLITn, STRAP_DIS and BWDG's timeout (R502, R528, R532, R461). -/
def otpBoot (bad : List OtpField) (s : State) : State :=
  if bad = [] then s
  else
    let o := otpRead bad s.bel.otp
    let d := oscDly o s.boot.straps
    let split (n : Nat) : Nat := b2n (bitOf o.carSplit n || (!o.strapDis && bitOf s.boot.straps (2 + n)))
    let s := (s.put F.CLK_STAT_OSC_DLY 0 d.1).put F.CLK_STAT_DLY_SRC 0 (b2n d.2)
    let s := (s.put F.CAR_BOOT_SPLIT0 0 (split 0)).put F.CAR_BOOT_SPLIT1 0 (split 1)
    let s := s.put F.RESET_CAUSE_STRAP_DIS 0 (b2n o.strapDis)
    if OtpField.bwdgTmo ∈ bad then bwdgRestart (s.put F.BWDG_CTRL_TMO 0 1000) else s

/-- An OTP error is recorded (R450): its count is not stated. -/
def otpFault (n : Nat) (s : State) : State :=
  let d := s.draw
  d.2.raiseSec n 15 0 0x30 (Config.freeNat 35 d.1 % 2 ^ 32)

/-- The ROM reads OTP (R451 step 1). -/
def otpScan (x : RomIn) (s : State) : State :=
  let s := if x.corrected then otpFault 394 s else s
  otpBoot x.bad (if x.bad = [] then s else otpFault 395 s)

/-- Copy A, copy B or the bundle loaded over JTAG boots; in BLANK without MAGIC in either copy the ROM waits, else both have
failed and Belfry halts with every other initiator in reset (R451, R527).  `octal` says that the flash supports 8D-8D-8D. -/
def romBoot (us : Nat) (octal : Bool) (s : State) : State :=
  let a := bunCopy s 0
  let b := bunCopy s 1
  if s.boot.jtag then milestone 3 us (bunBoot s.bel.bundle s)
  else if bunOk s a then
    milestone 3 us (bunBoot a { s with boot := { s.boot with budget := s.boot.budget && octal } })
  else if bunOk s b then
    milestone 3 us (bunBoot b { s with bel := { s.bel with fallback := true }, boot := { s.boot with budget := false } })
  else if lcState s = lcBlank ∧ ¬ bunMagic a ∧ ¬ bunMagic b then
    { s with boot := { s.boot with romWait := true } }
  else { s with bel := { s.bel with halted := true } }

/-- ROM_BOOT (R450, R451, R521 step 6). -/
def execRomBoot (us : Nat) (rom : RomIn) (s : State) : Res :=
  .next (if (s.boot.step = 3 ∨ s.boot.step = 5) ∧ pllsLocked s ∧ s.pm.phase = 0 ∧ ¬ s.boot.romWait ∧ ¬ s.bel.halted ∧
      s.bel.scan = 0 then
    (let s := otpScan rom s
     if rom.bad.any OtpField.secure then { s with bel := { s.bel with halted := true } } else romBoot us rom.octal s)
  else s)

/-! ### A bundle over JTAG (R527), and certificates (R463) -/

/-- The octets of BDBG_BUF. -/
def dbgBuf (s : State) : List Nat := (List.range 128).foldl (fun l w => l ++ leOctets (s.get F.BDBG_BUF_DATA w) 4) []

/-- A submission is done with a result. -/
def dbgDone (result : Nat) (s : State) : State := (s.put F.BDBG_STAT_RESULT 0 result).put F.BDBG_STAT_DONE 0 1

/-- A chunk of the bundle: its number must be the next one, and chunk 0 restarts the load. -/
def bunChunk (c : Nat) (s : State) : State :=
  let d := dbgBuf s
  if c = 0 then
    (if bunHead d && bunFits d then dbgDone stOk { s with bel := { s.bel with bundle := d, bundleNext := 1 } }
     else dbgDone stBadLen s)
  else if c ≠ s.bel.bundleNext ∨ s.bel.bundleNext = 0 then dbgDone stBadLen s
  else
    let b := s.bel.bundle ++ d
    let n := bunLen b
    let s := dbgDone stOk { s with bel := { s.bel with bundle := b, bundleNext := c + 1 } }
    if (n + 511) / 512 ≤ c + 1 then
      { s with bel := { s.bel with bundle := b.take n }, boot := { s.boot with romWait := false, jtag := true } }
    else s

/-- A certificate judged from `BDBG_BUF` and its result shown (R410). -/
def dbgCert (init : Nat) (s : State) : State :=
  let r := certSubmit (dbgBuf s) 15 init s
  dbgDone r.1 r.2

/-- A write of BDBG_CTRL with SUBMIT: a chunk while the ROM waits for a bundle, else a certificate. -/
def dbgSubmit (init : Nat) (v : Word) (s : State) : State :=
  let s := dbgShut (getBits v 3 0) (s.put F.BDBG_CTRL_CHUNK 0 (getBits v 29 16))
  if !v.getLsbD 31 then s
  else if s.boot.romWait then bunChunk (getBits v 29 16) s
  else dbgCert init s

/-- A write of BDBG_CTRL by a party that the BDBG registers answer to (R467). -/
def dbgRow (init : Nat) (v : Word) (s : State) : State :=
  s.busWrite init (R.BDBG_CTRL.addr 0) 4 (fun s =>
    if dbgMay init then dbgSubmit init v s else s.denyWrite init (R.BDBG_CTRL.addr 0))

/-- BDBG_SUBMIT (R463). -/
def execBdbgSubmit (init : Init) (value : Word) (s : State) : Res := .next (dbgRow init value s)
/-- BUNDLE_CHUNK (R527). -/
def execBundleChunk (init : Init) (value : Word) (s : State) : Res := .next (dbgRow init value s)

/-! ### Step 7: the trios -/

/-- TRIO_RELEASE (R521 step 7, Table 13-2): at boot, and at the end of a RESET_PART of a trio's partition (R383). -/
def execTrioRelease (us : Nat) (s : State) : Res :=
  .next (if s.boot.step < 6 ∨ s.pm.phase = 2 ∨ s.bel.halted ∨ s.bel.scan ≠ 0 then s
  else
    let s := s.each [0, 1] carRelease
    if s.boot.step = 6 then milestone 4 us { s with boot := { s.boot with step := 7 } } else s)

/-! ### Step 8: the configuration (R93, R99, R522) -/

/-- A slot is abandoned (R93): BAD, and FS405. -/
def slotBad (k code : Nat) (s : State) : State :=
  let g := cfgGen s k
  dictFault 405 4 code k g 0 (slotPut k slBad g s)

/-- A slot that is still TRIAL has failed its trial, unless a wake from an accepted DEEP_SLEEP entry boots it (R93). -/
def failTrials (s : State) : State :=
  if s.boot.wakeOk then s else s.each [0, 1] (fun k s => if cfgState s k = slTrial then slotBad k 0 s else s)

/-- The slots in the order in which they are tried (R93): a slot that stays TRIAL, a PENDING one of a greater generation than the
CONFIRMED one, the CONFIRMED one, then the other.  Of two CONFIRMED slots the one of the greater GENERATION goes first, the one that
was confirmed later, and A where they are equal (DESIGN CHOICE, log 58). -/
def slotOrder (s : State) : List Nat :=
  let one (st : Nat) : List Nat := (if cfgGen s 0 < cfgGen s 1 then [1, 0] else [0, 1]).filter (fun k => cfgState s k == st)
  let conf := one slConfirmed
  let newer := (one slPending).filter (fun k => conf.all (fun c => decide (cfgGen s c < cfgGen s k)))
  (one slTrial ++ newer ++ conf ++ one slPending).eraseDups

/-- A slot whose base image passes is booted; a pending one becomes the trial (R93). -/
def slotTake (k : Nat) (s : State) : State :=
  let s := s.put F.DICT_SLOT_ACTIVE 0 k
  slotPut k (if cfgState s k = slPending then slTrial else cfgState s k) (cfgGen s k) s

/-- A slot whose base image fails is marked, with FS402. -/
def slotFail (k : Nat) (e : Nat × Nat) (s : State) : State := slotBad k e.1 (dictFault 402 2 e.1 0xFF e.2 0 s)

/-- What the verdict on slot `k`'s base image means for the choice: the slot is taken, or the rest is tried. -/
def slotVerdict (k : Nat) (s : State) (rest : State → Option (Nat × ImgOk) × State) :
    Except (Nat × Nat) ImgOk → Option (Nat × ImgOk) × State
  | .ok b => (some (k, b), slotTake k s)
  | .error e => rest (slotFail k e s)

/-- The first slot whose base image verifies becomes active; a PENDING one is TRIAL from then on.  One that does not verify is
BAD (R93). -/
def pickSlot : List Nat → State → Option (Nat × ImgOk) × State
  | [], s => (none, s)
  | k :: t, s => slotVerdict k s (pickSlot t) (baseCheck s k)

/-- An object takes its value in a mode, where that differs from what it holds; a selection of a Tabla table waits for sub-step 7 of
R522. -/
def applyObject (t : Nat) (o : ObjDef) (s : State) : State :=
  s.each (List.range o.count) (fun i s =>
    let v := if o.acc == .rwm then modeValue s t o i else baseValue s o i
    if o.held s i = v then s
    else if o.base = 0x380110 then s.updEng i (fun e => { e with sel := v })
    else o.put i v s)

/-- A VOLATILE object starts at the value of its record in the base image (R68, R69), which the dictionary engine writes as the
output's driver where the object drives one (DESIGN CHOICE, log 58); without a record it is at its Default since reset. -/
def startVolatile (e : Nat × Option Nat) (s : State) : State :=
  match e.2, findObj e.1 with
  | some v, some (o, i) => if o.acc == .rw && driverOk s o i then o.put i v s else s
  | _, _ => s

/-- Every object: those that persist, then the start values of the others. -/
def applyObjects (t : Nat) (s : State) : State :=
  let s := s.each (objects.filter (fun o => o.acc == .rwb || o.acc == .rwm)) (applyObject t)
  s.each s.dict.base startVolatile

/-- A frame of an overlay holds something. -/
def framePresent (s : State) (k n : Nat) : Bool := (s.memRead (frameAddr k 1 n) 4).any (· != 0)

/-- The overlays of the active slot (R99): a frame that fails validation raises FS403. -/
def bootOverlays (k : Nat) (b : ImgOk) (s : State) : State :=
  s.each (List.range 15) (fun n s =>
    if !framePresent s k n then s
    else
      match ovlCheck s k n b with
      | .ok o =>
        let s := { s with dict := { s.dict with ovl := tset none s.dict.ovl n (some ⟨o.recs, o.rights, o.from_⟩) } }
        s.put ⟨R.DICT_STAT, n, n⟩ 0 1
      | .error e => dictFault 403 3 e.1 n e.2 0 s)

/-- The mode to boot into (R99): what Gong retains since a DEEP_SLEEP entry, else the base image's DEFAULT_MODE. -/
def bootMode (s : State) (b : Option (Nat × ImgOk)) : Nat :=
  if s.pm.slept then s.get F.GONG_MODE_RET_BOOT_MODE 0
  else match b with | some x => x.2.mode | none => moNone

/-- A mode that can be entered, else LIMP, else NONE, with FS404 (R99). -/
def enterBoot (t : Nat) (s : State) : Nat × State :=
  if t = moNone ∨ (ovlOf s t).isSome then (t, s)
  else
    let u := if (ovlOf s moLimp).isSome then moLimp else moNone
    (u, dictFault 404 3 dOverlayInvalid u (t + 16 * u) 0 s)

/-- The presets of virtual endpoints (R438): ASSIGN, the binding words, and ACTIVATE. -/
def applyPreset (bind : Nat → Nat → Nat → State → State) (n : Nat) (s : State) : State :=
  let p := leOctets (tget 0 s.dict.vals (0x500400 + n)) 128
  let ty := p.getD 0 0
  let sub := p.getD 1 0
  if ty = 0 ∨ ¬ s.flag F.VEMGR_VEASSIGN_VALID n then s
  else if !typeOk ty sub then veFault 409 n 4 0 s
  else
    let s := veAssign n ty sub s
    let s := s.each (List.range 31) (fun k s => bind n k (leNat ((p.drop (4 + 4 * k)).take 4)) s)
    if !bitOf (p.getD 2 0) 0 then s
    else if bindOk s n then veActivate n s
    else veFault 409 n 5 0 s

/-- A milestone with a maximum in ms, 10 ms shorter after RESET_CHIP; one that is late raises FS31 once the beat runs (R524, R531,
R532). -/
def milestoneMax (k ms us : Nat) (s : State) : State :=
  let lim := (ms - (if s.boot.chip then 10 else 0)) * 1000
  let s := milestone k us s
  if s.boot.budget && decide (lim < us) then
    (if s.tab.started then bootFault 31 k 0 (min us 0xFFFFFFFF) s
     else { s with boot := { s.boot with missed := s.boot.missed ++ [k] } })
  else s

/-- The slot record is read, a trial that did not end is failed, and the slot that boots is picked (R93, R95). -/
def configPick (s : State) : Option (Nat × ImgOk) × State :=
  let s := failTrials (slotsLoad s)
  pickSlot (slotOrder s) s

/-- The base image that boots, with its overlays, or FS402 where there is none (R93, R94, R105). -/
def configTake (r : Option (Nat × ImgOk)) (s : State) : State :=
  match r with
  | some (k, b) =>
    let base := b.recs.foldl (fun (t : Tab (Option Nat)) (e : Nat × Nat) => tset none t e.1 (some e.2)) []
    let s := { s with dict := { s.dict with base := base, baseHash := b.hash, baseSec := b.sec } }
    bootOverlays k b (s.put F.DICT_STAT_BASE_VALID 0 1)
  | none => if tocPending s 402 then s else dictFault 402 2 dImgFormat 0xFF hdrIdx 0 s

/-- The objects' values of mode `t` take effect, the mode stands and the sessions start (R69, R83, R99). -/
def configStart (t : Nat) (s : State) : State :=
  startSessions ((((applyObjects t s).put F.DICT_MODE_MODE 0 t).put F.DICT_MODE_BOOT_MODE 0 t).put F.DICT_MODE_PEND_MODE 0 15)

/-- The boot lock is set (R447): the watchdogs start, and the BEAT block copies the Knell producers (R59). -/
def lockBoot (s : State) : State :=
  let s := wdgBootLock (s.put F.BSEC_LOCK_BOOT 0 1)
  { s with twin := { s.twin with knProd := (List.range 8).foldl (fun t g => tset 0x7FF t g (s.get F.KN_GRP_PROD g)) [] } }

def configApply (bind : Nat → Nat → Nat → State → State) (us : Nat) (s : State) : State :=
  let r := configPick (s.when (rngState s = rngReady) drawNonce)
  let m := enterBoot (bootMode (configTake r.1 r.2) r.1) (configTake r.1 r.2)
  let s := mgrLevels ((configStart m.1 m.2).each (List.range 1024) (applyPreset bind))
  let s := milestoneMax 5 50 us ((swEnable (swBootLock (lockBoot s))).put F.DICT_STAT_READY 0 1)
  s.each (List.range 16) loadActive

/-- A_CLUSTER_RELEASE (R521 step 9): after the boot lock and the completion of DDR training. -/
def execAClusterRelease (us : Nat) (s : State) : Res :=
  .next (if s.bootLocked ∧ s.boot.ddr = 2 ∧ s.boot.step = 8 ∧ ¬ s.boot.started ∧ s.pm.phase = 0 then
    milestoneMax 7 70 us { aclRelease s with boot := { s.boot with started := true, step := 9 } }
  else s)

end Sys2Proof.Machine
end

