-- ==== Sys2Proof/Machine/Monitor.lean ====
section
/-!
DEFINITION. The monitors of the supplies and of the die temperatures (R536, R542).
-/

namespace Sys2Proof.Machine

/-! ### K-die rails (R536) -/

/-- Typical value in mV of a rail, in the order of Table 19-10: VDD_K, VDD_KSRAM, VDD_PHY, VDD18, VDD33, VDD_LP1, VDD_LP2,
VDD_LPQ. -/
def railTyp (k : Nat) : Nat :=
  match k with | 0 => 750 | 1 => 850 | 2 => 900 | 3 => 1800 | 4 => 3300 | 5 => 1800 | 6 => 1050 | _ => 500

/-- A reading lies outside ±8 % of the typical value. -/
def railBad (k mv : Nat) : Bool := decide (mv * 100 < railTyp k * 92) || decide (railTyp k * 108 < mv * 100)

/-- RAIL_OUT_OF_RANGE (R536): FS12 for VDD_K and VDD_KSRAM, FS13 for any other rail. -/
def execRailOutOfRange (rail : Fin 8) (mv : Nat) (s : State) : Res :=
  .next (if s.pm.phase = 2 ∨ ¬ railBad rail mv then s
  else bootFault (if rail.val ≤ 1 then 12 else 13) rail mv 0 s)

/-! ### VBAT12 and VBAT48 (R536) -/

/-- Lower threshold, upper threshold and hysteresis of a VBAT rail in mV. -/
def vbatLim (b48 : Bool) : Nat × Nat × Nat := if b48 then (20000, 61000, 1000) else (6000, 28500, 500)

/-- The monitor of a rail after a reading: 0 in range, 1 low, 2 high. -/
def vbatNext (b48 : Bool) (was mv : Nat) : Nat :=
  let l := vbatLim b48
  if mv < l.1 then 1
  else if l.2.1 < mv then 2
  else if was = 1 ∧ mv < l.1 + l.2.2 then 1
  else if was = 2 ∧ l.2.1 < mv + l.2.2 then 2
  else 0

/-- KIND of a VBAT rail (R545, Table 19-10). -/
def vbatKind (b48 : Bool) : Nat := if b48 then 9 else 8

/-- The source of a rail that is low or high. -/
def vbatSrc (b48 : Bool) (st : Nat) : Nat :=
  if b48 then (if st = 1 then 24 else 25) else (if st = 1 then 14 else 15)

/-- The monitor's state of a rail. -/
def vbatOf (b48 : Bool) (s : State) : Nat := if b48 then s.boot.vbat48 else s.boot.vbat12

/-- Word 0 of a record of R545. -/
def monW0 (kind value : Nat) : Nat := 2 ^ 31 + kind % 16 * 2 ^ 27 + value % 2 ^ 16

/-- A reading of a VBAT rail: entering low or high raises the source; returning into the range raises interrupt 517. -/
def vbatRead (b48 : Bool) (mv : Nat) (s : State) : State :=
  if !hRuns s then s
  else
    let was := vbatOf b48 s
    let st := vbatNext b48 was mv
    let s := { s with boot := if b48 then { s.boot with vbat48 := st } else { s.boot with vbat12 := st } }
    if st = was then s
    else if st = 0 then s.kdo [.int 517]
    else s.kdo [.fault (vbatSrc b48 st) (monW0 (vbatKind b48) mv) 0 s.beatLo 0]

/-- VBAT_OUT_OF_RANGE (R536). -/
def execVbatOutOfRange (b48 : Bool) (mv : Nat) (s : State) : Res := .next (vbatRead b48 mv s)

/-- VBAT_IN_RANGE (R536). -/
def execVbatInRange (b48 : Bool) (mv : Nat) (s : State) : Res := .next (vbatRead b48 mv s)

/-! ### Die temperatures (R542) -/

/-- A threshold with 5 °C hysteresis, in 0.125 °C. -/
def tempOver (was : Bool) (t limit : Int) : Bool := if was then decide (limit - 40 ≤ t) else decide (limit ≤ t)

/-- A conversion outside −55 °C to +175 °C. -/
def tempFault (t : Int) : Bool := decide (t < -440) || decide (1400 < t)

/-- A signed object value. -/
def warnOf (s : State) (hdie : Bool) : Int :=
  if hdie then (tget 1120 s.dict.vals 0x010083 : Nat) else (tget 920 s.dict.vals 0x010082 : Nat)

/-- The K-die's sensor after a conversion: FS26, FS27 and interrupt 516. -/
def tempReadK (t : Int) (s : State) : State :=
  let o := s.temp
  let warn := tempOver o.kWarn t (warnOf s false)
  let lim := tempOver o.kLimit t 1000
  let s := { s with temp := { o with k := t, kFault := tempFault t, kWarn := warn, kLimit := lim } }
  let v := ofSigned 16 t
  let s := if warn && !o.kWarn then bootFault 26 0 v 0 s else if !warn && o.kWarn then s.raiseIrq 516 else s
  if lim && !o.kLimit then bootFault 27 0 v 0 s else s

/-- The H-die's sensor after a conversion: FS28, FS29 and interrupt 516; above 175 °C every CAN transceiver releases its bus
(R331). -/
def tempReadH (t : Int) (s : State) : State :=
  let o := s.temp
  let warn := tempOver o.hWarn t (warnOf s true)
  let lim := tempOver o.hLimit t 1200
  let s := { s with temp := { o with h := t, hFault := tempFault t, hWarn := warn, hLimit := lim } }
  let w0 := monW0 0 (ofSigned 16 t)
  let s := if warn && !o.hWarn then s.kdo [.fault 28 w0 0 s.beatLo 0] else if !warn && o.hWarn then s.kdo [.int 516] else s
  let s := if lim && !o.hLimit then s.kdo [.fault 29 w0 0 s.beatLo 0] else s
  if 1400 < t then s.each (List.range 16) canTrxFault else s

/-- A conversion of a die's sensor. -/
def tempRead (hdie : Bool) (t : Int) (s : State) : State :=
  if hdie then (if hRuns s then tempReadH (tempClamp t) s else s)
  else if s.pm.phase = 2 then s else tempReadK (tempClamp t) s

/-- TEMP_THRESHOLD (R542). -/
def execTempThreshold (hdie : Bool) (t : Int) (s : State) : Res := .next (tempRead hdie t s)

/-- TEMP_SENSOR_FAULT (R542): a conversion outside −55 °C to +175 °C, or back inside it. -/
def execTempSensorFault (hdie : Bool) (t : Int) (s : State) : Res := .next (tempRead hdie t s)

end Sys2Proof.Machine
end

