-- ==== Sys2Proof/Machine/VePage.lean ====
section
/-!
DEFINITION. Writes to virtual-endpoint pages and manager windows by register (R421, R422, R436, R437), and boot step 8 with the
presets that write binding registers.
-/

namespace Sys2Proof.Machine

/-- The low and high words of the writable 64-bit registers (R9). -/
def pairRegs : List (Reg × Reg) :=
  [(R.TIME_INC_LO, R.TIME_INC_HI), (R.TIME_STEP_LO, R.TIME_STEP_HI), (R.TIME_CLKID_LO, R.TIME_CLKID_HI),
   (R.MBX_UP_BASE_LO, R.MBX_UP_BASE_HI), (R.MBX_DN_BASE_LO, R.MBX_DN_BASE_HI), (R.VEC_ADDR_LO, R.VEC_ADDR_HI),
   (R.ETH_TX_BASE_LO, R.ETH_TX_BASE_HI), (R.ETH_TXC_BASE_LO, R.ETH_TXC_BASE_HI), (R.ETH_RX_BASE_LO, R.ETH_RX_BASE_HI),
   (R.CANV_STREAM_LO, R.CANV_STREAM_HI), (R.CANV_TUN_DMAC_LO, R.CANV_TUN_DMAC_HI),
   (R.CAN1_RXBASE_LO, R.CAN1_RXBASE_HI), (R.CAN1_TXBASE_LO, R.CAN1_TXBASE_HI), (R.CAN1_CQBASE_LO, R.CAN1_CQBASE_HI),
   (R.CRY_REQ_BASE_LO, R.CRY_REQ_BASE_HI), (R.CRY_CPL_BASE_LO, R.CRY_CPL_BASE_HI),
   (R.EP_GCL_BASE_LO, R.EP_GCL_BASE_HI), (R.EP_MSEC_TXSCI_LO, R.EP_MSEC_TXSCI_HI), (R.EP_TXSA_PN_LO, R.EP_TXSA_PN_HI),
   (R.EP_RXSC_SCI_LO, R.EP_RXSC_SCI_HI), (R.EP_RXSA_PN_LO, R.EP_RXSA_PN_HI),
   (R.CAN_WUF_DATA_LO, R.CAN_WUF_DATA_HI), (R.CAN_WUF_DMASK_LO, R.CAN_WUF_DMASK_HI)]

/-- A write of a word under its access codes, with the staging of R9: a low word waits, and a high word applies both. -/
def regWrite (sec : Bool) (r : Reg) (i : Nat) (v : Word) (s : State) : State :=
  if pairRegs.any (fun p => p.1.id == r.id) then s.setStaged r i (BitVec.ofNat 32 (mergeWord r s.bootLocked sec 0 v.toNat))
  else
    match pairRegs.find? (fun p => p.2.id == r.id) with
    | some p => (s.swWrite sec p.1 i (staged s p.1 i)).swWrite sec r i v
    | none => s.swWrite sec r i v

/-- A field written only where its value is legal. -/
def legalWrite (ok : Bool) (r : Reg) (i : Nat) (v : Word) (s : State) : State := if ok then regWrite false r i v s else s

/-- A ring size exponent within its bounds. -/
def log2Ok (lo hi v : Nat) : Bool := decide (lo ≤ v) && decide (v ≤ hi)

/-! ### Binding registers (Table 15-14) -/

/-- The binding register families of a VE type. -/
def bindRegs (ty : Nat) : List Reg :=
  match ty with
  | 1 => [R.ETH_BIND, R.ETH_FLT0, R.ETH_FLT1]
  | 2 => [R.CANV_BIND, R.CANV_STREAM_LO, R.CANV_STREAM_HI, R.CANV_TUN_DMAC_LO, R.CANV_TUN_DMAC_HI, R.CANV_TUN_TAG]
  | 3 => [R.LINV_BIND]
  | 4 => [R.IOG_IN_MASK, R.IOG_OUT]
  | 5 => [R.PWG_CH, R.PWG_CFG]
  | 6 => [R.TMR_CFG]
  | _ => []

/-- A binding word of VE `n` at offset 0x400 + 4 × k. -/
def bindWord (n k v : Nat) (s : State) : State :=
  match findReg (bindRegs (veType s n)) (0x30000400 + 0x1000 * n + 4 * k) with
  | some x => regWrite false x.1 x.2 (BitVec.ofNat 32 v) s
  | none => s

/-! ### Operation and common registers -/

/-- The operation register families of a VE type that a user writes, ring indices apart (Table 15-14). -/
def operRegs (ty sub : Nat) : List Reg :=
  match ty with
  | 1 => [R.ETH_TX_BASE_LO, R.ETH_TX_BASE_HI, R.ETH_TX_CFG, R.ETH_TXC_BASE_LO, R.ETH_TXC_BASE_HI, R.ETH_TXC_CFG,
          R.ETH_RX_BASE_LO, R.ETH_RX_BASE_HI, R.ETH_RX_CFG]
  | 2 => if sub = 1 then [R.CAN1_RXBASE_LO, R.CAN1_RXBASE_HI, R.CAN1_TXBASE_LO, R.CAN1_TXBASE_HI, R.CAN1_CQBASE_LO,
          R.CAN1_CQBASE_HI, R.CAN1_RXAI, R.CAN1_CQAI, R.CAN1_TXSUB, R.CAN1_TXABORT] else []
  | 4 => [R.IOG_EDGE, R.IOG_OUTVAL]
  | 5 => [R.PWG_CMD, R.PWG_KICK]
  | 7 => [R.CRY_REQ_BASE_LO, R.CRY_REQ_BASE_HI, R.CRY_CPL_BASE_LO, R.CRY_CPL_BASE_HI, R.CRY_CFG]
  | _ => []

/-- The consumer of a queue of `size` entries of CAN SUBTYPE 1 acknowledges entries: forward, and never past those that
belong to software (Table 11-9, R318). -/
def can1Ack (n size : Nat) (wi ai full : Fld) (v : Nat) (s : State) : State :=
  let old := s.get ai n % size
  let own := if s.flag full n then size else (s.get wi n + size - old) % size
  let d := (v % size + size - old) % size
  if own < d then idxErr n s
  else if d = 0 then s
  else (s.put ai n (v % size)).put full n 0

/-- Completed entries of CAN SUBTYPE 1 return to software with their records. -/
def can1Cqai (n v : Nat) (s : State) : State :=
  let d := (v % 64 + 64 - s.get F.CAN1_CQAI_AI n % 64) % 64
  let s' := can1Ack n 64 F.CAN1_CQWI_WI F.CAN1_CQAI_AI F.CAN1_CQWI_FULL v s
  if s'.get F.CAN1_CQAI_AI n = v % 64 ∧ d ≠ 0 then
    s'.updVe n (fun x => { x with tunDone := x.tunDone.drop d,
                                  tunUsed := (x.tunDone.take d).foldl (fun u e => u - (u &&& 2 ^ e)) x.tunUsed })
  else s'

/-- The effect of a user's write of an operation register. -/
def operEff (n : Nat) (r : Reg) (i : Nat) (v : Word) (s : State) : State :=
  let x := v.toNat
  if r.id = R.ETH_TX_CFG.id ∨ r.id = R.ETH_TXC_CFG.id ∨ r.id = R.ETH_RX_CFG.id then
    legalWrite (log2Ok 6 12 (bitsOf x 3 0)) r i v s
  else if r.id = R.CRY_CFG.id then legalWrite (log2Ok 4 8 (bitsOf x 3 0) && log2Ok 4 8 (bitsOf x 7 4)) r i v s
  else if r.id = R.CAN1_RXAI.id then can1Ack n 256 F.CAN1_RXWI_WI F.CAN1_RXAI_AI F.CAN1_RXWI_FULL (bitsOf x 7 0) s
  else if r.id = R.CAN1_CQAI.id then can1Cqai n (bitsOf x 7 0) s
  else if r.id = R.CAN1_TXSUB.id then can1Submit n (bitsOf x 5 0) s
  else if r.id = R.CAN1_TXABORT.id then can1Abort n (bitsOf x 5 0) s
  else if r.id = R.IOG_OUTVAL.id then iogForward n (i % 16) (bitsOf x 11 0) (regWrite false r i v s)
  else if r.id = R.PWG_CMD.id then pwgCmd n (i % 16) (bitsOf x 9 0) s
  else if r.id = R.PWG_KICK.id then (if bitOf x 0 then pwgKick n s else s)
  else regWrite false r i v s

/-- The common registers that the user writes, and those that the manager writes. -/
def commonUser : List Reg := [R.VE_EVT, R.VE_VMAP, R.VE_ERR, R.VEC_ADDR_LO, R.VEC_ADDR_HI, R.VEC_DATA]
def commonMgr : List Reg := [R.MBX_CFG, R.MBX_UP_BASE_LO, R.MBX_UP_BASE_HI, R.MBX_DN_BASE_LO, R.MBX_DN_BASE_HI]

/-- The ring whose index register lies at an offset of a page of a type. -/
def ringAt (s : State) (n a : Nat) : Option VeRing :=
  ([.mbxUpWi, .mbxUpAi, .mbxDnWi, .mbxDnAi, .ethTxTail, .ethRxTail, .ethTxcAi, .cryReqTail, .cryCplAi] : List VeRing).find?
    (fun r => ringHere r s n && (ringReg r).addr n == a)

/-- A write of a 32-bit word in the page of VE `n` (R437): other offsets ignore it. -/
def pageWord (n init a : Nat) (v : Word) (s : State) : State :=
  match ringAt s n a with
  | some r => ringWrite n r init v s
  | none =>
    match R.VEC_CTRL.index? a with
    | some i => pageWrite n init a true true (commonOk s n) (vecCtrl n (i % 8) v) s
    | none =>
      match findReg commonUser a with
      | some x => pageWrite n init a true false (commonOk s n) (regWrite false x.1 x.2 v) s
      | none =>
        match findReg commonMgr a with
        | some x =>
          let ok := x.1.id != R.MBX_CFG.id || (log2Ok 4 8 (bitsOf v.toNat 7 0) && log2Ok 4 8 (bitsOf v.toNat 15 8))
          pageWrite n init a false true (commonOk s n) (legalWrite ok x.1 x.2 v) s
        | none =>
          match findReg (bindRegs (veType s n)) a with
          | some x =>
            pageWrite n init a false true (veState s n == veAssigned || veState s n == veQuiesced) (regWrite false x.1 x.2 v) s
          | none =>
            match findReg (operRegs (veType s n) (veSub s n)) a with
            | some x => pageWrite n init a true false
                (if x.1.id = R.CAN1_RXAI.id ∨ x.1.id = R.CAN1_CQAI.id then ringOk s n else veState s n == veActive)
                (operEff n x.1 x.2 v) s
            | none => pageWrite n init a true true true id s

/-! ### The VEMGR block (R436) -/

/-- A write of VEASSIGN: VE_STAT shows the assignment (R415). -/
def veAssignWrite (n : Nat) (v : Word) (s : State) : State :=
  let s := s.swWrite true R.VEMGR_VEASSIGN n v
  (s.put F.VE_STAT_PART n (s.get F.VEMGR_VEASSIGN_PART n)).put F.VE_STAT_MGR n (s.get F.VEMGR_VEASSIGN_MGR n)

/-- The registers of a manager window. -/
def winRegs : List Reg := [R.MGR_CMD, R.MGR_ARG, R.MGR_RES, R.MGR_IE, R.MGR_SUM, R.MGR_DBPEND, R.MGR_STPEND]

/-- A write of a word of a manager window. -/
def winWrite (m : Nat) (r : Reg) (i : Nat) (v : Word) (s : State) : State :=
  if r.id = R.MGR_CMD.id then
    (if v.getLsbD 31 then mgrGo m (getBits v 27 24) v s
     else (s.put F.MGR_CMD_OP m (getBits v 27 24)).put F.MGR_CMD_VE m (getBits v 9 0))
  else mgrLevels (s.swWrite false r i v)

/-- A write in the VEMGR block: the RWL registers only from Belfry (R415, R436), a window only from its manager. -/
def vemgrWord (init a : Nat) (v : Word) (s : State) : State :=
  s.busWrite init a 4 (fun s =>
    let o := a - 0x10600000
    if 0x2000 ≤ o ∧ o < 0x6000 then
      let m := (o - 0x2000) / 0x1000
      if !mgrMay s m init then s.denyWrite init a
      else match findReg winRegs a with
        | some x => winWrite m x.1 x.2 v s
        | none => s
    else
      match R.VEMGR_VEASSIGN.index? a, R.VEMGR_MGRCFG.index? a with
      | some n, _ => if init = 0x30 ∧ ¬ s.bootLocked then veAssignWrite n v s else s
      | none, some m => if init = 0x30 then s.swWrite true R.VEMGR_MGRCFG m v else s
      | none, none => s)

/-! ### Boot step 8 -/

/-- CONFIGURATION_APPLY (R522): step 8 of boot up to the write of BEAT_CTRL.EN, which is BEAT_EN. -/
def execConfigurationApply (us : Nat) (s : State) : Res :=
  .next (if s.boot.step = 7 ∧ ¬ s.bootLocked ∧ s.pm.phase = 0 ∧ s.bel.scan = 0 then configApply bindWord us s else s)

end Sys2Proof.Machine
end

