-- ==== Sys2Proof/Machine/Boundary.lean ====
section
/-!
DEFINITION. The beat: its start, and the actions of a boundary in the order of Table 4-1 (R106 to R115).
-/

namespace Sys2Proof.Machine

/-! ### BEAT_EN (R107, R130) -/

/-- The initiators whose writes the BEAT block admits (R130). -/
def beatMay (s : State) (init : Nat) : Bool := init == 0x30 || init == 0x31 || partOf s init == slotOwner s 0x005

/-- A write of BEAT_CTRL: EN is set once, and the local elapsed time of R107 counts from it. -/
def beatCtrlWrite (v : Word) (s : State) : State :=
  let was := s.flag F.BEAT_CTRL_EN 0
  let s := s.swWrite false R.BEAT_CTRL 0 v
  if !was && s.flag F.BEAT_CTRL_EN 0 then beatState { s with tab := { s.tab with mark := s.time.elapsed } } else s

/-- BEAT_EN (R107). -/
def execBeatEn (init : Init) (value : Word) (s : State) : Res :=
  .next (s.busWrite init (R.BEAT_CTRL.addr 0) 4 (fun s =>
    if beatMay s init then beatCtrlWrite value s else s.denyWrite init (R.BEAT_CTRL.addr 0)))

/-- The beat being closed was realigned: a step took effect after the first boundary. -/
def wasRealigned (s : State) : Bool := s.tab.started && s.tab.realigned

/-! ### Steps 1 and 2 of Table 4-1 -/

/-- Step 1: the cut of every table still running (R115); FS360, or FS361 at the close of a realigned beat (R110). -/
def beatCut (s : State) : State :=
  let cut := (List.range 16).filter (fun n => (cutCount s n).isSome)
  let mask := cut.foldl (fun m n => m + 2 ^ n) 0
  let skipped := cut.foldl (fun k n => k + (cutCount s n).getD 0) 0
  let realigned := wasRealigned s
  let s := s.each (List.range 16) cutEngine
  if realigned then s.put F.BEAT_STAT_REALIGN 0 1 |>.raise 361 mask (s.rd R.TIME_LASTSTEP_LO 0).toNat 0
  else if cut.isEmpty then s
  else
    let s := ((s.put F.BEAT_STAT_ENG_CUT 0 mask).put F.BEAT_STAT_OVERRUN 0 1).incSat F.BEAT_CUTS_CUTS 0
    s.raise 360 mask (min skipped 0xFFFFFFFF) 0

/-- Step 2: the beat number, the NBI, BEAT_LAST and the latches of the time unit and the feeds. -/
def beatNumbers (t : Nat) (s : State) : State :=
  let n := if s.tab.started then s.beat + 1 else 0
  let s := s.put64 R.BEAT_NUM_LO R.BEAT_NUM_HI 0 n
  let s := s.put64 R.BEAT_NBI_LO R.BEAT_NBI_HI 0 ((t - beatPhase s) / periodNs s)
  let s := s.put64 R.BEAT_LAST_LO R.BEAT_LAST_HI 0 t
  latchCharges (latchCan s)

/-! ### Steps 4 and 5 -/

/-- Steps 4 and 5: the dictionary commit, then the switch-over of every engine (R97, R125, R128). -/
def beatCommit (s : State) : State :=
  let mode := match s.dict.pend with | some (_, 0, _) => true | _ => false
  let s := dictCommit s
  let s := s.each (List.range 16) (fun n s => swapEngine mode n (reloadEngine n s))
  s.each (List.range 16) startEngine

/-! ### Step 9: the credit audit (R18) -/

/-- The fabric's audit: `bad` are the ports with a channel whose counts at t_b do not satisfy R17. -/
def fabAudit (bad : List Nat) (s : State) : State :=
  let s := s.incWrap F.FABRIC_AUDIT_STAT_AUDITS 0
  match (bad.map portCanon).find? (fun p => !fenced s p) with
  | none => s
  | some p =>
    let s := if s.flag F.FABRIC_AUDIT_STAT_MISMATCH 0 then s else s.put F.FABRIC_AUDIT_PORT_PORT 0 p
    (s.put F.FABRIC_AUDIT_STAT_MISMATCH 0 1).raiseFab 96 0 0 p 0 0

/-! ### What waits for the beat to run -/

/-- Raises that wait for the next boot, and interrupt 529 (R353, R357, R358, R361, R451, R461, R532). -/
def beatDeferred (s : State) : State :=
  let p := s.pm
  let b := s.bel
  let late := s.boot.missed
  let s := { s with pm := { p with bootFails := 0, lockouts := 0, brown := false, irqWait := false, trips := [] },
                    bel := { b with fallback := false, bwdgHit := false }, boot := { s.boot with missed := [] } }
  let s := if p.bootFails ≠ 0 then pmFault 17 (s.get F.GONG_CNT_CNT 2) s else s
  let s := if p.trips ≠ [] then pmFault 20 p.trips.length s else s
  let s := if p.lockouts ≠ 0 then pmFault 21 (s.get F.GONG_CNT_CNT 5) s else s
  let s := if p.brown then (let d := s.draw; pmFault 22 (Config.freeNat 35 d.1 % 2 ^ 32) d.2) else s
  let s := if b.fallback then (let d := s.draw; d.2.raiseSec 384 15 0 0x30 (Config.freeNat 35 d.1 % 2 ^ 32)) else s
  let s := if b.bwdgHit then s.raiseSec 388 15 0 0x30 (tget 0 s.boot.resets 4) else s
  let s := s.each late (fun k s => bootFault 31 k 0 (min (tget 0 s.boot.times k) 0xFFFFFFFF) s)
  if p.irqWait then s.raiseIrq 529 else s

/-- The first boundary: the beat runs (R107, R522 sub-step 8). -/
def beatFirst (us : Nat) (s : State) : State :=
  if s.tab.started then s
  else
    let s := milestoneMax 6 60 us s
    beatDeferred { s with tab := { s.tab with started := true } }

/-- What is counted once a beat starts anew; the local elapsed time of R110 counts from this tick (DESIGN CHOICE, log 61). -/
def beatFresh (s : State) : State :=
  { s with
    fab := { s.fab with replaysBeat := 0 }
    toc := { s.toc with partBeat := [] }
    tab := { s.tab with realigned := false, mark := s.time.elapsed }
    bel := { s.bel with said385 := false, said386 := false, said396 := false }
    boot := { s.boot with step := if s.boot.step = 7 then 8 else s.boot.step } }

/-! ### The boundary -/

/-- The blocks that keep a schedule in beats: gate lists and stream gates (R263, R270), CAN records that wait, LIN entries, the switch's
sources raised once a beat, and virtual endpoints. -/
def beatSchedules (s : State) : State :=
  let nbi := nbiNow s
  let s := s.each (List.range 24) (gclBoundary nbi)
  let s := sgBoundary nbi s
  let s := (s.each (List.range 16) canBeat).each (List.range 12) linBeat
  veBeat (swBeat s)

/-- The boundary actions of Table 4-1 in order (R112), at t_b = `t`.  A PWG virtual endpoint publishes just before it. -/
def boundary (us t : Nat) (lanes credit : List Nat) (s : State) : State :=
  let s := beatCut (vePublish s)
  let s := beatFresh (beatFirst us (beatNumbers t s))
  let s := beatCommit s.advanceSlots
  let s := if linkUp s then s.deliverSlots else s
  let s := s.each [0, 1] stepSeven
  let s := s.each [0, 1] (fun k s => carRotate k (carInject k (lanes.contains k) s))
  let s := swAudit (fabAudit credit s)
  let s := evalPower (knCheckAll (checkChannels s))
  let s := beatSchedules s
  if s.flag F.BEAT_CTRL_TICK_IE 0 then s.raiseIrq 872 else s

/-- BEAT_BOUNDARY (R106, R112): `ticks` ticks of the time clock bring network time to the boundary; `us` is the time since
PGOOD, `lanes` the trios whose injected lane does not respond (R378), `credit` the ports with a channel that fails R17.  A step
of the boundary's tick takes effect after it (R292). -/
def execBeatBoundary (us ticks : Nat) (lanes credit : List Nat) (s : State) : Res :=
  .next (
    let s := if s.pm.phase = 2 then s else timeRun ticks s
    match dueAt s with
    | some t => if beatOn s then nextStep (boundary us t lanes credit s) else s
    | none => s)

end Sys2Proof.Machine
end

