-- ==== Sys2Proof/Machine/RegWrite.lean ====
section
/-!
DEFINITION. Writes of registers without a row of their own, and of memory (R6, R8, R9 and the access rule of each block).  A
register that has a row is given the effect of that row.
-/

namespace Sys2Proof.Machine

/-! ### Values that a field ignores -/

/-- Fields that keep their value where a write's value is outside their range. -/
def fieldRules : List (Fld × (Nat → Bool)) :=
  [(F.PWR_CH_CFG_SAFE_ACTION, fun v => decide (v ≤ 2)), (F.PWR_CH_CFG_R_EQ, fun v => decide (100 ≤ v)),
   (F.FEED_CFG_R_EQ, fun v => decide (50 ≤ v)), (F.IOX_BR_CFG_R_EQ, fun v => decide (500 ≤ v)),
   (F.IOX_LSO_CFG_DRV, drvValid), (F.IOX_BR_CFG_DRV, drvValid),
   (F.IOX_LSO_PWM_PER, fun v => decide (40 ≤ v) && decide (v ≤ 10000)),
   (F.IOX_BR_PWM_PER, fun v => decide (2500 ≤ v) && decide (v ≤ 100000)),
   (F.BEAT_PERIOD_PERIOD, fun v => decide (25000 ≤ v) && decide (v ≤ 2000000)),
   (F.SW_PORT_HDRM_MAX_FRAME, fun v => decide (64 ≤ v) && decide (v ≤ 9728)),
   (F.GONG_FWT_TMO, fun v => decide (1 ≤ v) && decide (v ≤ 6000)),
   (F.GONG_TRX_TRX_TMO, fun v => decide (10 ≤ v) && decide (v ≤ 5000)),
   (F.GONG_BOOT_BOOT_TMO, fun v => decide (100 ≤ v) && decide (v ≤ 10000)),
   (F.LIN_CFG_BAUD, fun v => decide (1000 ≤ v) && decide (v ≤ 20000)),
   (F.LIN_TIMING_WAKE_US, fun v => decide (250 ≤ v) && decide (v ≤ 5000)),
   (F.KN_GRP_PROD, fun v => v == 0x010 || v == 0x011 || v == 0x7FF)]

/-- A written word with every ignored value replaced by what its field holds. -/
def keepLegal (s : State) (r : Reg) (i : Nat) (v : Word) : Word :=
  fieldRules.foldl (fun v e =>
    if e.1.reg.id = r.id ∧ ¬ e.2 (getBits v e.1.hi e.1.lo) then setBits v e.1.hi e.1.lo (s.get e.1 i) else v) v

/-- A write of word `i` of a family under its access codes. -/
def fieldWrite (r : Reg) (i : Nat) (v : Word) (s : State) : State := regWrite false r i (keepLegal s r i v) s

/-- A write at an address of a block; other offsets ignore it. -/
def plainWrite (l : List Reg) (a : Nat) (v : Word) (s : State) : State :=
  match findReg l a with
  | some (r, i) => fieldWrite r i v s
  | none => s

/-- A family is one of a list. -/
def isReg (r : Reg) (x : Reg) : Bool := r.id == x.id

/-! ### Blocks with several rules -/

/-- FABRIC (R29, R33, R36, R42). -/
def fabricEff (init a : Nat) (v : Word) (s : State) : State :=
  match findReg regsFABRIC a with
  | none => s
  | some (r, i) =>
    if isReg r R.FABRIC_CARWIN then carwinWrite i init v s
    else if isReg r R.LATE_ERR_RD then lateErrRd v s
    else if isReg r R.SPINE_CTRL then spineCtrl [] v s
    else fieldWrite r i v s

/-- TOCSIN (R473, R475 to R477, R495).  A kick of a watchdog needs its time, which WDG_KICK tells. -/
def tocsinEff (init a : Nat) (v : Word) (s : State) : State :=
  match findReg regsTOCSIN a with
  | none => s
  | some (r, i) =>
    if isReg r R.TOC_PEND then tocClear i init v s
    else if isReg r R.TOC_SWINT_PEND then swintClear i init v s
    else if isReg r R.TOC_LOG_SEL then logSel init v s
    else if isReg r R.TOC_SWRAISE then swRaise init v s
    else if isReg r R.TOC_SWINT then swInt init v s
    else if isReg r R.TOC_ERRN then errnRelease init v s
    else if isReg r R.WDG_KICK then s
    else if tocMayWrite s init then
      let s := fieldWrite r i v s
      tocRefresh (if isReg r R.TOC_SRC then reactClamp i s else s)
    else s.denyWrite init a

/-- A block that one party writes: any other write is denied. -/
def ownedEff (may : Bool) (init a : Nat) (eff : State → State) (s : State) : State :=
  if may then eff s else s.denyWrite init a

/-- CLK (R511, R517). -/
def clkEff (a : Nat) (v : Word) (s : State) : State :=
  match findReg regsCLK a with
  | none => s
  | some (r, i) =>
    if isReg r R.CLK_CTRL then clkCtrl v s
    else if isReg r R.CLK_DOM then clkDomWrite i v s
    else fieldWrite r i v s

/-- PMODE and GONG (R346, R347, R358, R359, R365). -/
def pmodeEff (a : Nat) (v : Word) (s : State) : State :=
  match findReg regsPMODE a with
  | none => s
  | some (r, i) =>
    if isReg r R.PM_REQ then pmReqWrite v false [] s
    else if isReg r R.PM_GATE then pmGateWrite i v [] s
    else if isReg r R.GONG_CTRL then gongCtrl v s
    else fieldWrite r i v s

/-- BEAT (R59, R107, R130). -/
def beatEff (init a : Nat) (v : Word) (s : State) : State :=
  match findReg regsBEAT a with
  | none => if beatMay s init then s else s.denyWrite init a
  | some (r, i) =>
    if isReg r R.BEAT_PUB then beatPub init v s
    else if !beatMay s init then s.denyWrite init a
    else if isReg r R.BEAT_CTRL then beatCtrlWrite v s
    else fieldWrite r i v s

/-- A Tabla engine's page (R124, R131). -/
def tablaEff (a : Nat) (v : Word) (s : State) : State :=
  match findReg regsTABLA a with
  | none => s
  | some (r, i) =>
    if isReg r R.TABLA_CTRL then tablaCtrl i v s
    else if isReg r R.TABLA_LD_HI then ldHi i v s
    else if isReg r R.TABLA_WREG then (if s.flag F.TABLA_CTRL_RUN (i / 16) then s else fieldWrite r i v s)
    else fieldWrite r i v s

/-- A channel's slot (R139, R164). -/
def pwrEff (init a : Nat) (v : Word) (s : State) : State :=
  match findReg regsPWR a with
  | none => s
  | some (r, i) =>
    if isReg r R.PWR_CMD_PUB then pubWrite init a (0x100 + i) (getBits v 9 0) s
    else if isReg r R.PWR_LIM_PUB then pubWrite init a (0x180 + i) (getBits v 9 0) s
    else fieldWrite r i v s

/-- The bits of a word of 32 inputs that belong to inputs of the initiator's partition (R190). -/
def mfiMask (s : State) (init k : Nat) : Nat :=
  (List.range 32).foldl (fun m j => if init = 0x30 ∨ asgOf s 6 (32 * k + j) = partOf s init then m + 2 ^ j else m) 0

/-- I/O front ends (R190 to R192, R200 to R209, R215). -/
def ioxEff (init a : Nat) (v : Word) (s : State) : State :=
  match findReg regsIOX a with
  | none => s
  | some (r, i) =>
    if isReg r R.IOX_SSUP_CTRL then ssupWrite i init v s
    else if isReg r R.IOX_LSO_DUTY then lsoWrite i init v s
    else if isReg r R.IOX_LSO_STAT then lsoStatWrite i v s
    else if isReg r R.IOX_BR_CMD then brWrite i init v s
    else if isReg r R.IOX_BR_STAT then brStatWrite i v s
    else if isReg r R.IOX_MFI_EDGE then fieldWrite r i (v &&& BitVec.ofNat 32 (mfiMask s init i)) s
    else if isReg r R.IOX_MFI_IE then
      let m := BitVec.ofNat 32 (mfiMask s init i)
      fieldWrite r i ((v &&& m) ||| (s.rd r i &&& ~~~m)) s
    else if isReg r R.IOX_MFI_CFG then mfiCfgAfter i (s.get F.IOX_MFI_CFG_MODE i) (fieldWrite r i v s)
    else if isReg r R.IOX_RAI_CFG then raiCfgAfter i (fieldWrite r i v s)
    else if isReg r R.IOX_TEMP_CFG then tempAfter i (fieldWrite r i v s)
    else if isReg r R.IOX_TEMP_PT then tempAfter (i / 16) (fieldWrite r i v s)
    else if isReg r R.IOX_LSO_CFG then followLso i (fieldWrite r i v s)
    else if isReg r R.IOX_BR_CFG then followBr i (fieldWrite r i v s)
    else if isReg r R.IOX_LSO_PWM then pwmAfter i (s.get F.IOX_LSO_PWM_PER i) (fieldWrite r i v s)
    else fieldWrite r i v s

/-- SENT (R213, R216). -/
def sentEff (a : Nat) (v : Word) (s : State) : State :=
  match findReg regsSENT a with
  | none => s
  | some (r, i) => if isReg r R.SENT_CFG then sentCfgWrite i v s else fieldWrite r i v s

/-- SWITCH (R229, R249, R252). -/
def switchEff (a : Nat) (v : Word) (s : State) : State :=
  match findReg regsSWITCH a with
  | none => s
  | some (r, i) =>
    if isReg r R.SW_CTRL then (if v.getLsbD 0 then clrPeak s else s)
    else if isReg r R.SW_FDB_CMD ∧ v.getLsbD 31 then fdbGo (getBits v 30 28) v s
    else if isReg r R.SW_PORT_HDRM then swHdrm i (fieldWrite r i v s)
    else fieldWrite r i v s

/-- Families of an EPORT page that are absent: MACsec, TC10, PLCA and test modes on internal ports, and PLCA on the other ports but P16 to
P19 (R258, R260); their fields read 0. -/
def epMissing (r : Reg) (p : Nat) : Bool :=
  (decide (20 ≤ p) && [R.EP_TC10, R.EP_TEST, R.EP_TXSA_CTRL, R.EP_RXSA_CTRL, R.EP_MSEC_CTRL, R.EP_MSEC_TXSCI_LO, R.EP_MSEC_TXSCI_HI, R.EP_MSEC_WIN, R.EP_MSEC_PNTHR, R.EP_TXSA_SSCI,
      R.EP_TXSA_PN_LO, R.EP_TXSA_PN_HI, R.EP_RXSC_SCI_LO, R.EP_RXSC_SCI_HI, R.EP_RXSC_CTRL, R.EP_RXSA_SSCI, R.EP_RXSA_PN_LO,
      R.EP_RXSA_PN_HI].any (isReg r)) ||
  (isReg r R.EP_PLCA && !(decide (16 ≤ p) && decide (p < 20)))

/-- The port of a word of an EPORT family: index `i` counts on over the ports. -/
def epOf (r : Reg) (i : Nat) : Nat := (r.addr i - 0x10200000) / 0x4000

/-- A port's page (R264, R267, R277 to R279, R283, R284). -/
def eportEff (p init a : Nat) (v : Word) (s : State) : State :=
  match findReg regsEPORT a with
  | none => s
  | some (r, i) =>
    if epMissing r p then s
    else if isReg r R.EP_CFG ∧ 20 ≤ p then fieldWrite r i (v &&& ~~~0x02000000#32) s
    else if isReg r R.EP_GCL_CTRL then gclCtrlWrite p v s
    else if isReg r R.EP_CBS_SLOPE then cbsSlopeWrite p (i % 8) v s
    else if isReg r R.EP_POL_RATE ∨ isReg r R.EP_POL_BURST then polWrite r i v s
    else if isReg r R.EP_CBS_MAXINT then cbsMaxIntWrite p (i % 8) v s
    else if isReg r R.EP_TC10 then tc10Write p v s
    else if isReg r R.EP_TEST then testWrite p v s
    else if isReg r R.EP_TXSA_CTRL then saKeyWrite p (i % 4) init v s
    else if isReg r R.EP_RXSA_CTRL then saKeyWrite p (4 + i % 32) init v s
    else if isReg r R.EP_TBL_CMD ∧ v.getLsbD 31 then tblGo p (v.getLsbD 30) v s
    else fieldWrite r i v s

/-- TIME (R289 to R293, R305, R307). -/
def timeEff (a : Nat) (v : Word) (s : State) : State :=
  match findReg regsTIME a with
  | none => s
  | some (r, i) =>
    if isReg r R.TIME_CTRL then (timeCtrlWrite v s).put F.TIME_CTRL_KEEP 0 0
    else if isReg r R.TIME_INC_HI then timeIncWrite v s
    else if isReg r R.TIME_STEP_HI then timeStepWrite v s
    else if isReg r R.TIME_STEP_LO ∨ isReg r R.TIME_STEP_FRAC then s.setStaged r i v
    else if isReg r R.TIME_HO_CTRL then hoCtrlWrite i v s
    else fieldWrite r i v s

/-- The base registers of a CAN slot, writable while its EN is 0 (Table 11-9). -/
def canBase (r : Reg) : Bool := isReg r R.CAN_RXBASE || isReg r R.CAN_TXBASE || isReg r R.CAN_CQBASE

/-- A CAN controller's page (R311, R313, R318, R322 to R325, R329, R340). -/
def canEff (n init a : Nat) (v : Word) (s : State) : State :=
  match findReg regsCAN a with
  | none => s
  | some (r, i) =>
    let sl := i % 8
    if isReg r R.CAN_CTRL then canCtrlWrite n v s
    else if isReg r R.CAN_CMD then (if v.getLsbD 31 then canRecover n s else s)
    else if isReg r R.CAN_TRX_CTRL then trxWrite n v s
    else if isReg r R.CAN_SLOT_CFG then slotCfgWrite n sl v s
    else if isReg r R.CAN_TXFLT then fieldWrite r i v s
    else if 0x1000 ≤ a % 0x4000 ∧ ¬ slotMay s n sl init then s.denyWrite init a
    else if isReg r R.CAN_RXAI then canRxai n sl (getBits v 7 0) s
    else if isReg r R.CAN_CQAI then canCqai n sl (getBits v 7 0) s
    else if isReg r R.CAN_TXSUB then canSubmit n sl (getBits v 5 0) s
    else if isReg r R.CAN_TXABORT then canAbortAll n (fun t => t.slot == sl && t.entry == getBits v 5 0) s
    else if canBase r ∧ slotOn s n sl then s
    else fieldWrite r i v s

/-- A LIN channel's page (R334, R338, R341). -/
def linEff (a : Nat) (v : Word) (s : State) : State :=
  match findReg regsLIN a with
  | none => s
  | some (r, i) =>
    if isReg r R.LIN_CTRL then linCtrlWrite i v s
    else if isReg r R.LIN_FRAME_DATA_LO then s.setStaged r i v
    else if isReg r R.LIN_FRAME_DATA_HI then linDataHi (i / 64) (i % 64) v s
    else fieldWrite r i v s

/-- Bits of word `w` of an enable array, and nibbles of word `w` of the priorities, whose source is the trio's (R377). -/
def carEnMask (s : State) (t w : Nat) : Nat :=
  (List.range 32).foldl (fun m j => if carOwns s t (32 * w + j) then m + 2 ^ j else m) 0
def carPrioMask (s : State) (t w : Nat) : Nat :=
  (List.range 8).foldl (fun m j => if carOwns s t (8 * w + j) then m + 15 * 16 ^ j else m) 0

/-- The trio whose registers an address of the CARILLON block belongs to. -/
def carTrio (a : Nat) : Nat :=
  let o := a - 0x10400000
  if o < 0x4000 then (if o < 0x200 then 0 else 1) else if o < 0x8000 then 0 else 1

/-- CARILLON (R377, R386). -/
def carEff (a : Nat) (v : Word) (s : State) : State :=
  let t := carTrio a
  match findReg regsCARILLON a with
  | none => s
  | some (r, i) =>
    if isReg r R.CAR_IC_CLAIM then (if ctxLive s t (i % 2) then carComplete t (i % 2) (getBits v 9 0) s else s)
    else if isReg r R.CAR_IC_CTRL then (if ctxLive s t (i % 2) then fieldWrite r i v s else s)
    else if isReg r R.CAR_IC_EN then
      (if ctxLive s t (i / 32 % 2) then fieldWrite r i (v &&& BitVec.ofNat 32 (carEnMask s t (i % 32))) s else s)
    else if isReg r R.CAR_IC_PRIO then fieldWrite r i (v &&& BitVec.ofNat 32 (carPrioMask s t (i % 128))) s
    else fieldWrite r i v s

/-- IOMMU (R400, R404, R411). -/
def iommuEff (a : Nat) (v : Word) (s : State) : State :=
  let o := a - 0x10500000
  if o < 0x1000 then iommuWrite o v.toNat s
  else if (R.IOMMU_VX_LOGAI.index? a).isSome then vxLogai v.toNat s
  else s

/-- Belfry writes BSEC_LOCK: each lock is set once (R446, R447). -/
def lockWrite (v : Word) (s : State) : State :=
  let s := if v.getLsbD 31 then tocRefresh (s.put F.BSEC_LOCK_ASG 0 1) else s
  if v.getLsbD 30 ∧ ¬ s.bootLocked then lockBoot s else s

/-- BELFRY_MBX (R446, R456, R461 to R463, R467). -/
def belfryEff (init a : Nat) (v : Word) (s : State) : State :=
  match findReg regsBELFRY a with
  | none => s
  | some (r, i) =>
    if isReg r R.BMBX_CTRL ∨ isReg r R.BMBX_STAT ∨ isReg r R.BMBX_REQ ∨ isReg r R.BMBX_RPL then
      let c := if isReg r R.BMBX_CTRL ∨ isReg r R.BMBX_STAT then i else i / 16
      if !mbxMay s c init then s.denyWrite init a
      else if isReg r R.BMBX_CTRL then mbxCtrl c v s
      else if isReg r R.BMBX_REQ ∧ s.flag F.BMBX_STAT_BUSY c then s
      else fieldWrite r i v s
    else if isReg r R.BDBG_CTRL ∨ isReg r R.BDBG_STAT ∨ isReg r R.BDBG_CHAL ∨ isReg r R.BDBG_BUF then
      (if !dbgMay init then s.denyWrite init a
       else if isReg r R.BDBG_CTRL then dbgSubmit init v s
       else fieldWrite r i v s)
    else if init ≠ 0x30 then s.denyWrite init a
    else if asgRegs.any (isReg r) then (if s.asgLocked then s else asgWrite r i v s)
    else if isReg r R.BSEC_LOCK then lockWrite v s
    else if isReg r R.BWDG_KICK then bwdgRestart s
    else if isReg r R.BWDG_CTRL then bwdgRestart (regWrite true r i v s)
    else regWrite true r i v s

/-- DICT (R93, R101, R102). -/
def dictEff (init a : Nat) (v : Word) (s : State) : State :=
  match findReg regsDICT a with
  | none => s
  | some (r, i) =>
    if isReg r R.DICT_SLOT then slotWrite' init v s
    else if a < R.DICT_WCMD.base then s
    else
      let w := if isReg r R.DICT_WDATA then i / 256 else i
      if init ≠ 0x30 ∧ partOf s init ≠ w then s.denyWrite init a
      else if isReg r R.DICT_WCMD then winCmd w init v s
      else fieldWrite r i v s

/-- BIST (R491, R497). -/
def bistEff (a : Nat) (v : Word) (s : State) : State :=
  match findReg regsBIST a with
  | none => s
  | some (r, i) => if isReg r R.BIST_PRBS_CTRL then prbsWrite [] 0 0 v s else fieldWrite r i v s

/-! ### The dispatcher -/

/-- What a write does in a peripheral slot, once the fabric and the width rule have let it through. -/
def slotEff (n init a : Nat) (v : Word) (s : State) : State :=
  if n = 0x000 then fabricEff init a v s
  else if n = 0x001 then tocsinEff init a v s
  else if n = 0x002 then ownedEff (partOf s init == slotOwner s 0x002) init a (plainWrite regsKNELL a v) s
  else if n = 0x003 then ownedEff (clkMay s init) init a (clkEff a v) s
  else if n = 0x004 then ownedEff (pmMay s init) init a (pmodeEff a v) s
  else if n = 0x005 then beatEff init a v s
  else if n = 0x006 then tablaEff a v s
  else if n = 0x008 ∨ (n = 0x009 ∧ a < 0x10092000) then pwrEff init a v s
  else if n = 0x009 then plainWrite regsFEED a v s
  else if 0x00C ≤ n ∧ n ≤ 0x00F then ioxEff init a v s
  else if 0x010 ≤ n ∧ n ≤ 0x01F then switchEff a v s
  else if 0x020 ≤ n ∧ n ≤ 0x025 then eportEff ((a - 0x10200000) / 0x4000) init a v s
  else if n = 0x030 then ownedEff (timeMay s init) init a (timeEff a v) s
  else if 0x031 ≤ n ∧ n ≤ 0x034 then canEff ((a - 0x10310000) / 0x4000) init a v s
  else if n = 0x035 then linEff a v s
  else if n = 0x036 then sentEff a v s
  else if n = 0x040 then ownedEff (carMay s (carTrio a) init) init a (carEff a v) s
  else if n = 0x050 then iommuEff a v s
  else if n = 0x051 then aplicWrite (a - 0x10510000) v.toNat s
  else if n = 0x070 then belfryEff init a v s
  else if n = 0x080 then dictEff init a v s
  else if n = 0x090 then ownedEff (bistMay s init) init a (bistEff a v) s
  else if 0x800 ≤ n then (if init < 8 ∨ init = 0x34 then imsicWrite a v.toNat s else s.denyWrite init a)
  else s

/-- The source of the memory that holds an uncorrectable error at an address (R39). -/
def memUe (init a : Nat) (s : State) : State :=
  if a < 0x800000 then memFault 103 init 0x1000 a s else memFault 105 init 0x1001 a s

/-- A write of memory: any width, each byte in its place (R11); one that meets an uncorrectable error fails (R28). -/
def memStore (init a bytes v : Nat) (s : State) : State :=
  if s.pm.phase = 2 || initSilent s init then s
  else if judgeReq s init a bytes ≠ respOkay then s.refuseReq init a bytes true
  else
    let l := (List.range bytes).map (a + ·)
    match poisonHit s l with
    | some x => (memUe init x s).lateErr init a respEcc false
    | none => (s.unpoison l).memWrite a (leOctets v bytes)

/-- A trio's write of its own TCM, which never enters the fabric (R32, R376). -/
def ownTcm (init a bytes v : Nat) (s : State) : State :=
  if s.pm.phase = 2 || initSilent s init then s else s.memWrite a (leOctets v bytes)

/-- The address at which an initiator's access enters the fabric: a Carillon core has 32-bit addresses, mapped by R32. -/
def busAddr (s : State) (init a : Nat) : Nat :=
  if init = 0x10 ∨ init = 0x11 then (carAddr s (init - 0x10) (a % 2 ^ 32)).getD (a % 2 ^ 32) else a

/-- Base of the CSRs of Table 14-1 as the model addresses them: 4 KiB for each hart. -/
def csrBase : Nat := 2 ^ 41

/-- A CSR write by a hart that may make it (R391, R412). -/
def csrStore (init a v : Nat) (s : State) : State :=
  if s.pm.phase = 2 || initSilent s init || init ≠ (a - csrBase) / 4096 then s
  else plainWrite regsCSR a (BitVec.ofNat 32 v) s

/-- Slots of devices whose registers the spec does not give: the xSPI and UFS controllers and the DRAM controller. -/
def deviceOnly (a : Nat) : Bool :=
  match decodeAddr a with
  | some (.slot n) => n == 0x0A0 || n == 0x0B0
  | _ => false

/-- A write to the xSPI window, which is read-only: a hart takes a store access fault and sends no request (Table 14-2); from any other
initiator the window's block rejects the write (R28; the code TARGET_ERR is a DESIGN CHOICE). -/
def xspiStore (init a bytes : Nat) (s : State) : State :=
  if s.pm.phase = 2 || initSilent s init then s
  else if init < 8 then s.emit (.trap init 7 a)
  else if judgeReq s init a bytes ≠ respOkay then s.refuseReq init a bytes true
  else s.lateErr init a respTarget false

/-- The effect of a write at an address that the spec gives an effect. -/
def busStore (init a bytes v : Nat) (s : State) : State :=
  if csrBase ≤ a then csrStore init a v s
  else
    match decodeAddr a with
    | some .sram => memStore init a bytes v s
    | some .dram => memStore init a bytes v s
    | some (.tcm t) => if init = 0x10 + t then ownTcm init a bytes v s else memStore init a bytes v s
    | some (.ve n) => if bytes = 4 ∧ a % 4 = 0 then pageWord n init a (BitVec.ofNat 32 v) s else s.busWrite init a bytes id
    | some .xspi => xspiStore init a bytes s
    | some (.slot n) =>
      if n = 0x060 ∧ bytes = 4 ∧ a % 4 = 0 then vemgrWord init a (BitVec.ofNat 32 v) s
      else s.busWrite init a bytes (slotEff n init a (BitVec.ofNat 32 v))
    | _ => s.busWrite init a bytes id

/-- A write reaches a device whose behaviour the spec does not give. -/
def reachesDevice (s : State) (init a bytes : Nat) : Bool :=
  deviceOnly a && bytes == 4 && a % 4 == 0 && s.pm.phase != 2 && !initSilent s init && judgeReq s init a bytes == respOkay

/-- REGISTER_WRITE (R6, R8, R32, R444): a write by an initiator of `bytes` bytes at an address. -/
def execRegisterWrite (init : Init) (addr bytes value : Nat) (s : State) : Res :=
  let a := busAddr s init addr
  if reachesDevice s init a bytes then .refused (.deviceNotSpecified a)
  else .next (busStore init a bytes value s)

end Sys2Proof.Machine
end

