-- ==== Sys2Proof/Machine/Dispatch.lean ====
section
/-!
DEFINITION. One arm per command: the meaning it calls.
-/

namespace Sys2Proof.Machine

def exec (i : Instr) (s : State) : Host.Outcome State Fault Refusal :=
  match i with
  | .registerWrite init addr bytes value => Sys2Proof.Machine.execRegisterWrite init addr bytes value s
  | .beatBoundary us ticks lanes credit => Sys2Proof.Machine.execBeatBoundary us ticks lanes credit s
  | .targetTimeout port req others => Sys2Proof.Machine.execTargetTimeout port req others s
  | .portOpen port => Sys2Proof.Machine.execPortOpen port s
  | .fenceStuck port => Sys2Proof.Machine.execFenceStuck port s
  | .lateErrRd init value => Sys2Proof.Machine.execLateErrRd init value s
  | .fabricCarwin n init value => Sys2Proof.Machine.execFabricCarwin n init value s
  | .spineCrcFail fresh out => Sys2Proof.Machine.execSpineCrcFail fresh out s
  | .retrainComplete => Sys2Proof.Machine.execRetrainComplete s
  | .retrainTimeout out => Sys2Proof.Machine.execRetrainTimeout out s
  | .hdieSupplyLoss out => Sys2Proof.Machine.execHdieSupplyLoss out s
  | .spineHreset init value out => Sys2Proof.Machine.execSpineHreset init value out s
  | .hdieResetRelease => Sys2Proof.Machine.execHdieResetRelease s
  | .spineLinkUp => Sys2Proof.Machine.execSpineLinkUp s
  | .trainingTimeout => Sys2Proof.Machine.execTrainingTimeout s
  | .knellHoldExpire => Sys2Proof.Machine.execKnellHoldExpire s
  | .beatPub init value => Sys2Proof.Machine.execBeatPub init value s
  | .pwrCmdPub ch init value => Sys2Proof.Machine.execPwrCmdPub ch init value s
  | .pwrLimPub ch init value => Sys2Proof.Machine.execPwrLimPub ch init value s
  | .dictRead => Sys2Proof.Machine.execDictRead s
  | .dictWrite late => Sys2Proof.Machine.execDictWrite late s
  | .dictReadMulti => Sys2Proof.Machine.execDictReadMulti s
  | .dictWriteMulti late => Sys2Proof.Machine.execDictWriteMulti late s
  | .modeReq late => Sys2Proof.Machine.execModeReq late s
  | .subscribe => Sys2Proof.Machine.execSubscribe s
  | .imageLoad => Sys2Proof.Machine.execImageLoad s
  | .imageCommit => Sys2Proof.Machine.execImageCommit s
  | .usestDatagram => Sys2Proof.Machine.execUsestDatagram s
  | .usestCanSegment k octets => Sys2Proof.Machine.execUsestCanSegment k octets s
  | .usestSegmentTimeout k => Sys2Proof.Machine.execUsestSegmentTimeout k s
  | .slotConfirm init value => Sys2Proof.Machine.execSlotConfirm init value s
  | .beatEn init value => Sys2Proof.Machine.execBeatEn init value s
  | .strokeEnd n late => Sys2Proof.Machine.execStrokeEnd n late s
  | .strokeWait n late => Sys2Proof.Machine.execStrokeWait n late s
  | .strokeRds n late => Sys2Proof.Machine.execStrokeRds n late s
  | .strokeRdt n late => Sys2Proof.Machine.execStrokeRdt n late s
  | .strokeLdi n late => Sys2Proof.Machine.execStrokeLdi n late s
  | .strokeMov n late => Sys2Proof.Machine.execStrokeMov n late s
  | .strokeClt n late => Sys2Proof.Machine.execStrokeClt n late s
  | .strokeCle n late => Sys2Proof.Machine.execStrokeCle n late s
  | .strokeCeq n late => Sys2Proof.Machine.execStrokeCeq n late s
  | .strokeClti n late => Sys2Proof.Machine.execStrokeClti n late s
  | .strokeCgei n late => Sys2Proof.Machine.execStrokeCgei n late s
  | .strokeCadd n late => Sys2Proof.Machine.execStrokeCadd n late s
  | .strokeCsub n late => Sys2Proof.Machine.execStrokeCsub n late s
  | .strokeCmul n late => Sys2Proof.Machine.execStrokeCmul n late s
  | .strokeCmin n late => Sys2Proof.Machine.execStrokeCmin n late s
  | .strokeCmax n late => Sys2Proof.Machine.execStrokeCmax n late s
  | .strokeAdd n late => Sys2Proof.Machine.execStrokeAdd n late s
  | .strokeSub n late => Sys2Proof.Machine.execStrokeSub n late s
  | .strokeAnd n late => Sys2Proof.Machine.execStrokeAnd n late s
  | .strokeOr n late => Sys2Proof.Machine.execStrokeOr n late s
  | .strokeXor n late => Sys2Proof.Machine.execStrokeXor n late s
  | .strokeAddi n late => Sys2Proof.Machine.execStrokeAddi n late s
  | .strokeSubi n late => Sys2Proof.Machine.execStrokeSubi n late s
  | .strokeAndi n late => Sys2Proof.Machine.execStrokeAndi n late s
  | .strokeShr n late => Sys2Proof.Machine.execStrokeShr n late s
  | .strokeShl n late => Sys2Proof.Machine.execStrokeShl n late s
  | .strokeSkc n late => Sys2Proof.Machine.execStrokeSkc n late s
  | .strokeSkf n late => Sys2Proof.Machine.execStrokeSkf n late s
  | .strokeWro n late => Sys2Proof.Machine.execStrokeWro n late s
  | .strokeWroApply n => Sys2Proof.Machine.execStrokeWroApply n s
  | .strokeWrp n late => Sys2Proof.Machine.execStrokeWrp n late s
  | .strokePub n late => Sys2Proof.Machine.execStrokePub n late s
  | .strokeLreq n late => Sys2Proof.Machine.execStrokeLreq n late s
  | .strokeSreq n late => Sys2Proof.Machine.execStrokeSreq n late s
  | .tablaLdHi n init value => Sys2Proof.Machine.execTablaLdHi n init value s
  | .tablaArm n init value => Sys2Proof.Machine.execTablaArm n init value s
  | .tablaValidationDone n => Sys2Proof.Machine.execTablaValidationDone n s
  | .tablaLibraryLoadDone n => Sys2Proof.Machine.execTablaLibraryLoadDone n s
  | .conversion ofs samples => Sys2Proof.Machine.execConversion ofs samples s
  | .shortTrip ch vds current vgsHigh peak letI2t ofs => Sys2Proof.Machine.execShortTrip ch vds current vgsHigh peak letI2t ofs s
  | .gateUv ch peak letI2t ofs => Sys2Proof.Machine.execGateUv ch peak letI2t ofs s
  | .prechargeDone ch ofs => Sys2Proof.Machine.execPrechargeDone ch ofs s
  | .preTimeout ch peak letI2t ofs => Sys2Proof.Machine.execPreTimeout ch peak letI2t ofs s
  | .fetFault ch ofs => Sys2Proof.Machine.execFetFault ch ofs s
  | .outHigh ch ofs => Sys2Proof.Machine.execOutHigh ch ofs s
  | .currentSenseFault ch ofs => Sys2Proof.Machine.execCurrentSenseFault ch ofs s
  | .fastPathShed f ofs => Sys2Proof.Machine.execFastPathShed f ofs s
  | .feedSenseFault f ofs => Sys2Proof.Machine.execFeedSenseFault f ofs s
  | .mfiSample ix raw ofs => Sys2Proof.Machine.execMfiSample ix raw ofs s
  | .raiConversion ix ratio above vRaw iRaw ofs => Sys2Proof.Machine.execRaiConversion ix ratio above vRaw iRaw ofs s
  | .ssupLimit n vRaw iRaw => Sys2Proof.Machine.execSsupLimit n vRaw iRaw s
  | .ssupOverload n vRaw iRaw ofs => Sys2Proof.Machine.execSsupOverload n vRaw iRaw ofs s
  | .ssupBackfeed n vRaw iRaw ofs => Sys2Proof.Machine.execSsupBackfeed n vRaw iRaw ofs s
  | .ioxSsupCtrl n init value => Sys2Proof.Machine.execIoxSsupCtrl n init value s
  | .ioxLsoDuty j init value => Sys2Proof.Machine.execIoxLsoDuty j init value s
  | .ioxBrCmd b init value => Sys2Proof.Machine.execIoxBrCmd b init value s
  | .lsoOvercurrent j ix ofs => Sys2Proof.Machine.execLsoOvercurrent j ix ofs s
  | .lsoOcClear j init value => Sys2Proof.Machine.execLsoOcClear j init value s
  | .lsoOvertemp j ix ofs => Sys2Proof.Machine.execLsoOvertemp j ix ofs s
  | .lsoOvertempRecover j => Sys2Proof.Machine.execLsoOvertempRecover j s
  | .lsoOpenLoad j on ix ofs => Sys2Proof.Machine.execLsoOpenLoad j on ix ofs s
  | .bridgeGapEnd b => Sys2Proof.Machine.execBridgeGapEnd b s
  | .bridgeCurrentLimit b raw dir vsRaw ofs => Sys2Proof.Machine.execBridgeCurrentLimit b raw dir vsRaw ofs s
  | .bridgeShort b ofs => Sys2Proof.Machine.execBridgeShort b ofs s
  | .bridgeClr b init value => Sys2Proof.Machine.execBridgeClr b init value s
  | .bridgeUv b vsRaw ofs => Sys2Proof.Machine.execBridgeUv b vsRaw ofs s
  | .bridgeUvRecover b vsRaw => Sys2Proof.Machine.execBridgeUvRecover b vsRaw s
  | .sentFrame c fr ofs => Sys2Proof.Machine.execSentFrame c fr ofs s
  | .sentTimeout c ofs => Sys2Proof.Machine.execSentTimeout c ofs s
  | .sentTrig c init value => Sys2Proof.Machine.execSentTrig c init value s
  | .frameFirstCell p octets len sec => Sys2Proof.Machine.execFrameFirstCell p octets len sec s
  | .continuationCell p octets => Sys2Proof.Machine.execContinuationCell p octets s
  | .frameEnd p octets fcsOk icv => Sys2Proof.Machine.execFrameEnd p octets fcsOk icv s
  | .cellSlot => Sys2Proof.Machine.execCellSlot s
  | .copyAged e c voq => Sys2Proof.Machine.execCopyAged e c voq s
  | .transmitSelection e => Sys2Proof.Machine.execTransmitSelection e s
  | .copyTransmitDone e => Sys2Proof.Machine.execCopyTransmitDone e s
  | .bufferEccError e cell kind => Sys2Proof.Machine.execBufferEccError e cell kind s
  | .fdbAgeScan => Sys2Proof.Machine.execFdbAgeScan s
  | .fdbLookup init value => Sys2Proof.Machine.execFdbLookup init value s
  | .fdbInsertStatic init value => Sys2Proof.Machine.execFdbInsertStatic init value s
  | .fdbInsertDynamic init value => Sys2Proof.Machine.execFdbInsertDynamic init value s
  | .fdbDelete init value => Sys2Proof.Machine.execFdbDelete init value s
  | .fdbFlushFid init value => Sys2Proof.Machine.execFdbFlushFid init value s
  | .fdbFlushPort init value => Sys2Proof.Machine.execFdbFlushPort init value s
  | .fdbReadIndex init value => Sys2Proof.Machine.execFdbReadIndex init value s
  | .clrPeak init value => Sys2Proof.Machine.execClrPeak init value s
  | .linkUp p speed leader sqi => Sys2Proof.Machine.execLinkUp p speed leader sqi s
  | .linkDown p => Sys2Proof.Machine.execLinkDown p s
  | .plcaLost p => Sys2Proof.Machine.execPlcaLost p s
  | .plcaBeacon p => Sys2Proof.Machine.execPlcaBeacon p s
  | .gateEntrySwitch p kind => Sys2Proof.Machine.execGateEntrySwitch p kind s
  | .gclChange p init value => Sys2Proof.Machine.execGclChange p init value s
  | .cbsSlope p c init value => Sys2Proof.Machine.execCbsSlope p c init value s
  | .streamGateEntrySwitch g start => Sys2Proof.Machine.execStreamGateEntrySwitch g start s
  | .frerReset k => Sys2Proof.Machine.execFrerReset k s
  | .saKey p sa init value => Sys2Proof.Machine.execSaKey p sa init value s
  | .tc10SleepReq p init value => Sys2Proof.Machine.execTc10SleepReq p init value s
  | .tc10SleepAck p => Sys2Proof.Machine.execTc10SleepAck p s
  | .tc10DrainTimeout p => Sys2Proof.Machine.execTc10DrainTimeout p s
  | .tc10WakeRx p ticks => Sys2Proof.Machine.execTc10WakeRx p ticks s
  | .tc10WakeReq p init value => Sys2Proof.Machine.execTc10WakeReq p init value s
  | .epTest p init value => Sys2Proof.Machine.execEpTest p init value s
  | .tableRead p init value => Sys2Proof.Machine.execTableRead p init value s
  | .tableWrite p init value => Sys2Proof.Machine.execTableWrite p init value s
  | .timeInc init value => Sys2Proof.Machine.execTimeInc init value s
  | .timeStep init value => Sys2Proof.Machine.execTimeStep init value s
  | .timeNowFrac init => Sys2Proof.Machine.execTimeNowFrac init s
  | .timeLock init value => Sys2Proof.Machine.execTimeLock init value s
  | .timeUnlock init value => Sys2Proof.Machine.execTimeUnlock init value s
  | .timeKeep init value => Sys2Proof.Machine.execTimeKeep init value s
  | .keepaliveTimeout => Sys2Proof.Machine.execKeepaliveTimeout s
  | .handoverReq k init value => Sys2Proof.Machine.execHandoverReq k init value s
  | .handoverGrant k init value => Sys2Proof.Machine.execHandoverGrant k init value s
  | .handoverRefuse k init value => Sys2Proof.Machine.execHandoverRefuse k init value s
  | .handoverFrameRx k msg seq peer => Sys2Proof.Machine.execHandoverFrameRx k msg seq peer s
  | .handoverTimeout k => Sys2Proof.Machine.execHandoverTimeout k s
  | .canEnable n init value => Sys2Proof.Machine.execCanEnable n init value s
  | .canIntegrationDone n => Sys2Proof.Machine.execCanIntegrationDone n s
  | .canFrameRx n frame sof => Sys2Proof.Machine.execCanFrameRx n frame sof s
  | .canTxsub n sl init value => Sys2Proof.Machine.execCanTxsub n sl init value s
  | .canTxSelection n sof => Sys2Proof.Machine.execCanTxSelection n sof s
  | .canArbitrationLost n => Sys2Proof.Machine.execCanArbitrationLost n s
  | .canTxEnd n => Sys2Proof.Machine.execCanTxEnd n s
  | .canBusError n tx err => Sys2Proof.Machine.execCanBusError n tx err s
  | .canTxabort n sl init value => Sys2Proof.Machine.execCanTxabort n sl init value s
  | .busoffRecover n init value => Sys2Proof.Machine.execBusoffRecover n init value s
  | .canRecoveryComplete n => Sys2Proof.Machine.execCanRecoveryComplete n s
  | .canRxai n sl init value => Sys2Proof.Machine.execCanRxai n sl init value s
  | .canCqai n sl init value => Sys2Proof.Machine.execCanCqai n sl init value s
  | .canSlotCfg n sl init value => Sys2Proof.Machine.execCanSlotCfg n sl init value s
  | .canTrxMode n init value => Sys2Proof.Machine.execCanTrxMode n init value s
  | .canTrxWake n ticks => Sys2Proof.Machine.execCanTrxWake n ticks s
  | .trxConfirmTimeout n => Sys2Proof.Machine.execTrxConfirmTimeout n s
  | .canTxdTimeout n => Sys2Proof.Machine.execCanTxdTimeout n s
  | .linEntryStart l => Sys2Proof.Machine.execLinEntryStart l s
  | .linFrameComplete l octets bitErr => Sys2Proof.Machine.execLinFrameComplete l octets bitErr s
  | .linSleepTx l init value => Sys2Proof.Machine.execLinSleepTx l init value s
  | .linWakeTx l init value => Sys2Proof.Machine.execLinWakeTx l init value s
  | .linWakeGapEnd l => Sys2Proof.Machine.execLinWakeGapEnd l s
  | .linWakeRx l => Sys2Proof.Machine.execLinWakeRx l s
  | .linTxdTimeout l => Sys2Proof.Machine.execLinTxdTimeout l s
  | .linDataHi l id init value => Sys2Proof.Machine.execLinDataHi l id init value s
  | .linDataLoRead l id init => Sys2Proof.Machine.execLinDataLoRead l id init s
  | .pmReqRun init value => Sys2Proof.Machine.execPmReqRun init value s
  | .pmReqDoze init value flash outst => Sys2Proof.Machine.execPmReqDoze init value flash outst s
  | .pmReqSleep init value flash outst => Sys2Proof.Machine.execPmReqSleep init value flash outst s
  | .pmReqDeepSleep init value flash outst => Sys2Proof.Machine.execPmReqDeepSleep init value flash outst s
  | .dozeEntry outst => Sys2Proof.Machine.execDozeEntry outst s
  | .dozeExit => Sys2Proof.Machine.execDozeExit s
  | .pmGate b init value outst => Sys2Proof.Machine.execPmGate b init value outst s
  | .pmicEnDrop => Sys2Proof.Machine.execPmicEnDrop s
  | .wakeLine n level ticks => Sys2Proof.Machine.execWakeLine n level ticks s
  | .keepTrip ch ticks => Sys2Proof.Machine.execKeepTrip ch ticks s
  | .gongMfiPoll samples ticks => Sys2Proof.Machine.execGongMfiPoll samples ticks s
  | .wakeTimer => Sys2Proof.Machine.execWakeTimer s
  | .gongLrcCal count => Sys2Proof.Machine.execGongLrcCal count s
  | .pmicEnRise => Sys2Proof.Machine.execPmicEnRise s
  | .bootDone init value => Sys2Proof.Machine.execBootDone init value s
  | .bootTimeout => Sys2Proof.Machine.execBootTimeout s
  | .wakeLockoutEnd => Sys2Proof.Machine.execWakeLockoutEnd s
  | .falseWake => Sys2Proof.Machine.execFalseWake s
  | .graceEnd outst => Sys2Proof.Machine.execGraceEnd outst s
  | .stay init value => Sys2Proof.Machine.execStay init value s
  | .voteMismatch t kind who csr addr => Sys2Proof.Machine.execVoteMismatch t kind who csr addr s
  | .resyncCopyStart t => Sys2Proof.Machine.execResyncCopyStart t s
  | .resyncComplete t stall => Sys2Proof.Machine.execResyncComplete t stall s
  | .lbistComplete t pass => Sys2Proof.Machine.execLbistComplete t pass s
  | .checkerLaneFault t output addr => Sys2Proof.Machine.execCheckerLaneFault t output addr s
  | .tcmEccError t ofs err => Sys2Proof.Machine.execTcmEccError t ofs err s
  | .carIcClaim t x init => Sys2Proof.Machine.execCarIcClaim t x init s
  | .carIcComplete t x init value => Sys2Proof.Machine.execCarIcComplete t x init value s
  | .spflush hart priv value => Sys2Proof.Machine.execSpflush hart priv value s
  | .hgatpWrite hart priv value guest => Sys2Proof.Machine.execHgatpWrite hart priv value guest s
  | .cacheEccError hart level kind => Sys2Proof.Machine.execCacheEccError hart level kind s
  | .imsicSeteipnum init addr value => Sys2Proof.Machine.execImsicSeteipnum init addr value s
  | .iommuWalk did iova acc ecc => Sys2Proof.Machine.execIommuWalk did iova acc ecc s
  | .iommuVxLogai init value => Sys2Proof.Machine.execIommuVxLogai init value s
  | .assign m init value => Sys2Proof.Machine.execAssign m init value s
  | .activate m init value => Sys2Proof.Machine.execActivate m init value s
  | .quiesce m init value => Sys2Proof.Machine.execQuiesce m init value s
  | .quiesceDrainDone n => Sys2Proof.Machine.execQuiesceDrainDone n s
  | .quiesceDrainLimit n => Sys2Proof.Machine.execQuiesceDrainLimit n s
  | .freeze m init value => Sys2Proof.Machine.execFreeze m init value s
  | .thaw m init value => Sys2Proof.Machine.execThaw m init value s
  | .save m init value => Sys2Proof.Machine.execSave m init value s
  | .saveComplete n => Sys2Proof.Machine.execSaveComplete n s
  | .restore m init value => Sys2Proof.Machine.execRestore m init value s
  | .restoreComplete n => Sys2Proof.Machine.execRestoreComplete n s
  | .veReset m init value => Sys2Proof.Machine.execVeReset m init value s
  | .veResetComplete n => Sys2Proof.Machine.execVeResetComplete n s
  | .unassign m init value => Sys2Proof.Machine.execUnassign m init value s
  | .veRingIndexWrite n ring init value => Sys2Proof.Machine.execVeRingIndexWrite n ring init value s
  | .vecUnmask n v init value => Sys2Proof.Machine.execVecUnmask n v init value s
  | .ethRxFrame p => Sys2Proof.Machine.execEthRxFrame p s
  | .ethTxFrameFetch n => Sys2Proof.Machine.execEthTxFrameFetch n s
  | .pwgKick n init value => Sys2Proof.Machine.execPwgKick n init value s
  | .mailboxRing c init value => Sys2Proof.Machine.execMailboxRing c init value s
  | .info src => Sys2Proof.Machine.execInfo src s
  | .rngGet src => Sys2Proof.Machine.execRngGet src s
  | .keyInfo src => Sys2Proof.Machine.execKeyInfo src s
  | .keyGenerate src => Sys2Proof.Machine.execKeyGenerate src s
  | .keyImport src => Sys2Proof.Machine.execKeyImport src s
  | .keyDestroy src => Sys2Proof.Machine.execKeyDestroy src s
  | .gcmSeal src => Sys2Proof.Machine.execGcmSeal src s
  | .gcmOpen src => Sys2Proof.Machine.execGcmOpen src s
  | .cmac src => Sys2Proof.Machine.execCmac src s
  | .sha384 src => Sys2Proof.Machine.execSha384 src s
  | .ecdsaSign src => Sys2Proof.Machine.execEcdsaSign src s
  | .ecdsaVerify src => Sys2Proof.Machine.execEcdsaVerify src s
  | .kdf src => Sys2Proof.Machine.execKdf src s
  | .identSign src => Sys2Proof.Machine.execIdentSign src s
  | .authSubmit src => Sys2Proof.Machine.execAuthSubmit src s
  | .debugClose src => Sys2Proof.Machine.execDebugClose src s
  | .lcAdvance src => Sys2Proof.Machine.execLcAdvance src s
  | .rngStartupDone => Sys2Proof.Machine.execRngStartupDone s
  | .rngHealthFail => Sys2Proof.Machine.execRngHealthFail s
  | .bwdgKick init value => Sys2Proof.Machine.execBwdgKick init value s
  | .bwdgExpired => Sys2Proof.Machine.execBwdgExpired s
  | .bdbgSubmit init value => Sys2Proof.Machine.execBdbgSubmit init value s
  | .scanClearDone ok => Sys2Proof.Machine.execScanClearDone ok s
  | .bdbgClose init value => Sys2Proof.Machine.execBdbgClose init value s
  | .bundleChunk init value => Sys2Proof.Machine.execBundleChunk init value s
  | .tocPend w init value => Sys2Proof.Machine.execTocPend w init value s
  | .tocLogSel init value => Sys2Proof.Machine.execTocLogSel init value s
  | .tocSwraise init value => Sys2Proof.Machine.execTocSwraise init value s
  | .tocSwint init value => Sys2Proof.Machine.execTocSwint init value s
  | .errnRelease init value => Sys2Proof.Machine.execErrnRelease init value s
  | .knellRequest g broken => Sys2Proof.Machine.execKnellRequest g broken s
  | .knellRailFault g => Sys2Proof.Machine.execKnellRailFault g s
  | .heartbeatLoss => Sys2Proof.Machine.execHeartbeatLoss s
  | .ksupLoss => Sys2Proof.Machine.execKsupLoss s
  | .hoscStop => Sys2Proof.Machine.execHoscStop s
  | .wdgKick w init value us => Sys2Proof.Machine.execWdgKick w init value us s
  | .wdgExpired w => Sys2Proof.Machine.execWdgExpired w s
  | .wdgPreWarning w => Sys2Proof.Machine.execWdgPreWarning w s
  | .bistSlice pass raw0 raw1 ofs => Sys2Proof.Machine.execBistSlice pass raw0 raw1 ofs s
  | .bistCoverageLate task unit => Sys2Proof.Machine.execBistCoverageLate task unit s
  | .prbsGo init value outst => Sys2Proof.Machine.execPrbsGo init value outst s
  | .prbsStop init value bits errs => Sys2Proof.Machine.execPrbsStop init value bits errs s
  | .prbsDurationEnd bits errs => Sys2Proof.Machine.execPrbsDurationEnd bits errs s
  | .oscDlyEnd => Sys2Proof.Machine.execOscDlyEnd s
  | .clkinQualified us => Sys2Proof.Machine.execClkinQualified us s
  | .monitorWindow count => Sys2Proof.Machine.execMonitorWindow count s
  | .clkinFail => Sys2Proof.Machine.execClkinFail s
  | .clkinOk => Sys2Proof.Machine.execClkinOk s
  | .clkRestore init value => Sys2Proof.Machine.execClkRestore init value s
  | .pllLock p us => Sys2Proof.Machine.execPllLock p us s
  | .pllDead p outst => Sys2Proof.Machine.execPllDead p outst s
  | .forcedSwitch d => Sys2Proof.Machine.execForcedSwitch d s
  | .domainSwitchDone d gap => Sys2Proof.Machine.execDomainSwitchDone d gap s
  | .clkDomDiv d init value => Sys2Proof.Machine.execClkDomDiv d init value s
  | .irc100OutOfRange count => Sys2Proof.Machine.execIrc100OutOfRange count s
  | .haltSafePowerDown outst => Sys2Proof.Machine.execHaltSafePowerDown outst s
  | .powerOnReset brown => Sys2Proof.Machine.execPowerOnReset brown s
  | .aonOff => Sys2Proof.Machine.execAonOff s
  | .aonUpDone => Sys2Proof.Machine.execAonUpDone s
  | .pgoodRise => Sys2Proof.Machine.execPgoodRise s
  | .resetRelease straps us => Sys2Proof.Machine.execResetRelease straps us s
  | .supplyReset outst => Sys2Proof.Machine.execSupplyReset outst s
  | .resetChip outst => Sys2Proof.Machine.execResetChip outst s
  | .resetPart part => Sys2Proof.Machine.execResetPart part s
  | .tapReset => Sys2Proof.Machine.execTapReset s
  | .ddrTrainingDone ok => Sys2Proof.Machine.execDdrTrainingDone ok s
  | .romBoot us rom => Sys2Proof.Machine.execRomBoot us rom s
  | .trioRelease us => Sys2Proof.Machine.execTrioRelease us s
  | .configurationApply us => Sys2Proof.Machine.execConfigurationApply us s
  | .aClusterRelease us => Sys2Proof.Machine.execAClusterRelease us s
  | .railOutOfRange rail mv => Sys2Proof.Machine.execRailOutOfRange rail mv s
  | .vbatOutOfRange b48 mv => Sys2Proof.Machine.execVbatOutOfRange b48 mv s
  | .vbatInRange b48 mv => Sys2Proof.Machine.execVbatInRange b48 mv s
  | .tempThreshold hdie t => Sys2Proof.Machine.execTempThreshold hdie t s
  | .pllLossOfLock p => Sys2Proof.Machine.execPllLossOfLock p s
  | .wakeFrameDecode n frame dlc ok ticks => Sys2Proof.Machine.execWakeFrameDecode n frame dlc ok ticks s
  | .linHeaderRx l pid sync => Sys2Proof.Machine.execLinHeaderRx l pid sync s
  | .linResponseTimeout l => Sys2Proof.Machine.execLinResponseTimeout l s
  | .ssupLimitEnd n vRaw iRaw => Sys2Proof.Machine.execSsupLimitEnd n vRaw iRaw s
  | .ssupBackfeedEnd n vRaw iRaw => Sys2Proof.Machine.execSsupBackfeedEnd n vRaw iRaw s
  | .prbsLock => Sys2Proof.Machine.execPrbsLock s
  | .prbsLockLoss bits errs => Sys2Proof.Machine.execPrbsLockLoss bits errs s
  | .ssramEccError corrected req addr => Sys2Proof.Machine.execSsramEccError corrected req addr s
  | .dramEccError corrected req addr => Sys2Proof.Machine.execDramEccError corrected req addr s
  | .belfrySramEccUe => Sys2Proof.Machine.execBelfrySramEccUe s
  | .rngStartupFail => Sys2Proof.Machine.execRngStartupFail s
  | .senseFaultEnd unit => Sys2Proof.Machine.execSenseFaultEnd unit s
  | .tempSensorFault hdie t => Sys2Proof.Machine.execTempSensorFault hdie t s

end Sys2Proof.Machine
end

