-- ==== Sys2Proof/Machine/RegRead.lean ====
section
/-!
DEFINITION. What a read over the fabric returns (R6, R8, R9, R22, R30, R444, R469): its response code, its data and what it leaves
behind.  No row of the command table is a plain read; these operations say what the blocks answer to one.
-/

namespace Sys2Proof.Machine

/-! ### The words that blocks show -/

/-- The low and high words of 64-bit registers read through a latch (R9): the writable ones and those that only the hardware
writes.  TIME_NOW has its own latch (R290). -/
def latchRegs : List (Reg × Reg) :=
  pairRegs ++
  [(R.BIST_PRBS_BITS_LO, R.BIST_PRBS_BITS_HI), (R.BEAT_NUM_LO, R.BEAT_NUM_HI), (R.BEAT_NBI_LO, R.BEAT_NBI_HI),
   (R.BEAT_LAST_LO, R.BEAT_LAST_HI), (R.PWR_Q_LO, R.PWR_Q_HI), (R.FEED_QF_LO, R.FEED_QF_HI), (R.FEED_QR_LO, R.FEED_QR_HI),
   (R.FEED_CHQF_LO, R.FEED_CHQF_HI), (R.FEED_CHQR_LO, R.FEED_CHQR_HI), (R.FEED_QQ_LO, R.FEED_QQ_HI),
   (R.TIME_LASTSTEP_LO, R.TIME_LASTSTEP_HI), (R.TIME_HO_PEER_LO, R.TIME_HO_PEER_HI), (R.LIN_FRAME_DATA_LO, R.LIN_FRAME_DATA_HI),
   (R.VEMGR_MODID_LO, R.VEMGR_MODID_HI), (R.VE_ERR_ADDR_LO, R.VE_ERR_ADDR_HI), (R.VE_LASTNBI_LO, R.VE_LASTNBI_HI),
   (R.TMR_NBI_LO, R.TMR_NBI_HI)]

/-- The bits of a family that hold something to read: a WO field returns 0 (R6). -/
def readable (r : Reg) : Nat :=
  r.fields.foldl (fun m f => if f.acc = .wo then withBits m f.hi f.lo 0 else m) (2 ^ 32 - 1)

/-- FABRIC_PORT_STAT of the selected port (Table 1-11). -/
def portStatWord (s : State) : Nat :=
  let p := portSt s (s.get F.FABRIC_PORT_SEL_PORT 0)
  b2n p.shut * 2 ^ 31 + p.reason % 8 * 2 ^ 28 + p.treset % 65536

/-- A non-secure read of an entry of a secure initiator: VALID, SECURE, DISCARDED, CAUSE; INIT, PART and ADDR are 0 (R30). -/
def lateErrMask (s : State) (sec : Bool) (r : Reg) (i w : Nat) : Nat :=
  if sec ∨ ¬ s.flag F.LATE_ERR_E0_SECURE i then w
  else if isReg r R.LATE_ERR_E0 then withBits (withBits w 25 22 0) 10 0 0
  else if isReg r R.LATE_ERR_E1 ∨ isReg r R.LATE_ERR_E2 then 0
  else w

/-- Sources of the secure world, whose records a non-secure reader sees in part (R469). -/
def secureSource (n : Nat) : Bool := decide (384 ≤ n) && decide (n < 416)

/-- A non-secure read of the selected record where its initiator is secure: VALID and CODE only (R469). -/
def tocLogMask (s : State) (sec : Bool) (r : Reg) (i w : Nat) : Nat :=
  let w0 := (s.rd R.TOC_LOG_W 0).toNat
  if sec || !secureSource (s.get F.TOC_LOG_SEL_SRC 0) || !secureOf s (bitsOf w0 10 0) then w
  else if isReg r R.TOC_LOG_W then (if i = 0 then bitsOf w0 31 31 * 2 ^ 31 + bitsOf w0 23 16 * 2 ^ 16 else 0)
  else w

/-- The word of family `r` that an initiator reads, a latched high word apart. -/
def shownWord (s : State) (init : Nat) (r : Reg) (i : Nat) : Nat :=
  let w := (s.rd r i).toNat &&& readable r
  let sec := worldFree init || secureOf s init
  if isReg r R.LATE_ERR_E0 ∨ isReg r R.LATE_ERR_E1 ∨ isReg r R.LATE_ERR_E2 then lateErrMask s sec r i w
  else if isReg r R.TOC_LOG_W then tocLogMask s sec r i w
  else if isReg r R.PWR_CMD_VIS then (slotSt s (0x100 + i)).visible
  else if isReg r R.PWR_LIM_VIS then (slotSt s (0x180 + i)).visible
  else if isReg r R.IOX_MFI_DIG ∨ isReg r R.IOX_MFI_EDGE ∨ isReg r R.IOX_MFI_IE then w &&& mfiMask s init i
  else if isReg r R.SW_PORT_STAT then swStatWord s i
  else if isReg r R.EP_STAT then epStatWord s i
  else if isReg r R.EP_CFG ∧ 20 ≤ i then withBits w 25 25 0
  else if regsEPORT.any (isReg r) ∧ epMissing r (epOf r i) then 0
  else if isReg r R.WDG_STAT then withBits w 23 0 (wdgRem s i)
  else if isReg r R.BWDG_STAT then withBits w 15 0 (bwdgRem s)
  else if isReg r R.SENT_STAT then withBits w 19 0 (sentAge s i)
  else if isReg r R.CAR_IC_CTRL ∨ isReg r R.CAR_IC_CLAIM then (if ctxLive s (i / 2) (i % 2) then w else 0)
  else if isReg r R.CAR_IC_EN then (if ctxLive s (i / 64) (i / 32 % 2) then w &&& carEnMask s (i / 64) (i % 32) else 0)
  else if isReg r R.CAR_IC_PRIO then w &&& carPrioMask s (i / 128) (i % 128)
  else w

/-! ### Who may read (step 4 of R444) -/

/-- Registers of the TIME block that every partition may read (R290). -/
def timeOpen (a : Nat) : Bool :=
  (findReg [R.TIME_NOW_FRAC, R.TIME_NOW_LO, R.TIME_NOW_HI, R.TIME_STAT, R.TIME_CANLAT_SEQ, R.TIME_CANLAT] a).isSome

/-- Registers of BELFRY_MBX that every initiator may read (R467). -/
def belfryOpen (r : Reg) : Bool :=
  [R.BSEC_LC, R.BSEC_DEBUG, R.BRNG_STAT, R.BSEC_SCAN, R.BSEC_ASG_SEL, R.BSEC_ASG_DATA, R.BSEC_PARTCFG, R.BSEC_VMIDMAP,
   R.BSEC_PMEM0, R.BSEC_PMEM1].any (isReg r)

/-- BELFRY_MBX (R467). -/
def belfryMayRead (s : State) (init a : Nat) : Bool :=
  match findReg regsBELFRY a with
  | none => true
  | some (r, i) =>
    if isReg r R.BMBX_CTRL ∨ isReg r R.BMBX_STAT then mbxMay s i init
    else if isReg r R.BMBX_REQ ∨ isReg r R.BMBX_RPL then mbxMay s (i / 16) init
    else if isReg r R.BDBG_CTRL ∨ isReg r R.BDBG_STAT ∨ isReg r R.BDBG_CHAL ∨ isReg r R.BDBG_BUF then dbgMay init
    else belfryOpen r || init == 0x30

/-- A read meets the rule of the block at a slot (R101, R290, R313, R386, R436, R467). -/
def slotMayRead (s : State) (init n a : Nat) : Bool :=
  if n = 0x030 then timeOpen a || timeMay s init
  else if 0x031 ≤ n ∧ n ≤ 0x034 then
    let o := (a - 0x10310000) % 0x4000
    if 0x1000 ≤ o ∧ o < 0x1800 ∧ o % 0x100 ≠ 0 ∧ o % 0x100 ≠ 0x28 then
      slotMay s ((a - 0x10310000) / 0x4000) ((o - 0x1000) / 0x100) init else true
  else if n = 0x040 then decide (a - 0x10400000 < 0x4000) || carMay s (carTrio a) init
  else if n = 0x060 then
    let o := a - 0x10600000
    if 0x2000 ≤ o ∧ o < 0x6000 then mgrMay s ((o - 0x2000) / 0x1000) init else true
  else if n = 0x070 then belfryMayRead s init a
  else if n = 0x080 then
    match findReg [R.DICT_WCMD, R.DICT_WOBJ, R.DICT_WSTAT, R.DICT_WIRQ, R.DICT_WDATA] a with
    | some (r, i) => init = 0x30 || partOf s init == (if isReg r R.DICT_WDATA then i / 256 else i)
    | none => true
  else true

/-! ### The read -/

/-- The families that lie in a peripheral slot. -/
def slotRegs (n : Nat) : List Reg :=
  if n = 0x000 then regsFABRIC else if n = 0x001 then regsTOCSIN else if n = 0x002 then regsKNELL
  else if n = 0x003 then regsCLK else if n = 0x004 then regsPMODE else if n = 0x005 then regsBEAT
  else if n = 0x006 then regsTABLA else if n = 0x008 ∨ n = 0x009 then regsPWR ++ regsFEED
  else if 0x00C ≤ n ∧ n ≤ 0x00F then regsIOX else if 0x010 ≤ n ∧ n ≤ 0x01F then regsSWITCH
  else if 0x020 ≤ n ∧ n ≤ 0x025 then regsEPORT else if n = 0x030 then regsTIME
  else if 0x031 ≤ n ∧ n ≤ 0x034 then regsCAN else if n = 0x035 then regsLIN else if n = 0x036 then regsSENT
  else if n = 0x040 then regsCARILLON else if n = 0x050 then regsIOMMU else if n = 0x060 then regsVEMGR
  else if n = 0x070 then regsBELFRY else if n = 0x080 then regsDICT else if n = 0x090 then regsBIST
  else []

/-- The families in force in the page of VE `n`: the common ones and those of its type (R437). -/
def pageRegs (s : State) (n : Nat) : List Reg :=
  regsVE ++ (match veType s n with
    | 1 => regsVE_ETH | 2 => regsVE_CAN | 3 => regsVE_LIN | 4 => regsVE_IOG | 5 => regsVE_PWG | 6 => regsVE_TMR
    | 7 => regsVE_CRY | _ => [])

/-- A read of one word of a family, with the latch of R9; FABRIC_PORT_STAT and BEAT_VIS are no stored words. -/
def readWord (init : Nat) (r : Reg) (i : Nat) (s : State) : Nat × State :=
  if isReg r R.TIME_NOW_FRAC then let s := latchNow s; (shownWord s init r i, s)
  else if latchRegs.any (fun p => isReg p.2 r) then ((s.latch.read r i).toNat, s)
  else
    match latchRegs.find? (fun p => isReg p.1 r) with
    | some p => (shownWord s init r i, { s with latch := s.latch.write p.2 i (s.rd p.2 i) })
    | none => (shownWord s init r i, s)

/-- The data of a read of a block's word that its rules admit; other offsets read 0. -/
def blockRead (init a : Nat) (l : List Reg) (s : State) : Nat × State :=
  if a = 0x10000034 then (portStatWord s, s)
  else if 0x10500000 ≤ a ∧ a < 0x10501000 then ioRead (a - 0x10500000) s
  else if 0x10054000 ≤ a ∧ a < 0x10058000 then 
    ((if (slotProducer s ((a - 0x10054000) / 4)).isSome then (slotSt s ((a - 0x10054000) / 4)).visible else 0), s)
  else
    match findReg l a with
    | some (r, i) => readWord init r i s
    | none => (0, s)

/-- A read's answer: response code, data (0 unless OKAY, R22) and the state after. -/
abbrev ReadAnswer := Nat × Nat × State

/-- A read that its block refuses (step 4 of R444). -/
def readRefused (code : Nat) (s : State) : ReadAnswer := (code, 0, s)

/-- A read of memory: a poisoned line ends it with ECC_ERR and raises the source of its memory (R22, R396). -/
def memAnswer (init a bytes : Nat) (s : State) : ReadAnswer :=
  if poisoned s a bytes then
    (respEcc, 0, if a < 0x800000 then memFault 103 init 0x1000 a s else memFault 105 init 0x1001 a s)
  else (respOkay, leNat (s.memRead a bytes), s)

/-- A read by an initiator of `bytes` bytes at an address that has a register or memory behind it. -/
def busRead (init a bytes : Nat) (s : State) : ReadAnswer :=
  if judgeReq s init a bytes ≠ respOkay then (judgeReq s init a bytes, 0, s.refuseReq init a bytes false)
  else
    match decodeAddr a with
    | some (.slot n) =>
      if bytes ≠ 4 ∨ a % 4 ≠ 0 then readRefused respSize s
      else if !slotMayRead s init n a then readRefused respDenied s
      else let d := blockRead init a (slotRegs n) s; (respOkay, d.1, d.2)
    | some (.ve n) =>
      if bytes ≠ 4 ∨ a % 4 ≠ 0 then readRefused respSize s
      else if !isUser s n init && !isMgr s n init then readRefused respDenied s
      else let d := blockRead init a (pageRegs s n) s; (respOkay, d.1, d.2)
    | _ => memAnswer init a bytes s

end Sys2Proof.Machine
end

