-- ==== Sys2Proof/WellFormed.lean ====
section
/-!
DEFINITION. Well-formed commands: every operand lies in the range that the spec gives it.  An ill-formed command names
nothing that the surroundings can send.
-/

namespace Sys2Proof

/-- Initiators of Table 1-3, and the number by which commands name the JTAG access port. -/
def initOk (i : Init) : Bool :=
  decide (i < 8) || decide (0x10 ≤ i ∧ i ≤ 0x11) || decide (0x20 ≤ i ∧ i ≤ 0x2F) || decide (0x30 ≤ i ∧ i ≤ 0x35) ||
    decide (0x400 ≤ i ∧ i ≤ 0x800)

/-- A 40-bit address (R12). -/
def addrOk (a : Nat) : Bool := decide (a < 2 ^ 40)

/-- A 40-bit address, or a CSR of a hart as the model addresses it (4 KiB per hart from 2^41). -/
def storeOk (a : Nat) : Bool := addrOk a || decide (2 ^ 41 ≤ a ∧ a < 2 ^ 41 + 8 * 4096)

/-- A target port of R15. -/
def portOk (p : Nat) : Bool := decide (p ≤ 0x1006)

/-- A request outstanding at a port. -/
def Req.ok (q : Req) : Bool := initOk q.init && addrOk q.addr && decide (q.vaddr < 2 ^ 64)

/-- Requests outstanding at ports. -/
def reqsOk (l : List Req) : Bool := l.all Req.ok

/-- Octets. -/
def octetsOk (l : List Nat) : Bool := l.all (fun b => decide (b < 256))

/-- A 16-bit conversion result. -/
def codeOk (n : Nat) : Bool := decide (n < 65536)

/-- A measured amount in steps of 1/65,536 of its full scale, to twice that (R51, R195). -/
def sampleOk (n : Nat) : Bool := decide (n < 131072)

/-- A 32-bit quantity. -/
def wordOk (n : Nat) : Bool := decide (n < 2 ^ 32)

/-- A 64-bit quantity. -/
def dwordOk (n : Nat) : Bool := decide (n < 2 ^ 64)

/-- A caller of Belfry. -/
def CallSrc.ok : CallSrc → Bool
  | .mbx c => decide (c < 16)
  | .cry n => decide (n < 1024)

/-- What a conversion measures at one unit. -/
def ConvSample.ok (c : ConvSample) : Bool :=
  decide (c.unit < 74) && sampleOk c.raw && sampleOk c.vRaw && sampleOk c.vdsRaw

/-- A frame of a SENT transmitter: a nibble is a number, 16 and more where its width fits none. -/
def SentFrame.ok (f : SentFrame) : Bool :=
  decide (f.status < 256) && decide (f.crc < 256) && f.nibs.all (fun n => decide (n < 256))

/-- A SecTAG. -/
def SecTag.ok (t : SecTag) : Bool :=
  decide (t.tci < 256) && decide (t.sl < 48) && wordOk t.pn && (match t.sci with | some n => dwordOk n | none => true)

/-- A SecTAG, where there is one. -/
def secOk (t : Option SecTag) : Bool := match t with | some t => t.ok | none => true

/-- The sender of a handover frame. -/
def HoPeer.ok (h : HoPeer) : Bool := dwordOk h.clockId && secOk h.sec && octetsOk h.icv

/-- A CAN frame. -/
def CanFrame.ok (f : CanFrame) : Bool :=
  wordOk f.w0 && wordOk f.w2 && wordOk f.w3 && octetsOk f.data && decide (f.data.length ≤ 2048)

/-- A cache error. -/
def CacheErr.ok : CacheErr → Bool
  | .corrected => true
  | .consumed _ v _ => dwordOk v
  | .dirty a => addrOk a

/-- A command whose operands all lie in their ranges. -/
def Instr.wf : Instr → Bool
  | .registerWrite init addr bytes value => initOk init && storeOk addr && decide (1 ≤ bytes ∧ bytes ≤ 64) && decide (value < 256 ^ bytes)
  | .beatBoundary _ _ lanes credit => lanes.all (fun k => decide (k < 2)) && credit.all portOk
  | .targetTimeout port req others => portOk port && req.ok && reqsOk others
  | .portOpen port => portOk port
  | .fenceStuck port => portOk port
  | .lateErrRd init _ => initOk init
  | .fabricCarwin _ init _ => initOk init
  | .spineCrcFail _ out => reqsOk out
  | .retrainComplete => true
  | .retrainTimeout out => reqsOk out
  | .hdieSupplyLoss out => reqsOk out
  | .spineHreset init _ out => initOk init && reqsOk out
  | .hdieResetRelease => true
  | .spineLinkUp => true
  | .trainingTimeout => true
  | .knellHoldExpire => true
  | .beatPub init _ => initOk init
  | .pwrCmdPub _ init _ => initOk init
  | .pwrLimPub _ init _ => initOk init
  | .dictRead => true
  | .dictWrite _ => true
  | .dictReadMulti => true
  | .dictWriteMulti _ => true
  | .modeReq _ => true
  | .subscribe => true
  | .imageLoad => true
  | .imageCommit => true
  | .usestDatagram => true
  | .usestCanSegment _ octets => octetsOk octets
  | .usestSegmentTimeout _ => true
  | .slotConfirm init _ => initOk init
  | .beatEn init _ => initOk init
  | .strokeEnd _ _ => true
  | .strokeWait _ _ => true
  | .strokeRds _ _ => true
  | .strokeRdt _ _ => true
  | .strokeLdi _ _ => true
  | .strokeMov _ _ => true
  | .strokeClt _ _ => true
  | .strokeCle _ _ => true
  | .strokeCeq _ _ => true
  | .strokeClti _ _ => true
  | .strokeCgei _ _ => true
  | .strokeCadd _ _ => true
  | .strokeCsub _ _ => true
  | .strokeCmul _ _ => true
  | .strokeCmin _ _ => true
  | .strokeCmax _ _ => true
  | .strokeAdd _ _ => true
  | .strokeSub _ _ => true
  | .strokeAnd _ _ => true
  | .strokeOr _ _ => true
  | .strokeXor _ _ => true
  | .strokeAddi _ _ => true
  | .strokeSubi _ _ => true
  | .strokeAndi _ _ => true
  | .strokeShr _ _ => true
  | .strokeShl _ _ => true
  | .strokeSkc _ _ => true
  | .strokeSkf _ _ => true
  | .strokeWro _ _ => true
  | .strokeWroApply _ => true
  | .strokeWrp _ _ => true
  | .strokePub _ _ => true
  | .strokeLreq _ _ => true
  | .strokeSreq _ _ => true
  | .tablaLdHi _ init _ => initOk init
  | .tablaArm _ init _ => initOk init
  | .tablaValidationDone _ => true
  | .tablaLibraryLoadDone _ => true
  | .conversion ofs samples => wordOk ofs && samples.all ConvSample.ok
  | .shortTrip _ _ _ _ peak letI2t ofs => codeOk peak && wordOk letI2t && wordOk ofs
  | .gateUv _ peak letI2t ofs => codeOk peak && wordOk letI2t && wordOk ofs
  | .prechargeDone _ ofs => wordOk ofs
  | .preTimeout _ peak letI2t ofs => codeOk peak && wordOk letI2t && wordOk ofs
  | .fetFault _ ofs => wordOk ofs
  | .outHigh _ ofs => wordOk ofs
  | .currentSenseFault _ ofs => wordOk ofs
  | .fastPathShed _ ofs => wordOk ofs
  | .feedSenseFault _ ofs => wordOk ofs
  | .mfiSample _ raw ofs => sampleOk raw && wordOk ofs
  | .raiConversion _ _ _ vRaw iRaw ofs => sampleOk vRaw && sampleOk iRaw && wordOk ofs
  | .ssupLimit _ vRaw iRaw => sampleOk vRaw && sampleOk iRaw
  | .ssupOverload _ vRaw iRaw ofs => sampleOk vRaw && sampleOk iRaw && wordOk ofs
  | .ssupBackfeed _ vRaw iRaw ofs => sampleOk vRaw && sampleOk iRaw && wordOk ofs
  | .ioxSsupCtrl _ init _ => initOk init
  | .ioxLsoDuty _ init _ => initOk init
  | .ioxBrCmd _ init _ => initOk init
  | .lsoOvercurrent _ i ofs => codeOk i && wordOk ofs
  | .lsoOcClear _ init _ => initOk init
  | .lsoOvertemp _ i ofs => codeOk i && wordOk ofs
  | .lsoOvertempRecover _ => true
  | .lsoOpenLoad _ _ i ofs => codeOk i && wordOk ofs
  | .bridgeGapEnd _ => true
  | .bridgeCurrentLimit _ raw _ vsRaw ofs => sampleOk raw && sampleOk vsRaw && wordOk ofs
  | .bridgeShort _ ofs => wordOk ofs
  | .bridgeClr _ init _ => initOk init
  | .bridgeUv _ vsRaw ofs => sampleOk vsRaw && wordOk ofs
  | .bridgeUvRecover _ vsRaw => sampleOk vsRaw
  | .sentFrame _ fr ofs => fr.ok && wordOk ofs
  | .sentTimeout _ ofs => wordOk ofs
  | .sentTrig _ init _ => initOk init
  | .frameFirstCell _ octets len sec => octetsOk octets && codeOk len && secOk sec
  | .continuationCell _ octets => octetsOk octets
  | .frameEnd _ octets _ icv => octetsOk octets && octetsOk icv
  | .cellSlot => true
  | .copyAged _ _ _ => true
  | .transmitSelection _ => true
  | .copyTransmitDone _ => true
  | .bufferEccError _ _ _ => true
  | .fdbAgeScan => true
  | .fdbLookup init _ => initOk init
  | .fdbInsertStatic init _ => initOk init
  | .fdbInsertDynamic init _ => initOk init
  | .fdbDelete init _ => initOk init
  | .fdbFlushFid init _ => initOk init
  | .fdbFlushPort init _ => initOk init
  | .fdbReadIndex init _ => initOk init
  | .clrPeak init _ => initOk init
  | .linkUp _ _ _ _ => true
  | .linkDown _ => true
  | .plcaLost _ => true
  | .plcaBeacon _ => true
  | .gateEntrySwitch _ _ => true
  | .gclChange _ init _ => initOk init
  | .cbsSlope _ _ init _ => initOk init
  | .streamGateEntrySwitch _ _ => true
  | .frerReset _ => true
  | .saKey _ _ init _ => initOk init
  | .tc10SleepReq _ init _ => initOk init
  | .tc10SleepAck _ => true
  | .tc10DrainTimeout _ => true
  | .tc10WakeRx _ _ => true
  | .tc10WakeReq _ init _ => initOk init
  | .epTest _ init _ => initOk init
  | .tableRead _ init _ => initOk init
  | .tableWrite _ init _ => initOk init
  | .timeInc init _ => initOk init
  | .timeStep init _ => initOk init
  | .timeNowFrac init => initOk init
  | .timeLock init _ => initOk init
  | .timeUnlock init _ => initOk init
  | .timeKeep init _ => initOk init
  | .keepaliveTimeout => true
  | .handoverReq _ init _ => initOk init
  | .handoverGrant _ init _ => initOk init
  | .handoverRefuse _ init _ => initOk init
  | .handoverFrameRx _ msg seq peer => decide (msg < 256) && codeOk seq && peer.ok
  | .handoverTimeout _ => true
  | .canEnable _ init _ => initOk init
  | .canIntegrationDone _ => true
  | .canFrameRx _ frame _ => frame.ok
  | .canTxsub _ _ init _ => initOk init
  | .canTxSelection _ _ => true
  | .canArbitrationLost _ => true
  | .canTxEnd _ => true
  | .canBusError _ _ _ => true
  | .canTxabort _ _ init _ => initOk init
  | .busoffRecover _ init _ => initOk init
  | .canRecoveryComplete _ => true
  | .canRxai _ _ init _ => initOk init
  | .canCqai _ _ init _ => initOk init
  | .canSlotCfg _ _ init _ => initOk init
  | .canTrxMode _ init _ => initOk init
  | .canTrxWake _ _ => true
  | .trxConfirmTimeout _ => true
  | .canTxdTimeout _ => true
  | .linEntryStart _ => true
  | .linFrameComplete _ octets _ => octetsOk octets
  | .linSleepTx _ init _ => initOk init
  | .linWakeTx _ init _ => initOk init
  | .linWakeGapEnd _ => true
  | .linWakeRx _ => true
  | .linTxdTimeout _ => true
  | .linDataHi _ _ init _ => initOk init
  | .linDataLoRead _ _ init => initOk init
  | .pmReqRun init _ => initOk init
  | .pmReqDoze init _ _ outst => initOk init && reqsOk outst
  | .pmReqSleep init _ _ outst => initOk init && reqsOk outst
  | .pmReqDeepSleep init _ _ outst => initOk init && reqsOk outst
  | .dozeEntry outst => reqsOk outst
  | .dozeExit => true
  | .pmGate _ init _ outst => initOk init && reqsOk outst
  | .pmicEnDrop => true
  | .wakeLine _ _ _ => true
  | .keepTrip _ _ => true
  | .gongMfiPoll samples _ => samples.all (fun p => decide (p.1 < 96) && sampleOk p.2)
  | .wakeTimer => true
  | .gongLrcCal _ => true
  | .pmicEnRise => true
  | .bootDone init _ => initOk init
  | .bootTimeout => true
  | .wakeLockoutEnd => true
  | .falseWake => true
  | .graceEnd outst => reqsOk outst
  | .stay init _ => initOk init
  | .voteMismatch _ _ _ csr _ => decide (csr < 4096)
  | .resyncCopyStart _ => true
  | .resyncComplete _ _ => true
  | .lbistComplete _ _ => true
  | .checkerLaneFault _ _ _ => true
  | .tcmEccError _ ofs _ => wordOk ofs
  | .carIcClaim _ _ init => initOk init
  | .carIcComplete _ _ init _ => initOk init
  | .spflush _ _ value => dwordOk value
  | .hgatpWrite _ _ value _ => dwordOk value
  | .cacheEccError _ _ kind => kind.ok
  | .imsicSeteipnum init addr _ => initOk init && addrOk addr
  | .iommuWalk did iova _ _ => decide (did < 2 ^ 24) && dwordOk iova
  | .iommuVxLogai init _ => initOk init
  | .assign _ init _ => initOk init
  | .activate _ init _ => initOk init
  | .quiesce _ init _ => initOk init
  | .quiesceDrainDone _ => true
  | .quiesceDrainLimit _ => true
  | .freeze _ init _ => initOk init
  | .thaw _ init _ => initOk init
  | .save _ init _ => initOk init
  | .saveComplete _ => true
  | .restore _ init _ => initOk init
  | .restoreComplete _ => true
  | .veReset _ init _ => initOk init
  | .veResetComplete _ => true
  | .unassign _ init _ => initOk init
  | .veRingIndexWrite _ _ init _ => initOk init
  | .vecUnmask _ _ init _ => initOk init
  | .ethRxFrame _ => true
  | .ethTxFrameFetch _ => true
  | .pwgKick _ init _ => initOk init
  | .mailboxRing _ init _ => initOk init
  | .info src => src.ok
  | .rngGet src => src.ok
  | .keyInfo src => src.ok
  | .keyGenerate src => src.ok
  | .keyImport src => src.ok
  | .keyDestroy src => src.ok
  | .gcmSeal src => src.ok
  | .gcmOpen src => src.ok
  | .cmac src => src.ok
  | .sha384 src => src.ok
  | .ecdsaSign src => src.ok
  | .ecdsaVerify src => src.ok
  | .kdf src => src.ok
  | .identSign src => src.ok
  | .authSubmit src => src.ok
  | .debugClose src => src.ok
  | .lcAdvance src => src.ok
  | .rngStartupDone => true
  | .rngHealthFail => true
  | .bwdgKick init _ => initOk init
  | .bwdgExpired => true
  | .bdbgSubmit init _ => initOk init
  | .scanClearDone _ => true
  | .bdbgClose init _ => initOk init
  | .bundleChunk init _ => initOk init
  | .tocPend _ init _ => initOk init
  | .tocLogSel init _ => initOk init
  | .tocSwraise init _ => initOk init
  | .tocSwint init _ => initOk init
  | .errnRelease init _ => initOk init
  | .knellRequest _ _ => true
  | .knellRailFault _ => true
  | .heartbeatLoss => true
  | .ksupLoss => true
  | .hoscStop => true
  | .wdgKick _ init _ _ => initOk init
  | .wdgExpired _ => true
  | .wdgPreWarning _ => true
  | .bistSlice _ raw0 raw1 ofs => sampleOk raw0 && sampleOk raw1 && wordOk ofs
  | .bistCoverageLate _ unit => decide (unit < 2048)
  | .prbsGo init _ outst => initOk init && reqsOk outst
  | .prbsStop init _ _ _ => initOk init
  | .prbsDurationEnd _ _ => true
  | .oscDlyEnd => true
  | .clkinQualified _ => true
  | .monitorWindow _ => true
  | .clkinFail => true
  | .clkinOk => true
  | .clkRestore init _ => initOk init
  | .pllLock _ _ => true
  | .pllDead _ outst => reqsOk outst
  | .forcedSwitch _ => true
  | .domainSwitchDone _ _ => true
  | .clkDomDiv _ init _ => initOk init
  | .irc100OutOfRange _ => true
  | .haltSafePowerDown outst => reqsOk outst
  | .powerOnReset _ => true
  | .aonOff => true
  | .aonUpDone => true
  | .pgoodRise => true
  | .resetRelease _ _ => true
  | .supplyReset outst => reqsOk outst
  | .resetChip outst => reqsOk outst
  | .resetPart _ => true
  | .tapReset => true
  | .ddrTrainingDone _ => true
  | .romBoot _ _ => true
  | .trioRelease _ => true
  | .configurationApply _ => true
  | .aClusterRelease _ => true
  | .railOutOfRange _ _ => true
  | .vbatOutOfRange _ _ => true
  | .vbatInRange _ _ => true
  | .tempThreshold _ _ => true
  | .pllLossOfLock _ => true
  | .wakeFrameDecode _ frame _ _ _ => frame.ok
  | .linHeaderRx _ _ _ => true
  | .linResponseTimeout _ => true
  | .ssupLimitEnd _ vRaw iRaw => sampleOk vRaw && sampleOk iRaw
  | .ssupBackfeedEnd _ vRaw iRaw => sampleOk vRaw && sampleOk iRaw
  | .prbsLock => true
  | .prbsLockLoss _ _ => true
  | .ssramEccError _ req addr => req.ok && addrOk addr
  | .dramEccError _ req addr => req.ok && addrOk addr
  | .belfrySramEccUe => true
  | .rngStartupFail => true
  | .senseFaultEnd _ => true
  | .tempSensorFault _ _ => true

end Sys2Proof
end

