-- ==== Sys2Proof/Safety.lean ====
section
/-!
DEFINITION. What counts as a safe run, and the invariants of states, in the terms that statements use.
-/

namespace Sys2Proof.Machine

/-- The outcome goes on. -/
def goesOn : Host.Outcome State Fault Refusal → Bool
  | .next _ => true
  | .fault _ => false
  | .refused _ => false

/-- A command completes: it answers a next state, of which `P` holds. -/
def Runs (c : Instr) (s : State) (P : State → Prop) : Prop := ∃ t, exec c s = .next t ∧ P t

/-- A posted four-byte write by `init` to the register at `a` reaches the register's own rule: the K-die is powered (R345), the
initiator issues (R372, R464), steps 1 to 3 of R444 and the port's fence let it through, and the address is aligned (R8). -/
def Admitted (init a : Nat) (s : State) : Prop :=
  s.pm.phase ≠ 2 ∧ initSilent s init = false ∧ judgeReq s init a 4 = respOkay ∧ a % 4 = 0

/-- The dictionary engine runs and `r` is the oldest accepted request (R75); `u` is the state with it taken. -/
def Serves (s : State) (r : DReq) (u : State) : Prop :=
  dictRuns s = true ∧ ∃ l, s.dict.queue = r :: l ∧ u = { s with dict := { s.dict with queue := l } }

/-- Window `w` shows the final status `st` of its request and `n` octets of reply (R101). -/
def winAnswer (t : State) (w st n : Nat) : Prop :=
  t.get F.DICT_WSTAT_STATUS w = st ∧ t.get F.DICT_WSTAT_LEN w = n ∧ t.get F.DICT_WSTAT_DONE w = 1 ∧
    t.get F.DICT_WSTAT_BUSY w = 0 ∧ t.get F.DICT_WCMD_GO w = 0

/-- The IPv6 packet of a frame that an endpoint's port holds, and the datagram in it. -/
def ipOf (x : SwRx) : List Nat := x.octets.drop (afterTag x.octets + 2)
def udpOf (x : SwRx) : List Nat := (ipOf x).drop 40

/-- The payload of a datagram (R78). -/
def udpPayload (x : SwRx) : List Nat := ((udpOf x).take (beNat (((udpOf x).drop 4).take 2))).drop 8

/-- Its sender, and the way back. -/
def udpSource (x : SwRx) : DSrc :=
  .udp (beNat (((ipOf x).drop 8).take 16)) (beNat ((udpOf x).take 2)) (((ipOf x).drop 24).take 16 ++ backHeader x.octets)

/-- A good frame with a datagram to port 47210 of a link-local address of the device, from a link-local address with hop limit 255,
while Usest over Ethernet is on (R78). -/
def usestUdp (s : State) (x : SwRx) : Bool :=
  !x.fcsErr && typeAt x.octets (afterTag x.octets) == 0x86DD && (ipOf x).getD 0 0 / 16 == 6 && (ipOf x).getD 6 0 == 17 &&
  beNat (((udpOf x).drop 2).take 2) == 47210 && linkLocal (beNat (((ipOf x).drop 24).take 16)) &&
  linkLocal (beNat (((ipOf x).drop 8).take 16)) && (ipOf x).getD 7 0 == 255 && tget 1 s.dict.vals 0x010010 != 0

/-- Engine `n` is at stroke `w`, whose operation is `op`: its unit runs, it is live, has not executed END, and the stroke stands at
its position (R117). -/
def Issues (s : State) (n op w : Nat) : Prop :=
  activeStroke s n (engSt s n).pc = some w ∧ (engSt s n).live = true ∧ (engSt s n).done = false ∧ tablaRuns s n = true ∧ skOp w = op

/-- Engine `n` has issued its stroke: its position is one further. -/
def Issued (s t : State) (n : Nat) : Prop := (engSt t n).pc = (engSt s n).pc + 1 ∧ (engSt t n).last = some (engSt s n).pc

/-- No working register of any engine differs. -/
def WregsKept (s t : State) : Prop := ∀ m i, wreg t m i = wreg s m i

/-- `v` stands in W[DST] of engine `n`, and every other working register is as it was. -/
def Wrote (s t : State) (n w v : Nat) : Prop :=
  wreg t n (skDst w) = v ∧ ∀ m i, 16 * m + i ≠ 16 * n + skDst w → wreg t m i = wreg s m i

/-- As `Wrote`, with SAT set where the operation saturated and else kept. -/
def WroteSat (s t : State) (n w : Nat) (r : Nat × Bool) : Prop :=
  Wrote s t n w r.1 ∧ (engSt t n).sat = ((engSt s n).sat || r.2)

/-- Entry `i` of table `n` with the data words of window `p` merged field by field (R284). -/
def tblMerged (s : State) (p n i : Nat) : Nat :=
  (tblFields n).foldl (mergeField false false (tblGet s n i) (tblData s p)) (tblGet s n i)

/-- A stream gate's entry `v` with OPEN_NOW as gate `g`'s list has it, closed by INV_RX (Table 9-6). -/
def openNow (s : State) (g v : Nat) : Nat :=
  withBits v 27 27 (b2n (bitOf ((sgSt s g).list.getD (sgSt s g).idx 0) 31 && bitsOf v 28 28 == 0))

/-- One handover frame more waits at Pk in class 7: message `msg` with number `seq` and its FCS (R304, Table 10-2). -/
def HoQueued (s t : State) (k msg seq : Nat) : Prop :=
  t.sw.next = s.sw.next + 1 ∧ (frameSt t s.sw.next).octets = hoFrame s msg seq ++ fcsOf (hoFrame s msg seq) ∧
    (frameSt t s.sw.next).cls = 7 ∧ (copyOf t s.sw.next k).isSome = true

/-- The A-cluster has been started and is powered (R345, R351). -/
def clusterOn (s : State) : Prop := s.boot.started = true ∧ s.get F.PM_STAT_MODE 0 ≠ 2 ∧ s.pm.phase ≠ 2

/-- The VLAN of a frame at the endpoint of internal port 20 + p: its tag's, or the port's default (R428). -/
def rxVid (s : State) (p : Nat) (x : SwRx) : Nat :=
  if hasTag x.octets then beAt x.octets 14 2 % 4096 else s.get F.SW_PORT_CFG_PVID (20 + p)

/-- The newest record of a fault source in the detail log (R475). -/
def lastRecord (s : State) (n : Nat) : Option LogRec := (tget [] s.toc.log n).head?

/-- Memory in its one canonical form. -/
def State.memOk (s : State) : Prop := Memory.wf s.mem = true

/-- Every byte of memory reads the same in two states. -/
def sameMem (s t : State) : Prop := ∀ a, memGet t.mem a = memGet s.mem a

/-- The oldest request that waits in a mailbox is that of channel `c`, complete, for function `f` with the octets `d` (R456, R457);
no other request of the channel waits, its caller's partition has not been reset since (R465), and Belfry runs (R451, R464). -/
def Called (s : State) (c f : Nat) (d : List Nat) : Prop :=
  ∃ q l, s.bel.rung = c :: l ∧ c ∉ l ∧ c ∉ s.bel.aborted ∧ (callReq (.mbx c) s).1 = some q ∧ reqFunc q = f ∧ reqData q = d ∧
    reqLen q = d.length ∧ belRuns s = true

/-- Mailbox `c` shows a reply with status `st` and the octets `d`, and is no longer busy (R456, R457). -/
def Answered (t : State) (c st : Nat) (d : List Nat) : Prop :=
  t.get F.BMBX_STAT_DONE c = 1 ∧ t.get F.BMBX_STAT_BUSY c = 0 ∧
  t.get F.BMBX_RPL_DATA (16 * c) = st * 65536 + (d.take 60).length ∧
  ∀ w, w < 15 → t.get F.BMBX_RPL_DATA (16 * c + w + 1) =
    leNat (((d.take 60 ++ List.replicate (60 - (d.take 60).length) 0).drop (4 * w)).take 4) % 2 ^ 32

/-- Every register outside some blocks, given as ranges of family numbers, reads the same in two states. -/
def sameRegsBut (blocks : List (Nat × Nat)) (s t : State) : Prop :=
  ∀ (r : Reg) (i : Nat), (∀ b ∈ blocks, ¬ (b.1 ≤ r.id ∧ r.id < b.2)) → t.rd r i = s.rd r i

/-- Every register but some words, given as family number and index, reads the same in two states. -/
def sameWordsBut (words : List (Nat × Nat)) (s t : State) : Prop :=
  ∀ (r : Reg) (i : Nat), (r.id, i) ∉ words → t.rd r i = s.rd r i

/-! ### What a command may write -/

/-- Every register family; as blocks. -/
def everything : List (Nat × Nat) := [(0, 0)]

/-! Three blocks in parts, whose registers are written by operations of different kinds: the fabric's (windows, late-error log,
spine link), the beat unit's and Belfry's (locks, record of denials, the rest). -/

def idsCARWIN : Nat × Nat := (0, 6)
def idsLATE : Nat × Nat := (6, 10)
def idsSPINE : Nat × Nat := (10, 13)
def idsLATE_E : Nat × Nat := (13, 17)
def idsBEATCTL : Nat × Nat := (88, 94)
def idsBEATNUM : Nat × Nat := (94, 98)
def idsBEATLEN : Nat × Nat := (98, 100)
def idsBEATLAST : Nat × Nat := (100, 102)
def idsBEATPUB : Nat × Nat := (102, 104)
def idsBSEC : Nat × Nat := (504, 511)
def idsDENY : Nat × Nat := (511, 514)
def idsBCTL : Nat × Nat := (514, 532)

/-- The blocks that a dictionary object may stand in front of: every one, but for the beat number and the time of the last
boundary. -/
def objBlocks : List (Nat × Nat) :=
  [idsCARWIN, idsLATE, idsSPINE, idsLATE_E, idsTOCSIN, idsKNELL, idsBIST, idsCLK, idsPMODE, idsBEATCTL, idsBEATLEN,
   idsBEATPUB, idsTABLA, idsPWR, idsFEED, idsIOX, idsSENT, idsSWITCH, idsEPORT, idsTIME, idsCAN, idsLIN, idsCARILLON,
   idsIOMMU, idsCSR, idsVEMGR, idsVE, idsVE_ETH, idsVE_CAN, idsVE_LIN, idsVE_IOG, idsVE_PWG, idsVE_TMR, idsVE_CRY,
   idsBSEC, idsDENY, idsBCTL, idsDICT, idsISLAND]

/-- A family number lies in one of some blocks; a block that ends at 0 has no end. -/
def inBlocks (B : List (Nat × Nat)) (id : Nat) : Bool :=
  B.any (fun b => Nat.ble b.1 id && (Nat.beq b.2 0 || Nat.ble (id + 1) b.2))

/-- Every register outside some blocks reads the same in two states. -/
def keepsOutside (B : List (Nat × Nat)) (s t : State) : Prop := ∀ r i, inBlocks B r.id = false → t.rd r i = s.rd r i

/-- What a command may write: the register blocks, its own and those that its consequences reach (the fault log, late errors, an
endpoint's pages, queues), and whether it may store into memory, itself or by a transfer or a reset that follows from it. -/
def commandWrites : Instr → List (Nat × Nat) × Bool
  | .registerWrite _ _ _ _ | .beatBoundary _ _ _ _ | .dictWriteMulti _ | .imageLoad | .imageCommit | .slotConfirm _ _
    | .pmicEnRise | .powerOnReset _ | .aonOff | .resetChip _ | .resetPart _ | .romBoot _ _ | .configurationApply _ =>
      (everything, true)
  | .targetTimeout _ _ _ =>
      ([idsLATE, idsLATE_E, idsTOCSIN, idsSWITCH, idsEPORT, idsIOMMU, idsCSR, idsVE, idsVE_ETH, idsVE_CAN,
        idsVE_CRY, idsDENY], true)
  | .portOpen _ | .linkUp _ _ _ _ =>
      ([idsSWITCH, idsEPORT], false)
  | .fenceStuck _ | .frerReset _ | .falseWake | .wdgExpired _ | .wdgPreWarning _ | .bistCoverageLate _ _ | .ddrTrainingDone _
    | .railOutOfRange _ _ | .belfrySramEccUe =>
      ([idsTOCSIN], false)
  | .lateErrRd _ _ | .beatPub _ _ | .pwrCmdPub _ _ _ | .pwrLimPub _ _ _ | .timeStep _ _ | .linDataLoRead _ _ _
    | .carIcComplete _ _ _ _ | .imsicSeteipnum _ _ _ | .tocPend _ _ _ | .tocLogSel _ _ | .tocSwraise _ _ | .tocSwint _ _
    | .errnRelease _ _ | .wdgKick _ _ _ _ =>
      ([idsLATE, idsLATE_E, idsTOCSIN, idsDENY], false)
  | .fabricCarwin _ _ _ =>
      ([idsCARWIN, idsLATE, idsLATE_E, idsTOCSIN, idsDENY], false)
  | .spineCrcFail _ _ | .retrainTimeout _ | .hdieSupplyLoss _ | .spineHreset _ _ _ | .trainingTimeout | .heartbeatLoss
    | .irc100OutOfRange _ | .haltSafePowerDown _ =>
      ([idsLATE, idsSPINE, idsLATE_E, idsTOCSIN, idsKNELL, idsPWR, idsFEED, idsIOX, idsSENT, idsCAN, idsIOMMU,
        idsCSR, idsVE, idsDENY], true)
  | .retrainComplete =>
      ([idsSPINE, idsTOCSIN], false)
  | .hdieResetRelease =>
      ([idsSPINE], false)
  | .spineLinkUp =>
      ([idsLATE, idsSPINE, idsLATE_E, idsTOCSIN, idsKNELL, idsPWR, idsFEED, idsIOX, idsCAN, idsIOMMU, idsVE,
        idsDENY], true)
  | .knellHoldExpire =>
      ([idsSPINE, idsTOCSIN, idsKNELL, idsPWR, idsFEED, idsIOX], false)
  | .dictRead | .dictReadMulti | .subscribe | .usestDatagram | .usestCanSegment _ _ =>
      ([idsLATE, idsLATE_E, idsTOCSIN, idsSWITCH, idsEPORT, idsTIME, idsIOMMU, idsVE, idsVE_ETH, idsVE_CAN,
        idsVE_CRY, idsDENY, idsDICT], true)
  | .dictWrite _ =>
      (objBlocks, true)
  | .modeReq _ =>
      ([idsLATE, idsLATE_E, idsTOCSIN, idsTABLA, idsSWITCH, idsEPORT, idsTIME, idsIOMMU, idsVE, idsVE_ETH,
        idsVE_CAN, idsVE_CRY, idsDENY, idsDICT], true)
  | .usestSegmentTimeout _ =>
      ([idsDICT], false)
  | .beatEn _ _ =>
      ([idsLATE, idsLATE_E, idsTOCSIN, idsBEATCTL, idsDENY], false)
  | .strokeEnd _ _ | .strokeWait _ _ | .strokeRds _ _ | .strokeRdt _ _ | .strokeLdi _ _ | .strokeMov _ _ | .strokeClt _ _
    | .strokeCle _ _ | .strokeCeq _ _ | .strokeClti _ _ | .strokeCgei _ _ | .strokeCadd _ _ | .strokeCsub _ _ | .strokeCmul _ _
    | .strokeCmin _ _ | .strokeCmax _ _ | .strokeAdd _ _ | .strokeSub _ _ | .strokeAnd _ _ | .strokeOr _ _ | .strokeXor _ _
    | .strokeAddi _ _ | .strokeSubi _ _ | .strokeAndi _ _ | .strokeShr _ _ | .strokeShl _ _ | .strokeSkc _ _ | .strokeSkf _ _
    | .strokeWro _ _ | .strokeSreq _ _ | .tablaValidationDone _ =>
      ([idsTOCSIN, idsTABLA], false)
  | .strokeWroApply _ | .raiConversion _ _ _ _ _ _ | .ssupLimit _ _ _ | .ssupOverload _ _ _ _ | .ssupBackfeed _ _ _ _
    | .lsoOvercurrent _ _ _ | .lsoOvertemp _ _ _ | .lsoOpenLoad _ _ _ _ | .bridgeCurrentLimit _ _ _ _ _ | .bridgeShort _ _
    | .bridgeUv _ _ _ | .ssupLimitEnd _ _ _ | .ssupBackfeedEnd _ _ _ =>
      ([idsTOCSIN, idsIOX], false)
  | .strokeWrp _ _ | .strokePub _ _ =>
      ([idsLATE, idsLATE_E, idsTOCSIN, idsTABLA], false)
  | .strokeLreq _ _ =>
      ([idsTOCSIN, idsTABLA, idsLIN], false)
  | .tablaLdHi _ _ _ | .tablaArm _ _ _ =>
      ([idsLATE, idsLATE_E, idsTOCSIN, idsTABLA, idsDENY], false)
  | .tablaLibraryLoadDone _ =>
      ([idsTABLA], false)
  | .conversion _ _ | .shortTrip _ _ _ _ _ _ _ | .gateUv _ _ _ _ | .prechargeDone _ _ | .preTimeout _ _ _ _ | .fetFault _ _
    | .outHigh _ _ | .currentSenseFault _ _ | .fastPathShed _ _ | .feedSenseFault _ _ | .vbatOutOfRange _ _ | .vbatInRange _ _
    =>
      ([idsTOCSIN, idsPWR, idsFEED], false)
  | .mfiSample _ _ _ =>
      ([idsLATE, idsLATE_E, idsTOCSIN, idsIOX, idsIOMMU, idsVE, idsVE_IOG, idsDENY], true)
  | .ioxSsupCtrl _ _ _ | .ioxLsoDuty _ _ _ | .ioxBrCmd _ _ _ | .lsoOcClear _ _ _ | .bridgeClr _ _ _ =>
      ([idsLATE, idsLATE_E, idsTOCSIN, idsIOX, idsDENY], false)
  | .lsoOvertempRecover _ | .plcaBeacon _ | .streamGateEntrySwitch _ _ | .spflush _ _ _ | .hgatpWrite _ _ _ _ | .bwdgExpired
    | .oscDlyEnd | .aonUpDone | .pgoodRise | .tapReset =>
      ([], false)
  | .bridgeGapEnd _ | .bridgeUvRecover _ _ =>
      ([idsIOX], false)
  | .sentFrame _ _ _ | .sentTimeout _ _ =>
      ([idsTOCSIN, idsSENT], false)
  | .sentTrig _ _ _ =>
      ([idsLATE, idsLATE_E, idsTOCSIN, idsSENT, idsDENY], false)
  | .frameFirstCell _ _ _ _ | .cellSlot | .copyAged _ _ _ | .transmitSelection _ | .linkDown _ | .tc10SleepAck _
    | .tc10DrainTimeout _ | .epTest _ _ _ =>
      ([idsLATE, idsLATE_E, idsTOCSIN, idsSWITCH, idsEPORT, idsIOMMU, idsVE, idsVE_ETH, idsVE_CAN, idsVE_CRY,
        idsDENY], true)
  | .continuationCell _ _ | .frameEnd _ _ _ _ | .copyTransmitDone _ | .bufferEccError _ _ _ | .ethTxFrameFetch _ =>
      ([idsLATE, idsLATE_E, idsTOCSIN, idsSWITCH, idsEPORT, idsTIME, idsIOMMU, idsVE, idsVE_ETH, idsVE_CAN,
        idsVE_CRY, idsDENY], true)
  | .fdbAgeScan =>
      ([idsSWITCH], false)
  | .fdbLookup _ _ | .fdbInsertStatic _ _ | .fdbInsertDynamic _ _ | .fdbDelete _ _ | .fdbFlushFid _ _ | .fdbFlushPort _ _
    | .fdbReadIndex _ _ | .clrPeak _ _ =>
      ([idsLATE, idsLATE_E, idsTOCSIN, idsSWITCH, idsDENY], false)
  | .plcaLost _ =>
      ([idsTOCSIN, idsEPORT], false)
  | .gateEntrySwitch _ _ =>
      ([idsEPORT], false)
  | .gclChange _ _ _ | .cbsSlope _ _ _ _ | .saKey _ _ _ _ | .tc10SleepReq _ _ _ | .tc10WakeReq _ _ _ | .tableRead _ _ _
    | .tableWrite _ _ _ =>
      ([idsLATE, idsLATE_E, idsTOCSIN, idsEPORT, idsDENY], false)
  | .tc10WakeRx _ _ | .dozeEntry _ | .dozeExit | .pmGate _ _ _ _ | .wakeLine _ _ _ | .keepTrip _ _ | .gongMfiPoll _ _
    | .wakeTimer =>
      ([idsLATE, idsLATE_E, idsTOCSIN, idsPMODE, idsSWITCH, idsEPORT, idsIOMMU, idsCSR, idsVE, idsVE_ETH,
        idsVE_CAN, idsVE_CRY, idsDENY], true)
  | .timeInc _ _ =>
      ([idsLATE, idsLATE_E, idsTOCSIN, idsTIME, idsDENY], false)
  | .timeNowFrac _ =>
      ([idsTIME], false)
  | .timeLock _ _ | .timeUnlock _ _ | .timeKeep _ _ =>
      ([idsLATE, idsLATE_E, idsTOCSIN, idsBEATCTL, idsTIME, idsDENY], false)
  | .keepaliveTimeout =>
      ([idsTOCSIN, idsBEATCTL, idsTIME], false)
  | .handoverReq _ _ _ | .handoverGrant _ _ _ | .handoverRefuse _ _ _ =>
      ([idsLATE, idsLATE_E, idsTOCSIN, idsEPORT, idsTIME, idsDENY], false)
  | .handoverFrameRx _ _ _ _ =>
      ([idsTOCSIN, idsSWITCH, idsEPORT, idsTIME], false)
  | .handoverTimeout _ =>
      ([idsTOCSIN, idsTIME], false)
  | .canEnable _ _ _ | .canIntegrationDone _ | .canTxsub _ _ _ _ | .canTxSelection _ _ | .canArbitrationLost _ | .canTxEnd _
    | .canBusError _ _ _ | .canTxabort _ _ _ _ | .busoffRecover _ _ _ | .canRecoveryComplete _ | .canSlotCfg _ _ _ _ =>
      ([idsLATE, idsLATE_E, idsTOCSIN, idsCAN, idsIOMMU, idsVE, idsDENY], true)
  | .canFrameRx _ _ _ =>
      ([idsLATE, idsLATE_E, idsTOCSIN, idsSWITCH, idsEPORT, idsTIME, idsCAN, idsIOMMU, idsVE, idsVE_ETH, idsVE_CAN,
        idsVE_CRY, idsDENY, idsDICT], true)
  | .canRxai _ _ _ _ | .canCqai _ _ _ _ | .canTrxMode _ _ _ =>
      ([idsLATE, idsLATE_E, idsTOCSIN, idsCAN, idsDENY], false)
  | .canTrxWake _ _ | .pmReqRun _ _ | .pmReqDoze _ _ _ _ | .pmReqSleep _ _ _ _ | .pmReqDeepSleep _ _ _ _ | .graceEnd _
    | .wakeFrameDecode _ _ _ _ _ =>
      ([idsLATE, idsLATE_E, idsTOCSIN, idsPMODE, idsSWITCH, idsEPORT, idsCAN, idsIOMMU, idsCSR, idsVE, idsVE_ETH,
        idsVE_CAN, idsVE_CRY, idsDENY], true)
  | .trxConfirmTimeout _ =>
      ([idsTOCSIN, idsPMODE, idsCAN], false)
  | .canTxdTimeout _ =>
      ([idsTOCSIN, idsCAN], false)
  | .linEntryStart _ | .linFrameComplete _ _ _ | .linWakeRx _ | .linHeaderRx _ _ _ | .linResponseTimeout _ =>
      ([idsLATE, idsLATE_E, idsTOCSIN, idsLIN, idsIOMMU, idsVE, idsDENY], true)
  | .linSleepTx _ _ _ | .linWakeTx _ _ _ | .linDataHi _ _ _ _ =>
      ([idsLATE, idsLATE_E, idsTOCSIN, idsLIN, idsDENY], false)
  | .linWakeGapEnd _ =>
      ([idsLIN], false)
  | .linTxdTimeout _ =>
      ([idsTOCSIN, idsLIN], false)
  | .pmicEnDrop =>
      ([idsSPINE, idsTOCSIN, idsPMODE, idsBEATCTL, idsIOX, idsTIME], true)
  | .gongLrcCal _ | .wakeLockoutEnd =>
      ([idsPMODE], false)
  | .bootDone _ _ | .stay _ _ =>
      ([idsLATE, idsLATE_E, idsTOCSIN, idsPMODE, idsDENY], false)
  | .bootTimeout =>
      ([idsSPINE, idsTOCSIN, idsPMODE, idsBEATCTL, idsIOX, idsTIME, idsCAN], true)
  | .voteMismatch _ _ _ _ _ | .lbistComplete _ _ | .checkerLaneFault _ _ _ | .trioRelease _ =>
      ([idsTOCSIN, idsCARILLON], false)
  | .resyncCopyStart _ | .resyncComplete _ _ =>
      ([idsCARILLON], false)
  | .tcmEccError _ _ _ =>
      ([idsLATE, idsLATE_E, idsTOCSIN, idsCARILLON, idsCSR], false)
  | .carIcClaim _ _ _ =>
      ([idsLATE, idsLATE_E, idsTOCSIN, idsCARILLON, idsDENY], false)
  | .cacheEccError _ _ _ =>
      ([idsCSR], false)
  | .iommuWalk _ _ _ _ =>
      ([idsLATE, idsLATE_E, idsTOCSIN, idsIOMMU, idsDENY], true)
  | .iommuVxLogai _ _ =>
      ([idsLATE, idsLATE_E, idsTOCSIN, idsIOMMU, idsDENY], false)
  | .assign _ _ _ | .activate _ _ _ | .quiesce _ _ _ | .freeze _ _ _ | .thaw _ _ _ | .save _ _ _ | .restore _ _ _
    | .veReset _ _ _ | .unassign _ _ _ =>
      ([idsLATE, idsLATE_E, idsTOCSIN, idsCAN, idsIOMMU, idsVEMGR, idsVE, idsVE_ETH, idsVE_CAN, idsVE_LIN,
        idsVE_IOG, idsVE_PWG, idsVE_TMR, idsVE_CRY, idsDENY], true)
  | .quiesceDrainDone _ =>
      ([idsLATE, idsLATE_E, idsTOCSIN, idsIOMMU, idsVEMGR, idsVE, idsDENY], true)
  | .quiesceDrainLimit _ =>
      ([idsLATE, idsLATE_E, idsTOCSIN, idsSWITCH, idsEPORT, idsCAN, idsIOMMU, idsVEMGR, idsVE, idsVE_ETH,
        idsVE_CAN, idsVE_CRY, idsDENY], true)
  | .saveComplete _ =>
      ([idsTOCSIN, idsVEMGR, idsVE], true)
  | .restoreComplete _ | .veResetComplete _ =>
      ([idsLATE, idsLATE_E, idsTOCSIN, idsIOMMU, idsVEMGR, idsVE, idsVE_ETH, idsVE_CAN, idsVE_LIN, idsVE_IOG,
        idsVE_PWG, idsVE_TMR, idsVE_CRY, idsDENY], true)
  | .veRingIndexWrite _ _ _ _ =>
      ([idsLATE, idsLATE_E, idsTOCSIN, idsIOMMU, idsVEMGR, idsVE, idsVE_ETH, idsVE_CAN, idsVE_CRY, idsDENY,
        idsBCTL], true)
  | .vecUnmask _ _ _ _ =>
      ([idsLATE, idsLATE_E, idsTOCSIN, idsIOMMU, idsVE, idsDENY], true)
  | .ethRxFrame _ =>
      ([idsLATE, idsLATE_E, idsTOCSIN, idsSWITCH, idsIOMMU, idsVEMGR, idsVE, idsVE_ETH, idsVE_CAN, idsVE_CRY,
        idsDENY], true)
  | .pwgKick _ _ _ =>
      ([idsLATE, idsLATE_E, idsTOCSIN, idsVE, idsDENY], false)
  | .mailboxRing _ _ _ | .info _ | .rngGet _ | .keyInfo _ | .keyGenerate _ | .keyImport _ | .gcmSeal _ | .gcmOpen _ | .cmac _
    | .sha384 _ | .ecdsaSign _ | .ecdsaVerify _ | .kdf _ | .identSign _ | .debugClose _ | .rngHealthFail =>
      ([idsLATE, idsLATE_E, idsTOCSIN, idsIOMMU, idsVE, idsVE_ETH, idsVE_CAN, idsVE_CRY, idsDENY, idsBCTL], true)
  | .keyDestroy _ =>
      ([idsLATE, idsLATE_E, idsTOCSIN, idsEPORT, idsIOMMU, idsVE, idsVE_ETH, idsVE_CAN, idsVE_CRY, idsDENY,
        idsBCTL], true)
  | .authSubmit _ =>
      ([idsLATE, idsLATE_E, idsTOCSIN, idsKNELL, idsPWR, idsFEED, idsIOX, idsIOMMU, idsVE, idsVE_ETH, idsVE_CAN,
        idsVE_CRY, idsBSEC, idsDENY, idsBCTL], true)
  | .lcAdvance _ =>
      ([idsLATE, idsLATE_E, idsTOCSIN, idsIOMMU, idsVE, idsVE_ETH, idsVE_CAN, idsVE_CRY, idsBSEC, idsDENY,
        idsBCTL], true)
  | .rngStartupDone | .scanClearDone _ =>
      ([idsBCTL], false)
  | .bwdgKick _ _ | .bdbgClose _ _ =>
      ([idsLATE, idsLATE_E, idsTOCSIN, idsDENY, idsBCTL], false)
  | .bdbgSubmit _ _ | .bundleChunk _ _ =>
      ([idsLATE, idsLATE_E, idsTOCSIN, idsKNELL, idsPWR, idsFEED, idsIOX, idsBSEC, idsDENY, idsBCTL], false)
  | .knellRequest _ _ | .knellRailFault _ | .ksupLoss | .hoscStop =>
      ([idsTOCSIN, idsKNELL, idsPWR, idsFEED, idsIOX], false)
  | .bistSlice _ _ _ _ =>
      ([idsTOCSIN, idsBIST, idsPWR, idsFEED, idsIOX, idsCARILLON], false)
  | .prbsGo _ _ _ | .prbsStop _ _ _ _ =>
      ([idsLATE, idsSPINE, idsLATE_E, idsTOCSIN, idsKNELL, idsBIST, idsPWR, idsFEED, idsIOX, idsSENT, idsSWITCH,
        idsEPORT, idsCAN, idsIOMMU, idsCSR, idsVE, idsVE_ETH, idsVE_CAN, idsVE_CRY, idsDENY], true)
  | .prbsDurationEnd _ _ =>
      ([idsLATE, idsSPINE, idsLATE_E, idsTOCSIN, idsKNELL, idsBIST, idsPWR, idsFEED, idsIOX, idsSWITCH, idsEPORT,
        idsCAN, idsIOMMU, idsVE, idsDENY], true)
  | .clkinQualified _ | .clkinOk =>
      ([idsCLK], false)
  | .monitorWindow _ | .forcedSwitch _ | .domainSwitchDone _ _ =>
      ([idsTOCSIN, idsCLK], false)
  | .clkinFail =>
      ([idsLATE, idsLATE_E, idsTOCSIN, idsCLK, idsBEATCTL, idsSWITCH, idsEPORT, idsTIME, idsIOMMU, idsVE,
        idsVE_ETH, idsVE_CAN, idsVE_CRY, idsDENY], true)
  | .clkRestore _ _ =>
      ([idsLATE, idsLATE_E, idsTOCSIN, idsCLK, idsTIME, idsDENY], false)
  | .pllLock _ _ =>
      ([idsLATE, idsLATE_E, idsTOCSIN, idsCLK, idsCSR], false)
  | .pllDead _ _ =>
      ([idsLATE, idsSPINE, idsLATE_E, idsTOCSIN, idsKNELL, idsCLK, idsBEATCTL, idsPWR, idsFEED, idsIOX, idsSENT,
        idsSWITCH, idsEPORT, idsTIME, idsCAN, idsIOMMU, idsCSR, idsVE, idsVE_ETH, idsVE_CAN, idsVE_CRY, idsDENY], true)
  | .clkDomDiv _ _ _ =>
      ([idsLATE, idsLATE_E, idsTOCSIN, idsCLK, idsDENY], false)
  | .resetRelease _ _ =>
      ([idsCLK, idsPWR, idsFEED, idsIOX, idsCARILLON], false)
  | .supplyReset _ =>
      ([idsLATE, idsSPINE, idsLATE_E, idsTOCSIN, idsKNELL, idsPMODE, idsPWR, idsFEED, idsIOX, idsSENT, idsCAN,
        idsIOMMU, idsCSR, idsVE, idsDENY], true)
  | .aClusterRelease _ =>
      ([idsTOCSIN, idsCSR], false)
  | .tempThreshold _ _ | .tempSensorFault _ _ =>
      ([idsTOCSIN, idsPWR, idsFEED, idsCAN], false)
  | .pllLossOfLock _ =>
      ([idsTOCSIN, idsCLK, idsBEATCTL, idsTIME], false)
  | .prbsLock | .prbsLockLoss _ _ =>
      ([idsBIST], false)
  | .ssramEccError _ _ _ | .dramEccError _ _ _ =>
      ([idsLATE, idsLATE_E, idsTOCSIN, idsCSR], false)
  | .rngStartupFail =>
      ([idsTOCSIN, idsBCTL], false)
  | .senseFaultEnd _ =>
      ([idsPWR, idsFEED], false)

end Sys2Proof.Machine
end

