-- ==== Sys2Proof/Certificates/Slice0/Obligations.lean ====
section
/-!
DEFINITION. The statements for the provers: what the commands do, family by family, in the words of the rules they rest on.
Each says that its commands complete, with the next state they give, for every state and operands of their hypotheses.
-/

open Sys2Proof Sys2Proof.Machine

/-! ### The step -/

/-- A step with a command in front of the queue runs that command on the queue's rest. (The queue is the model's own: log 1.) -/
def Obligations.StepRunsFront : Prop :=
  ∀ (c : Instr) (rest : List Instr) (s : Machine.State),
    Machine.step { s with pending := c :: rest } = Machine.exec c { s with pending := rest }

/-! ### Chapter 1: the fabric -/

/-- Fences (R25, R26). PORT_OPEN opens a fenced port none of whose causes is in force; no other port, no memory and no register
but those of the switch and its ports changes, and nothing else at all where no endpoint's port comes up with it; where a
cause is in force or the port is open it changes nothing. FENCE_STUCK raises FS106 once for a fence and leaves the port
fenced. TARGET_TIMEOUT of a request outstanding at an open port raises FS97 with CODE TIMEOUT, the request's initiator, its
port and its address; at a port that is fenced, or of a request to another port, it changes nothing.
Registers of the fabric (R29, R33). An admitted write of LATE_ERR_RD that releases entries software owns moves RD_IDX there
and clears FULL; one that names more than it owns, or none, with OVF_CLR = 0, changes nothing. An admitted write of
FABRIC_CARWINn by trio n while LOCK = 0 sets WIN_IDX and LOCK and no other register; while LOCK = 1 it changes nothing. -/
def Obligations.FabricCommandsComplete : Prop :=
  ((∀ (s : State) (port : Nat), fenced s port = true → (portSt s port).causes = [] →
    Runs (.portOpen port) s fun t => fenced t port = false ∧ sameMem s t ∧
      keepsOutside [idsSWITCH, idsEPORT] s t ∧ (∀ q, portCanon q ≠ portCanon port → portSt t q = portSt s q) ∧
      ((∀ q ∈ [20, 21, 22, 23], portUp (s.openPort port) q = portUp s q) → t = { s with fab := t.fab })) ∧
  (∀ (s : State) (port : Nat), fenced s port = false ∨ (portSt s port).causes ≠ [] → exec (.portOpen port) s = .next s) ∧
  (∀ (s : State) (port : Nat), fenced s port = true → (portSt s port).stuck = false →
    Runs (.fenceStuck port) s fun t => fenced t port = true ∧ (portSt t port).stuck = true ∧ tocPending t 106 = true) ∧
  (∀ (s : State) (port : Nat), fenced s port = false ∨ (portSt s port).stuck = true → exec (.fenceStuck port) s = .next s) ∧
  (∀ (s : State) (port : Nat) (req : Req) (others : List Req), reqsAt port [req] ≠ [] → fenced s port = false →
    Runs (.targetTimeout port req others) s fun t => tocPending t 97 = true ∧
      (lastRecord t 97).map (fun r => (r.w0, r.w1, r.w3)) =
        some ((2 ^ 31 + (respTimeout * 2 ^ 28 + req.init * 2 ^ 16 + port)) % 2 ^ 32, req.addr % 2 ^ 32, req.addr / 2 ^ 32 % 256)) ∧
  (∀ (s : State) (port : Nat) (req : Req) (others : List Req), reqsAt port [req] = [] ∨ fenced s port = true →
    exec (.targetTimeout port req others) s = .next s)) ∧
  ((∀ (s : State) (init : Init) (v : Word), Admitted init (R.LATE_ERR_RD.addr 0) s → 0 < lateReleased s (bitsOf v.toNat 5 0) →
    lateReleased s (bitsOf v.toNat 5 0) ≤ lateOwned s →
    Runs (.lateErrRd init v) s fun t => t.get F.LATE_ERR_RD_RD_IDX 0 = bitsOf v.toNat 5 0 ∧ t.get F.LATE_ERR_WR_FULL 0 = 0) ∧
  (∀ (s : State) (init : Init) (v : Word), Admitted init (R.LATE_ERR_RD.addr 0) s → bitOf v.toNat 31 = false →
    lateReleased s (bitsOf v.toNat 5 0) = 0 ∨ lateOwned s < lateReleased s (bitsOf v.toNat 5 0) →
    exec (.lateErrRd init v) s = .next s) ∧
  (∀ (s : State) (n : Fin 2) (v : Word), Admitted (0x10 + n) (R.FABRIC_CARWIN.addr n) s → s.flag F.FABRIC_CARWIN_LOCK n = false →
    Runs (.fabricCarwin n (0x10 + n) v) s fun t => t.get F.FABRIC_CARWIN_WIN_IDX n = bitsOf v.toNat 5 0 ∧
      t.get F.FABRIC_CARWIN_LOCK n = bitsOf v.toNat 31 31 ∧ sameWordsBut [(R.FABRIC_CARWIN.id, n.val)] s t) ∧
  (∀ (s : State) (n : Fin 2) (v : Word), Admitted (0x10 + n) (R.FABRIC_CARWIN.addr n) s → s.flag F.FABRIC_CARWIN_LOCK n = true →
    exec (.fabricCarwin n (0x10 + n) v) s = .next s))

/-- Spine link (R35 to R37). In UP a failed flit is replayed and counted; the fourth failure in a row starts a retrain
(RETRAINING, counted). A retrain that completes returns to UP and replays the flit; the first and the second failed retrain in
a row start a further one, the third leaves the link DOWN. HDIE_SUPPLY_LOSS and an admitted write of SPINE_CTRL.HRESET = 1
reset the H-die; its release starts TRAINING. In another state of the link a failed flit, the end of a retrain, of a training
or of a reset changes nothing. A training that times out returns to DOWN with FS101. Training that completes counts in
LINKUP_CNT. The hold timer's expiry ends the hold and clears HOLDING; where no hold runs it changes nothing. -/
def Obligations.SpineEventsComplete : Prop :=
  (∀ (s : State) (out : List Req), s.get F.SPINE_STAT_STATE 0 = 2 → s.fab.crcFails < 3 →
    Runs (.spineCrcFail false out) s fun t => t.get F.SPINE_STAT_STATE 0 = 2 ∧ t.fab.crcFails = s.fab.crcFails + 1 ∧
      t.get F.SPINE_ERR_REPLAY_CNT 0 = satInc (s.get F.SPINE_ERR_REPLAY_CNT 0) F.SPINE_ERR_REPLAY_CNT.top) ∧
  (∀ (s : State) (out : List Req), s.get F.SPINE_STAT_STATE 0 = 2 → 3 ≤ s.fab.crcFails → s.fab.goodSince = true →
    Runs (.spineCrcFail false out) s fun t => t.get F.SPINE_STAT_STATE 0 = 3 ∧ t.fab.crcFails = 0 ∧ tocPending t 100 = true ∧
      t.get F.SPINE_ERR_RETRAIN_CNT 0 = satInc (s.get F.SPINE_ERR_RETRAIN_CNT 0) F.SPINE_ERR_RETRAIN_CNT.top) ∧
  (∀ (s : State) (out : List Req), s.get F.SPINE_STAT_STATE 0 = 2 →
    Runs (.spineCrcFail true out) s fun t => t.get F.SPINE_STAT_STATE 0 = 2 ∧ t.fab.crcFails = 1) ∧
  (∀ s : State, s.get F.SPINE_STAT_STATE 0 = 3 →
    Runs .retrainComplete s fun t => t.get F.SPINE_STAT_STATE 0 = 2 ∧
      t.get F.SPINE_ERR_REPLAY_CNT 0 = satInc (s.get F.SPINE_ERR_REPLAY_CNT 0) F.SPINE_ERR_REPLAY_CNT.top) ∧
  (∀ (s : State) (out : List Req), s.get F.SPINE_STAT_STATE 0 = 3 → s.fab.retrainFails < 2 →
    Runs (.retrainTimeout out) s fun t => t.get F.SPINE_STAT_STATE 0 = 3 ∧ t.fab.retrainFails = s.fab.retrainFails + 1 ∧
      t.get F.SPINE_ERR_RETRAIN_CNT 0 = satInc (s.get F.SPINE_ERR_RETRAIN_CNT 0) F.SPINE_ERR_RETRAIN_CNT.top) ∧
  (∀ (s : State) (out : List Req), s.get F.SPINE_STAT_STATE 0 = 3 → 2 ≤ s.fab.retrainFails →
    Runs (.retrainTimeout out) s fun t => t.get F.SPINE_STAT_STATE 0 = 0) ∧
  (∀ (s : State) (out : List Req), Runs (.hdieSupplyLoss out) s fun t => t.fab.hdieReset = true ∧ t.fab.released = false) ∧
  (∀ (s : State) (init : Init) (v : Word) (out : List Req), Admitted init (R.SPINE_CTRL.addr 0) s → bitOf v.toNat 31 = true →
    Runs (.spineHreset init v out) s fun t => t.fab.hdieReset = true ∧ t.fab.released = false) ∧
  (∀ s : State, s.fab.hdieReset = true → s.fab.released = false →
    Runs .hdieResetRelease s fun t => t.get F.SPINE_STAT_STATE 0 = 1 ∧ t.fab.released = true ∧ t.kn.hosc = true ∧
      sameWordsBut [(R.SPINE_STAT.id, 0)] s t) ∧
  (∀ s : State, s.get F.SPINE_STAT_STATE 0 = 1 →
    Runs .trainingTimeout s fun t => t.get F.SPINE_STAT_STATE 0 = 0 ∧ tocPending t 101 = true) ∧
  (∀ s : State, s.get F.SPINE_STAT_STATE 0 = 1 → s.get F.CLK_DOM_SRC 15 ≠ 2 → s.bist.prbs = none →
    Runs .spineLinkUp s fun t => t.get F.SPINE_STAT_STATE 0 = 2 ∧ t.get F.SPINE_STAT_HOLDING 0 = 0 ∧
      t.get F.SPINE_STAT_LINKUP_CNT 0 = satInc (s.get F.SPINE_STAT_LINKUP_CNT 0) F.SPINE_STAT_LINKUP_CNT.top) ∧
  (∀ s : State, s.fab.holding = true → s.kn.hosc = true →
    Runs .knellHoldExpire s fun t => t.get F.SPINE_STAT_HOLDING 0 = 0 ∧ t.fab.holding = false) ∧
  (∀ s : State, s.fab.holding = false → exec .knellHoldExpire s = .next s) ∧
  (∀ (s : State) (fresh : Bool) (out : List Req), s.get F.SPINE_STAT_STATE 0 ≠ 2 → exec (.spineCrcFail fresh out) s = .next s) ∧
  (∀ (s : State) (out : List Req), s.get F.SPINE_STAT_STATE 0 ≠ 3 →
    exec .retrainComplete s = .next s ∧ exec (.retrainTimeout out) s = .next s) ∧
  (∀ s : State, s.get F.SPINE_STAT_STATE 0 ≠ 1 → exec .trainingTimeout s = .next s ∧ exec .spineLinkUp s = .next s) ∧
  (∀ s : State, s.fab.hdieReset = false ∨ s.fab.released = true → exec .hdieResetRelease s = .next s)

/-- Publications (R56 to R59, R139). An admitted publication by the slot's producer (0x7FF is none), not a Tabla engine, makes V
the slot's pending value and changes nothing but that slot: BEAT_PUB at the slot that its bits [31:16] name, PWR_CMD_PUBc at
slot 0x100 + c and PWR_LIM_PUBc at slot 0x180 + c. -/
def Obligations.PublicationsComplete : Prop :=
  (∀ (s : State) (init : Init) (v : Word), Admitted init (R.BEAT_PUB.addr 0) s → bitsOf v.toNat 15 10 = 0 →
    slotProducer s (bitsOf v.toNat 31 16) = some init → init ≠ noProducer → ¬ (0x20 ≤ init ∧ init < 0x30) →
    Runs (.beatPub init v) s fun t => (slotSt t (bitsOf v.toNat 31 16)).pendV = some (bitsOf v.toNat 9 0) ∧
      t = { s with twin := t.twin } ∧ ∀ n, n ≠ bitsOf v.toNat 31 16 → slotSt t n = slotSt s n) ∧
  (∀ (s : State) (ch : Fin 72) (init : Init) (v : Word), Admitted init (R.PWR_CMD_PUB.addr ch) s →
    s.get F.PWR_CH_PROD_CMD_PROD ch = init → init ≠ noProducer → ¬ (0x20 ≤ init ∧ init < 0x30) →
    Runs (.pwrCmdPub ch init v) s fun t => (slotSt t (0x100 + ch)).pendV = some (bitsOf v.toNat 9 0) ∧
      t = { s with twin := t.twin } ∧ ∀ n, n ≠ 0x100 + ch.val → slotSt t n = slotSt s n) ∧
  (∀ (s : State) (ch : Fin 72) (init : Init) (v : Word), Admitted init (R.PWR_LIM_PUB.addr ch) s →
    s.get F.PWR_CH_PROD_LIM_PROD ch = init → init ≠ noProducer → ¬ (0x20 ≤ init ∧ init < 0x30) →
    Runs (.pwrLimPub ch init v) s fun t => (slotSt t (0x180 + ch)).pendV = some (bitsOf v.toNat 9 0) ∧
      t = { s with twin := t.twin } ∧ ∀ n, n ≠ 0x180 + ch.val → slotSt t n = slotSt s n)

/-! ### Chapter 3: the dictionary -/

/-- A dictionary command serves the oldest accepted request only where it asks for the command's service and the engine runs (R75,
Table 3-10); otherwise nothing changes, and an empty queue changes nothing. -/
def Obligations.DictionaryServesItsService : Prop :=
  ∀ (s : State) (late : Bool),
    (s.dict.queue = [] ∨ dictRuns s = false → ∀ c ∈ [Instr.dictRead, .dictWrite late, .dictReadMulti, .dictWriteMulti late, .modeReq late,
      .subscribe, .imageLoad, .imageCommit], exec c s = .next s) ∧
    ∀ r l, s.dict.queue = r :: l →
      (r.svc ≠ svRead → exec .dictRead s = .next s) ∧ (r.svc ≠ svWrite → exec (.dictWrite late) s = .next s) ∧
      (r.svc ≠ svReadMulti → exec .dictReadMulti s = .next s) ∧ (r.svc ≠ svWriteMulti → exec (.dictWriteMulti late) s = .next s) ∧
      (r.svc ≠ svModeReq → exec (.modeReq late) s = .next s) ∧ (r.svc ≠ svSubscribe → exec .subscribe s = .next s) ∧
      (r.svc ≠ svImageLoad ∨ loadCommit r = true → exec .imageLoad s = .next s) ∧
      (r.svc ≠ svImageLoad ∨ loadCommit r = false → exec .imageCommit s = .next s)

/-- Reads (R74, R77, R81, R101). A READ of the front request is answered with the failing status of R74 and no data, or with OKAY
and the value's octets; READ_MULTI with BAD_LENGTH where its payload is not at most 64 objects of three octets, with TOO_LONG
where the records exceed 1,024 octets, else with OKAY and the records. An answer shows in the request's window, or leaves for
the datagram's sender as one message, sealed under the request's session, through port 23.
Writes (R74, R77, R81). A WRITE that fails a check answers its window with the failing status and no data; one that passes is
accepted, at once or, of a NEXT_BEAT object, staged in place of an earlier one of the same boundary (stated where no request
from the network is open, to which a reply would leave). WRITE_MULTI answers BAD_LENGTH where its records do not add up; a
single good record of a NEXT_BEAT object is staged. -/
def Obligations.DictionaryDataComplete : Prop :=
  ((∀ (s u : State) (r : DReq) (w : Nat) (b : Bool) (st : Nat), Serves s r u → r.svc = svRead → r.src = .win w b →
    judgeObj u (reqWho u r) r.obj false = (st, none) → Runs .dictRead s fun t => winAnswer t w st 0) ∧
  (∀ (s u : State) (r : DReq) (w : Nat) (b : Bool) (st : Nat) (o : ObjDef) (i : Nat), Serves s r u → r.svc = svRead → r.src = .win w b →
    judgeObj u (reqWho u r) r.obj false = (st, some (o, i)) →
    Runs .dictRead s fun t => winAnswer t w dOkay ((valOctets r.net o (o.read u i)).length % 2048)) ∧
  (∀ (s u : State) (r : DReq) (a p st : Nat) (path : List Nat), Serves s r u → r.svc = svRead → r.src = .udp a p path →
    judgeObj u (reqWho u r) r.obj false = (st, none) →
    Runs .dictRead s fun t => ∃ l, t.out = s.out ++ l ++ [.usest a p (usestSeal u r.sess 1 r.seq
      (usestHeader (128 + svRead) r.sess r.seq r.obj st 0 (replyParam r.param u).1) [])]) ∧
  (∀ (s u : State) (r : DReq) (w : Nat) (b : Bool), Serves s r u → r.svc = svReadMulti → r.src = .win w b →
    r.data.length % 3 ≠ 0 ∨ 192 < r.data.length → Runs .dictReadMulti s fun t => winAnswer t w dBadLength 0) ∧
  (∀ (s u : State) (r : DReq) (w : Nat) (b : Bool), Serves s r u → r.svc = svReadMulti → r.src = .win w b →
    r.data.length % 3 = 0 → r.data.length ≤ 192 → (readOut r u).length ≤ 1024 →
    Runs .dictReadMulti s fun t => winAnswer t w dOkay (readOut r u).length) ∧
  (∀ (s u : State) (r : DReq) (w : Nat) (b : Bool), Serves s r u → r.svc = svReadMulti → r.src = .win w b →
    r.data.length % 3 = 0 → r.data.length ≤ 192 → 1024 < (readOut r u).length →
    Runs .dictReadMulti s fun t => winAnswer t w dTooLong 0) ∧
  (∀ (s u : State) (r : DReq) (st : Nat), Serves s r u → r.svc = svRead → judgeObj u (reqWho u r) r.obj false = (st, none) →
    exec .dictRead s = .next (dictReply r st [] u)) ∧
  (∀ (s u : State) (r : DReq) (st : Nat) (o : ObjDef) (i : Nat), Serves s r u → r.svc = svRead →
    judgeObj u (reqWho u r) r.obj false = (st, some (o, i)) →
    exec .dictRead s = .next (dictReply r dOkay (valOctets r.net o (o.read u i)) u)) ∧
  (∀ (s u : State) (r : DReq), Serves s r u → r.svc = svReadMulti → r.data.length % 3 = 0 → r.data.length ≤ 192 →
    (readOut r u).length ≤ 1024 → exec .dictReadMulti s = .next (dictReply r dOkay (readOut r u) u))) ∧
  ((∀ (s u : State) (r : DReq) (w : Nat) (b late : Bool) (st : Nat), Serves s r u → r.svc = svWrite → r.src = .win w b →
    judgeWrite u (reqWho u r) r.net r.obj r.data (b2n late) 0 = (st, none) → Runs (.dictWrite late) s fun t => winAnswer t w st 0) ∧
  (∀ (s u : State) (r : DReq) (late : Bool) (st : Nat) (o : ObjDef) (i v : Nat), Serves s r u → r.svc = svWrite →
    judgeWrite u (reqWho u r) r.net r.obj r.data (b2n late) 0 = (st, some (o, i, v)) → o.stages = true →
    (∀ y ∈ s.dict.open_, ∃ w b, y.req.src = .win w b) →
    Runs (.dictWrite late) s fun t => t.dict.staged =
      s.dict.staged.filter (fun x => !(x.obj == r.obj && x.skip == b2n late)) ++ [⟨r.obj, v, b2n late, s.dict.nextId, 0⟩]) ∧
  (∀ (s u : State) (r : DReq) (w : Nat) (b late : Bool), Serves s r u → r.svc = svWriteMulti → r.src = .win w b →
    multiRecs r.net r.data.length r.data = none → Runs (.dictWriteMulti late) s fun t => winAnswer t w dBadLength 0) ∧
  (∀ (s u : State) (r : DReq) (late : Bool) (n : Nat) (d : List Nat) (o : ObjDef) (i v : Nat), Serves s r u → r.svc = svWriteMulti →
    multiRecs r.net r.data.length r.data = some [(n, d)] →
    judgeWrite u (reqWho u r) r.net n d (b2n late) 0 = (dOkay, some (o, i, v)) → o.stages = true →
    (∀ y ∈ s.dict.open_, ∃ w b, y.req.src = .win w b) →
    Runs (.dictWriteMulti late) s fun t => t.dict.staged =
      s.dict.staged.filter (fun x => !(x.obj == n && x.skip == b2n late)) ++ [⟨n, v, b2n late, s.dict.nextId, 0⟩]) ∧
  (∀ (s u : State) (r : DReq) (late : Bool) (st : Nat) (o : ObjDef) (i v : Nat), Serves s r u → r.svc = svWrite →
    judgeWrite u (reqWho u r) r.net r.obj r.data (b2n late) 0 = (st, some (o, i, v)) →
    exec (.dictWrite late) s = .next (acceptWrites r (b2n late) [(r.obj, o, i, v)] u)))

/-- Modes and subscriptions (R88, R95, R96). An admissible MODE_REQ makes the mode pending, for the next boundary or, where it
came late, for the one after, and shows PENDING and PEND_MODE; while one is pending a request for another mode than LIMP
answers MODE_BUSY; a request for the mode in force answers OKAY; one that Table 3-8 refuses answers its status. SUBSCRIBE with
a period of at least the least one admits a subscription where fewer than 64 others stand, with period 0 ends it, and answers
OKAY; else it answers the failing status, OUT_OF_RANGE or BUSY and no subscription changes. -/
def Obligations.DictionaryModesComplete : Prop :=
  (∀ (s u : State) (r : DReq) (late : Bool), Serves s r u → r.svc = svModeReq →
    ¬ ((reqWho u r).role = roService ∧ r.param ≠ moService ∧ modeNow u ≠ moService) → (reqWho u r).role ≠ roPartition →
    r.param ≤ 15 → s.dict.pend = none → r.param ≠ modeNow u → modeJudge u (reqWho u r).role r.param = dOkay →
    Runs (.modeReq late) s fun t => t.get F.DICT_MODE_PENDING 0 = 1 ∧ t.get F.DICT_MODE_PEND_MODE 0 = r.param ∧
      t.dict.pend = some (r.param, b2n late, s.dict.nextId)) ∧
  (∀ (s u : State) (r : DReq) (late : Bool) (w : Nat) (b : Bool), Serves s r u → r.svc = svModeReq → r.src = .win w b →
    ¬ ((reqWho u r).role = roService ∧ r.param ≠ moService ∧ modeNow u ≠ moService) → (reqWho u r).role ≠ roPartition →
    r.param ≤ 15 → s.dict.pend ≠ none → r.param ≠ moLimp → Runs (.modeReq late) s fun t => winAnswer t w dModeBusy 0) ∧
  (∀ (s u : State) (r : DReq) (st : Nat) (x : ObjDef × Nat), Serves s r u → r.svc = svSubscribe →
    judgeObj u (reqWho u r) r.obj false = (st, some x) → r.param ≠ 0 → tget 4 s.dict.vals 0x010020 ≤ r.param →
    (s.dict.subs.filter (fun y => !(y.sess == r.sess && y.obj == r.obj))).length < 64 →
    exec .subscribe s = .next (dictReply r dOkay [] { u with dict := { u.dict with
      subs := s.dict.subs.filter (fun y => !(y.sess == r.sess && y.obj == r.obj)) ++ [⟨r.src, r.sess, r.obj, r.param, 1⟩] } })) ∧
  (∀ (s u : State) (r : DReq) (st : Nat) (x : ObjDef × Nat), Serves s r u → r.svc = svSubscribe →
    judgeObj u (reqWho u r) r.obj false = (st, some x) → r.param = 0 →
    exec .subscribe s = .next (dictReply r dOkay [] { u with dict := { u.dict with
      subs := s.dict.subs.filter (fun y => !(y.sess == r.sess && y.obj == r.obj)) } })) ∧
  (∀ (s u : State) (r : DReq) (late : Bool) (w : Nat) (b : Bool), Serves s r u → r.svc = svModeReq → r.src = .win w b →
    ¬ ((reqWho u r).role = roService ∧ r.param ≠ moService ∧ modeNow u ≠ moService) → (reqWho u r).role ≠ roPartition →
    r.param ≤ 15 → s.dict.pend = none → r.param = modeNow u → Runs (.modeReq late) s fun t => winAnswer t w dOkay 0) ∧
  (∀ (s u : State) (r : DReq) (late : Bool) (w : Nat) (b : Bool), Serves s r u → r.svc = svModeReq → r.src = .win w b →
    ¬ ((reqWho u r).role = roService ∧ r.param ≠ moService ∧ modeNow u ≠ moService) → (reqWho u r).role ≠ roPartition →
    r.param ≤ 15 → s.dict.pend = none → r.param ≠ modeNow u → modeJudge u (reqWho u r).role r.param ≠ dOkay →
    Runs (.modeReq late) s fun t => winAnswer t w (modeJudge u (reqWho u r).role r.param) 0) ∧
  (∀ (s u : State) (r : DReq) (w : Nat) (b : Bool) (st : Nat), Serves s r u → r.svc = svSubscribe → r.src = .win w b →
    judgeObj u (reqWho u r) r.obj false = (st, none) →
    Runs .subscribe s fun t => winAnswer t w st 0 ∧ t.dict.subs = s.dict.subs) ∧
  (∀ (s u : State) (r : DReq) (w : Nat) (b : Bool) (st : Nat) (x : ObjDef × Nat), Serves s r u → r.svc = svSubscribe →
    r.src = .win w b → judgeObj u (reqWho u r) r.obj false = (st, some x) → r.param ≠ 0 → r.param < tget 4 s.dict.vals 0x010020 →
    Runs .subscribe s fun t => winAnswer t w dOutOfRange 0 ∧ t.dict.subs = s.dict.subs)

/-- Images and slots (R92, R93). A chunk that IMAGE_LOAD accepts is the next of its load, and the request is answered OKAY; one
that it does not accept answers the failing status. COMMIT of a base image ends the load and leaves its slot PENDING, answered
OKAY, where the image verifies, and BAD, answered the failing status, where it does not. An admitted write of
DICT_SLOT.CONFIRM by a manager makes an active TRIAL slot CONFIRMED.
Usest (R78, R79, R87). USEST_DATAGRAM takes the oldest frame that the dictionary's port holds; one that failed its FCS leaves
nothing else behind, and a datagram of R78 whose session admits it and whose header is good joins the engine's queue. An Usest
segment of 64 octets that the engine's CAN controller hears, with FD, is joined, where it is the expected one and not the
last, to its peer's partial message; one that the controller does not hear changes nothing. A segment timeout discards a
partial message and counts it in DROP; without one it changes nothing. -/
def Obligations.ImagesAndUsestComplete : Prop :=
  ((∀ (s u : State) (r : DReq), Serves s r u → r.svc = svImageLoad → loadCommit r = false → (loadChunk r u).1 = dOkay →
    exec .imageLoad s = .next (dictReply r dOkay [] (loadChunk r u).2) ∧
      ∃ slot, (loadChunk r u).2.dict.load = some ⟨loadKind r, loadNum r, slot, r.param + 1⟩) ∧
  (∀ (s u : State) (r : DReq) (l : DLoad) (b : ImgOk), Serves s r u → r.svc = svImageLoad → loadCommit r = true → loadKind r = 0 →
    (loadChunk r u).1 = dOkay → (loadChunk r u).2.dict.load = some l → baseCheck (loadDrop (loadChunk r u).2) l.slot = .ok b →
    ∃ v, exec .imageCommit s = .next (dictReply r dOkay [] v) ∧ v.dict.load = none ∧ cfgState v l.slot = slPending) ∧
  (∀ (s : State) (init : Init) (v : Word), Admitted init (R.DICT_SLOT.addr 0) s → v.getLsbD 31 = true →
    s.flag F.BSEC_PARTCFG_MANAGER (partOf s init) = true → cfgState s (activeSlot s) = slTrial →
    Runs (.slotConfirm init v) s fun t => cfgState t (activeSlot s) = slConfirmed) ∧
  (∀ (s u : State) (r : DReq) (l : DLoad) (e : Nat × Nat), Serves s r u → r.svc = svImageLoad → loadCommit r = true → loadKind r = 0 →
    (loadChunk r u).1 = dOkay → (loadChunk r u).2.dict.load = some l → baseCheck (loadDrop (loadChunk r u).2) l.slot = .error e →
    ∃ v, exec .imageCommit s = .next (commitFail r 0 (loadNum r) e v) ∧ v.dict.load = none ∧ cfgState v l.slot = slBad) ∧
  (∀ (s u : State) (r : DReq), Serves s r u → r.svc = svImageLoad → (loadChunk r u).1 ≠ dOkay →
    (loadCommit r = false → exec .imageLoad s = .next (dictReply r (loadChunk r u).1 [] (loadChunk r u).2)) ∧
    (loadCommit r = true → exec .imageCommit s = .next (dictReply r (loadChunk r u).1 [] (loadChunk r u).2)))) ∧
  ((∀ (s u : State) (x : SwRx), dictRuns s = true → rxTake 23 s = some (x, u) → x.fcsErr = true →
    exec .usestDatagram s = .next u ∧ tget [] s.sw.rxq 23 = x :: tget [] u.sw.rxq 23) ∧
  (∀ (s : State) (k : Fin 16) (seg : Nat) (body : List Nat), dictRuns s = true → tget 1 s.dict.vals 0x010011 ≠ 0 →
    canHears s (tget 15 s.dict.vals 0x010012) = true → s.flag F.CAN_CTRL_FD_EN (tget 15 s.dict.vals 0x010012) = true →
    seg % 128 ≠ 0 → seg % 128 = (partOf' s k).1 → bitOf seg 7 = false →
    Runs (.usestCanSegment k (seg :: body)) s fun t => partOf' t k = (seg % 128 + 1, (partOf' s k).2 ++ body.take 63) ∧
      t = { s with dict := t.dict }) ∧
  (∀ (s : State) (k : Fin 16), dictRuns s = true → (partOf' s k).1 ≠ 0 →
    Runs (.usestSegmentTimeout k) s fun t => partOf' t k = (0, []) ∧
      t.get F.DICT_CNT_DROP_DROP 0 = satInc (s.get F.DICT_CNT_DROP_DROP 0) F.DICT_CNT_DROP_DROP.top) ∧
  (∀ (s : State) (k : Fin 16), dictRuns s = true → (partOf' s k).1 = 0 → exec (.usestSegmentTimeout k) s = .next s) ∧
  (∀ (s : State) (k : Fin 16) (octets : List Nat), canHears s (tget 15 s.dict.vals 0x010012) = false →
    exec (.usestCanSegment k octets) s = .next s) ∧
  (∀ s : State, dictRuns s = false ∨ rxTake 23 s = none → exec .usestDatagram s = .next s) ∧
  (∀ (s u : State) (x : SwRx) (sess seq svc obj param : Nat) (data : List Nat), dictRuns s = true → rxTake 23 s = some (x, u) →
    usestUdp u x = true → sess = beNat (((udpPayload x).drop 2).take 2) → seq = beNat (((udpPayload x).drop 4).take 4) →
    obj = beNat (((udpPayload x).drop 8).take 3) → svc = (udpPayload x).getD 1 0 →
    param = beNat (((udpPayload x).drop 14).take 2) → sessAllows u sess (udpSource x) = true →
    usestOpen u sess seq (udpPayload x) = some data → sess = 0 ∨ (sessSt u sess).fresh seq = true →
    headerBad sess ((udpPayload x).getD 0 0) svc (beNat (((udpPayload x).drop 12).take 2)) data.length = none →
    Runs .usestDatagram s fun t => t.dict.queue = s.dict.queue ++ [⟨udpSource x, sess, svc, seq, obj, param, data⟩]))

/-! ### Chapter 4: the beat -/

/-- The beat (R106, R107, R112). An admitted write of BEAT_CTRL.EN by an initiator that R130 names sets EN; by another it changes
no register of the beat unit. A boundary that is due at instant b while the beat is on leaves BEAT_LAST at b and BEAT_NUM one
higher, or at 0 for the first; where none is due only the ticks pass, and while PMIC_EN is low nothing changes. (The operand
`ticks` and the due test are the model's: log entries on BEAT_BOUNDARY.) -/
def Obligations.BeatComplete : Prop :=
  (∀ (s : State) (init : Init) (v : Word), Admitted init (R.BEAT_CTRL.addr 0) s → beatMay s init = true → bitOf v.toNat 31 = true →
    Runs (.beatEn init v) s fun t => t.get F.BEAT_CTRL_EN 0 = 1) ∧
  (∀ (s : State) (us ticks : Nat) (lanes credit : List Nat) (b : Nat), s.pm.phase ≠ 2 → dueAt (timeRun ticks s) = some b →
    beatOn (timeRun ticks s) = true →
    Runs (.beatBoundary us ticks lanes credit) s fun t => t.get64 R.BEAT_LAST_LO R.BEAT_LAST_HI 0 = b % 2 ^ 64 ∧
      t.beat = (if (timeRun ticks s).tab.started then (s.beat + 1) % 2 ^ 64 else 0)) ∧
  (∀ (s : State) (us ticks : Nat) (lanes credit : List Nat), s.pm.phase ≠ 2 →
    dueAt (timeRun ticks s) = none ∨ beatOn (timeRun ticks s) = false →
    exec (.beatBoundary us ticks lanes credit) s = .next (timeRun ticks s)) ∧
  (∀ (s : State) (us ticks : Nat) (lanes credit : List Nat), s.pm.phase = 2 →
    exec (.beatBoundary us ticks lanes credit) s = .next s) ∧
  (∀ (s : State) (init : Init) (v : Word), Admitted init (R.BEAT_CTRL.addr 0) s → beatMay s init = false →
    Runs (.beatEn init v) s fun t => t.rd R.BEAT_CTRL 0 = s.rd R.BEAT_CTRL 0)

/-! ### Chapter 4: Tabla -/

/-- A stroke command runs only the stroke at its engine's position: where the engine is not live, is done, its unit does not run,
or it holds another operation there, nothing changes (R117). -/
def Obligations.StrokesNeedTheirOperation : Prop :=
  ∀ (s : State) (n : Fin 16) (late : Nat), ∀ x ∈ ([(.strokeEnd n late, 0x00), (.strokeWait n late, 0x01), (.strokeRds n late, 0x02),
      (.strokeRdt n late, 0x03), (.strokeLdi n late, 0x04), (.strokeMov n late, 0x05), (.strokeClt n late, 0x08), (.strokeCle n late, 0x09),
      (.strokeCeq n late, 0x0A), (.strokeClti n late, 0x0B), (.strokeCgei n late, 0x0C), (.strokeCadd n late, 0x10),
      (.strokeCsub n late, 0x11), (.strokeCmul n late, 0x12), (.strokeCmin n late, 0x13), (.strokeCmax n late, 0x14),
      (.strokeAdd n late, 0x18), (.strokeSub n late, 0x19), (.strokeAnd n late, 0x1A), (.strokeOr n late, 0x1B), (.strokeXor n late, 0x1C),
      (.strokeAddi n late, 0x1D), (.strokeSubi n late, 0x1E), (.strokeAndi n late, 0x1F), (.strokeShr n late, 0x20),
      (.strokeShl n late, 0x21), (.strokeSkc n late, 0x24), (.strokeSkf n late, 0x25), (.strokeWro n late, 0x28), (.strokeWrp n late, 0x29),
      (.strokePub n late, 0x2A), (.strokeLreq n late, 0x30), (.strokeSreq n late, 0x31)] : List (Instr × Nat)),
    (∀ w, ¬ Issues s n x.2 w) → exec x.1 s = .next s

/-- Moves, logic and shifts (R119): the result goes to W[DST], no other working register changes, and the position moves on by
one.
Saturating arithmetic (R50, R119, R120): the result goes to W[DST]; SAT is set where the exact result was out of range and
else kept; the position moves on by one. -/
def Obligations.StrokeComputationComplete : Prop :=
  (∀ (s : State) (n : Fin 16) (late w : Nat),
    (Issues s n 0x04 w → Runs (.strokeLdi n late) s fun t => Issued s t n ∧ Wrote s t n w (skImm w)) ∧
    (Issues s n 0x05 w → Runs (.strokeMov n late) s fun t => Issued s t n ∧ Wrote s t n w (wreg s n (skA w))) ∧
    (Issues s n 0x13 w → Runs (.strokeCmin n late) s fun t => Issued s t n ∧ Wrote s t n w (min (wreg s n (skA w)) (wreg s n (skB w)))) ∧
    (Issues s n 0x14 w → Runs (.strokeCmax n late) s fun t => Issued s t n ∧ Wrote s t n w (max (wreg s n (skA w)) (wreg s n (skB w)))) ∧
    (Issues s n 0x1A w → Runs (.strokeAnd n late) s fun t => Issued s t n ∧ Wrote s t n w (wreg s n (skA w) &&& wreg s n (skB w))) ∧
    (Issues s n 0x1B w → Runs (.strokeOr n late) s fun t => Issued s t n ∧ Wrote s t n w (wreg s n (skA w) ||| wreg s n (skB w))) ∧
    (Issues s n 0x1C w → Runs (.strokeXor n late) s fun t => Issued s t n ∧ Wrote s t n w (wreg s n (skA w) ^^^ wreg s n (skB w))) ∧
    (Issues s n 0x1F w → Runs (.strokeAndi n late) s fun t => Issued s t n ∧ Wrote s t n w (wreg s n (skA w) &&& skImm w)) ∧
    (Issues s n 0x20 w → Runs (.strokeShr n late) s fun t => Issued s t n ∧ Wrote s t n w (wreg s n (skA w) / 2 ^ bitsOf w 3 0))) ∧
  (∀ (s : State) (n : Fin 16) (late w : Nat),
    (Issues s n 0x10 w → Runs (.strokeCadd n late) s fun t => Issued s t n ∧ WroteSat s t n w (chAdd (wreg s n (skA w)) (wreg s n (skB w)))) ∧
    (Issues s n 0x11 w → Runs (.strokeCsub n late) s fun t => Issued s t n ∧ WroteSat s t n w (chSub (wreg s n (skA w)) (wreg s n (skB w)))) ∧
    (Issues s n 0x12 w → Runs (.strokeCmul n late) s fun t => Issued s t n ∧
      WroteSat s t n w (chMul (wreg s n (skA w)) (wreg s n (skB w)) (bitsOf w 4 0))) ∧
    (Issues s n 0x18 w → Runs (.strokeAdd n late) s fun t => Issued s t n ∧
      WroteSat s t n w (min (wreg s n (skA w) + wreg s n (skB w)) 0x3FF, decide (0x3FF < wreg s n (skA w) + wreg s n (skB w)))) ∧
    (Issues s n 0x19 w → Runs (.strokeSub n late) s fun t => Issued s t n ∧
      WroteSat s t n w (wreg s n (skA w) - wreg s n (skB w), decide (wreg s n (skA w) < wreg s n (skB w)))) ∧
    (Issues s n 0x1D w → Runs (.strokeAddi n late) s fun t => Issued s t n ∧
      WroteSat s t n w (min (wreg s n (skA w) + skImm w) 0x3FF, decide (0x3FF < wreg s n (skA w) + skImm w))) ∧
    (Issues s n 0x1E w → Runs (.strokeSubi n late) s fun t => Issued s t n ∧
      WroteSat s t n w (wreg s n (skA w) - skImm w, decide (wreg s n (skA w) < skImm w))) ∧
    (Issues s n 0x21 w → Runs (.strokeShl n late) s fun t => Issued s t n ∧
      WroteSat s t n w (min (wreg s n (skA w) * 2 ^ bitsOf w 3 0) 0x3FF, decide (0x3FF < wreg s n (skA w) * 2 ^ bitsOf w 3 0))))

/-- Comparisons, skips, END and WAIT (R119, R120): a comparison sets C and no working register; SKC and SKF move the position past
N further strokes where the flag equals POL; END ends the engine's beat; WAIT only moves on. -/
def Obligations.StrokeControlComplete : Prop :=
  ∀ (s : State) (n : Fin 16) (late w : Nat),
    (Issues s n 0x08 w → Runs (.strokeClt n late) s fun t => Issued s t n ∧ WregsKept s t ∧
      (engSt t n).c = decide (wreg s n (skA w) < wreg s n (skB w))) ∧
    (Issues s n 0x09 w → Runs (.strokeCle n late) s fun t => Issued s t n ∧ WregsKept s t ∧
      (engSt t n).c = decide (wreg s n (skA w) ≤ wreg s n (skB w))) ∧
    (Issues s n 0x0A w → Runs (.strokeCeq n late) s fun t => Issued s t n ∧ WregsKept s t ∧
      (engSt t n).c = decide (wreg s n (skA w) = wreg s n (skB w))) ∧
    (Issues s n 0x0B w → Runs (.strokeClti n late) s fun t => Issued s t n ∧ WregsKept s t ∧
      (engSt t n).c = decide (wreg s n (skA w) < skImm w)) ∧
    (Issues s n 0x0C w → Runs (.strokeCgei n late) s fun t => Issued s t n ∧ WregsKept s t ∧
      (engSt t n).c = decide (skImm w ≤ wreg s n (skA w))) ∧
    (Issues s n 0x24 w → Runs (.strokeSkc n late) s fun t => WregsKept s t ∧
      (engSt t n).pc = (engSt s n).pc + 1 + (if (engSt s n).c = skPol w then skN w else 0)) ∧
    (Issues s n 0x25 w → Runs (.strokeSkf n late) s fun t => WregsKept s t ∧
      (engSt t n).pc = (engSt s n).pc + 1 + (if (engSt s n).flagOf (skFlag w) = skPol w then skN w else 0)) ∧
    (Issues s n 0x00 w → Runs (.strokeEnd n late) s fun t => Issued s t n ∧ WregsKept s t ∧ (engSt t n).done = true) ∧
    (Issues s n 0x01 w → Runs (.strokeWait n late) s fun t => Issued s t n ∧ WregsKept s t ∧ (engSt t n).done = false)

/-- Samples and twin words read (R60, R120, R123): RDS puts the sample in W[DST], or sets INV and writes nothing where it is not
valid; RDT checks the slot's visible word as its own consumer and puts V_good in W[DST], or 0 with SAFE in the safe state.
Strokes that write (R121, R122, R213, R337). WRO posts the value where the engine drives the output and the value is in range,
else it sets INV and counts in ERRCNT. WRO_APPLY takes the oldest posted value: of a low-side output that is not forced and
whose group is not safe, with the link up, it becomes its duty; with the link down, or of an output that is forced, nothing
but the post changes; without a post, nothing. WRP and PUB publish to a slot that the engine produces and change no register
but TABLA's and Tocsin's, else they set INV and count in ERRCNT. SREQ of a channel that is not SPC sets INV; of one that is,
it triggers an enabled receiver that is not busy. LREQ puts its header on a channel that is a commander on Tabla, awake and
idle, else it sets INV, counts and raises FS340. -/
def Obligations.StrokeAccessesComplete : Prop :=
  (∀ (s : State) (n : Fin 16) (late w : Nat),
    (∀ v, Issues s n 0x02 w → sample s (skClass w) (skIndex w) (skSub w) = some v →
      Runs (.strokeRds n late) s fun t => Issued s t n ∧ Wrote s t n w (v % 1024)) ∧
    (Issues s n 0x02 w → sample s (skClass w) (skIndex w) (skSub w) = none →
      Runs (.strokeRds n late) s fun t => Issued s t n ∧ WregsKept s t ∧ (engSt t n).inv = true ∧ t.get F.TABLA_STAT_INV n = 1) ∧
    (Issues s n 0x03 w → Runs (.strokeRdt n late) s fun t => Issued s t n ∧
      consSt t (rdtConsumer n (rdtOrdinal s n (engSt s n).pc)) =
        (consSt s (rdtConsumer n (rdtOrdinal s n (engSt s n).pc))).after (slotSt s (skSlot w)).visible s.beat (skHold w) ∧
      Wrote s t n w (if (consSt t (rdtConsumer n (rdtOrdinal s n (engSt s n).pc))).safe then 0
        else (consSt t (rdtConsumer n (rdtOrdinal s n (engSt s n).pc))).vGood % 1024) ∧
      ((consSt t (rdtConsumer n (rdtOrdinal s n (engSt s n).pc))).safe = true → (engSt t n).safe = true ∧ t.get F.TABLA_STAT_SAFE n = 1))) ∧
  ((∀ (s : State) (n : Fin 16) (late w : Nat), Issues s n 0x28 w → driverOf s (skClass w) (skIndex w) = n →
    wreg s n (skA w) ≤ wroMax (skClass w) →
    Runs (.strokeWro n late) s fun t => Issued s t n ∧ (engSt t n).posts = (engSt s n).posts ++ [(skClass w, skIndex w, wreg s n (skA w))] ∧
      WregsKept s t) ∧
  (∀ (s : State) (n : Fin 16) (late w : Nat), Issues s n 0x28 w →
    driverOf s (skClass w) (skIndex w) ≠ n ∨ wroMax (skClass w) < wreg s n (skA w) →
    Runs (.strokeWro n late) s fun t => Issued s t n ∧ (engSt t n).inv = true ∧ (engSt t n).posts = (engSt s n).posts ∧
      t.get F.TABLA_ERRCNT_ERR_CNT n = satInc (s.get F.TABLA_ERRCNT_ERR_CNT n) F.TABLA_ERRCNT_ERR_CNT.top) ∧
  (∀ (s : State) (n : Fin 16) (x : Nat × Nat × Nat) (l : List (Nat × Nat × Nat)), (engSt s n).posts = x :: l →
    Runs (.strokeWroApply n) s fun t => (engSt t n).posts = l) ∧
  (∀ (s : State) (n : Fin 16) (j v : Nat) (l : List (Nat × Nat × Nat)), (engSt s n).posts = (0x20, j, v) :: l → linkUp s = true →
    s.flag F.IOX_LSO_STAT_FORCED j = false → groupSafe s (s.get F.IOX_LSO_CFG_KNELL_GRP j) = false → v < 1024 →
    Runs (.strokeWroApply n) s fun t => t.get F.IOX_LSO_DUTY_DUTY j = v ∧ (lsoSt t j).out = v ∧
      sameWordsBut [(R.IOX_LSO_DUTY.id, j)] s t) ∧
  (∀ (s : State) (n : Fin 16), (engSt s n).posts = [] → exec (.strokeWroApply n) s = .next s) ∧
  (∀ (s : State) (n : Fin 16) (late w : Nat), Issues s n 0x29 w → slotProducer s (0x100 + skChan w) = some (0x20 + n.val) →
    Runs (.strokeWrp n late) s fun t => Issued s t n ∧ (slotSt t (0x100 + skChan w)).pendV = some (wreg s n (skA w)) ∧ WregsKept s t ∧
      keepsOutside [idsTABLA, idsTOCSIN] s t) ∧
  (∀ (s : State) (n : Fin 16) (late w : Nat), Issues s n 0x2A w → slotProducer s (skSlot w) = some (0x20 + n.val) →
    Runs (.strokePub n late) s fun t => Issued s t n ∧ (slotSt t (skSlot w)).pendV = some (wreg s n (skA w)) ∧ WregsKept s t ∧
      keepsOutside [idsTABLA, idsTOCSIN] s t) ∧
  (∀ (s : State) (n : Fin 16) (late w : Nat), Issues s n 0x2A w → slotProducer s (skSlot w) ≠ some (0x20 + n.val) →
    Runs (.strokePub n late) s fun t => Issued s t n ∧ (engSt t n).inv = true ∧
      t.get F.TABLA_ERRCNT_ERR_CNT n = satInc (s.get F.TABLA_ERRCNT_ERR_CNT n) F.TABLA_ERRCNT_ERR_CNT.top) ∧
  (∀ (s : State) (n : Fin 16) (late w : Nat), Issues s n 0x31 w → s.flag F.SENT_CFG_SPC (skIndex w) = true →
    s.flag F.SENT_CFG_EN (skIndex w) = true → (sentSt s (skIndex w)).busy = false → ioRuns s = true →
    Runs (.strokeSreq n late) s fun t => Issued s t n ∧ (sentSt t (skIndex w)).busy = true ∧ t.out = s.out ++ [.pin 1 (skIndex w) 12]) ∧
  (∀ (s : State) (n : Fin 16) (late w : Nat), Issues s n 0x31 w → s.flag F.SENT_CFG_SPC (skIndex w) = false →
    Runs (.strokeSreq n late) s fun t => Issued s t n ∧ (engSt t n).inv = true) ∧
  (∀ (s : State) (n : Fin 16) (late w : Nat), Issues s n 0x30 w → linCommander s (skIndex w) = true →
    s.flag F.LIN_CFG_SCHED_SRC (skIndex w) = true → (linSt s (skIndex w)).bus = none → linState s (skIndex w) ≠ linSleep →
    Runs (.strokeLreq n late) s fun t => Issued s t n ∧
      (linSt t (skIndex w)).bus.map (fun x => (x.id, x.event)) = some (bitsOf w 21 16, none)) ∧
  (∀ (s : State) (n : Fin 16) (late w : Nat), Issues s n 0x30 w → linCommander s (skIndex w) = false ∨
    s.flag F.LIN_CFG_SCHED_SRC (skIndex w) = false ∨ (linSt s (skIndex w)).bus ≠ none ∨ linState s (skIndex w) = linSleep →
    Runs (.strokeLreq n late) s fun t => Issued s t n ∧ (engSt t n).inv = true ∧ tocPending t 340 = true ∧
      t.get F.LIN_CNT_CNT (8 * skIndex w + 5) = satInc (s.get F.LIN_CNT_CNT (8 * skIndex w + 5)) F.LIN_CNT_CNT.top) ∧
  (∀ (s : State) (n : Fin 16) (late w : Nat), Issues s n 0x29 w → slotProducer s (0x100 + skChan w) ≠ some (0x20 + n.val) →
    Runs (.strokeWrp n late) s fun t => Issued s t n ∧ (engSt t n).inv = true ∧
      t.get F.TABLA_ERRCNT_ERR_CNT n = satInc (s.get F.TABLA_ERRCNT_ERR_CNT n) F.TABLA_ERRCNT_ERR_CNT.top) ∧
  (∀ (s : State) (n : Fin 16) (c j v : Nat) (l : List (Nat × Nat × Nat)), (engSt s n).posts = (c, j, v) :: l → linkUp s = false →
    exec (.strokeWroApply n) s = .next (s.updEng n (fun e => { e with posts := l }))) ∧
  (∀ (s : State) (n : Fin 16) (j v : Nat) (l : List (Nat × Nat × Nat)), (engSt s n).posts = (0x20, j, v) :: l →
    s.flag F.IOX_LSO_STAT_FORCED j = true → exec (.strokeWroApply n) s = .next (s.updEng n (fun e => { e with posts := l }))))

/-- Tables loaded (R124 to R126). An admitted write of TABLA_LD_HI stores a stroke at IDX and moves IDX on, or is refused with
code 0x09 while a library load runs. An admitted write that sets ARM arms for validation, or is refused with code 0x09 and
FS363 while a library load runs. Validation sets ARMED and clears LDSTAT where the table is good, and else clears ARM and
raises FS363 with the code and the index. A library load that ends is armed without validation. -/
def Obligations.TableLoadsComplete : Prop :=
  (∀ (s : State) (n : Fin 16) (init : Init) (v : Word), Admitted init (R.TABLA_LD_HI.addr n) s → s.flag F.TABLA_STAT_LD_BUSY n = false →
    Runs (.tablaLdHi n init v) s fun t => t.get F.TABLA_LD_IDX_IDX n = (s.get F.TABLA_LD_IDX_IDX n + 1) % 4096 ∧
      tget none ((engSt t n).buf (inactiveBuf s n)) (s.get F.TABLA_LD_IDX_IDX n) =
        some (v.toNat * 2 ^ 32 + (s.rd R.TABLA_LD_LO n).toNat)) ∧
  (∀ (s : State) (n : Fin 16) (init : Init) (v : Word), Admitted init (R.TABLA_LD_HI.addr n) s → s.flag F.TABLA_STAT_LD_BUSY n = true →
    Runs (.tablaLdHi n init v) s fun t => t.get F.TABLA_LDSTAT_ERR n = 1 ∧ t.get F.TABLA_LDSTAT_CODE n = 0x09 ∧ t.tab = s.tab) ∧
  (∀ (s : State) (n : Fin 16) (init : Init) (v : Word), Admitted init (R.TABLA_CTRL.addr n) s → bitOf v.toNat 30 = true →
    s.flag F.TABLA_STAT_LD_BUSY n = false → Runs (.tablaArm n init v) s fun t => t.get F.TABLA_CTRL_ARM n = 1) ∧
  (∀ (s : State) (n : Fin 16), s.flag F.TABLA_CTRL_ARM n = true → s.flag F.TABLA_STAT_ARMED n = false →
    validate s n (tget none ((engSt s n).buf (inactiveBuf s n))) = none →
    Runs (.tablaValidationDone n) s fun t => t.get F.TABLA_STAT_ARMED n = 1 ∧ t.rd R.TABLA_LDSTAT n = 0 ∧
      sameWordsBut [(R.TABLA_STAT.id, n.val), (R.TABLA_LDSTAT.id, n.val)] s t) ∧
  (∀ (s : State) (n : Fin 16) (e : Nat × Nat), s.flag F.TABLA_CTRL_ARM n = true → s.flag F.TABLA_STAT_ARMED n = false →
    validate s n (tget none ((engSt s n).buf (inactiveBuf s n))) = some e →
    Runs (.tablaValidationDone n) s fun t => tocPending t 363 = true ∧ t.get F.TABLA_CTRL_ARM n = 0 ∧ t.get F.TABLA_LDSTAT_ERR n = 1 ∧
      t.get F.TABLA_LDSTAT_CODE n = e.1 % 256 ∧ t.get F.TABLA_LDSTAT_ERR_IDX n = e.2 % 4096 ∧
      (lastRecord t 363).map (·.w1) = some (e.2 % 2 ^ 32)) ∧
  (∀ (s : State) (n : Fin 16) (l : Nat), (engSt s n).load = some l →
    Runs (.tablaLibraryLoadDone n) s fun t => t.get F.TABLA_STAT_ARMED n = 1 ∧ t.get F.TABLA_STAT_LD_BUSY n = 0 ∧
      t.get F.TABLA_CTRL_ARM n = 1 ∧ (engSt t n).load = none ∧ (engSt t n).armLib = some l) ∧
  (∀ (s : State) (n : Fin 16) (init : Init) (v : Word), Admitted init (R.TABLA_CTRL.addr n) s → bitOf v.toNat 30 = true →
    s.flag F.TABLA_STAT_LD_BUSY n = true → s.flag F.TABLA_CTRL_ARM n = false →
    Runs (.tablaArm n init v) s fun t => t.get F.TABLA_CTRL_ARM n = 0 ∧ t.get F.TABLA_LDSTAT_CODE n = 0x09 ∧ tocPending t 363 = true)

/-! ### Chapter 5: power -/

/-- A CONVERSION (R138, R146, R169) ends one interval at every channel and both feeds while the H-die and its oscillator run: with
the link up each V_OUT and each V_FEED register takes its sample with VALID set. With the H-die in reset, or its oscillator
lost, it changes nothing.
Trips of a channel and its precharge (R144, R145, R157). Each command that meets its condition puts channel ch into its state
with its cause, the gate off in OFF_SHORT and on in ON, leaves every other channel's state alone and, a trip, with the link
up, raises its fault source; where its condition does not hold nothing changes.
FET faults, a high output and sense faults (R138, R159, R169), and the fast path of the budget (R179). FET_FAULT makes the
state FET_FAULT with cause 0x17; OUT_HIGH and CURRENT_SENSE_FAULT set their bits of the channel's state word; FEED_SENSE_FAULT
marks the feed and, with the link up, clears VALID of its current. FAST_PATH_SHED lowers the live level to the configured
tier, or by one from the level of before the boundary where it came within its first 2,000 ns, starts a new run and sheds
every ON or PRECHARGE channel of the feed at or above that level with cause 0x10. With the link up each raises its fault
source. -/
def Obligations.ChannelEventsComplete : Prop :=
  ((∀ (s : State) (ofs : Nat) (x : List ConvSample), hRuns s = true → s.kn.hosc = true → linkUp s = true →
    Runs (.conversion ofs x) s fun t =>
      (∀ ch, ch < 72 → t.rd R.PWR_VOUT ch =
        measWord true false (chimeEncQ (min (sampleOf x ch).vRaw 65536 * 625) 512) (rawClamp (sampleOf x ch).vRaw)) ∧
      ∀ f, f < 2 → t.rd R.FEED_V f =
        measWord true false (chimeEncQ (min (sampleOf x (72 + f)).vRaw 65536 * 625) 512) (rawClamp (sampleOf x (72 + f)).vRaw)) ∧
  (∀ (s : State) (ofs : Nat) (x : List ConvSample), hRuns s = false ∨ s.kn.hosc = false → exec (.conversion ofs x) s = .next s)) ∧
  ((∀ (s : State) (ch : Fin 72) (vds cur : Bool) (pk l ofs : Nat), hRuns s = true → (chSt s ch).state ≠ chFet →
    cur = true ∨ (vds = true ∧ (chSt s ch).state ≠ chPre) →
    Runs (.shortTrip ch vds cur true pk l ofs) s fun t => (chSt t ch).state = chShort ∧
      (chSt t ch).cause = (if cur then 0x09 else 0x08) ∧ (chSt t ch).gate = false ∧
      (∀ k, k ≠ ch.val → chSt t k = chSt s k) ∧ (linkUp s = true → tocPending t 128 = true)) ∧
  (∀ (s : State) (ch : Fin 72) (vds cur vgs : Bool) (pk l ofs : Nat), hRuns s = false ∨ vgs = false ∨ (chSt s ch).state = chFet ∨
    (cur = false ∧ (vds = false ∨ (chSt s ch).state = chPre)) → exec (.shortTrip ch vds cur vgs pk l ofs) s = .next s) ∧
  (∀ (s : State) (ch : Fin 72) (pk l ofs : Nat), hRuns s = true → (chSt s ch).driven = true →
    Runs (.gateUv ch pk l ofs) s fun t => (chSt t ch).state = chShort ∧ (chSt t ch).cause = 0x0B ∧ (chSt t ch).gate = false ∧
      (∀ k, k ≠ ch.val → chSt t k = chSt s k) ∧ (linkUp s = true → tocPending t 138 = true)) ∧
  (∀ (s : State) (ch : Fin 72) (pk l ofs : Nat), hRuns s = false ∨ (chSt s ch).driven = false → exec (.gateUv ch pk l ofs) s = .next s) ∧
  (∀ (s : State) (ch : Fin 72) (ofs : Nat), hRuns s = true → (chSt s ch).state = chPre →
    Runs (.prechargeDone ch ofs) s fun t => (chSt t ch).state = chOn ∧ (chSt t ch).cause = (chSt s ch).cause ∧
      (chSt t ch).gate = true ∧ ∀ k, k ≠ ch.val → chSt t k = chSt s k) ∧
  (∀ (s : State) (ch : Fin 72) (ofs : Nat), hRuns s = false ∨ (chSt s ch).state ≠ chPre → exec (.prechargeDone ch ofs) s = .next s) ∧
  (∀ (s : State) (ch : Fin 72) (pk l ofs : Nat), hRuns s = true → (chSt s ch).state = chPre →
    Runs (.preTimeout ch pk l ofs) s fun t => (chSt t ch).state = chShort ∧ (chSt t ch).cause = 0x0A ∧ (chSt t ch).gate = false ∧
      (∀ k, k ≠ ch.val → chSt t k = chSt s k) ∧ (linkUp s = true → tocPending t 133 = true)) ∧
  (∀ (s : State) (ch : Fin 72) (pk l ofs : Nat), hRuns s = false ∨ (chSt s ch).state ≠ chPre →
    exec (.preTimeout ch pk l ofs) s = .next s)) ∧
  ((∀ (s : State) (ch : Fin 72) (ofs : Nat), hRuns s = true → (chSt s ch).gate = false → (chSt s ch).state ≠ chFet →
    Runs (.fetFault ch ofs) s fun t => (chSt t ch).state = chFet ∧ (chSt t ch).cause = 0x17 ∧
      (∀ k, k ≠ ch.val → chSt t k = chSt s k) ∧ (linkUp s = true → tocPending t 131 = true)) ∧
  (∀ (s : State) (ch : Fin 72) (ofs : Nat), hRuns s = true → (chSt s ch).gate = false → pullUp s ch = false →
    (chSt s ch).flag F.PWR_STATE_OUT_HIGH = false →
    Runs (.outHigh ch ofs) s fun t => (chSt t ch).flag F.PWR_STATE_OUT_HIGH = true ∧ (chSt t ch).state = (chSt s ch).state ∧
      (∀ k, k ≠ ch.val → chSt t k = chSt s k) ∧ (linkUp s = true → tocPending t 137 = true)) ∧
  (∀ (s : State) (ch : Fin 72) (ofs : Nat), hRuns s = true → (chSt s ch).flag F.PWR_STATE_SENSE_FAULT = false →
    Runs (.currentSenseFault ch ofs) s fun t => (chSt t ch).flag F.PWR_STATE_SENSE_FAULT = true ∧
      (chSt t ch).state = (chSt s ch).state ∧ (∀ k, k ≠ ch.val → chSt t k = chSt s k) ∧
      (linkUp s = true → tocPending t 134 = true ∧ t.get F.PWR_I_VALID ch = 0)) ∧
  (∀ (s : State) (f : Fin 2) (ofs : Nat), hRuns s = true → (feedSt s f).sense = false →
    Runs (.feedSenseFault f ofs) s fun t => (feedSt t f).sense = true ∧ (feedSt t f).run = 0 ∧ t.ch = s.ch ∧
      (linkUp s = true → tocPending t 180 = true ∧ t.get F.FEED_I_VALID f = 0)) ∧
  (∀ (s : State) (f : Fin 2) (ofs : Nat), hRuns s = true → s.flag F.FEED_FAST_EN f = true → (feedSt s f).sense = false →
    max 1 (s.get F.FEED_FAST_CNT f) ≤ (feedSt s f).run →
    Runs (.fastPathShed f ofs) s fun t => (feedSt t f).run = 0 ∧
      (feedSt t f).liveL = min (feedSt s f).liveL
        (if max 1 (s.get F.FEED_FAST_TIER f) < (if ofs ≤ 2000 then (feedSt s f).lastL else (feedSt s f).liveL)
          then max 1 (s.get F.FEED_FAST_TIER f)
          else max ((if ofs ≤ 2000 then (feedSt s f).lastL else (feedSt s f).liveL) - 1) 1) ∧
      (∀ ch ∈ feedChans f, (chSt s ch).state = chOn ∨ (chSt s ch).state = chPre → (feedSt t f).liveL ≤ tierNow s ch →
        (chSt t ch).state = chShed ∧ (chSt t ch).cause = 0x10) ∧
      (∀ ch, ch ∉ feedChans f ∨ tierNow s ch < (feedSt t f).liveL → chSt t ch = chSt s ch) ∧
      (linkUp s = true → tocPending t 177 = true)))

/-! ### Chapter 6: inputs and outputs -/

/-- Inputs and their supplies (R195, R199, R200). MFI_SAMPLE of an analogue input shows its sample, VALID unless it is above full
scale; of another it leaves the analogue word, and of a digital one keeps the state it compares to. A ratiometric conversion
against no supply shows the ratio of 5 V. A supply in ON that limits goes to LIMIT; one that limits too long to OVERLOAD; a
backfed one to BACKFEED: each with its own bit and fault source.
SENT (R211 to R213). A good frame, of an SPC channel one that a trigger asked for, counts, sets VALID, shows its status and
starts AGE anew; one that fails a check counts in ERRORS and shows the check in LAST_ERR with FS234. A timeout clears VALID
and shows LAST_ERR = 6 with FS235. An admitted trigger of an enabled SPC channel that is not busy sends one trigger pulse. A
frame that nothing waits for changes nothing. -/
def Obligations.InputsAndSentComplete : Prop :=
  ((∀ (s : State) (i : Fin 96) (raw ofs : Nat), ioRuns s = true → 2 ≤ s.get F.IOX_MFI_CFG_MODE i →
    Runs (.mfiSample i raw ofs) s fun t => t.rd R.IOX_MFI_AN i =
      measWord (!decide (65536 < raw)) false (chimeEncQ (min raw 65536 * 5) 8) (rawClamp raw)) ∧
  (∀ (s : State) (i : Fin 96) (raw ofs : Nat), ioRuns s = true → s.get F.IOX_MFI_CFG_MODE i < 2 →
    Runs (.mfiSample i raw ofs) s fun t => t.rd R.IOX_MFI_AN i = s.rd R.IOX_MFI_AN i ∧
      (s.get F.IOX_MFI_CFG_MODE i = 1 → (mfiSt t i).samp = mfiCompare s i raw)) ∧
  (∀ (s : State) (i : Fin 16) (ratio v c ofs : Nat), ioRuns s = true → raiRef s i = none →
    Runs (.raiConversion i ratio false v c ofs) s fun t => t.rd R.IOX_RAI_V i =
      measWord true false (chimeEncQ (4 * min ratio 16383 * 5000) 65536) (4 * min ratio 16383)) ∧
  (∀ (s : State) (n : Fin 8) (v c : Nat), hRuns s = true → s.get F.IOX_SSUP_STAT_STATE n = 1 →
    Runs (.ssupLimit n v c) s fun t => t.get F.IOX_SSUP_STAT_STATE n = 2) ∧
  (∀ (s : State) (n : Fin 8) (v c : Nat), hRuns s = false ∨ s.get F.IOX_SSUP_STAT_STATE n ≠ 1 → exec (.ssupLimit n v c) s = .next s) ∧
  (∀ (s : State) (n : Fin 8) (v c ofs : Nat), hRuns s = true → s.get F.IOX_SSUP_STAT_STATE n = 2 →
    Runs (.ssupOverload n v c ofs) s fun t => t.get F.IOX_SSUP_STAT_STATE n = 3 ∧ t.get F.IOX_SSUP_STAT_OVL n = 1 ∧
      tocPending t 226 = true) ∧
  (∀ (s : State) (n : Fin 8) (v c ofs : Nat), hRuns s = true →
    s.get F.IOX_SSUP_STAT_STATE n = 1 ∨ s.get F.IOX_SSUP_STAT_STATE n = 2 →
    Runs (.ssupBackfeed n v c ofs) s fun t => t.get F.IOX_SSUP_STAT_STATE n = 4 ∧ t.get F.IOX_SSUP_STAT_BACKFEED n = 1 ∧
      tocPending t 227 = true)) ∧
  ((∀ (s : State) (c : Fin 8) (fr : SentFrame) (ofs : Nat), ioRuns s = true → s.flag F.SENT_CFG_EN c = true →
    s.flag F.SENT_CFG_SPC c = false ∨ (sentSt s c).busy = true → sentReject s c fr = 0 →
    Runs (.sentFrame c fr ofs) s fun t => t.get F.SENT_STAT_VALID c = 1 ∧ t.get F.SENT_STAT_STATUS c = fr.status % 16 ∧
      t.get F.SENT_CNT_FRAMES c = satInc (s.get F.SENT_CNT_FRAMES c) F.SENT_CNT_FRAMES.top ∧
      (sentSt t c).prevTick = some fr.tick ∧ (sentSt t c).busy = false ∧ (sentSt t c).seen = some s.time.elapsed) ∧
  (∀ (s : State) (c : Fin 8) (fr : SentFrame) (ofs : Nat), ioRuns s = true → s.flag F.SENT_CFG_EN c = true →
    s.flag F.SENT_CFG_SPC c = false ∨ (sentSt s c).busy = true → sentReject s c fr ≠ 0 →
    Runs (.sentFrame c fr ofs) s fun t => t.get F.SENT_STAT_ERR c = 1 ∧ t.get F.SENT_STAT_LAST_ERR c = sentReject s c fr ∧
      t.get F.SENT_CNT_ERRORS c = satInc (s.get F.SENT_CNT_ERRORS c) F.SENT_CNT_ERRORS.top ∧
      t.get F.SENT_STAT_VALID c = s.get F.SENT_STAT_VALID c ∧ tocPending t 234 = true) ∧
  (∀ (s : State) (c : Fin 8) (ofs : Nat), ioRuns s = true → s.flag F.SENT_CFG_EN c = true →
    Runs (.sentTimeout c ofs) s fun t => t.get F.SENT_STAT_VALID c = 0 ∧ t.get F.SENT_STAT_LAST_ERR c = 6 ∧
      (sentSt t c).busy = false ∧ tocPending t 235 = true) ∧
  (∀ (s : State) (c : Fin 8) (init : Init) (v : Word), Admitted init (R.SENT_CFG.addr c) s → bitOf v.toNat 31 = true →
    bitOf v.toNat 28 = true → bitOf v.toNat 17 = true → (sentSt s c).busy = false → ioRuns s = true →
    Runs (.sentTrig c init v) s fun t => (sentSt t c).busy = true ∧ t.out = s.out ++ [.pin 1 c 12] ∧
      sameWordsBut [(R.SENT_CFG.id, c.val)] s t) ∧
  (∀ (s : State) (c : Fin 8) (fr : SentFrame) (ofs : Nat), ioRuns s = false ∨ s.flag F.SENT_CFG_EN c = false ∨
    (s.flag F.SENT_CFG_SPC c = true ∧ (sentSt s c).busy = false) → exec (.sentFrame c fr ofs) s = .next s))

/-- Output commands of software (R191, R192, R203, R205). An admitted write by the output's driver to an output that is not forced
and whose Knell group is not safe takes the value, and with the link up a low-side output's duty acts; of another writer it is
refused with FS237 and the register keeps its value. LSO_OC_CLEAR clears the overcurrent flag and ends the latch.
Low-side outputs (R203, R204). An overcurrent sets OC and LATCHED, an overtemperature OT, an open load its bit; each shows the
current and raises its fault source. Below 160 °C the output may drive again. -/
def Obligations.OutputsComplete : Prop :=
  ((∀ (s : State) (n : Fin 8) (init : Init) (v : Word), Admitted init (R.IOX_SSUP_CTRL.addr n) s →
    swDriver s init (s.get F.IOX_SSUP_CTRL_DRV n) 11 n = true → s.flag F.IOX_SSUP_STAT_FORCED n = false →
    groupSafe s (if s.bootLocked then s.get F.IOX_SSUP_CTRL_KNELL_GRP n else bitsOf v.toNat 29 27) = false →
    Runs (.ioxSsupCtrl n init v) s fun t => t.get F.IOX_SSUP_CTRL_EN n = bitsOf v.toNat 0 0) ∧
  (∀ (s : State) (n : Fin 8) (init : Init) (v : Word), Admitted init (R.IOX_SSUP_CTRL.addr n) s →
    swDriver s init (s.get F.IOX_SSUP_CTRL_DRV n) 11 n = false → s.bootLocked = true →
    Runs (.ioxSsupCtrl n init v) s fun t => tocPending t 237 = true ∧ t.rd R.IOX_SSUP_CTRL n = s.rd R.IOX_SSUP_CTRL n) ∧
  (∀ (s : State) (j : Fin 32) (init : Init) (v : Word), Admitted init (R.IOX_LSO_DUTY.addr j) s →
    swDriver s init (s.get F.IOX_LSO_CFG_DRV j) 9 j = true → s.flag F.IOX_LSO_STAT_FORCED j = false →
    groupSafe s (s.get F.IOX_LSO_CFG_KNELL_GRP j) = false →
    Runs (.ioxLsoDuty j init v) s fun t => t.get F.IOX_LSO_DUTY_DUTY j = bitsOf v.toNat 9 0 ∧
      (linkUp s = true → (lsoSt t j).out = bitsOf v.toNat 9 0) ∧ sameWordsBut [(R.IOX_LSO_DUTY.id, j.val)] s t) ∧
  (∀ (s : State) (j : Fin 32) (init : Init) (v : Word), Admitted init (R.IOX_LSO_DUTY.addr j) s →
    swDriver s init (s.get F.IOX_LSO_CFG_DRV j) 9 j = false →
    Runs (.ioxLsoDuty j init v) s fun t => tocPending t 237 = true ∧ t.rd R.IOX_LSO_DUTY j = s.rd R.IOX_LSO_DUTY j ∧ t.io = s.io) ∧
  (∀ (s : State) (b : Fin 6) (init : Init) (v : Word), Admitted init (R.IOX_BR_CMD.addr b) s →
    swDriver s init (s.get F.IOX_BR_CFG_DRV b) 10 b = true → s.flag F.IOX_BR_STAT_FORCED b = false →
    groupSafe s (s.get F.IOX_BR_CFG_KNELL_GRP b) = false →
    Runs (.ioxBrCmd b init v) s fun t => t.get F.IOX_BR_CMD_MODE b = bitsOf v.toNat 11 10 ∧
      t.get F.IOX_BR_CMD_DUTY b = bitsOf v.toNat 9 0) ∧
  (∀ (s : State) (b : Fin 6) (init : Init) (v : Word), Admitted init (R.IOX_BR_CMD.addr b) s →
    swDriver s init (s.get F.IOX_BR_CFG_DRV b) 10 b = false →
    Runs (.ioxBrCmd b init v) s fun t => tocPending t 237 = true ∧ t.rd R.IOX_BR_CMD b = s.rd R.IOX_BR_CMD b ∧ t.io = s.io) ∧
  (∀ (s : State) (j : Fin 32) (init : Init) (v : Word), Admitted init (R.IOX_LSO_STAT.addr j) s → bitOf v.toNat 31 = true →
    Runs (.lsoOcClear j init v) s fun t => t.get F.IOX_LSO_STAT_LATCHED j = 0 ∧ t.get F.IOX_LSO_STAT_OC j = 0 ∧
      sameWordsBut [(R.IOX_LSO_STAT.id, j.val)] s t)) ∧
  ((∀ (s : State) (j : Fin 32) (i ofs : Nat), hRuns s = true → s.flag F.IOX_LSO_STAT_LATCHED j = false →
    Runs (.lsoOvercurrent j i ofs) s fun t => t.get F.IOX_LSO_STAT_OC j = 1 ∧ t.get F.IOX_LSO_STAT_LATCHED j = 1 ∧
      t.get F.IOX_LSO_STAT_I j = i % 1024 ∧ tocPending t 228 = true ∧ t.io = s.io) ∧
  (∀ (s : State) (j : Fin 32) (i ofs : Nat), hRuns s = false ∨ s.flag F.IOX_LSO_STAT_LATCHED j = true →
    exec (.lsoOvercurrent j i ofs) s = .next s) ∧
  (∀ (s : State) (j : Fin 32) (i ofs : Nat), hRuns s = true → (lsoSt s j).hot = false →
    Runs (.lsoOvertemp j i ofs) s fun t => (lsoSt t j).hot = true ∧ (lsoSt t j).out = (lsoSt s j).out ∧
      t.get F.IOX_LSO_STAT_OT j = 1 ∧ t.get F.IOX_LSO_STAT_I j = i % 1024 ∧ tocPending t 229 = true) ∧
  (∀ (s : State) (j : Fin 32), Runs (.lsoOvertempRecover j) s fun t => (lsoSt t j).hot = false ∧
    (lsoSt t j).out = (lsoSt s j).out ∧ t = { s with io := t.io } ∧ ∀ k, k ≠ j.val → lsoSt t k = lsoSt s k) ∧
  (∀ (s : State) (j : Fin 32) (i ofs : Nat), hRuns s = true →
    Runs (.lsoOpenLoad j true i ofs) s fun t => t.get F.IOX_LSO_STAT_OL_ON j = 1 ∧
      t.get F.IOX_LSO_STAT_OL_OFF j = s.get F.IOX_LSO_STAT_OL_OFF j ∧ t.get F.IOX_LSO_STAT_I j = i % 1024 ∧ tocPending t 230 = true) ∧
  (∀ (s : State) (j : Fin 32) (i ofs : Nat), hRuns s = true → s.flag F.IOX_LSO_CFG_OL_OFF_EN j = true →
    Runs (.lsoOpenLoad j false i ofs) s fun t => t.get F.IOX_LSO_STAT_OL_OFF j = 1 ∧
      t.get F.IOX_LSO_STAT_OL_ON j = s.get F.IOX_LSO_STAT_OL_ON j ∧ t.get F.IOX_LSO_STAT_I j = i % 1024 ∧ tocPending t 230 = true))

/-- Bridges (R206 to R209). The gap's end, a clear in FAULT and a supply that is back let an unforced bridge show the mode and the
duty in force. In PWM below full duty a limited period counts, and the PERSIST-th in a row sets LIM_PERSIST with FS232;
another ends the run; a bridge not in PWM has no limited period. A short of a driven bridge turns it off in FAULT, and of
another, not forced in this instant, changes nothing; an undervoltage turns it off in UV unless it is in FAULT; each with its
bit and fault source. -/
def Obligations.BridgesComplete : Prop :=
  (∀ (s : State) (b : Fin 6), s.get F.IOX_BR_STAT_STATE b = 3 → s.flag F.IOX_BR_STAT_FORCED b = false →
    Runs (.bridgeGapEnd b) s fun t => t.get F.IOX_BR_STAT_STATE b = brModeState (brSt s b).mode ∧
      t.get F.IOX_BR_STAT_MODE_OUT b = (brSt s b).mode % 4 ∧ t.get F.IOX_BR_STAT_DUTY_OUT b = (brSt s b).duty % 1024 ∧
      sameWordsBut [(R.IOX_BR_STAT.id, b.val)] s t) ∧
  (∀ (s : State) (b : Fin 6) (init : Init) (v : Word), Admitted init (R.IOX_BR_STAT.addr b) s → bitOf v.toNat 28 = true →
    s.get F.IOX_BR_STAT_STATE b = 4 → s.flag F.IOX_BR_STAT_FORCED b = false →
    Runs (.bridgeClr b init v) s fun t => t.get F.IOX_BR_STAT_STATE b = brModeState (brSt s b).mode ∧
      t.get F.IOX_BR_STAT_MODE_OUT b = (brSt s b).mode % 4 ∧ t.get F.IOX_BR_STAT_DUTY_OUT b = (brSt s b).duty % 1024 ∧
      sameWordsBut [(R.IOX_BR_STAT.id, b.val)] s t) ∧
  (∀ (s : State) (b : Fin 6) (vs : Nat), hRuns s = true → s.get F.IOX_BR_STAT_STATE b = 5 → s.flag F.IOX_BR_STAT_FORCED b = false →
    Runs (.bridgeUvRecover b vs) s fun t => t.get F.IOX_BR_STAT_STATE b = brModeState (brSt s b).mode ∧
      t.get F.IOX_BR_STAT_MODE_OUT b = (brSt s b).mode % 4 ∧ t.get F.IOX_BR_STAT_DUTY_OUT b = (brSt s b).duty % 1024) ∧
  (∀ (s : State) (b : Fin 6) (raw : Nat) (dir : Bool) (vs ofs : Nat), hRuns s = true → brPwm s b = true →
    s.get F.IOX_BR_STAT_DUTY_OUT b ≠ 0x3FF → brLimits s b (chimeEncQ (min raw 65536 * 390625) (32 * s.get F.IOX_BR_CFG_R_EQ b)) = true →
    Runs (.bridgeCurrentLimit b raw dir vs ofs) s fun t => (brSt t b).limRun = (brSt s b).limRun + 1 ∧
      t.get F.IOX_BR_CNT_LIM_CNT b = satInc (s.get F.IOX_BR_CNT_LIM_CNT b) F.IOX_BR_CNT_LIM_CNT.top ∧
      ((brSt s b).limRun + 1 = max 1 (s.get F.IOX_BR_ILIM_PERSIST b) →
        t.get F.IOX_BR_STAT_LIM_PERSIST b = 1 ∧ tocPending t 232 = true)) ∧
  (∀ (s : State) (b : Fin 6) (raw : Nat) (dir : Bool) (vs ofs : Nat), hRuns s = true → brPwm s b = true →
    s.get F.IOX_BR_STAT_DUTY_OUT b ≠ 0x3FF → brLimits s b (chimeEncQ (min raw 65536 * 390625) (32 * s.get F.IOX_BR_CFG_R_EQ b)) = false →
    Runs (.bridgeCurrentLimit b raw dir vs ofs) s fun t => (brSt t b).limRun = 0) ∧
  (∀ (s : State) (b : Fin 6) (ofs : Nat), hRuns s = true → brDriven s b = true →
    Runs (.bridgeShort b ofs) s fun t => t.get F.IOX_BR_STAT_STATE b = 4 ∧ t.get F.IOX_BR_STAT_MODE_OUT b = 0 ∧
      t.get F.IOX_BR_STAT_SHORT b = 1 ∧ (brSt t b).mode = 0 ∧ tocPending t 231 = true) ∧
  (∀ (s : State) (b : Fin 6) (vs ofs : Nat), hRuns s = true → s.get F.IOX_BR_STAT_STATE b ≠ 5 →
    Runs (.bridgeUv b vs ofs) s fun t => t.get F.IOX_BR_STAT_UV b = 1 ∧ tocPending t 233 = true ∧
      t.get F.IOX_BR_STAT_STATE b = (if s.get F.IOX_BR_STAT_STATE b = 4 then 4 else 5)) ∧
  (∀ (s : State) (b : Fin 6) (raw : Nat) (dir : Bool) (vs ofs : Nat), hRuns s = true → brPwm s b = false →
    Runs (.bridgeCurrentLimit b raw dir vs ofs) s fun t => t.io = s.io ∧ sameWordsBut [(R.IOX_BR_I.id, b.val), (R.IOX_BR_VS.id, b.val)] s t) ∧
  (∀ (s : State) (b : Fin 6) (ofs : Nat), hRuns s = false ∨ (brDriven s b = false ∧ (brSt s b).forcedAt ≠ some s.time.elapsed) →
    exec (.bridgeShort b ofs) s = .next s)

/-! ### Chapter 8: the switch -/

/-- Frames that arrive (R228, R231, R234, R241). A first cell at an enabled port that is up, the switch running and no frame
arriving there, starts a frame, stored with its port, its octets as received and its length, or is counted as dropped with one
reason; a shorter frame than 64 octets is dropped with reason 0x0B. A further cell adds its octets, up to MAX_FRAME, to the
arriving frame. The frame's end lets the next frame arrive; a good one counts at its port, and so does one with a bad FCS.
With no frame arriving a further cell and an end change nothing. -/
def Obligations.ArrivingFramesComplete : Prop :=
  (∀ (s : State) (p : Fin 24) (octets : List Nat) (len : Nat) (sec : Option SecTag), swGated s p = false →
    s.flag F.SW_CTRL_EN 0 = true → portEn s p = true → portUp s p = true → arrivingAt s p = none →
    portConsumes s p (octets.take 64) = false →
    Runs (.frameFirstCell p octets len sec) s fun t =>
      (arrivingAt t p = some s.sw.next ∧ (frameSt t s.sw.next).ingress = p ∧
        (frameSt t s.sw.next).raw = (octets.take 64).take (s.get F.SW_PORT_HDRM_MAX_FRAME p) ∧
        (frameSt t s.sw.next).len = len ∧ (frameSt t s.sw.next).cells = 1) ∨
      (∃ c r, t.get F.SW_DROP_CNT (128 * p + 16 * c + r) = satInc (s.get F.SW_DROP_CNT (128 * p + 16 * c + r)) F.SW_DROP_CNT.top ∧
        r < 16 ∧ arrivingAt t p = none)) ∧
  (∀ (s : State) (p : Fin 24) (octets : List Nat) (len : Nat) (sec : Option SecTag), swGated s p = false →
    s.flag F.SW_CTRL_EN 0 = true → portEn s p = true → portUp s p = true → arrivingAt s p = none →
    portConsumes s p (octets.take 64) = false → len < 64 →
    Runs (.frameFirstCell p octets len sec) s fun t => t.sw.frames = s.sw.frames ∧
      t.get F.SW_DROP_CNT (128 * p + 16 * frameClass s p (s.get F.SW_PORT_PCP_DEF_PCP p) none + 0x0B) =
        satInc (s.get F.SW_DROP_CNT (128 * p + 16 * frameClass s p (s.get F.SW_PORT_PCP_DEF_PCP p) none + 0x0B)) F.SW_DROP_CNT.top) ∧
  (∀ (s : State) (p : Fin 24) (octets : List Nat) (len : Nat) (sec : Option SecTag), swGated s p = true ∨
    s.flag F.SW_CTRL_EN 0 = false ∨ portEn s p = false ∨ portUp s p = false ∨ arrivingAt s p ≠ none →
    exec (.frameFirstCell p octets len sec) s = .next s) ∧
  (∀ (s : State) (p : Fin 24) (octets : List Nat) (f : Nat), arrivingAt s p = some f → (frameSt s f).ended = false →
    (frameSt s f).cells < cellLimit s (frameSt s f) →
    Runs (.continuationCell p octets) s fun t => (frameSt t f).cells = (frameSt s f).cells + 1 ∧
      (frameSt t f).raw = ((frameSt s f).raw ++ octets.take 64).take (s.get F.SW_PORT_HDRM_MAX_FRAME (frameSt s f).ingress)) ∧
  (∀ (s : State) (p : Fin 24) (icv : List Nat) (f : Nat), arrivingAt s p = some f → (frameSt s f).ingress = p →
    Runs (.frameEnd p [] false icv) s fun t => arrivingAt t p = none ∧
      t.get F.EP_CNT_CNT (12 * p + 2) = satInc (s.get F.EP_CNT_CNT (12 * p + 2)) F.EP_CNT_CNT.top) ∧
  (∀ (s : State) (p : Fin 24) (octets : List Nat) (fcs : Bool) (icv : List Nat), arrivingAt s p = none →
    exec (.continuationCell p octets) s = .next s ∧ exec (.frameEnd p octets fcs icv) s = .next s) ∧
  (∀ (s : State) (p : Fin 24) (icv : List Nat) (f : Nat), arrivingAt s p = some f → (frameSt s f).ingress = p →
    (frameSt s f).len ≤ s.get F.SW_PORT_HDRM_MAX_FRAME p → msecVerifies s p = false →
    Runs (.frameEnd p [] true icv) s fun t => arrivingAt t p = none ∧
      t.get F.EP_CNT_CNT (12 * p) = satInc (s.get F.EP_CNT_CNT (12 * p)) F.EP_CNT_CNT.top)

/-- Copies (R238, R241, R242, R248, R261). The one copy that asks to cross crosses by one cell in a slot, where none is over age;
with no copy in the switch a slot changes nothing. A selected copy, once its port's over-age copies are gone, is in
transmission; with none selected only those go. A copy whose last byte has left is gone and counted. The first over-age copy
of a queue is discarded and counted; a queue without one, and every queue of a port that does not discard, is kept. A
corrected buffer error counts with FS262; an uncorrectable one with FS263, and the copy in transmission ends there. -/
def Obligations.CopiesComplete : Prop :=
  (∀ s : State, liveCopies s = [] → exec .cellSlot s = .next s) ∧
  (∀ (s : State) (f : Nat) (x : SwFrame) (c : SwCopy), crossing s = [(f, x, c)] → lockedPairs s = [] → frameSt s f = x →
    (∀ y ∈ liveCopies s, overAge s y.2.2.port y.2.1 = false) →
    copyOf s f c.port = some c → c.crossed = 0 → x.ingress < 24 → c.port < 24 → x.cls < 8 →
    Runs .cellSlot s fun t => (copyOf t f c.port).map (·.crossed) = some 1) ∧
  (∀ (s : State) (e : Fin 24) (c : Fin 8) (v : Option (Fin 24)), s.flag F.SW_PORT_AGE_DISCARD_AGE e = false →
    exec (.copyAged e c v) s = .next s) ∧
  (∀ (s : State) (e : Fin 24) (c : Fin 8) (v : Option (Fin 24)) (x : Nat × SwFrame × SwCopy) (l : List (Nat × SwFrame × SwCopy)),
    agedHeads s e (match v with | some i => voq s i e c | none => egressQueue s e c) = x :: l → (copyOf s x.1 e).isSome = true →
    Runs (.copyAged e c v) s fun t => copyOf t x.1 e = none ∧
      t.get F.SW_DROP_CNT (128 * e + 16 * (frameSt s x.1).cls + (if x.2.2.opened then 0x07 else 0x0D)) =
        satInc (s.get F.SW_DROP_CNT (128 * e + 16 * (frameSt s x.1).cls + (if x.2.2.opened then 0x07 else 0x0D))) F.SW_DROP_CNT.top) ∧
  (∀ (s u : State) (e : Fin 24) (f : Nat), u = ageEgress e (cbsSettleAll e s) → txCopy u e = none → portUp u e = true →
    swGated u e = false → selectCopy u e = some f → (copyOf u f e).isSome = true →
    Runs (.transmitSelection e) s fun t => (copyOf t f e).map (·.st) = some 2) ∧
  (∀ (s : State) (e : Fin 24) (f : Nat) (x : SwFrame) (c : SwCopy), txCopy s e = some (f, x, c) → x.ended = true →
    c.crossed = x.cells → e.val < 20 → (copyOf s f e).isSome = true →
    Runs (.copyTransmitDone e) s fun t => copyOf t f e = none ∧
      t.get F.EP_CNT_CNT (12 * e + 1) = satInc (s.get F.EP_CNT_CNT (12 * e + 1)) F.EP_CNT_CNT.top) ∧
  (∀ (s : State) (e : Fin 24) (cell : Nat), Runs (.bufferEccError e cell .corrected) s fun t =>
    t.get F.SW_ECC_CE_CNT 0 = satInc (s.get F.SW_ECC_CE_CNT 0) F.SW_ECC_CE_CNT.top ∧ tocPending t 262 = true ∧ t.sw = s.sw) ∧
  (∀ (s : State) (e : Fin 24) (cell : Nat) (k : BufErr), k ≠ .corrected → txCopy s e = none →
    Runs (.bufferEccError e cell k) s fun t =>
      t.get F.SW_ECC_UE_CNT 0 = satInc (s.get F.SW_ECC_UE_CNT 0) F.SW_ECC_UE_CNT.top ∧ tocPending t 263 = true ∧
      t.sw.frames = s.sw.frames ∧ (k = .link → t.sw.struck = true)) ∧
  (∀ (s u : State) (e : Fin 24), u = ageEgress e (cbsSettleAll e s) →
    txCopy u e ≠ none ∨ portUp u e = false ∨ swGated u e = true ∨ selectCopy u e = none → exec (.transmitSelection e) s = .next u) ∧
  (∀ (s : State) (e : Fin 24) (c : Fin 8) (v : Option (Fin 24)),
    agedHeads s e (match v with | some i => voq s i e c | none => egressQueue s e c) = [] → exec (.copyAged e c v) s = .next s) ∧
  (∀ (s : State) (e : Fin 24) (cell : Nat) (k : BufErr) (f : Nat) (x : SwFrame) (c : SwCopy), k ≠ .corrected →
    txCopy s e = some (f, x, c) → (copyOf s f e).isSome = true →
    Runs (.bufferEccError e cell k) s fun t => copyOf t f e = none ∧ tocPending t 263 = true)

/-- The forwarding database (R227, R249, R252). A scan clears HIT of every entry, keeps a static one, and removes a dynamic one
that two scans found idle. An admitted command that finds no other running (GO = 0) acts by its OP: a lookup, a deletion and a
read by index answer the entry or result 1; an insertion stores the entry at the key's place in its bucket; a flush removes
exactly the dynamic entries of the FID, or of the port. CLR_PEAK sets every PEAK to the present OCC. -/
def Obligations.ForwardingDatabaseComplete : Prop :=
  (∀ s : State, s.get F.SW_FDB_CFG_AGE_S 0 = 0 → exec .fdbAgeScan s = .next s) ∧
  (∀ s : State, s.get F.SW_FDB_CFG_AGE_S 0 ≠ 0 → (s.sw.fdb.map (·.1)).Nodup →
    Runs .fdbAgeScan s fun t => ∀ i x, fdbEnt s i = some x → fdbEnt t i =
      if x.static then some { x with hit := false } else if 2 ≤ x.idle then none
      else some { x with hit := false, idle := x.idle + 1 }) ∧
  (∀ (s : State) (init : Init) (v : Word), Admitted init (R.SW_FDB_CMD.addr 0) s → s.flag F.SW_FDB_CMD_GO 0 = false →
    (∀ i x, fdbFind s (fdbKey s).1 (fdbKey s).2 = some i → fdbEnt s i = some x →
      (Runs (.fdbLookup init v) s fun t => t.get F.SW_FDB_STAT_RESULT 0 = 0 ∧ t.get F.SW_FDB_STAT_INDEX 0 = i ∧
        t.get F.SW_FDB_DATA_PORTS 0 = x.ports % 2 ^ 24 ∧ t.sw = s.sw) ∧
      Runs (.fdbDelete init v) s fun t => t.get F.SW_FDB_STAT_RESULT 0 = 0 ∧ fdbEnt t i = none ∧
        ∀ j, j ≠ i → fdbEnt t j = fdbEnt s j) ∧
    (fdbFind s (fdbKey s).1 (fdbKey s).2 = none →
      (Runs (.fdbLookup init v) s fun t => t.get F.SW_FDB_STAT_RESULT 0 = 1 ∧ t.sw = s.sw) ∧
      Runs (.fdbDelete init v) s fun t => t.get F.SW_FDB_STAT_RESULT 0 = 1 ∧ t.sw = s.sw) ∧
    (∀ i, isBcast (fdbKey s).2 = false →
      (if isGroup (fdbKey s).2 then s.get F.SW_FDB_DATA_PORTS 0 != 0 else oneBit (s.get F.SW_FDB_DATA_PORTS 0)) = true →
      fdbFind s (fdbKey s).1 (fdbKey s).2 = none → fdbFree s (fdbKey s).1 (fdbKey s).2 = some i →
      (Runs (.fdbInsertStatic init v) s fun t => t.get F.SW_FDB_STAT_RESULT 0 = 0 ∧
        fdbEnt t i = some ⟨(fdbKey s).1, (fdbKey s).2, true, false, s.get F.SW_FDB_DATA_PORTS 0, 0⟩ ∧ ∀ j, j ≠ i → fdbEnt t j = fdbEnt s j) ∧
      Runs (.fdbInsertDynamic init v) s fun t => t.get F.SW_FDB_STAT_RESULT 0 = 0 ∧
        fdbEnt t i = some ⟨(fdbKey s).1, (fdbKey s).2, false, false, s.get F.SW_FDB_DATA_PORTS 0, 0⟩ ∧ ∀ j, j ≠ i → fdbEnt t j = fdbEnt s j) ∧
    ((s.sw.fdb.map (·.1)).Nodup →
      (Runs (.fdbFlushFid init v) s fun t => t.get F.SW_FDB_STAT_RESULT 0 = 0 ∧ ∀ i x, fdbEnt s i = some x →
        fdbEnt t i = if x.static = false ∧ x.fid = (fdbKey s).1 then none else some x) ∧
      Runs (.fdbFlushPort init v) s fun t => t.get F.SW_FDB_STAT_RESULT 0 = 0 ∧ ∀ i x, fdbEnt s i = some x →
        fdbEnt t i = if x.static = false ∧ bitOf x.ports (bitsOf v.toNat 20 16) = true then none else some x) ∧
    (∀ x, fdbEnt s (bitsOf v.toNat 13 0) = some x → Runs (.fdbReadIndex init v) s fun t => t.get F.SW_FDB_STAT_RESULT 0 = 0 ∧
      t.get F.SW_FDB_STAT_INDEX 0 = bitsOf v.toNat 13 0 ∧ t.get F.SW_FDB_DATA_PORTS 0 = x.ports % 2 ^ 24 ∧ t.sw = s.sw) ∧
    (fdbEnt s (bitsOf v.toNat 13 0) = none → Runs (.fdbReadIndex init v) s fun t => t.get F.SW_FDB_STAT_RESULT 0 = 1 ∧ t.sw = s.sw)) ∧
  (∀ (s : State) (init : Init) (v : Word), Admitted init (R.SW_CTRL.addr 0) s → bitOf v.toNat 0 = true →
    Runs (.clrPeak init v) s fun t => ∀ q, q < 192 → t.get F.SW_Q_PEAK_PEAK q = s.get F.SW_Q_OCC_OCC q)

/-! ### Chapter 9: the ports -/

/-- Links of the ports (R257, R258). LINK_UP of an enabled port that is down, not in a test mode, not asleep, not under PRBS and
clocked shows the link with its quality; LINK_DOWN clears it and counts where the port is enabled. A PLCA node that loses its
beacon falls back with FS283 and returns with the next beacon.
Gates, shaping and recovery (R262 to R264, R267, R270, R272). An entry's end moves to the next entry; a cycle starts at the
present network time; a pending list that is due is adopted. An admitted CHANGE makes the administrative list pending, or is
refused with CFG_ERR and FS273 where its cycle is 0. An admitted slope with EN = 0 clears the credit. A stream gate's entry
ends, or its cycle starts. A recovery function that resets accepts the next number. -/
def Obligations.LinksAndGatesComplete : Prop :=
  ((∀ (s : State) (p : Fin 24) (sp : Fin 4) (leader : Bool) (sqi : Fin 8), p.val < 20 → portUp s p = false → portEn s p = true →
    s.get F.EP_TEST_MODE p = 0 → s.get F.EP_STAT_TC10_STATE p ≠ 3 → s.bist.prbs ≠ some (0, p.val) → s.get F.CLK_DOM_SRC 14 ≠ 2 →
    Runs (.linkUp p sp leader sqi) s fun t => t.get F.EP_STAT_LINK_UP p = 1 ∧ t.get F.SW_PORT_STAT_LINK_UP p = 1 ∧
      t.get F.EP_STAT_SQI p = sqi ∧ t.get F.SW_PORT_STAT_FLUSHING p = 0 ∧ t.get F.EP_EVT_LINK_CHG p = 1) ∧
  (∀ (s : State) (p : Fin 24) (sp : Fin 4) (leader : Bool) (sqi : Fin 8), 20 ≤ p.val ∨ portUp s p = true ∨ portEn s p = false →
    exec (.linkUp p sp leader sqi) s = .next s) ∧
  (∀ (s : State) (p : Fin 24), p.val < 20 → portUp s p = true →
    Runs (.linkDown p) s fun t => t.get F.EP_STAT_LINK_UP p = 0 ∧
      t.get F.EP_STAT_DOWN_CNT p = (if portEn s p then satInc (s.get F.EP_STAT_DOWN_CNT p) F.EP_STAT_DOWN_CNT.top
        else s.get F.EP_STAT_DOWN_CNT p)) ∧
  (∀ (s : State) (p : Fin 24), 20 ≤ p.val ∨ portUp s p = false → exec (.linkDown p) s = .next s) ∧
  (∀ (s : State) (p : Fin 24), plcaOn s p = true → (epSt s p).noBeacon = false →
    Runs (.plcaLost p) s fun t => (epSt t p).noBeacon = true ∧ t.get F.EP_EVT_PLCA_LOST p = 1 ∧ tocPending t 283 = true) ∧
  (∀ (s : State) (p : Fin 24), plcaOn s p = false ∨ (epSt s p).noBeacon = true → exec (.plcaLost p) s = .next s) ∧
  (∀ (s : State) (p : Fin 24), Runs (.plcaBeacon p) s fun t => (epSt t p).noBeacon = false ∧ t = { s with ports := t.ports } ∧
    ∀ q, q ≠ p.val → epSt t q = epSt s q)) ∧
  ((∀ (s : State) (p : Fin 24) (j : Nat), (epSt s p).hold = false →
    nextEntry (epSt s p).oper.list (s.get F.EP_GCL_STAT_IDX p + 1) = some j →
    Runs (.gateEntrySwitch p 0) s fun t => t.get F.EP_GCL_STAT_IDX p = j % 256 ∧
      (epSt t p).entryEnd = (epSt s p).entryEnd + interval ((epSt s p).oper.list.getD j 0)) ∧
  (∀ (s : State) (p : Fin 24), (epSt s p).hold = true ∨
    nextEntry (epSt s p).oper.list (s.get F.EP_GCL_STAT_IDX p + 1) = none → exec (.gateEntrySwitch p 0) s = .next s) ∧
  (∀ (s : State) (p : Fin 24), (epSt s p).oper.beatLock = false →
    Runs (.gateEntrySwitch p 1) s fun t => (epSt t p).cycleAt = s.nowNs ∧ (epSt t p).hold = false ∧
      (epSt t p).oper = (epSt s p).oper) ∧
  (∀ (s : State) (p : Fin 24) (g : Gcl), (epSt s p).pend = some g → g.beatLock = false → g.base ≤ s.nowNs →
    gclSetup ≤ s.time.mono - (epSt s p).pendAt →
    Runs (.gateEntrySwitch p 2) s fun t => (epSt t p).oper = g ∧ (epSt t p).pend = none ∧ (epSt t p).cycleAt = s.nowNs ∧ t.get F.EP_GCL_STAT_PENDING p = 0) ∧
  (∀ (s : State) (p : Fin 24) (init : Init) (v : Word), Admitted init (R.EP_GCL_CTRL.addr p) s → bitOf v.toNat 29 = true →
    bitOf v.toNat 30 = true ∨ s.get F.EP_GCL_CYCLE_CYCLE_NS p ≠ 0 →
    Runs (.gclChange p init v) s fun t => t.get F.EP_GCL_STAT_PENDING p = 1 ∧ (epSt t p).pend.isSome = true ∧
      (epSt t p).pendBeats = 0) ∧
  (∀ (s : State) (p : Fin 24) (init : Init) (v : Word), Admitted init (R.EP_GCL_CTRL.addr p) s → bitOf v.toNat 29 = true →
    bitOf v.toNat 30 = false → s.get F.EP_GCL_CYCLE_CYCLE_NS p = 0 →
    Runs (.gclChange p init v) s fun t => t.get F.EP_GCL_STAT_CFG_ERR p = 1 ∧ tocPending t 273 = true ∧
      (epSt t p).pend = (epSt s p).pend) ∧
  (∀ (s : State) (p : Fin 24) (c : Fin 8) (init : Init) (v : Word), Admitted init (R.EP_CBS_SLOPE.addr (8 * p + c)) s →
    Runs (.cbsSlope p c init v) s fun t => t.get F.EP_CBS_SLOPE_EN (8 * p + c) = bitsOf v.toNat 31 31 ∧
      t.get F.EP_CBS_SLOPE_IDLE (8 * p + c) = bitsOf v.toNat 24 0 ∧
      (bitOf v.toNat 31 = false → (cbsSt t p c).credit = 0 ∧ t.get F.EP_CBS_CREDIT_VALUE (8 * p + c) = 0)) ∧
  (∀ (s : State) (g : Fin 127), tblBits s 1 g 0 31 31 = 1 → tblBits s 1 g 0 30 30 = 0 → tblBits s 1 g 1 31 0 ≠ 0 →
    Runs (.streamGateEntrySwitch g true) s fun t => (sgSt t g).cycleAt = s.nowNs ∧ t = { s with ports := t.ports }) ∧
  (∀ (s : State) (g : Fin 127) (j : Nat), tblBits s 1 g 0 31 31 = 1 → nextEntry (sgSt s g).list ((sgSt s g).idx + 1) = some j →
    Runs (.streamGateEntrySwitch g false) s fun t => (sgSt t g).idx = j ∧ t = { s with ports := t.ports } ∧
      (sgSt t g).entryEnd = (sgSt s g).entryEnd + interval ((sgSt s g).list.getD j 0)) ∧
  (∀ (s : State) (k : Fin 64), tblBits s 4 k 0 31 31 = 1 →
    Runs (.frerReset k) s fun t => (frerSt t k).hist = 0 ∧ (frerSt t k).any = true ∧
      (frerSt t k).resets = (frerSt s k).resets + 1 ∧ tocPending t 277 = true) ∧
  (∀ (s : State) (k : Fin 64), tblBits s 4 k 0 31 31 = 0 → exec (.frerReset k) s = .next s))

/-- MACsec keys, tests and tables (R277, R279, R284). An admitted key write loads a MACsec key that the port's partition may use
and validates the SA; handle 0x3F clears it; any other key leaves it not valid with KEY_REF and FS282. A test mode that the
port's clause defines, or 0, is taken in dictionary mode SERVICE; another value, and any write in another mode, is ignored. A
table read answers the entry in its four data words, a table write stores a legal value field by field, where a stream gate's
OPEN_NOW shows its list; an index that does not exist answers result 1, an unusable value result 2. -/
def Obligations.KeysAndTablesComplete : Prop :=
  (∀ (s : State) (p : Fin 24) (sa : Fin 36) (init : Init) (v : Word), Admitted init (saAddr p sa) s → p.val < 6 →
    getBits v 5 0 ≠ 0x3F → keyUse s (asgOf s 3 p) (getBits v 5 0) 5 = 0 → (keySlot s (getBits v 5 0)).kind = 6 →
    Runs (.saKey p sa init v) s fun t => tget none (epSt t p).keys sa = some (getBits v 5 0, beOct (keySlot s (getBits v 5 0)).material 44) ∧
      (if sa.val < 4 then t.get F.EP_TXSA_CTRL_VALID (4 * p + sa) = 1 else t.get F.EP_RXSA_CTRL_VALID (32 * p + (sa - 4)) = 1)) ∧
  (∀ (s : State) (p : Fin 24) (sa : Fin 36) (init : Init) (v : Word), Admitted init (saAddr p sa) s → p.val < 6 →
    getBits v 5 0 = 0x3F →
    Runs (.saKey p sa init v) s fun t => tget none (epSt t p).keys sa = none ∧
      (if sa.val < 4 then t.get F.EP_TXSA_CTRL_VALID (4 * p + sa) = 0 else t.get F.EP_RXSA_CTRL_VALID (32 * p + (sa - 4)) = 0)) ∧
  (∀ (s : State) (p : Fin 24) (sa : Fin 36) (init : Init) (v : Word), Admitted init (saAddr p sa) s → p.val < 6 →
    getBits v 5 0 ≠ 0x3F → keyUse s (asgOf s 3 p) (getBits v 5 0) 5 ≠ 0 ∨ (keySlot s (getBits v 5 0)).kind ≠ 6 →
    Runs (.saKey p sa init v) s fun t => tget none (epSt t p).keys sa = none ∧ tocPending t 282 = true ∧
      t.get F.EP_EVT_KEY_REF p = 1 ∧
      (if sa.val < 4 then t.get F.EP_TXSA_CTRL_VALID (4 * p + sa) = 0 else t.get F.EP_RXSA_CTRL_VALID (32 * p + (sa - 4)) = 0)) ∧
  (∀ (s : State) (p : Fin 24) (init : Init) (v : Word), Admitted init (R.EP_TEST.addr p) s → s.get F.DICT_MODE_MODE 0 = 3 →
    p.val < 20 → getBits v 31 28 = 0 ∨ (getBits v 31 28 ≤ 7 ∧ Config.testMode p (getBits v 31 28) = true) →
    Runs (.epTest p init v) s fun t => t.get F.EP_TEST_MODE p = getBits v 31 28) ∧
  (∀ (s : State) (p : Fin 24) (init : Init) (v : Word), Admitted init (R.EP_TEST.addr p) s → s.get F.DICT_MODE_MODE 0 ≠ 3 →
    exec (.epTest p init v) s = .next s) ∧
  (∀ (s : State) (p : Fin 24) (init : Init) (v : Word), Admitted init (R.EP_TEST.addr p) s → 20 ≤ p.val ∨
    (getBits v 31 28 ≠ 0 ∧ (7 < getBits v 31 28 ∨ Config.testMode p (getBits v 31 28) = false)) →
    exec (.epTest p init v) s = .next s) ∧
  (∀ (s : State) (p : Fin 24) (init : Init) (v : Word), Admitted init (R.EP_TBL_CMD.addr p) s →
    getBits v 12 0 < tblSize (getBits v 29 27) →
    Runs (.tableRead p init v) s fun t => t.get F.EP_TBL_STAT_RESULT p = 0 ∧ t.get F.EP_TBL_STAT_DONE p = 1 ∧ t.ports = s.ports ∧
      ∀ w, w < 4 → (t.rd R.EP_TBL_DATA (4 * p + w)).toNat =
        tblGet s (getBits v 29 27) (getBits v 12 0) / 2 ^ (32 * w) % 2 ^ 32) ∧
  (∀ (s : State) (p : Fin 24) (init : Init) (v : Word), Admitted init (R.EP_TBL_CMD.addr p) s →
    tblSize (getBits v 29 27) ≤ getBits v 12 0 →
    (Runs (.tableRead p init v) s fun t => t.get F.EP_TBL_STAT_RESULT p = 1 ∧ t.ports = s.ports) ∧
    Runs (.tableWrite p init v) s fun t => t.get F.EP_TBL_STAT_RESULT p = 1 ∧ t.ports = s.ports) ∧
  (∀ (s : State) (p : Fin 24) (init : Init) (v : Word), Admitted init (R.EP_TBL_CMD.addr p) s →
    getBits v 12 0 < tblSize (getBits v 29 27) → tblValueOk (getBits v 29 27) (tblData s p) = true →
    Runs (.tableWrite p init v) s fun t => t.get F.EP_TBL_STAT_RESULT p = 0 ∧ t.get F.EP_TBL_STAT_DONE p = 1 ∧
      tblGet t (getBits v 29 27) (getBits v 12 0) =
        if getBits v 29 27 = 1 then openNow s (getBits v 12 0) (tblMerged s p (getBits v 29 27) (getBits v 12 0))
        else tblMerged s p (getBits v 29 27) (getBits v 12 0)) ∧
  (∀ (s : State) (p : Fin 24) (init : Init) (v : Word), Admitted init (R.EP_TBL_CMD.addr p) s →
    getBits v 12 0 < tblSize (getBits v 29 27) → tblValueOk (getBits v 29 27) (tblData s p) = false →
    Runs (.tableWrite p init v) s fun t => t.get F.EP_TBL_STAT_RESULT p = 2 ∧ t.ports = s.ports)

/-- Sleep and wake over the medium (R278). A sleep request of a port that takes part drains it, or requests sleep at once where
nothing is left; the peer's acknowledgement and a drain that takes too long put the port to sleep, the latter with FS284. A
wake ends any of these states, counted as a wake from sleep or as a refused request; in DEEP_SLEEP only an armed port wakes
the device. A wake request goes out on the medium. -/
def Obligations.Tc10Complete : Prop :=
  (∀ (s : State) (p : Fin 20) (init : Init) (v : Word), Admitted init (R.EP_TC10.addr p) s → s.bootLocked = true →
    s.flag F.EP_TC10_EN p = true → bitOf v.toNat 30 = true → s.get F.EP_STAT_TC10_STATE p = 0 →
    Runs (.tc10SleepReq p init v) s fun t => t.get F.EP_TC10_SLEEP_REQ p = 1 ∧
      t.get F.EP_STAT_TC10_STATE p = (if (liveCopies s).any (fun x => x.2.2.port == p && x.2.2.st != 0) then 1 else 2)) ∧
  (∀ (s : State) (p : Fin 20) (init : Init) (v : Word), Admitted init (R.EP_TC10.addr p) s → s.bootLocked = true →
    s.flag F.EP_TC10_EN p = true → bitOf v.toNat 30 = false → bitOf v.toNat 29 = true →
    Runs (.tc10WakeReq p init v) s fun t => t.out = s.out ++ [.pin 3 p 0] ∧ t.get F.EP_TC10_WAKE_REQ p = 0 ∧
      sameWordsBut [(R.EP_TC10.id, p.val)] s t) ∧
  (∀ (s : State) (p : Fin 20), s.get F.EP_STAT_TC10_STATE p = 2 →
    Runs (.tc10SleepAck p) s fun t => t.get F.EP_STAT_TC10_STATE p = 3 ∧ t.get F.EP_TC10_SLEEP_REQ p = 0) ∧
  (∀ (s : State) (p : Fin 20), s.get F.EP_STAT_TC10_STATE p ≠ 2 → exec (.tc10SleepAck p) s = .next s) ∧
  (∀ (s : State) (p : Fin 20), s.get F.EP_STAT_TC10_STATE p = 1 →
    Runs (.tc10DrainTimeout p) s fun t => t.get F.EP_STAT_TC10_STATE p = 3 ∧ t.get F.EP_EVT_SLEEP_FORCED p = 1 ∧
      tocPending t 284 = true) ∧
  (∀ (s : State) (p : Fin 20), s.get F.EP_STAT_TC10_STATE p ≠ 1 → exec (.tc10DrainTimeout p) s = .next s) ∧
  (∀ (s : State) (p : Fin 20) (ticks : Nat), s.pm.phase ≠ 2 → s.flag F.EP_TC10_EN p = true →
    s.get F.EP_STAT_TC10_STATE p = 1 ∨ s.get F.EP_STAT_TC10_STATE p = 2 →
    Runs (.tc10WakeRx p ticks) s fun t => t.get F.EP_STAT_TC10_STATE p = 0 ∧ t.get F.EP_TC10_SLEEP_REQ p = 0 ∧
      t.get F.EP_CNT_CNT (12 * p + 10) = satInc (s.get F.EP_CNT_CNT (12 * p + 10)) F.EP_CNT_CNT.top) ∧
  (∀ (s : State) (p : Fin 20) (ticks : Nat), s.pm.phase ≠ 2 → s.flag F.EP_TC10_EN p = true → s.get F.EP_STAT_TC10_STATE p = 3 →
    s.flag F.EP_TC10_WAKE_DS p = false →
    Runs (.tc10WakeRx p ticks) s fun t => t.get F.EP_STAT_TC10_STATE p = 0 ∧
      t.get F.EP_CNT_CNT (12 * p + 11) = satInc (s.get F.EP_CNT_CNT (12 * p + 11)) F.EP_CNT_CNT.top) ∧
  (∀ (s : State) (p : Fin 20) (ticks : Nat), s.pm.phase = 2 → p.val ∉ s.pm.tc10 → exec (.tc10WakeRx p ticks) s = .next s) ∧
  (∀ (s : State) (p : Fin 20) (ticks : Nat), s.pm.phase = 2 → p.val ∈ s.pm.tc10 → s.flag F.KN_STAT_HALT 0 = false →
    wakeEnabled s 4 p = true → pmMode s = modeDeep → s.pm.caused = false →
    Runs (.tc10WakeRx p ticks) s fun t => t.pm.caused = true ∧ t.pm.irqWait = true ∧
      t.get F.GONG_CAUSE_KIND 0 = 4 ∧ t.get F.GONG_CAUSE_INDEX 0 = p.val)

/-! ### Chapter 10: time -/

/-- Time registers (R289 to R293). An admitted write by an initiator that may set the time: TIME_INC takes the value held in its
range, with INC_CLAMP and FS354 where it was clamped; TIME_STEP queues an offset that is not 0; LOCK makes the state SYNCED,
UNLOCK and a keepalive timeout take SYNCED to HOLDOVER; KEEP leaves the state alone. A write by any other initiator leaves the
time unit as it was. TIME_NOW_FRAC latches the time, at a fenced port nothing.
The handover of the time master (R304, R305). A request that is pending ends in TIMEOUT with FS358; a REQUEST of the peer is
shown with its SEQ; a GRANT or a REFUSE with the pending request's SEQ ends it; a REQUEST or COLLIDE meanwhile is a collision,
which the lower CLOCKID wins and equal ones lose with FS357. A frame that fails MACsec moves nothing. Admitted commands of an
initiator that may set the time queue one answer to the peer's request in class 7 while the port is up, leaving the state
alone, and start a request of the port's own. Without EN a frame changes nothing. -/
def Obligations.TimeComplete : Prop :=
  ((∀ (s : State) (init : Init) (v : Word), Admitted init (R.TIME_INC_HI.addr 0) s → timeMay s init = true →
    Runs (.timeInc init v) s fun t =>
      t.get64 R.TIME_INC_LO R.TIME_INC_HI 0 =
        max 0x01F0000000 (min 0x0210000000 (getBits v 7 0 * 2 ^ 32 + (staged s R.TIME_INC_LO 0).toNat)) ∧
      (t.get64 R.TIME_INC_LO R.TIME_INC_HI 0 ≠ getBits v 7 0 * 2 ^ 32 + (staged s R.TIME_INC_LO 0).toNat →
        t.get F.TIME_STAT_INC_CLAMP 0 = 1 ∧ tocPending t 354 = true)) ∧
  (∀ (s : State) (init : Init) (v : Word), Admitted init (R.TIME_INC_HI.addr 0) s → timeMay s init = false →
    Runs (.timeInc init v) s fun t => t.time = s.time ∧ t.get64 R.TIME_INC_LO R.TIME_INC_HI 0 = s.get64 R.TIME_INC_LO R.TIME_INC_HI 0) ∧
  (∀ (s : State) (init : Init) (v : Word), Admitted init (R.TIME_STEP_HI.addr 0) s → timeMay s init = true →
    Runs (.timeStep init v) s fun t => t.time.steps = s.time.steps ++
      (if toSigned 64 ((staged s R.TIME_STEP_LO 0).toNat + v.toNat * 2 ^ 32) * 2 ^ 32 + (staged s R.TIME_STEP_FRAC 0).toNat = 0 then []
       else [toSigned 64 ((staged s R.TIME_STEP_LO 0).toNat + v.toNat * 2 ^ 32) * 2 ^ 32 + (staged s R.TIME_STEP_FRAC 0).toNat])) ∧
  (∀ (s : State) (init : Init), fenced s 0x030 = false →
    Runs (.timeNowFrac init) s fun t => (t.rd R.TIME_NOW_FRAC 0).toNat = s.time.now % 2 ^ 32 ∧
      t.get64 R.TIME_NOW_LO R.TIME_NOW_HI 0 = s.nowNs % 2 ^ 64 ∧ t.time = s.time) ∧
  (∀ (s : State) (init : Init), fenced s 0x030 = true →
    Runs (.timeNowFrac init) s fun t => (portSt t 0x030).treset = satInc (portSt s 0x030).treset 0xFFFF ∧ t.regs = s.regs) ∧
  (∀ (s : State) (init : Init) (v : Word), Admitted init (R.TIME_CTRL.addr 0) s → timeMay s init = true → bitOf v.toNat 31 = true →
    s.flag F.TIME_STAT_CLK_FALLBACK 0 = false →
    Runs (.timeLock init v) s fun t => t.get F.TIME_STAT_STATE 0 = syncSynced ∧ t.get F.TIME_STAT_HO_CAUSE 0 = 0) ∧
  (∀ (s : State) (init : Init) (v : Word), Admitted init (R.TIME_CTRL.addr 0) s → timeMay s init = true → bitOf v.toNat 31 = false →
    bitOf v.toNat 30 = true → s.get F.TIME_STAT_STATE 0 = syncSynced →
    Runs (.timeUnlock init v) s fun t => t.get F.TIME_STAT_STATE 0 = syncHoldover ∧ t.get F.TIME_STAT_HO_CAUSE 0 = 2 ∧
      tocPending t 352 = true) ∧
  (∀ (s : State) (init : Init) (v : Word), Admitted init (R.TIME_CTRL.addr 0) s → timeMay s init = true → bitOf v.toNat 31 = false →
    bitOf v.toNat 30 = false → Runs (.timeKeep init v) s fun t => t.rd R.TIME_STAT 0 = s.rd R.TIME_STAT 0 ∧
      t.get F.TIME_CTRL_KEEP 0 = 0 ∧ t.time = s.time ∧ sameWordsBut [(R.TIME_CTRL.id, 0)] s t) ∧
  (∀ s : State, s.get F.TIME_CTRL_SYNC_TMO 0 ≠ 0 → s.get F.TIME_STAT_STATE 0 = syncSynced →
    Runs .keepaliveTimeout s fun t => t.get F.TIME_STAT_STATE 0 = syncHoldover ∧ t.get F.TIME_STAT_HO_CAUSE 0 = 1 ∧
      t.time.entries = satInc s.time.entries (2 ^ 32 - 1) ∧ tocPending t 352 = true) ∧
  (∀ s : State, s.get F.TIME_CTRL_SYNC_TMO 0 = 0 ∨ s.get F.TIME_STAT_STATE 0 ≠ syncSynced →
    exec .keepaliveTimeout s = .next s)) ∧
  ((∀ (s : State) (k : Fin 2), hoState s k = 1 →
    Runs (.handoverTimeout k) s fun t => hoState t k = 4 ∧ tocPending t 358 = true ∧ t.time = s.time) ∧
  (∀ (s : State) (k : Fin 2), hoState s k ≠ 1 → exec (.handoverTimeout k) s = .next s) ∧
  (∀ (s : State) (k : Fin 2) (seq : Nat) (h : HoPeer), s.flag F.TIME_HO_CTRL_EN k = true → portUp s k = true →
    hoState s k ≠ 1 → (hoVerify k 1 seq h s).1 = true →
    Runs (.handoverFrameRx k 1 seq h) s fun t => hoState t k = 7 ∧ (hoSt t k).peerSeq = seq % 65536 ∧
      t.get64 R.TIME_HO_PEER_LO R.TIME_HO_PEER_HI k = h.clockId % 2 ^ 64 ∧
      t.get F.EP_CNT_CNT (12 * k) = satInc (s.get F.EP_CNT_CNT (12 * k)) F.EP_CNT_CNT.top) ∧
  (∀ (s : State) (k : Fin 2) (msg : Nat) (h : HoPeer), s.flag F.TIME_HO_CTRL_EN k = true → portUp s k = true →
    hoState s k = 1 → msg = 2 ∨ msg = 3 → (hoVerify k msg (s.get F.TIME_HO_STAT_SEQ k) h s).1 = true →
    Runs (.handoverFrameRx k msg (s.get F.TIME_HO_STAT_SEQ k) h) s fun t => hoState t k = msg) ∧
  (∀ (s : State) (k : Fin 2) (msg seq : Nat) (h : HoPeer), s.flag F.TIME_HO_CTRL_EN k = true → portUp s k = true →
    hoState s k = 1 → msg = 1 ∨ msg = 4 → (hoVerify k msg seq h s).1 = true →
    Runs (.handoverFrameRx k msg seq h) s fun t => (hoSt t k).collided = true ∧
      hoState t k = (if s.get64 R.TIME_CLKID_LO R.TIME_CLKID_HI 0 < h.clockId % 2 ^ 64 then 5 else 6) ∧
      (s.get64 R.TIME_CLKID_LO R.TIME_CLKID_HI 0 = h.clockId % 2 ^ 64 →
        t.get F.TIME_HO_STAT_EQUAL_ID k = 1 ∧ tocPending t 357 = true)) ∧
  (∀ (s : State) (k : Fin 2) (msg seq : Nat) (h : HoPeer), s.flag F.TIME_HO_CTRL_EN k = true → portUp s k = true →
    (hoVerify k msg seq h s).1 = false →
    Runs (.handoverFrameRx k msg seq h) s fun t => hoState t k = hoState s k ∧ t.time = s.time) ∧
  (∀ (s : State) (k : Fin 2) (msg seq : Nat) (h : HoPeer), s.flag F.TIME_HO_CTRL_EN k = false ∨ portUp s k = false →
    exec (.handoverFrameRx k msg seq h) s = .next s) ∧
  (∀ (s : State) (k : Fin 2) (init : Init) (v : Word), Admitted init (R.TIME_HO_CTRL.addr k) s → timeMay s init = true →
    s.bootLocked = true → s.flag F.TIME_HO_CTRL_EN k = true → hoState s k = 7 → portUp s k = true → bitOf v.toNat 30 = false →
    (bitOf v.toNat 29 = true → Runs (.handoverGrant k init v) s fun t => hoState t k = 7 ∧ HoQueued s t k 2 (hoSt s k).peerSeq) ∧
    (bitOf v.toNat 29 = false → bitOf v.toNat 28 = true →
      Runs (.handoverRefuse k init v) s fun t => hoState t k = 7 ∧ HoQueued s t k 3 (hoSt s k).peerSeq)) ∧
  (∀ (s : State) (k : Fin 2) (init : Init) (v : Word), Admitted init (R.TIME_HO_CTRL.addr k) s → timeMay s init = true →
    s.bootLocked = true → s.flag F.TIME_HO_CTRL_EN k = true → hoState s k = 0 → bitOf v.toNat 30 = true →
    Runs (.handoverReq k init v) s fun t => hoState t k = 1 ∧
      t.get F.TIME_HO_STAT_SEQ k = (s.get F.TIME_HO_STAT_SEQ k + 1) % 65536 ∧ (hoSt t k).collided = false ∧
      (portUp s k = true → HoQueued s t k 1 (t.get F.TIME_HO_STAT_SEQ k))))

/-! ### Chapter 11: CAN and LIN -/

/-- CAN controllers (R311, R314, R324, R325). A controller enabled with a good configuration integrates, or waits for the link;
with a bad one it stays DISABLED with CFG_ERR and FS330; disabled, it is DISABLED. Integration ends in the state that the
error counters give, recovery in ERROR_ACTIVE with both counters 0 and RECOVERED; BUSOFF_RECOVER starts recovery in BUS_OFF
only. A received frame counts, and counts as unaccepted where no slot takes it; during a link loss it counts as lost. An error
frame counts and raises TEC where the controller transmits, but for one in the data phase of an XL frame with XL_TMS = 1. A
controller that does not run ignores error frames, one that does not hear ignores frames, but for those lost to the link.
CAN transceivers (R329 to R331, R360). An admitted mode clears TRX_FAULT, and WAKE_CAUSE unless it leaves a woken transceiver
in STANDBY, and acts where it is defined and the link is up. A sleeping transceiver wakes on an edge, to STANDBY with its
cause; not confirmed, it sleeps again, counted, with FS18. A dominant timeout of an active transceiver sets TRX_FAULT with
FS326. -/
def Obligations.CanNodesComplete : Prop :=
  ((∀ (s : State) (n : Fin 16) (init : Init) (v : Word), Admitted init (R.CAN_CTRL.addr n) s → s.bootLocked = true →
    n.val < 8 ∨ s.get F.CAN_CTRL_XL_TMS n = 0 →
    s.flag F.DICT_STAT_READY 0 = true → bitOf v.toNat 31 = true → canState s n = canDisabled → canCfgOk s n = true →
    Runs (.canEnable n init v) s fun t => t.get F.CAN_CTRL_EN n = 1 ∧
      canState t n = if linkUp s && canClocked s then canIntegrating else canLinkHold) ∧
  (∀ (s : State) (n : Fin 16) (init : Init) (v : Word), Admitted init (R.CAN_CTRL.addr n) s → s.bootLocked = true →
    n.val < 8 ∨ s.get F.CAN_CTRL_XL_TMS n = 0 →
    s.flag F.DICT_STAT_READY 0 = true → bitOf v.toNat 31 = true → canState s n = canDisabled → canCfgOk s n = false →
    Runs (.canEnable n init v) s fun t => canState t n = canDisabled ∧ t.get F.CAN_EVT_CFG_ERR n = 1 ∧ tocPending t 330 = true) ∧
  (∀ (s : State) (n : Fin 16) (init : Init) (v : Word), Admitted init (R.CAN_CTRL.addr n) s →
    s.flag F.DICT_STAT_READY 0 = false ∨ bitOf v.toNat 31 = false →
    Runs (.canEnable n init v) s fun t => canState t n = canDisabled ∧ t.get F.CAN_CTRL_EN n = 0) ∧
  (∀ (s : State) (n : Fin 16), canState s n = canIntegrating → busGated s = false →
    Runs (.canIntegrationDone n) s fun t => canState t n = (if 255 < s.get F.CAN_STAT_TEC n then canBusOff
      else if 127 < s.get F.CAN_STAT_TEC n ∨ 127 < s.get F.CAN_STAT_REC n then canPassive else canActive)) ∧
  (∀ (s : State) (n : Fin 16), canState s n ≠ canIntegrating ∨ busGated s = true → exec (.canIntegrationDone n) s = .next s) ∧
  (∀ (s : State) (n : Fin 16), canState s n = canRecovering → busGated s = false →
    Runs (.canRecoveryComplete n) s fun t => canState t n = canActive ∧ t.get F.CAN_STAT_TEC n = 0 ∧
      t.get F.CAN_STAT_REC n = 0 ∧ t.get F.CAN_EVT_RECOVERED n = 1) ∧
  (∀ (s : State) (n : Fin 16), canState s n ≠ canRecovering ∨ busGated s = true →
    exec (.canRecoveryComplete n) s = .next s) ∧
  (∀ (s : State) (n : Fin 16) (init : Init) (v : Word), Admitted init (R.CAN_CMD.addr n) s → bitOf v.toNat 31 = true →
    canState s n = canBusOff → Runs (.busoffRecover n init v) s fun t => canState t n = canRecovering ∧
      t.get F.CAN_CMD_BUSOFF_RECOVER n = 1) ∧
  (∀ (s : State) (n : Fin 16) (init : Init) (v : Word), Admitted init (R.CAN_CMD.addr n) s →
    canState s n ≠ canBusOff ∨ bitOf v.toNat 31 = false →
    exec (.busoffRecover n init v) s = .next s) ∧
  (∀ (s : State) (n : Fin 16) (x : CanFrame) (sof : Word), canState s n = canLinkHold → linkUp s = false →
    Runs (.canFrameRx n x sof) s fun t => (canSt t n).lost = (canSt s n).lost + 1 ∧ t = { s with bus := t.bus }) ∧
  (∀ (s : State) (n : Fin 16) (x : CanFrame) (sof : Word), canHears s n = true → canAdmits s n x.w0 = true →
    Runs (.canFrameRx n x sof) s fun t =>
      t.get F.CAN_CNT_CNT (8 * n) = satInc (s.get F.CAN_CNT_CNT (8 * n)) F.CAN_CNT_CNT.top ∧
      (canSlots s n x = [] → usestFrame s n x = false →
        t.get F.CAN_CNT_CNT (8 * n + 2) = satInc (s.get F.CAN_CNT_CNT (8 * n + 2)) F.CAN_CNT_CNT.top)) ∧
  (∀ (s : State) (n : Fin 16) (tx : Bool) (e : CanErr), canRuns s n = true → e ≠ .xlData ∨ s.flag F.CAN_CTRL_XL_TMS n = false →
    Runs (.canBusError n tx e) s fun t =>
      t.get F.CAN_CNT_CNT (8 * n + 3) = satInc (s.get F.CAN_CNT_CNT (8 * n + 3)) F.CAN_CNT_CNT.top ∧
      t.get F.CAN_STAT_TEC n = min (s.get F.CAN_STAT_TEC n + (if tx then (if e = .by1 then 0 else 8) else 0)) 511) ∧
  (∀ (s : State) (n : Fin 16) (tx : Bool), canRuns s n = true → s.flag F.CAN_CTRL_XL_TMS n = true →
    Runs (.canBusError n tx .xlData) s fun t => t.get F.CAN_CNT_CNT (8 * n + 3) = s.get F.CAN_CNT_CNT (8 * n + 3) ∧
      t.get F.CAN_STAT_TEC n = s.get F.CAN_STAT_TEC n) ∧
  (∀ (s : State) (n : Fin 16) (x : CanFrame) (sof : Word), canHears s n = false → canState s n ≠ canLinkHold ∨ linkUp s = true →
    exec (.canFrameRx n x sof) s = .next s) ∧
  (∀ (s : State) (n : Fin 16) (tx : Bool) (e : CanErr), canRuns s n = false → exec (.canBusError n tx e) s = .next s)) ∧
  ((∀ (s : State) (n : Fin 16) (init : Init) (v : Word), Admitted init (R.CAN_TRX_CTRL.addr n) s →
    Runs (.canTrxMode n init v) s fun t => t.get F.CAN_TRX_STAT_TRX_FAULT n = 0 ∧
      t.get F.CAN_TRX_STAT_WAKE_CAUSE n = (if getBits v 31 29 = 3 ∧ s.get F.CAN_TRX_STAT_MODE_ACT n = 3
        then s.get F.CAN_TRX_STAT_WAKE_CAUSE n else 0) ∧
      t.get F.CAN_TRX_STAT_MODE_ACT n = (if getBits v 31 29 < 5 ∧ linkUp s = true then getBits v 31 29
        else s.get F.CAN_TRX_STAT_MODE_ACT n)) ∧
  (∀ (s : State) (n : Fin 16) (ticks : Nat), trxAsleep s n = true → s.flag F.CAN_TRX_CTRL_WAKE_MODE n = false →
    bitOf (s.get F.GONG_CFG_CAN_MASK 0) n = false →
    Runs (.canTrxWake n ticks) s fun t => t.get F.CAN_TRX_STAT_WAKE_CAUSE n = 1 ∧ t.get F.CAN_TRX_STAT_MODE_ACT n = 3 ∧
      t.pm = s.pm ∧ (s.pm.phase ≠ 2 →
        t.get F.CAN_CNT_CNT (8 * n + 6) = satInc (s.get F.CAN_CNT_CNT (8 * n + 6)) F.CAN_CNT_CNT.top)) ∧
  (∀ (s : State) (n : Fin 16) (ticks : Nat), trxAsleep s n = false ∨ s.flag F.CAN_TRX_CTRL_WAKE_MODE n = true →
    exec (.canTrxWake n ticks) s = .next s) ∧
  (∀ (s : State) (n : Fin 16), s.get F.CAN_TRX_STAT_MODE_ACT n = 3 → s.get F.CAN_TRX_STAT_WAKE_CAUSE n ≠ 0 →
    Runs (.trxConfirmTimeout n) s fun t => t.get F.CAN_TRX_STAT_MODE_ACT n = 4 ∧
      t.get F.GONG_CNT_CNT 3 = satInc (s.get F.GONG_CNT_CNT 3) F.GONG_CNT_CNT.top ∧ (s.pm.phase ≠ 2 → tocPending t 18 = true)) ∧
  (∀ (s : State) (n : Fin 16), s.get F.CAN_TRX_STAT_MODE_ACT n ≠ 3 ∨ s.get F.CAN_TRX_STAT_WAKE_CAUSE n = 0 →
    exec (.trxConfirmTimeout n) s = .next s) ∧
  (∀ (s : State) (n : Fin 16), s.get F.CAN_TRX_STAT_MODE_ACT n = 1 → s.flag F.CAN_TRX_STAT_TRX_FAULT n = false →
    Runs (.canTxdTimeout n) s fun t => t.get F.CAN_TRX_STAT_TRX_FAULT n = 1 ∧ t.get F.CAN_TRX_STAT_MODE_ACT n = 1 ∧
      tocPending t 326 = true) ∧
  (∀ (s : State) (n : Fin 16), s.get F.CAN_TRX_STAT_MODE_ACT n ≠ 1 ∨ s.flag F.CAN_TRX_STAT_TRX_FAULT n = true →
    exec (.canTxdTimeout n) s = .next s))

/-- CAN transmission and slots (R318, R320 to R323, R328). A submission takes its entry, or sets SUB_ERR where the entry is taken.
The frame that wins, read from memory, is in transmission with its SOF stamp; one that lost arbitration within its retry limit
waits again, one beyond it or aborted is gone; one that ended is gone and counted; one that is aborted is gone, or marked
while it is in transmission. Index writes give entries back, or set IDX_ERR. A slot is configured, and enabled where its areas
are legal. -/
def Obligations.CanSlotsComplete : Prop :=
  (∀ (s : State) (n : Fin 16) (sl : Fin 8) (init : Init) (v : Word), Admitted init (R.CAN_TXSUB.addr (8 * n + sl)) s →
    slotMay s n sl init = true → slotOn s n sl = true →
    (bitOf (canSlot s n sl).used (getBits v 5 0) = false →
      Runs (.canTxsub n sl init v) s fun t => (canSlot t n sl).used = (canSlot s n sl).used ||| 2 ^ getBits v 5 0) ∧
    (bitOf (canSlot s n sl).used (getBits v 5 0) = true →
      Runs (.canTxsub n sl init v) s fun t => t.get F.CAN_SLOT_STAT_SUB_ERR (8 * n + sl) = 1 ∧ t.bus = s.bus)) ∧
  (∀ (s : State) (n : Fin 16) (sof : Word) (w : CanTx) (d : List Nat), canRuns s n = true → linkUp s = true → canDrives s n = true →
    canTxNow s n = none → canWinner (canSt s n).sub = some w → w.slot ≠ 8 →
    (canRead n w.slot (s.get F.CAN_TXBASE_BASE (8 * n + w.slot) + canStride s n w.slot * w.entry + 16) (bitsOf w.w2 11 0) s).1 = some d →
    Runs (.canTxSelection n sof) s fun t => ∃ x, canTxNow t n = some x ∧ x.slot = w.slot ∧ x.entry = w.entry ∧ x.data = d ∧
      x.ts = (canCount s + sof.toNat) % 2 ^ 32) ∧
  (∀ (s : State) (n : Fin 16) (sof : Word), canRuns s n = false ∨ linkUp s = false ∨ canDrives s n = false ∨
    canTxNow s n ≠ none ∨ (canSt s n).sub = [] →
    exec (.canTxSelection n sof) s = .next s) ∧
  (∀ (s : State) (n : Fin 16) (x : CanTx), canTxNow s n = some x → busGated s = false → x.abort = false →
    x.slot = 8 ∨ x.att < s.get F.CAN_SLOT_CFG_RETRY_LIMIT (8 * n + x.slot) →
    Runs (.canArbitrationLost n) s fun t => (∀ y ∈ (canSt t n).sub, y.slot = x.slot ∧ y.entry = x.entry →
      y = { x with att := x.att + 1, tx := false }) ∧ (canSt t n).sub.length = (canSt s n).sub.length) ∧
  (∀ (s : State) (n : Fin 16) (x : CanTx), canTxNow s n = some x → busGated s = false → x.slot ≠ 8 →
    s.get F.CAN_SLOT_CFG_RETRY_LIMIT (8 * n + x.slot) ≤ x.att ∨ x.abort = true →
    Runs (.canArbitrationLost n) s fun t => ∀ y ∈ (canSt t n).sub, ¬ (y.slot = x.slot ∧ y.entry = x.entry)) ∧
  (∀ (s : State) (n : Fin 16), canTxNow s n = none → exec (.canArbitrationLost n) s = .next s ∧ exec (.canTxEnd n) s = .next s) ∧
  (∀ (s : State) (n : Fin 16), canDrives s n = false → exec (.canTxEnd n) s = .next s) ∧
  (∀ (s : State) (n : Fin 16) (x : CanTx), canTxNow s n = some x → canDrives s n = true →
    Runs (.canTxEnd n) s fun t => (∀ y ∈ (canSt t n).sub, ¬ (y.slot = x.slot ∧ y.entry = x.entry)) ∧
      t.get F.CAN_CNT_CNT (8 * n + 1) = satInc (s.get F.CAN_CNT_CNT (8 * n + 1)) F.CAN_CNT_CNT.top) ∧
  (∀ (s : State) (n : Fin 16) (sl : Fin 8) (init : Init) (v : Word), Admitted init (R.CAN_TXABORT.addr (8 * n + sl)) s →
    slotMay s n sl init = true → Runs (.canTxabort n sl init v) s fun t => ∀ y ∈ (canSt t n).sub,
      y.slot = sl ∧ y.entry = getBits v 5 0 → y.abort = true) ∧
  (∀ (s : State) (n : Fin 16) (sl : Fin 8) (init : Init) (v : Word), Admitted init (R.CAN_RXAI.addr (8 * n + sl)) s →
    slotMay s n sl init = true →
    Runs (.canRxai n sl init v) s fun t =>
      if (if s.flag F.CAN_RXWI_FULL (8 * n + sl) then 256
          else (s.get F.CAN_RXWI_WI (8 * n + sl) + 256 - s.get F.CAN_RXAI_AI (8 * n + sl)) % 256) <
          (getBits v 7 0 + 256 - s.get F.CAN_RXAI_AI (8 * n + sl)) % 256
      then t.get F.CAN_SLOT_STAT_IDX_ERR (8 * n + sl) = 1 ∧ t.get F.CAN_RXAI_AI (8 * n + sl) = s.get F.CAN_RXAI_AI (8 * n + sl)
      else t.get F.CAN_RXAI_AI (8 * n + sl) = getBits v 7 0) ∧
  (∀ (s : State) (n : Fin 16) (sl : Fin 8) (init : Init) (v : Word), Admitted init (R.CAN_CQAI.addr (8 * n + sl)) s →
    slotMay s n sl init = true →
    Runs (.canCqai n sl init v) s fun t =>
      if (if s.flag F.CAN_CQWI_FULL (8 * n + sl) then 64
          else (s.get F.CAN_CQWI_WI (8 * n + sl) + 64 - s.get F.CAN_CQAI_AI (8 * n + sl) % 64) % 64) <
          (getBits v 7 0 % 64 + 64 - s.get F.CAN_CQAI_AI (8 * n + sl) % 64) % 64
      then t.get F.CAN_SLOT_STAT_IDX_ERR (8 * n + sl) = 1 ∧ t.bus = s.bus
      else t.get F.CAN_CQAI_AI (8 * n + sl) % 64 = getBits v 7 0 % 64 ∧ (canSlot t n sl).done = (canSlot s n sl).done.drop
        ((getBits v 7 0 % 64 + 64 - s.get F.CAN_CQAI_AI (8 * n + sl) % 64) % 64)) ∧
  (∀ (s : State) (n : Fin 16) (sl : Fin 8) (init : Init) (v : Word), Admitted init (R.CAN_SLOT_CFG.addr (8 * n + sl)) s →
    (bitOf v.toNat 31 = false → Runs (.canSlotCfg n sl init v) s fun t => t.get F.CAN_SLOT_CFG_EN (8 * n + sl) = 0 ∧
      t.get F.CAN_SLOT_CFG_RETRY_LIMIT (8 * n + sl) = getBits v 27 24 ∧ t.get F.CAN_SLOT_CFG_VE (8 * n + sl) = getBits v 9 0) ∧
    (bitOf v.toNat 31 = true → slotOn s n sl = false → Runs (.canSlotCfg n sl init v) s fun t =>
      t.get F.CAN_SLOT_CFG_DATA_CAP (8 * n + sl) = getBits v 29 28 ∧
      if 0x800000 < s.get F.CAN_RXBASE_BASE (8 * n + sl) + 256 * canStride t n sl ∨ s.get F.CAN_RXBASE_BASE (8 * n + sl) % 64 ≠ 0 ∨
          s.get F.CAN_TXBASE_BASE (8 * n + sl) % 64 ≠ 0 ∨ s.get F.CAN_CQBASE_BASE (8 * n + sl) % 64 ≠ 0
      then t.get F.CAN_SLOT_STAT_CFG_ERR (8 * n + sl) = 1 ∧ slotOn t n sl = false else slotOn t n sl = true))

/-- LIN channels (R334 to R338). A schedule entry of a running commander, once the one before it has lasted its beats, sends the
go-to-sleep frame where SLEEP_TX asks for it, and else puts its unconditional or event-triggered frame's header on the bus for
DELAY beats, or overruns with FS338 where one is still there; a commander on Tabla sends the go-to-sleep frame too. A
published frame that is good counts and is sent; a good subscribed response replaces the data and counts; a response that is
missing or wrong counts as an error with FS336. Admitted writes request sleep and wake; the wake's gap ends at the first entry
of the selected table; a wake pulse in SLEEP sets its event; a dominant timeout releases the bus with FS339. A frame's data
are written and read as a pair. -/
def Obligations.LinComplete : Prop :=
  (∀ (s : State) (l : Fin 12), linRuns s l = true → (linSt s l).left = 0 → s.flag F.LIN_CTRL_SLEEP_TX l = true →
    (linSt s l).bus = none →
    Runs (.linEntryStart l) s fun t => linState t l = linSleep ∧ t.get F.LIN_CTRL_SLEEP_TX l = 0 ∧ t.out.length = s.out.length + 1) ∧
  (∀ (s : State) (l : Fin 12), linTablaSleeps s l = true →
    Runs (.linEntryStart l) s fun t => linState t l = linSleep ∧ t.get F.LIN_CTRL_SLEEP_TX l = 0 ∧ t.out.length = s.out.length + 1) ∧
  (∀ (s : State) (l : Fin 12) (e : Nat), linRuns s l = true → (linSt s l).left = 0 → s.flag F.LIN_CTRL_SLEEP_TX l = false → (linSt s l).bus = none →
    s.get F.LIN_TBL_LEN (4 * l + (linPlace (s.get F.LIN_CTRL_SCHED_SEL l) (linSt s l)).tbl) ≠ 0 →
    e = (s.get F.LIN_TBL_START (4 * l + (linPlace (s.get F.LIN_CTRL_SCHED_SEL l) (linSt s l)).tbl) +
      (linPlace (s.get F.LIN_CTRL_SCHED_SEL l) (linSt s l)).pos) % 256 → s.get F.LIN_SCHED_TYPE (256 * l + e) < 2 →
    Runs (.linEntryStart l) s fun t => (linSt t l).bus.map (·.id) = some (s.get F.LIN_SCHED_ID (256 * l + e)) ∧
      t.get F.LIN_STAT_ENTRY l = e ∧ linState t l = linActive ∧ (linSt t l).left = max 1 (s.get F.LIN_SCHED_DELAY (256 * l + e))) ∧
  (∀ (s : State) (l : Fin 12) (b : LinBus), linRuns s l = true → (linSt s l).left = 0 → (linSt s l).bus = some b →
    s.get F.LIN_TBL_LEN (4 * l + (linPlace (s.get F.LIN_CTRL_SCHED_SEL l) (linSt s l)).tbl) ≠ 0 →
    Runs (.linEntryStart l) s fun t => (linSt t l).bus = some b ∧ tocPending t 338 = true ∧
      t.get F.LIN_CNT_CNT (8 * l + 3) = satInc (s.get F.LIN_CNT_CNT (8 * l + 3)) F.LIN_CNT_CNT.top) ∧
  (∀ (s : State) (l : Fin 12), linTablaSleeps s l = false → linRuns s l = false ∨ (linSt s l).left ≠ 0 → exec (.linEntryStart l) s = .next s) ∧
  (∀ (s : State) (l : Fin 12) (b : LinBus) (octets : List Nat), (linSt s l).bus = some b → busGated s = false →
    b.publish = true →
    Runs (.linFrameComplete l octets false) s fun t => (linSt t l).bus = none ∧
      t.get F.LIN_CNT_CNT (8 * l) = satInc (s.get F.LIN_CNT_CNT (8 * l)) F.LIN_CNT_CNT.top ∧
      t.out = s.out ++ [.lin l b.id (b.data ++ [linChecksum s l b.id b.data])]) ∧
  (∀ (s : State) (l : Fin 12) (b : LinBus) (octets : List Nat) (bit : Bool), (linSt s l).bus = some b →
    busGated s = false → b.publish = false →
    b.event = none → s.get F.LIN_FRAME_CFG_DIR (64 * l + b.id) = 2 →
    octets.length < linLen s l b.id + 1 ∨
      octets.getD (linLen s l b.id) 0 ≠ linChecksum s l b.id (octets.take (linLen s l b.id)) →
    Runs (.linFrameComplete l octets bit) s fun t => (linSt t l).bus = none ∧ tocPending t 336 = true ∧
      t.get F.LIN_CNT_CNT (8 * l + 1) = satInc (s.get F.LIN_CNT_CNT (8 * l + 1)) F.LIN_CNT_CNT.top) ∧
  (∀ (s : State) (l : Fin 12) (b : LinBus) (octets : List Nat) (bit : Bool), (linSt s l).bus = some b →
    busGated s = false → b.publish = false → s.get F.LIN_FRAME_CFG_DIR (64 * l + b.id) = 2 →
    linLen s l b.id + 1 ≤ octets.length →
    octets.getD (linLen s l b.id) 0 = linChecksum s l b.id (octets.take (linLen s l b.id)) →
    Runs (.linFrameComplete l octets bit) s fun t => (linSt t l).bus = none ∧
      t.get F.LIN_FRAME_STAT_NEW (64 * l + b.id) = 1 ∧
      t.get F.LIN_CNT_CNT (8 * l) = satInc (s.get F.LIN_CNT_CNT (8 * l)) F.LIN_CNT_CNT.top ∧
      t.get64 R.LIN_FRAME_DATA_LO R.LIN_FRAME_DATA_HI (64 * l + b.id) = leNat (octets.take (linLen s l b.id) ++
        (leOctets (s.get64 R.LIN_FRAME_DATA_LO R.LIN_FRAME_DATA_HI (64 * l + b.id)) 8).drop
          (octets.take (linLen s l b.id)).length) % 2 ^ 64) ∧
  (∀ (s : State) (l : Fin 12) (octets : List Nat) (bit : Bool), (linSt s l).bus = none ∨ busGated s = true →
    exec (.linFrameComplete l octets bit) s = .next s) ∧
  (∀ (s : State) (l : Fin 12) (init : Init) (v : Word), Admitted init (R.LIN_CTRL.addr l) s → linCommander s l = true →
    bitOf v.toNat 28 = true → bitOf v.toNat 27 = false → Runs (.linSleepTx l init v) s fun t => t.get F.LIN_CTRL_SLEEP_TX l = 1 ∧
      t.out = s.out) ∧
  (∀ (s : State) (l : Fin 12) (init : Init) (v : Word), Admitted init (R.LIN_CTRL.addr l) s → bitOf v.toNat 27 = true →
    Runs (.linWakeTx l init v) s fun t => (linSt t l).gap = true ∧ linState t l = linIdle ∧ t.get F.LIN_CTRL_WAKE_TX l = 0 ∧
      t.out = s.out ++ [.pin 4 l (s.get F.LIN_TIMING_WAKE_US l)]) ∧
  (∀ (s : State) (l : Fin 12), (linSt s l).gap = true →
    Runs (.linWakeGapEnd l) s fun t => (linSt t l).gap = false ∧ (linSt t l).tbl = s.get F.LIN_CTRL_SCHED_SEL l ∧
      (linSt t l).pos = 0 ∧ (s.flag F.LIN_CTRL_RUN l = true → linState t l = linActive)) ∧
  (∀ (s : State) (l : Fin 12), linState s l = linSleep → s.pm.phase ≠ 2 →
    Runs (.linWakeRx l) s fun t => (t.rd R.LIN_EVT l).getLsbD 30 = true ∧ linState t l = linSleep) ∧
  (∀ (s : State) (l : Fin 12), linState s l ≠ linSleep ∨ s.pm.phase = 2 → exec (.linWakeRx l) s = .next s) ∧
  (∀ (s : State) (l : Fin 12), s.get F.LIN_CFG_MODE l ≠ 0 → Runs (.linTxdTimeout l) s fun t => (linSt t l).bus = none ∧
    t.get F.LIN_STAT_TRX_FAULT l = 1 ∧ tocPending t 339 = true) ∧
  (∀ (s : State) (l : Fin 12), s.get F.LIN_CFG_MODE l = 0 → exec (.linTxdTimeout l) s = .next s) ∧
  (∀ (s : State) (l : Fin 12) (id : Fin 64) (init : Init) (v : Word), Admitted init (R.LIN_FRAME_DATA_HI.addr (64 * l + id)) s →
    Runs (.linDataHi l id init v) s fun t => t.rd R.LIN_FRAME_DATA_HI (64 * l + id) = v ∧
      t.rd R.LIN_FRAME_DATA_LO (64 * l + id) = staged s R.LIN_FRAME_DATA_LO (64 * l + id)) ∧
  (∀ (s : State) (l : Fin 12) (id : Fin 64) (init : Init), judgeReq s init (R.LIN_FRAME_DATA_LO.addr (64 * l + id)) 4 = respOkay →
    Runs (.linDataLoRead l id init) s fun t => t = { s with latch := t.latch } ∧
      t.latch.read R.LIN_FRAME_DATA_HI (64 * l + id) = s.rd R.LIN_FRAME_DATA_HI (64 * l + id))

/-! ### Chapter 12: power modes -/

/-- Requests for a mode (R346, R349 to R351). An admitted GO by the partition that holds the power manager: RUN ends DOZE or
SLEEP, and cancels a pending entry with RESULT 4 and FS19; DOZE pends in RUN; SLEEP and DEEP_SLEEP enter where nothing refuses
them, DEEP_SLEEP pending until the supply drops, and else answer the reason; a target the mode does not allow answers RESULT
1, and a request besides RUN while one pends RESULT 5. -/
def Obligations.ModeRequestsComplete : Prop :=
  ∀ (s : State) (init : Init) (v : Word) (fl : Bool) (out : List Req), Admitted init (R.PM_REQ.addr 0) s → pmMay s init = true →
    v.getLsbD 31 = true →
    (s.flag F.PM_STAT_PENDING 0 = false →
      (getBits v 2 0 = modeRun → pmMode s = modeDoze ∨ pmMode s = modeSleep →
        Runs (.pmReqRun init v) s fun t => pmMode t = modeRun ∧ t.get F.PM_STAT_RESULT 0 = 0) ∧
      (getBits v 2 0 = modeRun → pmMode s = modeRun → Runs (.pmReqRun init v) s fun t => pmMode t = modeRun ∧
        t.get F.PM_STAT_RESULT 0 = 1 ∧ sameWordsBut [(R.PM_REQ.id, 0), (R.PM_STAT.id, 0)] s t) ∧
      (getBits v 2 0 = modeDoze → Runs (.pmReqDoze init v fl out) s fun t => pmMode t = pmMode s ∧
        (if pmMode s = modeRun then t.get F.PM_STAT_PENDING 0 = 1 else t.get F.PM_STAT_RESULT 0 = 1)) ∧
      (getBits v 2 0 = modeSleep → pmMode s = modeRun ∨ pmMode s = modeDoze → sleepRefused s false fl = none →
        Runs (.pmReqSleep init v fl out) s fun t => pmMode t = modeSleep ∧ t.get F.PM_STAT_RESULT 0 = 0 ∧
          t.get F.PM_STAT_PENDING 0 = 0) ∧
      (getBits v 2 0 = modeDeep → pmMode s ≤ modeSleep → sleepRefused s true fl = none →
        Runs (.pmReqDeepSleep init v fl out) s fun t => pmMode t = modeSleep ∧ t.get F.PM_STAT_PENDING 0 = 1 ∧ t.pm.phase = 1) ∧
      (∀ r, getBits v 2 0 = modeSleep → pmMode s = modeRun ∨ pmMode s = modeDoze → sleepRefused s false fl = some r → r < 16 →
        Runs (.pmReqSleep init v fl out) s fun t => pmMode t = pmMode s ∧ t.get F.PM_STAT_RESULT 0 = r ∧
          sameWordsBut [(R.PM_REQ.id, 0), (R.PM_STAT.id, 0)] s t) ∧
      (∀ r, getBits v 2 0 = modeDeep → pmMode s ≤ modeSleep → sleepRefused s true fl = some r → r < 16 →
        Runs (.pmReqDeepSleep init v fl out) s fun t => pmMode t = pmMode s ∧ t.get F.PM_STAT_RESULT 0 = r ∧
          sameWordsBut [(R.PM_REQ.id, 0), (R.PM_STAT.id, 0)] s t) ∧
      (getBits v 2 0 = modeSleep → modeSleep ≤ pmMode s → Runs (.pmReqSleep init v fl out) s fun t => pmMode t = pmMode s ∧
        t.get F.PM_STAT_RESULT 0 = 1 ∧ sameWordsBut [(R.PM_REQ.id, 0), (R.PM_STAT.id, 0)] s t)) ∧
    (s.flag F.PM_STAT_PENDING 0 = true →
      (getBits v 2 0 = modeRun → Runs (.pmReqRun init v) s fun t => t.get F.PM_STAT_PENDING 0 = 0 ∧ t.get F.PM_STAT_RESULT 0 = 4 ∧
        pmMode t = pmMode s ∧ t.pm.phase = 0 ∧ tocPending t 19 = true) ∧
      (getBits v 2 0 = modeDoze → Runs (.pmReqDoze init v fl out) s fun t => t.get F.PM_STAT_PENDING 0 = 1 ∧
        t.get F.PM_STAT_RESULT 0 = 5 ∧ pmMode t = pmMode s) ∧
      (getBits v 2 0 = modeSleep → Runs (.pmReqSleep init v fl out) s fun t => t.get F.PM_STAT_PENDING 0 = 1 ∧
        t.get F.PM_STAT_RESULT 0 = 5 ∧ pmMode t = pmMode s) ∧
      (getBits v 2 0 = modeDeep → Runs (.pmReqDeepSleep init v fl out) s fun t => t.get F.PM_STAT_PENDING 0 = 1 ∧
        t.get F.PM_STAT_RESULT 0 = 5 ∧ pmMode t = pmMode s))

/-- Mode changes by events (R347, R349, R352, R357, R358). A pending DOZE is entered, or aborted by the interrupt that would end
it; DOZE ends in RUN. An admitted gate write sets the bits that are free for its block. The supply drops at the end of a
DEEP_SLEEP entry and rises for a wake or after a supply reset, with its reset cause. A boot that takes too long counts and
sleeps on. Outside its condition each event changes nothing. -/
def Obligations.ModeEventsComplete : Prop :=
  (∀ (s : State) (out : List Req), dozePending s = true → Runs (.dozeEntry out) s fun t => pmMode t = modeDoze ∧
    t.get F.PM_STAT_PENDING 0 = 0 ∧ t.get F.PM_STAT_RESULT 0 = 0) ∧
  (∀ (s : State) (out : List Req), dozePending s = false → exec (.dozeEntry out) s = .next s) ∧
  (∀ s : State, dozePending s = true → Runs .dozeExit s fun t => pmMode t = modeRun ∧ t.get F.PM_STAT_PENDING 0 = 0 ∧
    t.get F.PM_STAT_RESULT 0 = 4 ∧ tocPending t 19 = true) ∧
  (∀ s : State, pmMode s = modeDoze → s.pm.phase ≠ 2 → Runs .dozeExit s fun t => pmMode t = modeRun) ∧
  (∀ (s : State) (b : Fin 17) (init : Init) (v : Word) (out : List Req), Admitted init (R.PM_GATE.addr b) s → pmMay s init = true →
    Runs (.pmGate b init v out) s fun t =>
      t.get F.PM_GATE_RUN_EN b = (if runFree b then getBits v 0 0 else s.get F.PM_GATE_RUN_EN b) ∧
      t.get F.PM_GATE_SLEEP_EN b = (if sleepFree b then getBits v 1 1 else s.get F.PM_GATE_SLEEP_EN b) ∧
      t.get F.PM_GATE_DSLEEP_EN b = s.get F.PM_GATE_DSLEEP_EN b) ∧
  (∀ s : State, s.pm.phase = 1 → Runs .pmicEnDrop s fun t => t.pm.phase = 2 ∧ pmMode t = modeDeep ∧
    t.get F.PM_STAT_PENDING 0 = 0 ∧ t.fab.hdieReset = true ∧ t.get F.SPINE_STAT_STATE 0 = 0 ∧ t.boot.wakeOk = true ∧
    t.pm.en = false ∧ t.time = TimeSt.init) ∧
  (∀ s : State, s.pm.phase ≠ 1 → exec .pmicEnDrop s = .next s) ∧
  (∀ s : State, s.pm.phase = 2 → s.flag F.KN_STAT_HALT 0 = false → s.boot.again = true →
    Runs .pmicEnRise s fun t => t.boot.step = 2 ∧ t.boot.again = false ∧ t.pm.bootWait = true ∧ t.pm.en = true ∧
      t.get F.RESET_CAUSE_TYPE 0 = rsSupply) ∧
  (∀ s : State, s.pm.phase = 2 → s.flag F.KN_STAT_HALT 0 = false → s.boot.again = false → pmMode s = modeDeep → s.pm.caused = true →
    Runs .pmicEnRise s fun t => t.boot.step = 2 ∧ t.pm.bootWait = true ∧ t.pm.en = true ∧ t.pm.caused = false ∧ t.pm.irqWait = true ∧
      t.get F.RESET_CAUSE_TYPE 0 = rsWake) ∧
  (∀ s : State, s.pm.phase ≠ 2 ∨ s.flag F.KN_STAT_HALT 0 = true → exec .pmicEnRise s = .next s) ∧
  (∀ s : State, s.pm.bootWait = true → s.boot.romWait = false → Runs .bootTimeout s fun t => t.pm.phase = 2 ∧ t.pm.bootWait = false ∧
    pmMode t = modeDeep ∧ t.pm.bootFails = s.pm.bootFails + 1 ∧
    t.get F.GONG_CNT_CNT 2 = satInc (s.get F.GONG_CNT_CNT 2) F.GONG_CNT_CNT.top) ∧
  (∀ s : State, s.pm.bootWait = false ∨ s.boot.romWait = true → exec .bootTimeout s = .next s)

/-- Wake sources and the wake's control (R353, R355, R356, R358, R359). A line's level is shown, and one that meets its trigger,
an expired timer, a polled input and a kept channel that trips are wake events: in DEEP_SLEEP, enabled, the first one is the
recorded cause; during boot it leaves its bit in KINDS and nothing else. Calibration is taken while CLKIN is qualified.
BOOT_DONE ends the boot timer and STAY the false-wake timer; the lockout ends; a false wake raises FS16, and the end of its
grace returns to sleep. -/
def Obligations.WakesComplete : Prop :=
  (∀ (s : State) (n : Fin 8) (level : Bool) (ticks : Nat), s.pm.phase = 2 → pmMode s = modeDeep →
    Runs (.wakeLine n level ticks) s fun t =>
      t.get F.GONG_WLSTAT_LEVEL 0 = withBits (s.get F.GONG_WLSTAT_LEVEL 0) n n (b2n level) % 256 ∧
      (lineCond s n (bitOf (s.get F.GONG_WLSTAT_LEVEL 0) n) level = true → s.flag F.KN_STAT_HALT 0 = false →
        wakeEnabled s 1 n = true → s.pm.caused = false →
        t.pm.caused = true ∧ t.pm.irqWait = true ∧ t.get F.GONG_CAUSE_KIND 0 = 1 ∧ t.get F.GONG_CAUSE_INDEX 0 = n.val)) ∧
  (∀ s : State, s.pm.phase = 2 → pmMode s = modeDeep → s.flag F.KN_STAT_HALT 0 = false → wakeEnabled s 5 0 = true →
    s.pm.caused = false → Runs .wakeTimer s fun t => t.pm.caused = true ∧ t.pm.irqWait = true ∧ t.get F.GONG_CAUSE_KIND 0 = 5) ∧
  (∀ s : State, wakeEnabled s 5 0 = false ∨ s.flag F.KN_STAT_HALT 0 = true ∨ (pmMode s ≠ modeSleep ∧ pmMode s ≠ modeDeep ∧
    ¬ (pmMode s = modeRun ∧ 2 ≤ s.boot.step ∧ s.boot.step < 9)) → exec .wakeTimer s = .next s) ∧
  (∀ s : State, wakeEnabled s 5 0 = true → s.flag F.KN_STAT_HALT 0 = false → pmMode s = modeRun → 2 ≤ s.boot.step →
    s.boot.step < 9 → Runs .wakeTimer s fun t => bitOf (t.get F.GONG_CAUSE_KINDS 0) 5 = true ∧ t.pm = s.pm ∧
      sameWordsBut [(R.GONG_CAUSE.id, 0)] s t) ∧
  (∀ (s : State) (ch : Fin 72) (ticks : Nat), s.pm.phase = 2 → pmMode s = modeDeep → ch.val ∈ s.pm.kept →
    Runs (.keepTrip ch ticks) s fun t => t.pm.kept = s.pm.kept.filter (· != ch.val) ∧ t.pm.trips = s.pm.trips ++ [ch.val] ∧
      (chSt t ch).gate = false ∧ (s.flag F.KN_STAT_HALT 0 = false → s.pm.caused = false → t.pm.caused = true ∧
        t.get F.GONG_CAUSE_KIND 0 = 6)) ∧
  (∀ (s : State) (ch : Fin 72) (ticks : Nat), s.pm.phase ≠ 2 ∨ pmMode s ≠ modeDeep ∨ ch.val ∉ s.pm.kept →
    exec (.keepTrip ch ticks) s = .next s) ∧
  (∀ (s : State) (i raw ticks cfg th : Nat), pmMode s = modeSleep ∨ pmMode s = modeDeep →
    s.pm.mfiWake.find? (fun e => e.1 == i) = some (i, cfg, th) → bitsOf cfg 12 11 = 0 →
    tget 0 s.pm.mfiRun i < bitsOf s.pm.mfiPoll 28 27 →
    Runs (.gongMfiPoll [(i, raw)] ticks) s fun t => (mfiSt t i).samp = hysteresis th (mfiSt s i).samp raw ∧
      tget 0 t.pm.mfiRun i = if hysteresis th (mfiSt s i).samp raw = tget false s.pm.mfiLatch i then 0
        else tget 0 s.pm.mfiRun i + 1) ∧
  (∀ (s : State) (i raw ticks cfg th : Nat), s.pm.phase = 2 → pmMode s = modeDeep → s.flag F.KN_STAT_HALT 0 = false →
    wakeEnabled s 2 i = true → s.pm.caused = false → i < 128 →
    s.pm.mfiWake.find? (fun e => e.1 == i) = some (i, cfg, th) → bitsOf cfg 12 11 = 0 →
    bitsOf s.pm.mfiPoll 28 27 ≤ tget 0 s.pm.mfiRun i → hysteresis th (mfiSt s i).samp raw ≠ tget false s.pm.mfiLatch i →
    Runs (.gongMfiPoll [(i, raw)] ticks) s fun t => t.pm.caused = true ∧ t.pm.irqWait = true ∧
      t.get F.GONG_CAUSE_KIND 0 = 2 ∧ t.get F.GONG_CAUSE_INDEX 0 = i) ∧
  (∀ (s : State) (l : List (Nat × Nat)) (ticks : Nat), pmMode s ≠ modeSleep → pmMode s ≠ modeDeep →
    exec (.gongMfiPoll l ticks) s = .next s) ∧
  (∀ (s : State) (n : Nat), s.flag F.CLK_STAT_QUAL 0 = true → Runs (.gongLrcCal n) s fun t =>
    t.get F.GONG_LRC_CAL_CNT 0 = n % 65536 ∧ sameWordsBut [(R.GONG_LRC_CAL.id, 0)] s t) ∧
  (∀ (s : State) (n : Nat), s.flag F.CLK_STAT_QUAL 0 = false → exec (.gongLrcCal n) s = .next s) ∧
  (∀ (s : State) (init : Init) (v : Word), Admitted init (R.GONG_CTRL.addr 0) s → pmMay s init = true →
    (v.getLsbD 30 = true → Runs (.bootDone init v) s fun t => t.pm.bootWait = false ∧ t.get F.GONG_BOOT_FAIL_RUN 0 = 0) ∧
    (v.getLsbD 31 = true → Runs (.stay init v) s fun t => t.pm.fw = 0)) ∧
  (∀ s : State, s.pm.lockout = true → Runs .wakeLockoutEnd s fun t => t.pm.lockout = false ∧ t.get F.GONG_BOOT_FAIL_RUN 0 = 0) ∧
  (∀ s : State, s.pm.lockout = false → exec .wakeLockoutEnd s = .next s) ∧
  (∀ s : State, s.pm.fw = 1 → Runs .falseWake s fun t => t.pm.fw = 2 ∧ tocPending t 16 = true) ∧
  (∀ s : State, s.pm.fw ≠ 1 → exec .falseWake s = .next s) ∧
  (∀ (s : State) (out : List Req), s.pm.fw = 2 → s.flag F.PM_STAT_PENDING 0 = false → s.pm.wokeFrom ≠ modeDeep →
    Runs (.graceEnd out) s fun t => pmMode t = modeSleep ∧ t.pm.fw = 0 ∧
      t.get F.GONG_CNT_CNT 1 = satInc (s.get F.GONG_CNT_CNT 1) F.GONG_CNT_CNT.top) ∧
  (∀ (s : State) (out : List Req), s.pm.fw = 2 → s.flag F.PM_STAT_PENDING 0 = false → s.pm.wokeFrom = modeDeep →
    Runs (.graceEnd out) s fun t => pmMode t = modeSleep ∧ t.pm.phase = 1 ∧ t.get F.PM_STAT_PENDING 0 = 1) ∧
  (∀ (s : State) (out : List Req), s.pm.fw ≠ 2 → exec (.graceEnd out) s = .next s)

/-! ### Chapter 13: Carillon -/

/-- The trios (R371 to R379). A vote that finds one odd core drops to DUPLEX, or to DEGRADED with the core retired within its
guard, and shows it in OUT with MISMATCH; one that finds more, or a disagreement of the pair, fails the trio. A
resynchronization copy starts in DUPLEX and ends in TMR with the stall shown. An LBIST that passes goes on to RESYNC; one that
fails retires its core. A lane fault sets CHK_FAULT, an output fault fails the trio. TCM errors count, and an uncorrectable
one fails its access: a load or fetch shows the code ECC_ERR. A trio in SPLIT, HELD or FAILED ignores votes and lanes.
The trio's interrupt controller (R377). A claim that may be made answers the best source and marks it claimed; a refused read
answers its error; a completion releases the source. -/
def Obligations.TriosAndClaimsComplete : Prop :=
  ((∀ (s : State) (t : Fin 2) (kind : Fin 3) (who : Fin 4) (csr : Nat) (a : Word), carState s t = carTmr → who.val < 3 →
    Runs (.voteMismatch t kind who csr a) s fun u => carState u t = (if tget 0 (carSt s t).rejoin who.val ≠ 0 ∧
        s.beat < tget 0 (carSt s t).rejoin who.val - 1 + max 1 (s.get F.CAR_CTRL_GUARD t) then carDegraded else carDuplex) ∧
      u.get F.CAR_STAT_OUT t = who.val ∧ u.get F.CAR_MM0_CORES t = 2 ^ who.val ∧ tocPending u (32 + 16 * t) = true) ∧
  (∀ (s : State) (t : Fin 2) (kind : Fin 3) (who : Fin 4) (csr : Nat) (a : Word),
    (carState s t = carTmr ∧ who.val = 3) ∨ carState s t = carDuplex ∨ carState s t = carLbist ∨ carState s t = carDegraded ∨
      carState s t = carResync → Runs (.voteMismatch t kind who csr a) s fun u => carState u t = carFailed ∧
      u.rd R.CAR_MM1 t = a ∧ tocPending u (33 + 16 * t) = true) ∧
  (∀ (s : State) (t : Fin 2) (kind : Fin 3) (who : Fin 4) (csr : Nat) (a : Word) (o : Bool),
    carState s t = carSplit ∨ carState s t = carHeld ∨ carState s t = carFailed →
    exec (.voteMismatch t kind who csr a) s = .next s ∧ exec (.checkerLaneFault t o a) s = .next s) ∧
  (∀ (s : State) (t : Fin 2), carState s t = carDuplex → Runs (.resyncCopyStart t) s fun u => carState u t = carResync ∧
    sameWordsBut [(R.CAR_STAT.id, t.val)] s u) ∧
  (∀ (s : State) (t : Fin 2) (n : Nat), carState s t = carResync → Runs (.resyncComplete t n) s fun u => carState u t = carTmr ∧
    u.get F.CAR_STAT_OUT t = 3 ∧ u.get F.CAR_STALL_STALL_LAST t = min n 0xFFFF ∧
    u.get F.CAR_CNT_CNT (7 * t + 1) = satInc (s.get F.CAR_CNT_CNT (7 * t + 1)) F.CAR_CNT_CNT.top) ∧
  (∀ (s : State) (t : Fin 2), carState s t = carLbist → Runs (.lbistComplete t true) s fun u => carState u t = carResync ∧
    u.get F.CAR_LBIST_LAST_PASS t = 1 ∧ u.get F.CAR_LBIST_LAST_CORE t = s.get F.CAR_LBIST_NEXT t) ∧
  (∀ (s : State) (t : Fin 2), carState s t = carLbist → Runs (.lbistComplete t false) s fun u => carState u t = carDegraded ∧
    u.get F.CAR_LBIST_LAST_PASS t = 0 ∧ u.get F.CAR_STAT_LB_RETIRED t = 1 ∧ tocPending u (35 + 16 * t) = true ∧
    tocPending u (36 + 16 * t) = true) ∧
  (∀ (s : State) (t : Fin 2) (a : Word), carState s t ≠ carSplit → carState s t ≠ carHeld → carState s t ≠ carFailed →
    (Runs (.checkerLaneFault t true a) s fun u => carState u t = carFailed ∧ tocPending u (33 + 16 * t) = true) ∧
    Runs (.checkerLaneFault t false a) s fun u => u.get F.CAR_STAT_CHK_FAULT t = 1 ∧ carState u t = carState s t) ∧
  (∀ (s : State) (t : Fin 2) (ofs : Nat), Runs (.tcmEccError t ofs .corrected) s fun u => tocPending u (37 + 16 * t) = true ∧
    u.get F.CAR_TCM_ECC_CE_CNT t = satInc (s.get F.CAR_TCM_ECC_CE_CNT t) F.CAR_TCM_ECC_CE_CNT.top) ∧
  (∀ (s : State) (t : Fin 2) (ofs : Nat) (e : TcmErr), e ≠ .corrected → Runs (.tcmEccError t ofs e) s fun u => tocPending u (38 + 16 * t) = true ∧
    u.get F.CAR_TCM_ECC_UE_CNT t = satInc (s.get F.CAR_TCM_ECC_UE_CNT t) F.CAR_TCM_ECC_UE_CNT.top ∧
    u.get F.CAR_TCM_ADDR_OFS t = ofs % 2 ^ 20 ∧ (e = .load ∨ e = .fetch → (carSt u t).fabErr = respEcc))) ∧
  ((∀ (s : State) (t x : Fin 2) (init : Init), initSilent s init = false → s.pm.phase ≠ 2 →
    judgeReq s init (R.CAR_IC_CLAIM.addr (2 * t + x)) 4 = respOkay → carMay s t init = true → ctxLive s t x = true →
    Runs (.carIcClaim t x init) s fun u => u.get F.CAR_IC_CLAIM_ID (2 * t + x) = carBest s t x ∧
      carClaimed u t x = (if carBest s t x = 0 then carClaimed s t x else carClaimed s t x ||| 2 ^ carBest s t x)) ∧
  (∀ (s : State) (t x : Fin 2) (init : Init), initSilent s init = true ∨ s.pm.phase = 2 → exec (.carIcClaim t x init) s = .next s) ∧
  (∀ (s : State) (t x : Fin 2) (init : Init), initSilent s init = false → s.pm.phase ≠ 2 →
    judgeReq s init (R.CAR_IC_CLAIM.addr (2 * t + x)) 4 ≠ respOkay →
    Runs (.carIcClaim t x init) s fun u => u.car = s.car) ∧
  (∀ (s : State) (t x : Fin 2) (init : Init), judgeReq s init (R.CAR_IC_CLAIM.addr (2 * t + x)) 4 = respOkay →
    carMay s t init = false ∨ ctxLive s t x = false → exec (.carIcClaim t x init) s = .next s) ∧
  (∀ (s : State) (t x : Fin 2) (init : Init) (v : Word), Admitted init (R.CAR_IC_CLAIM.addr (2 * t + x)) s → carMay s t init = true →
    ctxLive s t x = true → Runs (.carIcComplete t x init v) s fun u => u = { s with car := u.car } ∧
      bitOf (carClaimed u t x) (getBits v 9 0) = false ∧
      ∀ k, k ≠ getBits v 9 0 → bitOf (carClaimed u t x) k = bitOf (carClaimed s t x) k))

/-! ### Chapter 14: the A-cluster -/

/-- A-cluster commands (R396, R398, R402, R404, R408, R409). SPFLUSH and a write of hgatp from a privilege that reaches HS act,
the latter with a flush where the VMID changes under AUTO_FLUSH; from any other they trap; a hart that does not run does
neither. Cache errors of a powered cluster count, trap their consumer, or poison the line. An interrupt file that a hart or
the IOMMU writes sets the identity. A walk that faults in extended virtualization counts and is logged while the log has room;
a walk without a fault leaves nothing behind. The log's index moves on over entries software owns. -/
def Obligations.AclusterComplete : Prop :=
  (∀ (s : State) (h : Fin 8) (p : Priv) (v : Nat), hartRuns s h = true → reachesHS p = true → Runs (.spflush h p v) s fun t =>
    (hartSt t h).flushOps = (hartSt s h).flushOps + 1 ∧ (hartSt t h).flushBp = (hartSt s h).flushBp + b2n (bitOf v 0) ∧
    (hartSt t h).flushPf = (hartSt s h).flushPf + b2n (bitOf v 1) ∧ t = { s with harts := t.harts } ∧
    ∀ k, k ≠ h.val → hartSt t k = hartSt s k) ∧
  (∀ (s : State) (h : Fin 8) (p : Priv) (v : Nat) (g : Bool), hartRuns s h = true → reachesHS p = false →
    (Runs (.spflush h p v) s fun t => t = { s with out := s.out ++ [.trap h (if p = .vs ∨ p = .vu then 22 else 2) 0] }) ∧
    Runs (.hgatpWrite h p v g) s fun t => t = { s with out := s.out ++ [.trap h (if p = .vs ∨ p = .vu then 22 else 2) 0] }) ∧
  (∀ (s : State) (h : Fin 8) (p : Priv) (v : Nat) (g : Bool), hartRuns s h = true → reachesHS p = true →
    Runs (.hgatpWrite h p v g) s fun t =>
    (hartSt t h).hgatp = v % 2 ^ 64 ∧ (hartSt t h).virt = g ∧ t = { s with harts := t.harts } ∧
    (hartSt t h).flushOps = (hartSt s h).flushOps +
      (if s.flag F.mkzctl_AUTO_FLUSH h = true ∧ bitsOf v 57 44 ≠ (hartSt s h).vmid then 1 else 0)) ∧
  (∀ (s : State) (h : Fin 8) (p : Priv) (v : Nat) (g : Bool), hartRuns s h = false →
    exec (.spflush h p v) s = .next s ∧ exec (.hgatpWrite h p v g) s = .next s) ∧
  (∀ (s : State) (h : Fin 8) (l : Nat) (k : CacheErr), s.boot.started = false ∨ s.get F.PM_STAT_MODE 0 = 2 ∨ s.pm.phase = 2 →
    exec (.cacheEccError h l k) s = .next s) ∧
  (∀ (s : State) (h : Fin 8) (l : Nat), clusterOn s → Runs (.cacheEccError h l .corrected) s fun t =>
    t.get F.mcacheerr_HI_CE_CNT h = satInc (s.get F.mcacheerr_HI_CE_CNT h) F.mcacheerr_HI_CE_CNT.top ∧
    sameWordsBut [(R.mcacheerr_HI.id, h.val)] s t) ∧
  (∀ (s : State) (h : Fin 8) (l va : Nat) (f m : Bool), clusterOn s → Runs (.cacheEccError h l (.consumed f va m)) s fun t =>
    t.get F.mcacheerr_LO_UE_CNT h = satInc (s.get F.mcacheerr_LO_UE_CNT h) F.mcacheerr_LO_UE_CNT.top ∧
    t.out = s.out ++ [.trap h (if f then 1 else 5) va] ∧
    (if m then t.get F.mfabricerr_CODE h = respEcc else t.get F.sfabricerr_CODE h = respEcc)) ∧
  (∀ (s : State) (h : Fin 8) (l a : Nat), clusterOn s → Runs (.cacheEccError h l (.dirty a)) s fun t => a / 64 ∈ t.acl.poison ∧
    (∀ x ∈ s.acl.poison, x ∈ t.acl.poison) ∧ t.out = s.out) ∧
  (∀ (s : State) (init : Init) (a f : Nat) (v : Word), Admitted init a s → init < 8 ∨ init = 0x34 → imsicFile a = some f →
    a % 0x1000 = 0 → 1 ≤ v.toNat → v.toNat ≤ 255 → Runs (.imsicSeteipnum init a v) s fun t =>
      tget 0 t.acl.imsic f = tget 0 s.acl.imsic f ||| 2 ^ v.toNat ∧ t = { s with acl := t.acl }) ∧
  (∀ (s : State) (did iova : Nat) (acc : WalkAcc) (ecc : List Nat) (e : WalkErr), iommuXlate s ecc did iova acc = .error e →
    e.flag ≠ 0 → floorLog2 e.flag < 3 → s.flag F.IOMMU_VX_LOGWI_FULL 0 = false → Runs (.iommuWalk did iova acc ecc) s fun t =>
      t.get F.IOMMU_VX_CNT_CNT (floorLog2 e.flag) = satInc (s.get F.IOMMU_VX_CNT_CNT (floorLog2 e.flag)) F.IOMMU_VX_CNT_CNT.top ∧
      t.get F.IOMMU_VX_LOGWI_WI 0 = (s.get F.IOMMU_VX_LOGWI_WI 0 + 1) % 32 ∧
      (t.rd R.IOMMU_VX_E1 (s.get F.IOMMU_VX_LOGWI_WI 0)).toNat = e.addr % 2 ^ 32) ∧
  (∀ (s : State) (did iova : Nat) (acc : WalkAcc) (ecc : List Nat) (r : Nat × Bool), iommuXlate s ecc did iova acc = .ok r →
    exec (.iommuWalk did iova acc ecc) s = .next s) ∧
  (∀ (s : State) (init : Init) (v : Word), Admitted init (R.IOMMU_VX_LOGAI.addr 0) s →
    (v.toNat % 32 + 32 - s.get F.IOMMU_VX_LOGAI_AI 0) % 32 ≠ 0 →
    (v.toNat % 32 + 32 - s.get F.IOMMU_VX_LOGAI_AI 0) % 32 ≤ vxOwned s →
    Runs (.iommuVxLogai init v) s fun t => t.get F.IOMMU_VX_LOGAI_AI 0 = v.toNat % 32 ∧ t.get F.IOMMU_VX_LOGWI_FULL 0 = 0)

/-! ### Chapter 15: virtual endpoints -/

/-- A virtual endpoint's manager `m` gives a command that reaches the endpoint `n`: admitted, by the manager's partition or
Belfry, to an endpoint that is assigned to that manager, with nothing running in it (R417, R419).
What a virtual endpoint's manager is refused (R417, R419): RESULT 1 for RESET and UNASSIGN of an endpoint that runs, 3 for an
endpoint that is not the manager's, 0xD for a command that takes time while one is in progress in the endpoint, and by another
initiator nothing but the denial. -/
def Obligations.ManagerCommandsAnswered : Prop :=
  (∀ (s : State) (m : Fin 4) (init : Init) (v : Word) (n : Nat), Admitted init (R.MGR_CMD.addr m) s → mgrMay s m init = true →
    n = getBits v 9 0 → s.flag F.VEMGR_VEASSIGN_VALID n = true → veMgr s n = m →
    (veState s n = veUnassigned →
      typeOk (bitsOf (s.get F.MGR_ARG_ARG (3 * m)) 7 0) (bitsOf (s.get F.MGR_ARG_ARG (3 * m)) 15 8) = true →
      Runs (.assign m init v) s fun t => t.get F.MGR_RES_RESULT m = 0 ∧ t.get F.MGR_RES_DONE m = 1 ∧ veState t n = veAssigned ∧
        veType t n = bitsOf (s.get F.MGR_ARG_ARG (3 * m)) 7 0) ∧
    (veState s n ≠ veUnassigned → Runs (.assign m init v) s fun t => t.get F.MGR_RES_RESULT m = 2 ∧ veState t n = veState s n ∧
      veType t n = veType s n ∧ t.ve = s.ve) ∧
    (veState s n = veAssigned ∨ veState s n = veQuiesced → bindOk s n = true →
      Runs (.activate m init v) s fun t => t.get F.MGR_RES_RESULT m = 0 ∧ veState t n = veActive) ∧
    (veState s n = veAssigned ∨ veState s n = veQuiesced → bindOk s n = false →
      Runs (.activate m init v) s fun t => t.get F.MGR_RES_RESULT m = 5 ∧ veState t n = veState s n ∧ t.ve = s.ve) ∧
    (veState s n = veActive → (veSt s n).busy = none → Runs (.quiesce m init v) s fun t => t.get F.MGR_RES_RESULT m = 0 ∧
      veState t n = veQuiescing ∧ (veSt t n).busy = some 2) ∧
    (veState s n = veQuiesced → Runs (.freeze m init v) s fun t => t.get F.MGR_RES_RESULT m = 0 ∧ veState t n = veFrozen) ∧
    (veState s n = veFrozen → Runs (.thaw m init v) s fun t => t.get F.MGR_RES_RESULT m = 0 ∧ veState t n = veQuiesced) ∧
    (veState s n = veFrozen → (veSt s n).busy = none → Runs (.save m init v) s fun t => t.get F.MGR_RES_RESULT m = 0 ∧
      veState t n = veFrozen ∧ (veSt t n).busy = some 5 ∧ (veSt t n).bufL = s.get F.MGR_ARG_ARG (3 * m + 2)) ∧
    (veState s n = veAssigned → (veSt s n).busy = none → Runs (.restore m init v) s fun t => t.get F.MGR_RES_RESULT m = 0 ∧
      veState t n = veAssigned ∧ (veSt t n).busy = some 6 ∧ (veSt t n).bufL = s.get F.MGR_ARG_ARG (3 * m + 2)) ∧
    (veState s n = veAssigned ∨ veState s n = veQuiesced ∨ veState s n = veFrozen → (veSt s n).busy = none →
      Runs (.veReset m init v) s fun t => t.get F.MGR_RES_RESULT m = 0 ∧ veState t n = veResetting ∧ (veSt t n).busy = some 7) ∧
    (veState s n = veAssigned ∨ veState s n = veQuiesced ∨ veState s n = veFrozen →
      Runs (.unassign m init v) s fun t => t.get F.MGR_RES_RESULT m = 0 ∧ veState t n = veUnassigned ∧ veType t n = 0 ∧
        (veSt t n).busy = none)) ∧
  ((∀ (s : State) (m : Fin 4) (init : Init) (v : Word), Admitted init (R.MGR_CMD.addr m) s → mgrMay s m init = true →
    s.flag F.VEMGR_VEASSIGN_VALID (getBits v 9 0) = false ∨ veMgr s (getBits v 9 0) ≠ m →
    ∀ c ∈ ([.assign m init v, .activate m init v, .quiesce m init v, .freeze m init v, .thaw m init v, .save m init v,
      .restore m init v, .veReset m init v, .unassign m init v] : List Instr),
    Runs c s fun t => t.get F.MGR_RES_RESULT m = 3 ∧ t.ve = s.ve ∧ ∀ k, veState t k = veState s k) ∧
  (∀ (s : State) (m : Fin 4) (init : Init) (v : Word), Admitted init (R.MGR_CMD.addr m) s → mgrMay s m init = true →
    s.flag F.VEMGR_VEASSIGN_VALID (getBits v 9 0) = true → veMgr s (getBits v 9 0) = m →
    veState s (getBits v 9 0) = veActive ∨ veState s (getBits v 9 0) = veQuiescing →
    ∀ c ∈ ([.veReset m init v, .unassign m init v] : List Instr),
    Runs c s fun t => t.get F.MGR_RES_RESULT m = 1 ∧ t.ve = s.ve ∧ ∀ k, veState t k = veState s k) ∧
  (∀ (s : State) (m : Fin 4) (init : Init) (v : Word), Admitted init (R.MGR_CMD.addr m) s → mgrMay s m init = true →
    s.flag F.VEMGR_VEASSIGN_VALID (getBits v 9 0) = true → veMgr s (getBits v 9 0) = m →
    (veSt s (getBits v 9 0)).busy.isSome = true →
    ∀ c ∈ ([.quiesce m init v, .save m init v, .restore m init v] : List Instr),
    Runs c s fun t => t.get F.MGR_RES_RESULT m = 0xD ∧ t.ve = s.ve ∧ ∀ k, veState t k = veState s k) ∧
  (∀ (s : State) (m : Fin 4) (init : Init) (v : Word), Admitted init (R.MGR_CMD.addr m) s → mgrMay s m init = false →
    ∀ c ∈ ([.assign m init v, .activate m init v, .quiesce m init v, .freeze m init v, .thaw m init v, .save m init v,
      .restore m init v, .veReset m init v, .unassign m init v] : List Instr),
    Runs c s fun t => t.ve = s.ve ∧ ∀ k, veState t k = veState s k))

/-- Asynchronous completions of an endpoint (R418, R423, R431, R432). A drain that is done, or that reaches its limit where its
work can be aborted, ends in QUIESCED; a save and a restore answer their result in VE_CMDRES, a restore that succeeds in
FROZEN and one that does not in ASSIGNED, or with BAD_STATE where the endpoint has left it; a reset ends in ASSIGNED. Outside
its condition each changes nothing. -/
def Obligations.EndpointEventsComplete : Prop :=
  (∀ (s : State) (n : Fin 1024), veClocked s = true → veState s n = veQuiescing → veWork s n = false → (veSt s n).wait = [] →
    Runs (.quiesceDrainDone n) s fun t => veState t n = veQuiesced ∧ (veSt t n).aborted = false) ∧
  (∀ (s : State) (n : Fin 1024), veClocked s = false ∨ veState s n ≠ veQuiescing ∨ veWork s n = true ∨ (veSt s n).wait ≠ [] →
    exec (.quiesceDrainDone n) s = .next s) ∧
  (∀ (s : State) (n : Fin 1024), veClocked s = true → veState s n = veQuiescing → veWork s n = false ∨ drainEnds s n = false →
    Runs (.quiesceDrainLimit n) s fun t => veState t n = veQuiesced) ∧
  (∀ (s : State) (n : Fin 1024), veClocked s = false → exec (.quiesceDrainLimit n) s = .next s) ∧
  (∀ (s : State) (n : Fin 1024), veClocked s = true →
    veState s n ≠ veQuiescing ∨ (veWork s n = true ∧ drainEnds s n = true) → Runs (.quiesceDrainLimit n) s fun t => veState t n = veState s n ∧
    t.ve = s.ve) ∧
  (∀ (s : State) (n : Fin 1024), veClocked s = true → (veSt s n).busy = some 5 → rngState s = rngReady → Runs (.saveComplete n) s fun t =>
    (veSt t n).busy = none ∧ t.get F.VE_CMDRES_OP n = 5 ∧ t.get F.VE_CMDRES_RESULT n = (saveRun n s).1 % 256 ∧
    t.mem = (saveRun n s).2.mem) ∧
  (∀ (s : State) (n : Fin 1024), veClocked s = false ∨ (veSt s n).busy ≠ some 5 ∨ rngState s ≠ rngReady → exec (.saveComplete n) s = .next s) ∧
  (∀ (s : State) (n : Fin 1024), veClocked s = true → (veSt s n).busy = some 6 → veState s n = veAssigned → Runs (.restoreComplete n) s fun t =>
    (veSt t n).busy = none ∧ t.get F.VE_CMDRES_OP n = 6 ∧ t.get F.VE_CMDRES_RESULT n = (restoreRun n s).1 % 256 ∧
    veState t n = (if (restoreRun n s).1 = 0 then veFrozen else veAssigned)) ∧
  (∀ (s : State) (n : Fin 1024), veClocked s = true → (veSt s n).busy = some 6 → veState s n ≠ veAssigned →
    Runs (.restoreComplete n) s fun t => (veSt t n).busy = none ∧ t.get F.VE_CMDRES_RESULT n = 2 ∧ veState t n = veState s n) ∧
  (∀ (s : State) (n : Fin 1024), veClocked s = false ∨ (veSt s n).busy ≠ some 6 → exec (.restoreComplete n) s = .next s) ∧
  (∀ (s : State) (n : Fin 1024), veClocked s = true → veState s n = veResetting → Runs (.veResetComplete n) s fun t => veState t n = veAssigned ∧
    (veSt t n).busy = none ∧ t.get F.VE_CMDRES_OP n = 7 ∧ t.get F.VE_CMDRES_RESULT n = 0) ∧
  (∀ (s : State) (n : Fin 1024), veClocked s = false ∨ veState s n ≠ veResetting → exec (.veResetComplete n) s = .next s)

/-- An endpoint's pages and frames (R421, R422, R428, R430, R433). An admitted index by its side of the ring is taken where it
stays within the ring, and sets no index where it does not; a vector's mask is written, and a pending vector that is unmasked
is sent. A received frame leaves the port's queue and is delivered to the endpoint whose filter takes it, or counts where none
does. A fetched frame's descriptors are consumed. A kick records the beat. -/
def Obligations.EndpointPagesComplete : Prop :=
  (∀ (s : State) (n : Fin 1024) (init : Init) (v : Word), Admitted init (R.ETH_TX_TAIL.addr n) s → isUser s n init = true →
    veType s n = tyEth → ringOk s n = true →
    Runs (.veRingIndexWrite n .ethTxTail init v) s fun t => t.get F.ETH_TX_TAIL_TAIL n =
      if ringSize (s.get F.ETH_TX_CFG_LOG2 n) 6 12 < (getBits v 15 0 + 65536 - s.get F.ETH_TX_HEAD_HEAD n) % 65536
      then s.get F.ETH_TX_TAIL_TAIL n else getBits v 15 0) ∧
  (∀ (s : State) (n : Fin 1024) (init : Init) (v : Word), Admitted init (R.ETH_TXC_AI.addr n) s → isUser s n init = true →
    veType s n = tyEth → ringOk s n = true →
    Runs (.veRingIndexWrite n .ethTxcAi init v) s fun t => t.get F.ETH_TXC_AI_AI n =
      if (s.get F.ETH_TXC_WI_WI n + 65536 - s.get F.ETH_TXC_AI_AI n) % 65536 <
        (getBits v 15 0 + 65536 - s.get F.ETH_TXC_AI_AI n) % 65536
      then s.get F.ETH_TXC_AI_AI n else getBits v 15 0) ∧
  (∀ (s : State) (n : Fin 1024) (init : Init) (v : Word), Admitted init (R.MBX_UP_AI.addr n) s → isMgr s n init = true →
    commonOk s n = true → Runs (.veRingIndexWrite n .mbxUpAi init v) s fun t => t.get F.MBX_UP_AI_IDX n =
      if (s.get F.MBX_UP_WI_IDX n + 65536 - s.get F.MBX_UP_AI_IDX n) % 65536 <
        (getBits v 15 0 + 65536 - s.get F.MBX_UP_AI_IDX n) % 65536
      then s.get F.MBX_UP_AI_IDX n else getBits v 15 0) ∧
  (∀ (s : State) (n : Fin 1024) (init : Init) (v : Word), Admitted init (R.ETH_TX_TAIL.addr n) s → isUser s n init = true →
    veType s n = tyEth → ringOk s n = false → Runs (.veRingIndexWrite n .ethTxTail init v) s fun t =>
      t.get F.VE_ERR_WSTATE n = 1 ∧ t.get F.ETH_TX_TAIL_TAIL n = s.get F.ETH_TX_TAIL_TAIL n) ∧
  (∀ (s : State) (n : Fin 1024) (k : Fin 8) (init : Init) (v : Word), Admitted init (R.VEC_CTRL.addr (8 * n + k)) s →
    isUser s n init = true ∨ isMgr s n init = true → commonOk s n = true →
    Runs (.vecUnmask n k init v) s fun t => t.get F.VEC_CTRL_MASK (8 * n + k) = getBits v 31 31 ∧
      (getBits v 31 31 = 0 → t.get F.VEC_CTRL_PEND (8 * n + k) = 0)) ∧
  (∀ (s : State) (p : Fin 3), veClocked s = false ∨ tget [] s.sw.rxq (20 + p.val) = [] → exec (.ethRxFrame p) s = .next s) ∧
  (∀ (s : State) (p : Fin 3) (x : SwRx) (l : List SwRx), veClocked s = true → tget [] s.sw.rxq (20 + p.val) = x :: l →
    Runs (.ethRxFrame p) s fun t => tget [] t.sw.rxq (20 + p.val) = l ∧ (assignedVes s = [] →
      t.get F.VEMGR_NOVE_CNT p = satInc (s.get F.VEMGR_NOVE_CNT p) F.VEMGR_NOVE_CNT.top)) ∧
  (∀ (s u : State) (p : Fin 3) (x : SwRx) (n : Nat), veClocked s = true → rxTake (20 + p.val) s = some (x, u) →
    (ethVes s (20 + p.val)).filter (fun n => ethTakes s n (beAt x.octets 0 6) (rxVid s p x)) = [n] → veState s n = veActive →
    tunParse x.octets = none →
    exec (.ethRxFrame p) s = .next (rxCounted n (ethDeliver n (rxVid s p x) x u))) ∧
  (∀ (s : State) (n : Fin 1024) (ds : List (List Nat)) (u : State), veClocked s = true → veType s n = tyEth → veState s n = veActive →
    (s.get F.ETH_TX_TAIL_TAIL n + 65536 - s.get F.ETH_TX_HEAD_HEAD n) % 65536 ≠ 0 → txcRoom s n = true →
    portReady s (vePort s n) = true →
    txDescs n (s.get F.ETH_TX_HEAD_HEAD n) true ((s.get F.ETH_TX_TAIL_TAIL n + 65536 - s.get F.ETH_TX_HEAD_HEAD n) % 65536) s =
      (ds, 0, u) →
    Runs (.ethTxFrameFetch n) s fun t => t.get F.ETH_TX_HEAD_HEAD n = (s.get F.ETH_TX_HEAD_HEAD n + ds.length) % 65536) ∧
  (∀ (s : State) (n : Fin 1024), veClocked s = false ∨ veType s n ≠ tyEth ∨
    veState s n ≠ veActive ∨ s.get F.ETH_TX_TAIL_TAIL n % 65536 = s.get F.ETH_TX_HEAD_HEAD n % 65536 ∨ txcRoom s n = false ∨ portReady s (vePort s n) = false →
    exec (.ethTxFrameFetch n) s = .next s) ∧
  (∀ (s : State) (n : Fin 1024) (init : Init) (v : Word), Admitted init (R.PWG_KICK.addr n) s → veType s n = tyPwg →
    isUser s n init = true → veState s n = veActive → bitOf v.toNat 0 = true →
    Runs (.pwgKick n init v) s fun t => (veSt t n).kick = some s.beat ∧ t = { s with ve := t.ve })

/-! ### Chapter 16: Belfry -/

/-- Mailboxes, the random generator, the watchdog and debug (R456, R459 to R464, R527). An admitted RING of the channel's
partition waits as the channel's one request, BUSY, or is answered at once with BAD_FUNC where Belfry runs. Start-up ends
READY; a health failure ends READY with FS389, and a request for random octets that is in front with RNG_FAILED. Belfry's kick
restarts the watchdog, whose expiry asks for a reset of the chip. A certificate submitted shows DONE; a bundle chunk that is
out of order shows BAD_LEN, the first good one starts the bundle. CLOSE clears the debug bits it names. The scan clear ends
enabled, or failed with ERR_N held. -/
def Obligations.BelfryCommandsComplete : Prop :=
  (∀ (s : State) (c : Fin 16) (init : Init) (v : Word), Admitted init (R.BMBX_CTRL.addr c) s → mbxMay s c init = true →
    getBits v 31 31 = 1 → s.flag F.BMBX_STAT_BUSY c = false → s.bel.rung = [] →
    (∀ q, (callReq (.mbx c) s).1 = some q → belFuncs.contains (reqFunc q) = true → Runs (.mailboxRing c init v) s fun t =>
      t.get F.BMBX_STAT_BUSY c = 1 ∧ t.bel.rung = [c.val] ∧ t.get F.BMBX_CTRL_IE c = getBits v 30 30) ∧
    (∀ q, (callReq (.mbx c) s).1 = some q → belFuncs.contains (reqFunc q) = false → c.val ∉ s.bel.aborted → belRuns s = true →
      Runs (.mailboxRing c init v) s fun t => Answered t c stBadFunc [] ∧ t.bel.rung = [] ∧ tocPending t 387 = true)) ∧
  (∀ s : State, rngState s = rngStartup ∨ rngState s = rngRestart → s.pm.phase ≠ 2 → Runs .rngStartupDone s fun t =>
    rngState t = rngReady ∧ t.bel.drbg = true ∧ t.get F.BRNG_STAT_RESTARTS 0 = 0) ∧
  (∀ s : State, (rngState s ≠ rngStartup ∧ rngState s ≠ rngRestart) ∨ s.pm.phase = 2 → exec .rngStartupDone s = .next s) ∧
  (∀ s : State, rngState s = rngReady → Runs .rngHealthFail s fun t => rngState t = rngRestart ∧ t.bel.drbg = false ∧
    t.get F.BRNG_STAT_HEALTH_FAILS 0 = satInc (s.get F.BRNG_STAT_HEALTH_FAILS 0) F.BRNG_STAT_HEALTH_FAILS.top ∧ tocPending t 389 = true) ∧
  (∀ (s : State) (c : Fin 16) (d : List Nat), rngState s = rngReady → Called s c 0x10 d → d.length = 2 → 0 < leNat d → leNat d ≤ 60 →
    Runs .rngHealthFail s fun t => Answered t c stRngFailed []) ∧
  (∀ s : State, rngState s ≠ rngReady → exec .rngHealthFail s = .next s) ∧
  (∀ (s : State) (v : Word), Admitted 0x30 (R.BWDG_KICK.addr 0) s → Runs (.bwdgKick 0x30 v) s fun t =>
    t.get F.BWDG_STAT_REM 0 = bwdgTmo s % 65536 ∧ sameWordsBut [(R.BWDG_STAT.id, 0)] s t) ∧
  (∀ s : State, s.pm.phase ≠ 2 → Runs .bwdgExpired s fun t => t.boot.bwdg = true ∧ t.bel.bwdgHit = true ∧ t.regs = s.regs) ∧
  (∀ s : State, s.pm.phase = 2 → exec .bwdgExpired s = .next s) ∧
  (∀ (s : State) (init : Init) (v : Word), Admitted init (R.BDBG_CTRL.addr 0) s → dbgMay init = true → v.getLsbD 31 = true →
    s.boot.romWait = false → Runs (.bdbgSubmit init v) s fun t => t.get F.BDBG_STAT_DONE 0 = 1 ∧
      t.get F.BDBG_CTRL_CHUNK 0 = getBits v 29 16) ∧
  (∀ (s : State) (init : Init) (v : Word), Admitted init (R.BDBG_CTRL.addr 0) s → dbgMay init = true → v.getLsbD 31 = true →
    s.boot.romWait = true →
    (getBits v 29 16 = 0 → bunHead (dbgBuf s) = true → bunFits (dbgBuf s) = true → Runs (.bundleChunk init v) s fun t =>
      t.get F.BDBG_STAT_RESULT 0 = stOk ∧ t.get F.BDBG_STAT_DONE 0 = 1 ∧ t.bel.bundle = dbgBuf s ∧ t.bel.bundleNext = 1) ∧
    (getBits v 29 16 ≠ 0 → getBits v 29 16 ≠ s.bel.bundleNext → Runs (.bundleChunk init v) s fun t =>
      t.get F.BDBG_STAT_RESULT 0 = stBadLen ∧ t.get F.BDBG_STAT_DONE 0 = 1 ∧ t.bel = s.bel)) ∧
  (∀ (s : State) (init : Init) (v : Word), Admitted init (R.BDBG_CTRL.addr 0) s → dbgMay init = true →
    Runs (.bdbgClose init v) s fun t => dbgEn t = dbgEn s - (dbgEn s &&& getBits v 3 0) ∧ sameWordsBut [(R.BSEC_DEBUG.id, 0)] s t) ∧
  (∀ s : State, s.bel.scan = 1 → (Runs (.scanClearDone true) s fun t => t.bel.scan = 2 ∧ t.get F.BSEC_SCAN_CLEARED 0 = 1 ∧
    t.get F.BSEC_SCAN_ENABLED 0 = 1) ∧ Runs (.scanClearDone false) s fun t => t.bel.scan = 3 ∧ t.toc.errnHeld = true ∧ t.regs = s.regs) ∧
  (∀ (s : State) (ok : Bool), s.bel.scan ≠ 1 → exec (.scanClearDone ok) s = .next s)

/-- Calls about keys and random octets (R454, R455, R459): INFO, RNG_GET, KEY_INFO, KEY_GENERATE, KEY_IMPORT, KEY_DESTROY and KDF
answer their mailbox with status OK and their data where the generator is ready, the handle holds a key that the caller may
use, and a slot is free. -/
def Obligations.KeyCallsComplete : Prop :=
  (∀ (s : State) (c : Fin 16), Called s c 0x01 [] → Runs (.info (.mbx c)) s fun t =>
    Answered t c stOk ([lcState s, dbgEn s, rngState s, 0] ++ leOctets (secMin s) 4)) ∧
  (∀ (s : State) (c : Fin 16) (d : List Nat), Called s c 0x10 d → d.length = 2 → 0 < leNat d → leNat d ≤ 60 →
    (rngStatus s = 0 → Runs (.rngGet (.mbx c)) s fun t => Answered t c stOk (s.generate (leNat d)).1 ∧
      t.free = s.free + leNat d) ∧
    (rngStatus s ≠ 0 → Runs (.rngGet (.mbx c)) s fun t => Answered t c (rngStatus s) [] ∧ t.free = s.free)) ∧
  (∀ (s : State) (c : Fin 16) (h : Nat), Called s c 0x20 [h] → h < 63 → (keySlot s h).kind ≠ 0 →
    bitOf (keySlot s h).mask (callPart s (.mbx c)) = true → Runs (.keyInfo (.mbx c)) s fun t => Answered t c stOk
      ([(keySlot s h).kind] ++ leOctets (keySlot s h).usage 2 ++ leOctets (keySlot s h).mask 2 ++ leOctets (keySlot s h).keyId 2)) ∧
  (∀ (s : State) (c : Fin 16) (d : List Nat) (h : Nat), Called s c 0x21 d → d.length = 4 → d.getD 0 0 ≠ 0 → d.getD 0 0 ≤ 7 →
    rngStatus s = 0 → freeSlot s = some h → Runs (.keyGenerate (.mbx c)) s fun t => Answered t c stOk [h] ∧
      (keySlot t h).kind = d.getD 0 0 ∧ (keySlot t h).usage = leNat ((d.drop 1).take 2) ∧
      (keySlot t h).mask = 2 ^ callPart s (.mbx c) ∧ ∀ k, k ≠ h → keySlot t k = keySlot s k) ∧
  (∀ (s : State) (c : Fin 16) (d : List Nat), Called s c 0x22 d → d.length = 10 →
    mayUse s (.mbx c) (d.getD 0 0) 8 [1, 2, 3, 7] = 0 → bufOk s (.mbx c) (bufDesc d 1) = true →
    Runs (.keyImport (.mbx c)) s fun t =>
      match Config.unwrapKey (keySlot s (d.getD 0 0)).material (bufRead s (bufDesc d 1)), freeSlot s with
      | none, _ => Answered t c stAuth [] ∧ t.bel.keys = s.bel.keys
      | some _, none => Answered t c stNoSlot [] ∧ t.bel.keys = s.bel.keys
      | some m, some g => Answered t c stOk [g] ∧ (keySlot t g).material = m ∧ (keySlot t g).mask = 2 ^ callPart s (.mbx c)) ∧
  (∀ (s : State) (c : Fin 16) (h : Nat), Called s c 0x23 [h] → h < 63 → (keySlot s h).kind ≠ 0 →
    bitOf (keySlot s h).mask (callPart s (.mbx c)) = true → Runs (.keyDestroy (.mbx c)) s fun t => Answered t c stOk [] ∧
      (keySlot t h).kind = 0 ∧ ∀ k, k ≠ h → keySlot t k = keySlot s k) ∧
  (∀ (s : State) (c : Fin 16) (d : List Nat), Called s c 0x36 d → d.length = 20 → mayUse s (.mbx c) (d.getD 0 0) 4 [1, 2] = 0 →
    d.getD 19 0 < 63 → (keySlot s (d.getD 19 0)).kind = 0 → bufOk s (.mbx c) (bufDesc d 1) = true →
    bufOk s (.mbx c) (bufDesc d 10) = true → Runs (.kdf (.mbx c)) s fun t => Answered t c stOk [d.getD 19 0] ∧
      keySlot t (d.getD 19 0) = ⟨2, (keySlot s (d.getD 0 0)).usage, 2 ^ callPart s (.mbx c), false, 0,
        beNat (kdfCtr (keySlot s (d.getD 0 0)).octets (bufRead s (bufDesc d 1)) (bufRead s (bufDesc d 10)) 32)⟩)

/-- Cryptographic calls (R452, R458): with a key that the caller may use so and buffers of its own memory, GCM_SEAL, GCM_OPEN,
CMAC, SHA384, ECDSA_SIGN, ECDSA_VERIFY and IDENT_SIGN answer what their standard computes of the named octets, in the reply or
in the output buffer; a tag or a signature that does not verify answers AUTH and writes nothing. -/
def Obligations.CryptoCallsComplete : Prop :=
  (∀ (s : State) (c : Fin 16) (d : List Nat), Called s c 0x30 d → d.length = 37 → mayUse s (.mbx c) (d.getD 0 0) 0 [1, 2] = 0 →
    (∀ o ∈ [1, 10, 19], bufOk s (.mbx c) (bufDesc d o) = true) → bufOut s (.mbx c) (bufDesc d 28) (bufDesc d 19).2 = true →
    Runs (.gcmSeal (.mbx c)) s fun t =>
      Answered t c stOk (gcmSeal (keySlot s (d.getD 0 0)).octets (bufRead s (bufDesc d 1)) (bufRead s (bufDesc d 10))
        (bufRead s (bufDesc d 19))).2 ∧
      t.mem = (s.belStore (bufDesc d 28).1 (gcmSeal (keySlot s (d.getD 0 0)).octets (bufRead s (bufDesc d 1))
        (bufRead s (bufDesc d 10)) (bufRead s (bufDesc d 19))).1).mem) ∧
  (∀ (s : State) (c : Fin 16) (d : List Nat), Called s c 0x31 d → d.length = 53 → mayUse s (.mbx c) (d.getD 0 0) 1 [1, 2] = 0 →
    (∀ o ∈ [1, 10, 19], bufOk s (.mbx c) (bufDesc d o) = true) → bufOut s (.mbx c) (bufDesc d 28) (bufDesc d 19).2 = true →
    Runs (.gcmOpen (.mbx c)) s fun t =>
      match gcmOpen (keySlot s (d.getD 0 0)).octets (bufRead s (bufDesc d 1)) (bufRead s (bufDesc d 10))
        (bufRead s (bufDesc d 19)) ((d.drop 37).take 16) with
      | none => Answered t c stAuth [] ∧ t.mem = s.mem
      | some p => Answered t c stOk [] ∧ t.mem = (s.belStore (bufDesc d 28).1 p).mem) ∧
  (∀ (s : State) (c : Fin 16) (d : List Nat), Called s c 0x32 d → d.length = 10 → mayUse s (.mbx c) (d.getD 0 0) 2 [1, 2] = 0 →
    bufOk s (.mbx c) (bufDesc d 1) = true → Runs (.cmac (.mbx c)) s fun t =>
      Answered t c stOk (aesCmac (keySlot s (d.getD 0 0)).octets (bufRead s (bufDesc d 1))) ∧ t.mem = s.mem) ∧
  (∀ (s : State) (c : Fin 16) (d : List Nat), Called s c 0x33 d → d.length = 9 → bufOk s (.mbx c) (bufDesc d 0) = true →
    Runs (.sha384 (.mbx c)) s fun t => Answered t c stOk (sha384 (bufRead s (bufDesc d 0))) ∧ t.mem = s.mem) ∧
  (∀ (s : State) (c : Fin 16) (d : List Nat), Called s c 0x34 d → d.length = 58 → mayUse s (.mbx c) (d.getD 0 0) 3 [4] = 0 →
    rngStatus s = 0 → bufOut s (.mbx c) (bufDesc d 49) 96 = true → Runs (.ecdsaSign (.mbx c)) s fun t =>
      Answered t c stOk [] ∧ t.mem = (s.belStore (bufDesc d 49).1 (ecdsaSign (keySlot s (d.getD 0 0)).material
        (1 + beNat (s.generate 48).1 % (n384 - 1)) ((d.drop 1).take 48))).mem) ∧
  (∀ (s : State) (c : Fin 16) (d : List Nat), Called s c 0x35 d → d.length = 58 → mayUse s (.mbx c) (d.getD 0 0) 3 [4] = 0 →
    bufOk s (.mbx c) (bufDesc d 49) = true → 96 ≤ (bufDesc d 49).2 → d.getD 0 0 ≠ 0x3F → Runs (.ecdsaVerify (.mbx c)) s fun t =>
      Answered t c (if ecdsaVerify (ecPublic (keySlot s (d.getD 0 0)).material) ((d.drop 1).take 48)
        ((bufRead s (bufDesc d 49)).take 96) then stOk else stAuth) [] ∧ t.mem = s.mem) ∧
  (∀ (s : State) (c : Fin 16) (d : List Nat), Called s c 0x40 d → d.length = 57 → rngStatus s = 0 →
    bufOut s (.mbx c) (bufDesc d 48) 96 = true → Runs (.identSign (.mbx c)) s fun t =>
      Answered t c stOk [] ∧ t.mem = (s.belStore (bufDesc d 48).1 (ecdsaSign (keySlot s 63).material
        (1 + beNat (s.generate 48).1 % (n384 - 1)) (d.take 48))).mem)

/-- Calls about certificates and the lifecycle (R449, R457, R462, R463): a secure partition's certificate answers its judgement,
another's is refused with FS392; DEBUG_CLOSE clears the debug bits it names; LC_ADVANCE programs PROVISIONED from BLANK for a
secure partition, and any other advance is refused. A request of the wrong length answers BAD_LEN. -/
def Obligations.LifecycleCallsComplete : Prop :=
  (∀ (s : State) (c : Fin 16) (d : List Nat), Called s c 0x50 d → d.length = 9 →
    (partSecure s (callPart s (.mbx c)) = false → Runs (.authSubmit (.mbx c)) s fun t => Answered t c stAuthRefused [] ∧
      t.get F.BDBG_STAT_REFUSALS 0 = satInc (s.get F.BDBG_STAT_REFUSALS 0) F.BDBG_STAT_REFUSALS.top ∧ tocPending t 392 = true) ∧
    (partSecure s (callPart s (.mbx c)) = true → bufOk s (.mbx c) (bufDesc d 0) = true → Runs (.authSubmit (.mbx c)) s fun t =>
      Answered t c (certSubmit (bufRead s (bufDesc d 0)) (callPart s (.mbx c)) 0x30 s).1 [])) ∧
  (∀ (s : State) (c : Fin 16) (m : Nat), Called s c 0x51 [m] → Runs (.debugClose (.mbx c)) s fun t => Answered t c stOk [] ∧
    dbgEn t = dbgEn s - (dbgEn s &&& m % 16)) ∧
  (∀ (s : State) (c : Fin 16) (d : List Nat), Called s c 0x60 d → d.length = 10 → d.getD 0 0 = lcProv → lcState s = lcBlank →
    s.bel.otp.lc = lcBlank → partSecure s (callPart s (.mbx c)) = true → rngState s = rngReady →
    bufOk s (.mbx c) (bufDesc d 1) = true → 48 ≤ (bufDesc d 1).2 → Runs (.lcAdvance (.mbx c)) s fun t => Answered t c stOk [] ∧
      t.bel.otp.lc = lcProv ∧ t.bel.otp.ownerHash = beNat ((bufRead s (bufDesc d 1)).take 48) ∧ t.get F.BSEC_LC_PENDING 0 = 1 ∧
      dbgEn t = 0 ∧ tocPending t 393 = true) ∧
  (∀ (s : State) (c : Fin 16) (d : List Nat), Called s c 0x60 d → d.length = 1 ∨ d.length = 10 →
    d.getD 0 0 ≠ lcProv ∨ lcState s ≠ lcBlank ∨ partSecure s (callPart s (.mbx c)) = false → Runs (.lcAdvance (.mbx c)) s fun t =>
      Answered t c stLcRefused [] ∧ t.bel.otp = s.bel.otp) ∧
  (∀ (s : State) (c : Fin 16) (d : List Nat), d.length ≠ 0 → Called s c 0x01 d → Runs (.info (.mbx c)) s fun t =>
    Answered t c stBadLen [] ∧ tocPending t 387 = true)

/-! ### Chapter 17: Tocsin, Knell and the self-test -/

/-- Tocsin's registers (R473, R475 to R477). An admitted clear takes exactly the pending bits that its writer may clear; a log
selection shows the picked record; a software raise and a software interrupt by the partition that owns the number act; ERR_N
is released by the owner while nothing that holds it pends, and else stays as it is. -/
def Obligations.TocsinWritesComplete : Prop :=
  (∀ (s : State) (w : Fin 16) (init : Init) (v : Word), Admitted init (R.TOC_PEND.addr w) s →
    Runs (.tocPend w init v) s fun t => t.rd R.TOC_PEND w =
      s.rd R.TOC_PEND w &&& ~~~(v &&& BitVec.ofNat 32 (clearMask s init (32 * w))) ∧
      ∀ k, k ≠ w.val → t.rd R.TOC_PEND k = s.rd R.TOC_PEND k) ∧
  (∀ (s : State) (init : Init) (v : Word), Admitted init (R.TOC_LOG_SEL.addr 0) s → tocMayWrite s init = true →
    Runs (.tocLogSel init v) s fun t => t.get F.TOC_LOG_SEL_SRC 0 = bitsOf v.toNat 24 16 ∧
      t.get F.TOC_LOG_SEL_IDX 0 = bitsOf v.toNat 3 0 ∧
      (t.rd R.TOC_LOG_W 0).toNat = (logPick s (bitsOf v.toNat 24 16) (bitsOf v.toNat 3 0)).w0 % 2 ^ 32 ∧
      (t.rd R.TOC_LOG_W 3).toNat = (logPick s (bitsOf v.toNat 24 16) (bitsOf v.toNat 3 0)).w3 % 2 ^ 32 ∧ t.toc = s.toc) ∧
  (∀ (s : State) (init : Init) (v : Word), Admitted init (R.TOC_SWRAISE.addr 0) s → 448 ≤ bitsOf v.toNat 8 0 →
    partOf s init = asgOf s 13 (bitsOf v.toNat 8 0) →
    Runs (.tocSwraise init v) s fun t => tocPending t (bitsOf v.toNat 8 0) = true ∧
      (lastRecord t (bitsOf v.toNat 8 0)).map (·.w1) = some (bitsOf v.toNat 31 16)) ∧
  (∀ (s : State) (init : Init) (v : Word), Admitted init (R.TOC_SWINT.addr 0) s → partOf s init = asgOf s 13 (960 + bitsOf v.toNat 5 0) →
    Runs (.tocSwint init v) s fun t =>
      (t.rd R.TOC_SWINT_PEND (bitsOf v.toNat 5 0 / 32)).getLsbD (bitsOf v.toNat 5 0 % 32) = true ∧
      tget false t.irqLine (960 + bitsOf v.toNat 5 0) = true) ∧
  (∀ (s : State) (init : Init) (v : Word), Admitted init (R.TOC_ERRN.addr 0) s → partOf s init = tocOwner s → bitOf v.toNat 31 = true →
    errnPending s = false → Runs (.errnRelease init v) s fun t => t.toc.errnHeld = false ∧ t.toc.log = s.toc.log) ∧
  (∀ (s : State) (init : Init) (v : Word), Admitted init (R.TOC_ERRN.addr 0) s → partOf s init = tocOwner s →
    bitOf v.toNat 31 = false ∨ errnPending s = true → exec (.errnRelease init v) s = .next s)

/-- Knell (R479, R482, R514). A group's request pair follows Tocsin, or what broken wires carry; a valid request in NORMAL puts
the group into SAFE with its TOCSIN cause, and one that is withdrawn clears the cause. A pair that stays invalid, the loss of
the heartbeat, of the K-die's supply or of the oscillator, and a heartbeat out of range, set their cause in every group they
concern, and a lost heartbeat holds the K-die in HALT_SAFE, out of which PMIC_EN falls; an intended power-down sets none. -/
def Obligations.KnellComplete : Prop :=
  (∀ (s : State) (g : Fin 8) (b : Bool × Bool), Runs (.knellRequest g (some b)) s fun t => pairSt t g = ⟨b.1, b.2⟩) ∧
  (∀ (s : State) (g : Fin 8), Runs (.knellRequest g none) s fun t => pairSt t g = ⟨tocRequests s g, !tocRequests s g⟩) ∧
  (∀ (s : State) (g : Fin 8), s.kn.heartbeat = true → linkUp s = true → tocRequests s g = true → s.get F.KN_GSTAT_STATE g = 0 →
    Runs (.knellRequest g none) s fun t => t.get F.KN_GSTAT_STATE g = 1 ∧ knHas t g knTocsin = true) ∧
  (∀ (s : State) (g : Fin 8), s.kn.heartbeat = true → linkUp s = true → tocRequests s g = false →
    Runs (.knellRequest g none) s fun t => knHas t g knTocsin = false ∧ t.get F.KN_GSTAT_STATE g = s.get F.KN_GSTAT_STATE g) ∧
  (∀ (s : State) (g : Fin 8), s.kn.heartbeat = true → (pairSt s g).valid = false → knHas s g knRail = false →
    Runs (.knellRailFault g) s fun t => knHas t g knRail = true ∧ (t.rd R.KN_STAT 0).getLsbD (16 + g) = true) ∧
  (∀ (s : State) (g : Fin 8), s.kn.heartbeat = false ∨ (pairSt s g).valid = true ∨ knHas s g knRail = true →
    exec (.knellRailFault g) s = .next s) ∧
  (∀ s : State, s.kn.intended = false → Runs .heartbeatLoss s fun t => t.kn.heartbeat = false ∧ t.get F.KN_STAT_HALT 0 = 1 ∧ t.pm.phase = 2 ∧
    (s.pm.phase ≠ 2 → t.get F.SPINE_STAT_STATE 0 = 0) ∧ ∀ g, g < 8 → knHas t g knKclk = true) ∧
  (∀ (s : State) (n : Nat), s.kn.intended = false → n < 570 ∨ 960 < n → Runs (.irc100OutOfRange n) s fun t =>
    t.kn.heartbeat = false ∧ t.get F.KN_STAT_HALT 0 = 1 ∧ t.pm.phase = 2 ∧
    (s.pm.phase ≠ 2 → t.get F.SPINE_STAT_STATE 0 = 0) ∧ ∀ g, g < 8 → knHas t g knKclk = true) ∧
  (∀ (s : State) (n : Nat), 570 ≤ n → n ≤ 960 → exec (.irc100OutOfRange n) s = .next s) ∧
  (∀ s : State, s.kn.intended = false → Runs .ksupLoss s fun t => t.kn.vddK = false ∧ ∀ g, g < 8 → knHas t g knKsup = true) ∧
  (∀ s : State, s.kn.hosc = true → Runs .hoscStop s fun t => t.kn.hosc = false ∧ t.get F.KN_STAT_HOSC_LOST 0 = 1 ∧
    ∀ g, g < 8 → knHas t g knHosc = true) ∧
  (∀ s : State, s.kn.hosc = false → exec .hoscStop s = .next s) ∧
  (∀ s : State, s.kn.intended = true → exec .ksupLoss s = .next s ∧
    (s.flag F.KN_STAT_HALT 0 = false → exec .heartbeatLoss s = .next s)) ∧
  (∀ s : State, s.flag F.KN_STAT_HALT 0 = true → s.pm.en = true → ∀ out, Runs (.haltSafePowerDown out) s fun t =>
    t.pm.phase = 2 ∧ t.pm.en = false ∧ t.get F.SPINE_STAT_STATE 0 = 0 ∧ .pin 5 0 0 ∈ t.out) ∧
  (∀ s : State, s.flag F.KN_STAT_HALT 0 = false ∨ s.pm.en = false → ∀ out, exec (.haltSafePowerDown out) s = .next s)

/-- Partition watchdogs (R484, R485). A running watchdog kicked by its partition within its window with the right token goes on
with the other token and its full time; too late, too early or with a wrong token it is an event with its code, as is its
expiry; the pre-warning shows what remains. A watchdog that is off or paused ignores all of these. -/
def Obligations.WatchdogsComplete : Prop :=
  (∀ (s : State) (w : Fin 16) (init : Init) (v : Word) (us : Nat), Admitted init (R.WDG_KICK.addr w) s → partOf s init = w →
    (wdgSt s w).on = true → (wdgSt s w).paused = false → us < wdgLimit s w →
    ((wdgSt s w).first = true ∨ s.get F.WDG_WIN_OPEN w ≤ us → bitsOf v.toNat 7 0 = wdgToken s w →
      Runs (.wdgKick w init v us) s fun t => (wdgSt t w).first = false ∧
        t.get F.WDG_STAT_NEXT w = 1 - s.get F.WDG_STAT_NEXT w ∧ t.get F.WDG_STAT_REM w = max 1 (s.get F.WDG_CFG_TMO w) ∧
        sameWordsBut [(R.WDG_STAT.id, w.val)] s t) ∧
    ((wdgSt s w).first = true ∨ s.get F.WDG_WIN_OPEN w ≤ us → bitsOf v.toNat 7 0 ≠ wdgToken s w →
      Runs (.wdgKick w init v us) s fun t => t.get F.WDG_STAT_LAST w = 3 ∧ (wdgSt t w).first = true ∧ tocPending t (432 + w) = true) ∧
    ((wdgSt s w).first = false → us < s.get F.WDG_WIN_OPEN w →
      Runs (.wdgKick w init v us) s fun t => t.get F.WDG_STAT_LAST w = 2 ∧ (wdgSt t w).first = true ∧ tocPending t (432 + w) = true)) ∧
  (∀ (s : State) (w : Fin 16) (init : Init) (v : Word) (us : Nat), Admitted init (R.WDG_KICK.addr w) s → partOf s init = w →
    (wdgSt s w).on = true → (wdgSt s w).paused = false → wdgLimit s w ≤ us →
    Runs (.wdgKick w init v us) s fun t => t.get F.WDG_STAT_LAST w = 1 ∧ tocPending t (432 + w) = true) ∧
  (∀ (s : State) (w : Fin 16) (init : Init) (v : Word) (us : Nat), Admitted init (R.WDG_KICK.addr w) s → partOf s init = w →
    (wdgSt s w).on = false ∨ (wdgSt s w).paused = true → exec (.wdgKick w init v us) s = .next s ∧
    exec (.wdgExpired w) s = .next s ∧ exec (.wdgPreWarning w) s = .next s) ∧
  (∀ (s : State) (w : Fin 16), (wdgSt s w).on = true → (wdgSt s w).paused = false →
    Runs (.wdgExpired w) s fun t => t.get F.WDG_STAT_LAST w = 1 ∧ (wdgSt t w).first = true ∧ tocPending t (432 + w) = true ∧
      t.get F.WDG_CNT_CNT w = satInc (s.get F.WDG_CNT_CNT w) F.WDG_CNT_CNT.top) ∧
  (∀ (s : State) (w : Fin 16), (wdgSt s w).on = true → (wdgSt s w).paused = false → (wdgSt s w).first = false →
    s.get F.WDG_PRE_PRE w ≠ 0 → Runs (.wdgPreWarning w) s fun t => t.get F.WDG_STAT_REM w = s.get F.WDG_PRE_PRE w ∧
      tget false t.irqLine (944 + w) = true ∧ (wdgSt t w).since = s.time.elapsed ∧ (wdgSt t w).first = false)

/-- The self-test and the pattern tests (R487 to R492). A slice runs the chosen task's next unit, or skips it where it does not
fit, and names the task; where none is due it shows 0xF. A unit whose age exceeds its limit raises FS421 once. An admitted GO
that the rules allow runs its pattern, another answers RESULT 1; STOP and the end of the duration finish it. -/
def Obligations.SelfTestComplete : Prop :=
  (∀ (s : State) (p : Bool) (a b ofs : Nat), s.tab.started = true → bistClocked s = true → s.flag F.BIST_CTRL_EN 0 = true →
    carState s 0 ≠ carLbist → carState s 1 ≠ carLbist →
    (bistChoose s = 0 → Runs (.bistSlice p a b ofs) s fun t => t.get F.BIST_SLICE_LAST_TASK 0 = 0xF ∧ t.bist = s.bist) ∧
    (bistChoose s ≠ 0 → Runs (.bistSlice p a b ofs) s fun t => t.get F.BIST_SLICE_LAST_TASK 0 = bistChoose s ∧
      tget 0 t.bist.lastSlice (bistChoose s) = s.beat ∧
      (if bistRuns s (bistChoose s) (s.get F.BIST_STAT_NEXT (bistChoose s - 1)) then
        t.get F.BIST_STAT_NEXT (bistChoose s - 1) = (s.get F.BIST_STAT_NEXT (bistChoose s - 1) + 1) % bistUnits (bistChoose s)
       else t.get F.BIST_STAT1_SKIPS (bistChoose s - 1) =
        satInc (s.get F.BIST_STAT1_SKIPS (bistChoose s - 1)) F.BIST_STAT1_SKIPS.top))) ∧
  (∀ (s : State) (p : Bool) (a b ofs : Nat), s.tab.started = false ∨ bistClocked s = false ∨ s.flag F.BIST_CTRL_EN 0 = false →
    exec (.bistSlice p a b ofs) s = .next s) ∧
  (∀ (s : State) (k : Fin 6) (u : Nat), 1 ≤ k.val → u < bistUnits k → s.get F.BIST_TASK_MAX_AGE (k - 1) ≠ 0 →
    s.get F.BIST_TASK_MAX_AGE (k - 1) < s.beat - tget 0 s.bist.tested (8192 * k.val + u) → 8192 * k.val + u ∉ s.bist.late →
    Runs (.bistCoverageLate k u) s fun t => tocPending t 421 = true ∧ 8192 * k.val + u ∈ t.bist.late) ∧
  (∀ (s : State) (k : Fin 6) (u : Nat), k.val = 0 ∨ bistUnits k ≤ u ∨ 8192 * k.val + u ∈ s.bist.late →
    exec (.bistCoverageLate k u) s = .next s) ∧
  (∀ (s : State) (init : Init) (v : Word) (out : List Req), Admitted init (R.BIST_PRBS_CTRL.addr 0) s → bistMay s init = true →
    v.getLsbD 31 = true → v.getLsbD 30 = false →
    (prbsMay s (getBits v 23 21) (getBits v 20 16) = true → Runs (.prbsGo init v out) s fun t =>
      t.bist.prbs = some (getBits v 23 21, getBits v 20 16) ∧ t.get F.BIST_PRBS_STAT_RUNNING 0 = 1) ∧
    (prbsMay s (getBits v 23 21) (getBits v 20 16) = false → Runs (.prbsGo init v out) s fun t =>
      t.get F.BIST_PRBS_STAT_RESULT 0 = 1 ∧ t.bist = s.bist)) ∧
  (∀ (s : State) (init : Init) (v : Word) (n e : Nat) (x : Nat × Nat), Admitted init (R.BIST_PRBS_CTRL.addr 0) s → bistMay s init = true →
    v.getLsbD 31 = false → v.getLsbD 30 = true → s.bist.prbs = some x → Runs (.prbsStop init v n e) s fun t =>
      t.bist.prbs = none ∧ t.get F.BIST_PRBS_STAT_RUNNING 0 = 0 ∧ t.get F.BIST_PRBS_STAT_DONE 0 = 1) ∧
  (∀ (s : State) (n e : Nat) (x : Nat × Nat), s.get F.BIST_PRBS_CTRL_DUR 0 ≠ 0 → s.bist.prbs = some x →
    Runs (.prbsDurationEnd n e) s fun t => t.bist.prbs = none ∧ t.get F.BIST_PRBS_STAT_RUNNING 0 = 0 ∧
      t.get F.BIST_PRBS_STAT_DONE 0 = 1) ∧
  (∀ (s : State) (n e : Nat), s.get F.BIST_PRBS_CTRL_DUR 0 = 0 ∨ s.bist.prbs = none → exec (.prbsDurationEnd n e) s = .next s)

/-! ### Chapter 18: clocks -/

/-- The clock monitor (R502, R503, R507 to R510). It starts after the oscillator's delay, qualifies CLKIN from eight counts with
CAL and FREQ, and shows each window's count. A failure falls back, which TIME shows, with FS1; enough good windows show
CLKIN_OK; an admitted restore then ends the fallback with FS5. Outside its condition each changes nothing.
PLLs and clock domains (R505, R511 to R513). A running PLL locks; one that dies loses its lock, and each of its domains stops,
or is being switched. A forced switch without acknowledgement shows a dead old clock, its gap and FS3. A domain's switch ends
with BUSY = 0, counted; one that was forced and acknowledged raises FS3 here. An admitted division starts a switch of a domain
that divides and is not switching. -/
def Obligations.ClocksComplete : Prop :=
  ((∀ s : State, s.clk.osc = true → s.clk.mon = 0 → Runs .oscDlyEnd s fun t => t.clk.mon = 1 ∧ t.clk.quals = [] ∧
    t = { s with clk := t.clk }) ∧
  (∀ s : State, s.clk.osc = false ∨ s.clk.mon ≠ 0 → exec .oscDlyEnd s = .next s) ∧
  (∀ (s : State) (us : Nat), s.clk.mon = 1 → s.clk.quals.length = 8 → Runs (.clkinQualified us) s fun t =>
    t.get F.CLK_STAT_QUAL 0 = 1 ∧ t.get F.CLK_STAT_FREQ 0 = b2n (s.clk.quals.all (nearNominal 500)) ∧
    t.get F.CLK_MON_CAL 0 = 2 * s.clk.quals.foldl (· + ·) 0 % 2 ^ 14 ∧ t.clk.mon = 2 ∧ t.clk.pllOn = true) ∧
  (∀ (s : State) (us : Nat), s.clk.mon ≠ 1 ∨ s.clk.quals.length ≠ 8 → exec (.clkinQualified us) s = .next s) ∧
  (∀ (s : State) (n : Nat), s.clk.mon = 1 → Runs (.monitorWindow n) s fun t => t.get F.CLK_MON_LAST 0 = min n 1023 ∧
    t.clk.quals = qualNext s.clk.quals n ∧ sameWordsBut [(R.CLK_MON.id, 0)] s t) ∧
  (∀ (s : State) (n : Nat), s.clk.mon = 2 → goodWindow (s.get F.CLK_MON_CAL 0) n = false → s.flag F.CLK_STAT_FALLBACK 0 = false →
    Runs (.monitorWindow n) s fun t => t.get F.CLK_MON_LAST 0 = min n 1023 ∧ t.clk.badRun = s.clk.badRun + 1 ∧
      t.get F.CLK_MON_CNT_BAD_WIN 0 = satInc (s.get F.CLK_MON_CNT_BAD_WIN 0) F.CLK_MON_CNT_BAD_WIN.top) ∧
  (∀ (s : State) (n : Nat), s.clk.mon = 0 → exec (.monitorWindow n) s = .next s) ∧
  (∀ s : State, s.clk.mon = 2 → s.flag F.CLK_STAT_FALLBACK 0 = false → max 1 (s.get F.CLK_MON_CFG_FAIL_WIN 0) ≤ s.clk.badRun →
    s.flag F.KN_STAT_HALT 0 = false → Runs .clkinFail s fun t => t.get F.CLK_STAT_FALLBACK 0 = 1 ∧ t.get F.CLK_STAT_CLKIN_OK 0 = 0 ∧
      t.get F.TIME_STAT_CLK_FALLBACK 0 = 1 ∧ tocPending t 1 = true ∧
      t.get F.CLK_MON_CNT_FALLBACKS 0 = satInc (s.get F.CLK_MON_CNT_FALLBACKS 0) F.CLK_MON_CNT_FALLBACKS.top) ∧
  (∀ s : State, s.clk.mon ≠ 2 ∨ s.flag F.CLK_STAT_FALLBACK 0 = true ∨ s.clk.badRun = 0 ∨ s.flag F.KN_STAT_HALT 0 = true →
    exec .clkinFail s = .next s) ∧
  (∀ s : State, s.flag F.CLK_STAT_FALLBACK 0 = true → s.flag F.CLK_STAT_CLKIN_OK 0 = false →
    max 1 (s.get F.CLK_MON_CFG_OK_WIN 0) ≤ s.clk.okRun → Runs .clkinOk s fun t => t.get F.CLK_STAT_CLKIN_OK 0 = 1 ∧
      t.get F.CLK_STAT_FALLBACK 0 = 1 ∧ (t.rd R.CLK_EVT 0).getLsbD 30 = true) ∧
  (∀ s : State, s.flag F.CLK_STAT_FALLBACK 0 = false ∨ s.clk.okRun = 0 → exec .clkinOk s = .next s) ∧
  (∀ (s : State) (init : Init) (v : Word), Admitted init (R.CLK_CTRL.addr 0) s → clkMay s init = true → v.getLsbD 31 = true →
    s.flag F.CLK_STAT_CLKIN_OK 0 = true → s.flag F.CLK_STAT_FALLBACK 0 = true → Runs (.clkRestore init v) s fun t =>
      t.get F.CLK_STAT_FALLBACK 0 = 0 ∧ t.get F.CLK_STAT_CLKIN_OK 0 = 0 ∧ t.get F.TIME_STAT_CLK_FALLBACK 0 = 0 ∧ tocPending t 5 = true) ∧
  (∀ (s : State) (init : Init) (v : Word), Admitted init (R.CLK_CTRL.addr 0) s → clkMay s init = true →
    s.flag F.CLK_STAT_CLKIN_OK 0 = false ∨ s.flag F.CLK_STAT_FALLBACK 0 = false → exec (.clkRestore init v) s = .next s)) ∧
  ((∀ (s : State) (p : Fin 4) (us : Nat), s.clk.pllOn = true → s.flag F.CLK_PLL_DEAD p = false → Runs (.pllLock p us) s fun t =>
    t.get F.CLK_PLL_LOCK p = 1 ∧ t.get F.CLK_PLL_HOLD p = 0 ∧ (p.val = 2 → t.time.run = true)) ∧
  (∀ (s : State) (p : Fin 4) (out : List Req), s.clk.pllOn = true → s.flag F.CLK_PLL_DEAD p = false → Runs (.pllDead p out) s fun t =>
    t.get F.CLK_PLL_DEAD p = 1 ∧ t.get F.CLK_PLL_LOCK p = 0 ∧
    ∀ d ∈ pllDomains p, if domStops d then t.get F.CLK_DOM_SRC d = 2 else t.get F.CLK_DOM_BUSY d = 1 ∧ d ∈ t.clk.toForced) ∧
  (∀ (s : State) (p : Fin 4) (us : Nat) (out : List Req), s.clk.pllOn = false ∨ s.flag F.CLK_PLL_DEAD p = true →
    exec (.pllLock p us) s = .next s ∧ exec (.pllDead p out) s = .next s) ∧
  (∀ (s : State) (d : Fin 20), d.val ∈ s.clk.toForced → d.val ∉ s.clk.path → Runs (.forcedSwitch d) s fun t =>
    t.get F.CLK_DOM_OLD_DEAD d = 1 ∧ t.get F.CLK_DOMLOST_GAP d = 44 ∧ tocPending t 3 = true ∧ d.val ∈ t.clk.path) ∧
  (∀ (s : State) (d : Fin 20), d.val ∉ s.clk.toForced ∨ d.val ∈ s.clk.path → exec (.forcedSwitch d) s = .next s) ∧
  (∀ (s : State) (d : Fin 20) (gap : Nat), s.flag F.CLK_DOM_BUSY d = true → Runs (.domainSwitchDone d gap) s fun t =>
    t.get F.CLK_DOM_BUSY d = 0 ∧ t.get F.CLK_DOMLOST_SWITCHES d = satInc (s.get F.CLK_DOMLOST_SWITCHES d) F.CLK_DOMLOST_SWITCHES.top ∧
    t.get F.CLK_DOMLOST_GAP d = (if d.val ∈ s.clk.path then 44 else min gap 0xFFFF) ∧ d.val ∉ t.clk.toForced ∧
    (d.val ∈ s.clk.toForced → t.get F.CLK_DOM_SRC d = 1 ∧ (d.val ∉ s.clk.path → tocPending t 3 = true))) ∧
  (∀ (s : State) (d : Fin 20) (gap : Nat), s.flag F.CLK_DOM_BUSY d = false → exec (.domainSwitchDone d gap) s = .next s) ∧
  (∀ (s : State) (d : Fin 20) (init : Init) (v : Word), Admitted init (R.CLK_DOM.addr d) s → clkMay s init = true →
    d.val ∈ [0, 1, 10, 12] → s.flag F.CLK_DOM_BUSY d = false → Runs (.clkDomDiv d init v) s fun t =>
      t.get F.CLK_DOM_DIV d = getBits v 27 26 ∧ t.get F.CLK_DOM_BUSY d = 1 ∧ sameWordsBut [(R.CLK_DOM.id, d.val)] s t) ∧
  (∀ (s : State) (d : Fin 20) (init : Init) (v : Word), Admitted init (R.CLK_DOM.addr d) s → clkMay s init = true →
    d.val ∉ [0, 1, 10, 12] ∨ s.flag F.CLK_DOM_BUSY d = true → Runs (.clkDomDiv d init v) s fun t =>
      t.get F.CLK_DOM_DIV d = s.get F.CLK_DOM_DIV d ∧ t.get F.CLK_DOM_BUSY d = s.get F.CLK_DOM_BUSY d))

/-! ### Chapter 19: boot, reset and the supply -/

/-- Power and resets (R361, R521, R523, R530, R531, R533). A power-on reset leaves every register outside TOCSIN, DICT, BELFRY and
the island at its reset value; with OFF the brownout flag is set. PMIC_EN rises after t_AON_UP in RUN, PGOOD follows, and the
release, which KNELL's HALT holds back, samples the straps and shows the link down. A supply reset drops PMIC_EN; RESET_CHIP
leaves the device in boot step 5 with the H-die in reset, its channels fresh and no late error; RESET_PART meets the request
that stands, holds the partition's trios, stops its LIN channels and starts its watchdog afresh; a TAP reset changes nothing
here. Training opens DRAM or raises FS30. Outside its condition each changes nothing. -/
def Obligations.ResetsComplete : Prop :=
  (∀ (s : State) (brown : Bool), Runs (.powerOnReset brown) s fun t => t.boot.step = 0 ∧ t.boot.off = false ∧ t.ve = [] ∧ t.late = [] ∧
    t.pm.brown = (brown && s.pm.brown) ∧ t.out = s.out ∧
    sameRegsBut [idsTOCSIN, idsBELFRY, idsDICT, idsISLAND] State.reset t) ∧
  (∀ s : State, Runs .aonOff s fun t => t.boot.off = true ∧ t.pm.brown = true ∧ t.boot.step = 0 ∧ t.out = s.out) ∧
  (∀ s : State, s.boot.off = false → s.boot.step = 0 → pmMode s = modeRun → s.boot.again = false →
    Runs .aonUpDone s fun t => t.boot.step = 2 ∧ t.boot.pgood = false ∧ t.pm.en = true ∧
      t.out = s.out ++ [.pin 5 0 1] ∧ sameMem s t ∧ t.regs = s.regs) ∧
  (∀ s : State, s.boot.off = true ∨ s.boot.step ≠ 0 ∨ pmMode s ≠ modeRun ∨ s.boot.again = true → exec .aonUpDone s = .next s) ∧
  (∀ s : State, s.boot.step = 2 → exec .pgoodRise s = .next { s with boot := { s.boot with pgood := true } }) ∧
  (∀ s : State, s.boot.step ≠ 2 → exec .pgoodRise s = .next s) ∧
  (∀ (s : State) (straps : Fin 16) (us : Nat), s.boot.pgood = true → s.boot.step = 2 → s.flag F.KN_STAT_HALT 0 = false →
    Runs (.resetRelease straps us) s fun t =>
    t.boot.step = 3 ∧ t.boot.straps = straps ∧ t.clk.osc = true ∧ t.pm.phase = 0 ∧ tget 0 t.boot.times 0 = min us 0xFFFFFFFF ∧
    t.get F.IOX_STAT_LINK_DOWN 0 = 1 ∧ sameRegsBut [idsCLK, idsPWR, idsFEED, idsIOX, idsCARILLON] s t) ∧
  (∀ (s : State) (straps : Fin 16) (us : Nat), s.boot.pgood = false ∨ s.boot.step ≠ 2 ∨ s.flag F.KN_STAT_HALT 0 = true →
    exec (.resetRelease straps us) s = .next s) ∧
  (∀ (s : State) (out : List Req), s.boot.off = false → 2 ≤ s.boot.step → s.boot.pgood = true → s.pm.en = true →
    Runs (.supplyReset out) s fun t => t.pm.phase = 2 ∧ t.boot.step = 0 ∧ t.boot.pgood = false ∧ t.boot.again = true ∧
      t.pm.en = false ∧ .pin 5 0 0 ∈ t.out) ∧
  (∀ (s : State) (out : List Req), s.boot.off = true ∨ s.boot.step < 2 ∨ s.boot.pgood = false ∨ s.pm.en = false →
    exec (.supplyReset out) s = .next s) ∧
  (∀ (s : State) (out : List Req), s.pm.phase ≠ 2 → s.bel.scan ≠ 1 → Runs (.resetChip out) s fun t =>
    t.boot.step = 5 ∧ t.boot.chip = true ∧ t.boot.started = false ∧ t.pm.phase = 0 ∧ t.tab.started = false ∧
    t.ch = [] ∧ t.late = []) ∧
  (∀ (s : State) (out : List Req), s.pm.phase = 2 ∨ s.bel.scan = 1 → exec (.resetChip out) s = .next s) ∧
  (∀ (s : State) (p : Fin 16), Runs (.resetPart p) s fun t => p.val ∉ t.toc.resetPart ∧
    (∀ n, n < 2 → asgOf t 14 n = p → carState t n = carHeld) ∧ (∀ l, l < 12 → asgOf t 5 l = p → linSt t l = LinSt.init) ∧
    ((wdgSt t p).on = true → (wdgSt t p).first = true)) ∧
  (∀ s : State, exec .tapReset s = .next s) ∧
  (∀ s : State, s.boot.ddr = 1 → s.pm.phase ≠ 2 → Runs (.ddrTrainingDone true) s fun t => t.boot.ddr = 2 ∧
    causeReset ∉ (portSt t 0x1001).causes ∧ ((∀ c ∈ (portSt s 0x1001).causes, c = causeReset) → fenced t 0x1001 = false)) ∧
  (∀ s : State, s.boot.ddr = 1 → s.pm.phase ≠ 2 → Runs (.ddrTrainingDone false) s fun t => t.boot.ddr = 3 ∧ tocPending t 30 = true ∧
    fenced t 0x1001 = fenced s 0x1001) ∧
  (∀ (s : State) (ok : Bool), s.boot.ddr ≠ 1 ∨ s.pm.phase = 2 → exec (.ddrTrainingDone ok) s = .next s)

/-- Boot (R451, R521, R522, R527). The ROM raises FS394 for a corrected OTP error and FS395 for an uncorrectable one, on which a
field of the secure boot halts it. It boots from the bundle of the first copy that passes, or from the second; it halts where
none passes, and in BLANK it waits for a bundle where neither copy starts with MAGIC. Releasing the trios leaves a held trio
with all its cores in TMR or SPLIT. Applying the configuration sets READY and the boot lock. The A-cluster starts after the
boot lock and DDR training, with AUTO_FLUSH from its object. Outside its condition each changes nothing. -/
def Obligations.BootComplete : Prop :=
  (∀ (s : State) (us : Nat) (x : RomIn), s.boot.step = 3 ∨ s.boot.step = 5 → pllsLocked s = true → s.pm.phase = 0 →
    s.boot.romWait = false → s.bel.halted = false → s.bel.scan = 0 → s.boot.jtag = false →
    (x.bad.any OtpField.secure = false → bunOk (otpScan x s) (bunCopy s 0) = true → Runs (.romBoot us x) s fun t =>
      t.boot.step = 6 ∧ t.bel.ownerKey = some (bunPub (bunCopy s 0)) ∧ t.get F.BSEC_LOCK_ASG 0 = 1 ∧
      tget 0 t.boot.times 3 = min us 0xFFFFFFFF ∧ (x.corrected = true → tocPending t 394 = true) ∧
      (x.bad ≠ [] → tocPending t 395 = true)) ∧
    (x.bad.any OtpField.secure = false → bunOk (otpScan x s) (bunCopy s 0) = false → bunOk (otpScan x s) (bunCopy s 1) = true →
      Runs (.romBoot us x) s fun t => t.boot.step = 6 ∧
      t.bel.ownerKey = some (bunPub (bunCopy s 1)) ∧ t.get F.BSEC_LOCK_ASG 0 = 1) ∧
    (x.bad.any OtpField.secure = false → bunOk (otpScan x s) (bunCopy s 0) = false → bunOk (otpScan x s) (bunCopy s 1) = false →
      lcState s ≠ lcBlank ∨ bunMagic (bunCopy s 0) = true ∨ bunMagic (bunCopy s 1) = true →
      Runs (.romBoot us x) s fun t => t.bel.halted = true ∧ t.boot.step = s.boot.step ∧ sameMem s t) ∧
    (x.bad.any OtpField.secure = false → bunOk (otpScan x s) (bunCopy s 0) = false → bunOk (otpScan x s) (bunCopy s 1) = false →
      lcState s = lcBlank → bunMagic (bunCopy s 0) = false → bunMagic (bunCopy s 1) = false →
      Runs (.romBoot us x) s fun t => t.boot.romWait = true ∧ t.bel.halted = false ∧ t.boot.step = s.boot.step ∧ sameMem s t) ∧
    (x.bad.any OtpField.secure = true → Runs (.romBoot us x) s fun t => t.bel.halted = true ∧ tocPending t 395 = true ∧
      t.boot.step = s.boot.step ∧ sameMem s t)) ∧
  (∀ (s : State) (us : Nat) (x : RomIn), s.boot.step ≠ 3 ∧ s.boot.step ≠ 5 ∨ pllsLocked s = false ∨ s.pm.phase ≠ 0 ∨
    s.boot.romWait = true ∨ s.bel.halted = true ∨ s.bel.scan ≠ 0 → exec (.romBoot us x) s = .next s) ∧
  (∀ (s : State) (us : Nat), s.boot.step = 6 → s.pm.phase ≠ 2 → s.bel.halted = false → s.bel.scan = 0 →
    (∀ n, n < 2 → carState s n = carHeld ∧ s.get F.CAR_STAT_RETIRED n = 0) → Runs (.trioRelease us) s fun t => t.boot.step = 7 ∧
      tget 0 t.boot.times 4 = min us 0xFFFFFFFF ∧ ∀ n, n < 2 → carState t n = if carIsSplit s n then carSplit else carTmr) ∧
  (∀ (s : State) (us : Nat), s.boot.step < 6 ∨ s.pm.phase = 2 ∨ s.bel.halted = true ∨ s.bel.scan ≠ 0 →
    exec (.trioRelease us) s = .next s) ∧
  (∀ (s : State) (us : Nat), s.boot.step = 7 → s.bootLocked = false → s.pm.phase = 0 → s.bel.scan = 0 →
    Runs (.configurationApply us) s fun t => t.bootLocked = true ∧ t.get F.DICT_STAT_READY 0 = 1) ∧
  (∀ (s : State) (us : Nat), s.boot.step ≠ 7 ∨ s.bootLocked = true ∨ s.pm.phase ≠ 0 ∨ s.bel.scan ≠ 0 →
    exec (.configurationApply us) s = .next s) ∧
  (∀ (s : State) (us : Nat), s.bootLocked = true → s.boot.ddr = 2 → s.boot.step = 8 → s.boot.started = false → s.pm.phase = 0 →
    Runs (.aClusterRelease us) s fun t => t.boot.started = true ∧ t.boot.step = 9 ∧ tget 0 t.boot.times 7 = min us 0xFFFFFFFF ∧
      ∀ h, h < 8 → t.get F.mkzctl_AUTO_FLUSH h = tget 1 s.dict.vals 0x010060 % 2) ∧
  (∀ (s : State) (us : Nat), s.bootLocked = false ∨ s.boot.ddr ≠ 2 ∨ s.boot.step ≠ 8 ∨ s.boot.started = true ∨ s.pm.phase ≠ 0 →
    exec (.aClusterRelease us) s = .next s)

/-- Supply and temperature (R536, R542). A rail outside its range raises FS12 or FS13. A battery voltage that crosses a limit
shows in the state of its supply and raises its source, or interrupt 517 where it has returned; both rows of a battery do the
same. A temperature is kept clamped with its fault, warning and limit flags, and the K-die's raises FS26 and FS27 as each flag
rises, or interrupt 516 as the warning falls. -/
def Obligations.MonitorsComplete : Prop :=
  (∀ (s : State) (rail : Fin 8) (mv : Nat), s.pm.phase ≠ 2 → railBad rail mv = true → Runs (.railOutOfRange rail mv) s fun t =>
    tocPending t (if rail.val ≤ 1 then 12 else 13) = true) ∧
  (∀ (s : State) (rail : Fin 8) (mv : Nat), s.pm.phase = 2 ∨ railBad rail mv = false → exec (.railOutOfRange rail mv) s = .next s) ∧
  (∀ (s : State) (b48 : Bool) (mv : Nat) (c : Instr), c = .vbatOutOfRange b48 mv ∨ c = .vbatInRange b48 mv →
    (hRuns s = true → Runs c s fun t => vbatOf b48 t = vbatNext b48 (vbatOf b48 s) mv ∧ vbatOf (!b48) t = vbatOf (!b48) s) ∧
    (hRuns s = true → linkUp s = true → vbatNext b48 (vbatOf b48 s) mv ≠ vbatOf b48 s → vbatNext b48 (vbatOf b48 s) mv ≠ 0 →
      Runs c s fun t => tocPending t (vbatSrc b48 (vbatNext b48 (vbatOf b48 s) mv)) = true) ∧
    (hRuns s = true → linkUp s = true → vbatOf b48 s ≠ 0 → vbatNext b48 (vbatOf b48 s) mv = 0 →
      Runs c s fun t => tget 0 t.irqCnt 517 = tget 0 s.irqCnt 517 + 1 ∧ t.regs = s.regs) ∧
    (hRuns s = false → exec c s = .next s)) ∧
  (∀ (s : State) (t : Int) (c : Instr), c = .tempThreshold false t ∨ c = .tempSensorFault false t → s.pm.phase ≠ 2 →
    Runs c s fun u => u.temp.k = tempClamp t ∧ u.temp.kFault = tempFault (tempClamp t) ∧
      u.temp.kWarn = tempOver s.temp.kWarn (tempClamp t) (warnOf s false) ∧
      u.temp.kLimit = tempOver s.temp.kLimit (tempClamp t) 1000 ∧
      (s.temp.kWarn = false → u.temp.kWarn = true → tocPending u 26 = true) ∧
      (s.temp.kLimit = false → u.temp.kLimit = true → tocPending u 27 = true) ∧
      (s.temp.kWarn = true → u.temp.kWarn = false → u.temp.kLimit = false → tget 0 u.irqCnt 516 = tget 0 s.irqCnt 516 + 1)) ∧
  (∀ (s : State) (t : Int) (c : Instr), c = .tempThreshold true t ∨ c = .tempSensorFault true t → hRuns s = true →
    Runs c s fun u => u.temp.h = tempClamp t ∧ u.temp.hFault = tempFault (tempClamp t) ∧
      u.temp.hWarn = tempOver s.temp.hWarn (tempClamp t) (warnOf s true) ∧
      u.temp.hLimit = tempOver s.temp.hLimit (tempClamp t) 1200) ∧
  (∀ (s : State) (t : Int) (c : Instr), c = .tempThreshold false t ∨ c = .tempSensorFault false t → s.pm.phase = 2 →
    exec c s = .next s) ∧
  (∀ (s : State) (t : Int) (c : Instr), c = .tempThreshold true t ∨ c = .tempSensorFault true t → hRuns s = false →
    exec c s = .next s)

/-- Further events (R39, R200, R329, R333, R334, R460, R469, R492, R505). A PLL that loses lock counts it. A correct frame in
SLEEP lowers the transceiver's error count and an erroneous one raises it, to a wake beyond 31. A responder takes a header,
and counts one with a wrong sync field; a commander's missing response ends its header with FS337. A sensor supply returns to
ON. The pattern checker counts from its lock and stops at its loss. Memory errors, Belfry's SRAM error and a generator that
fails its restarts raise their sources. A sense fault's end clears it. -/
def Obligations.LateEventsComplete : Prop :=
  (∀ (s : State) (p : Fin 4), s.flag F.CLK_PLL_LOCK p = true → Runs (.pllLossOfLock p) s fun t => t.get F.CLK_PLL_LOCK p = 0 ∧
    t.get F.CLK_PLL_UNLOCKS p = satInc (s.get F.CLK_PLL_UNLOCKS p) F.CLK_PLL_UNLOCKS.top) ∧
  (∀ (s : State) (p : Fin 4), s.flag F.CLK_PLL_LOCK p = false → exec (.pllLossOfLock p) s = .next s) ∧
  (∀ (s : State) (n : Fin 16) (x : CanFrame) (dlc : Fin 16) (ticks : Nat), trxAsleep s n = true →
    s.flag F.CAN_TRX_CTRL_WAKE_MODE n = true → bitOf x.w0 30 = false → bitOf x.w0 31 = false →
    (wufMatch s n x dlc = true → Runs (.wakeFrameDecode n x dlc true ticks) s fun t => trxAsleep t n = false ∧
      t.get F.CAN_TRX_STAT_WAKE_CAUSE n = 2) ∧
    (wufMatch s n x dlc = false → Runs (.wakeFrameDecode n x dlc true ticks) s fun t => trxAsleep t n = true ∧
      t.get F.CAN_TRX_STAT_FEC n = s.get F.CAN_TRX_STAT_FEC n - 1 ∧ sameWordsBut [(R.CAN_TRX_STAT.id, n.val)] s t) ∧
    (31 ≤ s.get F.CAN_TRX_STAT_FEC n → Runs (.wakeFrameDecode n x dlc false ticks) s fun t => trxAsleep t n = false ∧
      t.get F.CAN_TRX_STAT_WAKE_CAUSE n = 3) ∧
    (s.get F.CAN_TRX_STAT_FEC n < 31 → Runs (.wakeFrameDecode n x dlc false ticks) s fun t => trxAsleep t n = true ∧
      t.get F.CAN_TRX_STAT_FEC n = s.get F.CAN_TRX_STAT_FEC n + 1 ∧ sameWordsBut [(R.CAN_TRX_STAT.id, n.val)] s t)) ∧
  (∀ (s : State) (n : Fin 16) (x : CanFrame) (dlc : Fin 16) (ok : Bool) (ticks : Nat), trxAsleep s n = false ∨
    s.flag F.CAN_TRX_CTRL_WAKE_MODE n = false ∨ bitOf x.w0 30 = true ∨ bitOf x.w0 31 = true →
    exec (.wakeFrameDecode n x dlc ok ticks) s = .next s) ∧
  (∀ (s : State) (l : Fin 12) (pid : Fin 256), linResponder s l = true → busGated s = false →
    (linPid (pid.val % 64) = pid.val → Runs (.linHeaderRx l pid true) s fun t => (linSt t l).bus.map (·.id) = some (pid.val % 64) ∧
      t.regs = s.regs ∧ sameMem s t) ∧
    (linPid (pid.val % 64) ≠ pid.val → Runs (.linHeaderRx l pid true) s fun t => tocPending t 336 = true ∧
      t.get F.LIN_CNT_CNT (8 * l + 1) = satInc (s.get F.LIN_CNT_CNT (8 * l + 1)) F.LIN_CNT_CNT.top) ∧
    Runs (.linHeaderRx l pid false) s fun t => tocPending t 336 = true ∧
      t.get F.LIN_CNT_CNT (8 * l + 1) = satInc (s.get F.LIN_CNT_CNT (8 * l + 1)) F.LIN_CNT_CNT.top) ∧
  (∀ (s : State) (l : Fin 12) (pid : Fin 256) (sync : Bool), linResponder s l = false ∨ busGated s = true →
    exec (.linHeaderRx l pid sync) s = .next s) ∧
  (∀ (s : State) (l : Fin 12) (b : LinBus), (linSt s l).bus = some b → linCommander s l = true → b.publish = false → busGated s = false →
    s.get F.LIN_FRAME_CFG_DIR (64 * l + b.id) = 2 → Runs (.linResponseTimeout l) s fun t => (linSt t l).bus = none ∧
      tocPending t 337 = true ∧ t.get F.LIN_CNT_CNT (8 * l + 2) = satInc (s.get F.LIN_CNT_CNT (8 * l + 2)) F.LIN_CNT_CNT.top) ∧
  (∀ (s : State) (l : Fin 12), (linSt s l).bus = none ∨ linCommander s l = false ∨ busGated s = true →
    exec (.linResponseTimeout l) s = .next s) ∧
  (∀ (s : State) (n : Fin 8) (v i : Nat), hRuns s = true →
    (s.get F.IOX_SSUP_STAT_STATE n = 2 → Runs (.ssupLimitEnd n v i) s fun t => t.get F.IOX_SSUP_STAT_STATE n = 1) ∧
    (s.get F.IOX_SSUP_STAT_STATE n = 4 → Runs (.ssupBackfeedEnd n v i) s fun t => t.get F.IOX_SSUP_STAT_STATE n = 1)) ∧
  (∀ (s : State) (n : Fin 8) (v i : Nat),
    (hRuns s = false ∨ s.get F.IOX_SSUP_STAT_STATE n ≠ 2 → exec (.ssupLimitEnd n v i) s = .next s) ∧
    (hRuns s = false ∨ s.get F.IOX_SSUP_STAT_STATE n ≠ 4 → exec (.ssupBackfeedEnd n v i) s = .next s)) ∧
  (∀ s : State, prbsChecks s = true → s.flag F.BIST_PRBS_STAT_LOCKED 0 = false → Runs .prbsLock s fun t =>
    t.get F.BIST_PRBS_STAT_LOCKED 0 = 1 ∧ t.get64 R.BIST_PRBS_BITS_LO R.BIST_PRBS_BITS_HI 0 = 0 ∧ t.get F.BIST_PRBS_ERRS_ERRS 0 = 0) ∧
  (∀ s : State, prbsChecks s = false ∨ s.flag F.BIST_PRBS_STAT_LOCKED 0 = true → exec .prbsLock s = .next s) ∧
  (∀ (s : State) (n e : Nat), s.flag F.BIST_PRBS_STAT_LOCKED 0 = true → prbsRuns s = true → Runs (.prbsLockLoss n e) s fun t =>
    t.get F.BIST_PRBS_STAT_LOCKED 0 = 0 ∧
    t.get F.BIST_PRBS_STAT_LOCK_LOSSES 0 = satInc (s.get F.BIST_PRBS_STAT_LOCK_LOSSES 0) F.BIST_PRBS_STAT_LOCK_LOSSES.top) ∧
  (∀ (s : State) (n e : Nat), s.flag F.BIST_PRBS_STAT_LOCKED 0 = false ∨ prbsRuns s = false → exec (.prbsLockLoss n e) s = .next s) ∧
  (∀ (s : State) (ok : Bool) (q : Req) (a : Nat),
    (Runs (.ssramEccError ok q a) s fun t => tocPending t (if ok then 102 else 103) = true ∧ sameMem s t) ∧
    Runs (.dramEccError ok q a) s fun t => tocPending t (if ok then 104 else 105) = true ∧ sameMem s t) ∧
  (∀ s : State, Runs .belfrySramEccUe s fun t => tocPending t 397 = true ∧ sameMem s t) ∧
  (∀ s : State, rngState s ≠ rngReady → rngState s ≠ rngFailed → s.pm.phase ≠ 2 → Runs .rngStartupFail s fun t =>
    t.get F.BRNG_STAT_HEALTH_FAILS 0 = satInc (s.get F.BRNG_STAT_HEALTH_FAILS 0) F.BRNG_STAT_HEALTH_FAILS.top ∧
    (if 2 ≤ s.get F.BRNG_STAT_RESTARTS 0 then rngState t = rngFailed ∧ t.get F.BRNG_STAT_RESTARTS 0 = 3 ∧ tocPending t 390 = true
     else rngState t = rngRestart ∧ t.get F.BRNG_STAT_RESTARTS 0 = s.get F.BRNG_STAT_RESTARTS 0 + 1)) ∧
  (∀ s : State, rngState s = rngReady ∨ rngState s = rngFailed ∨ s.pm.phase = 2 → exec .rngStartupFail s = .next s) ∧
  (∀ (s : State) (u : Fin 74), u.val ∉ s.bist.loopFail → Runs (.senseFaultEnd u) s fun t =>
    (if u.val < 72 then bitsOf (chSt t u).word F.PWR_STATE_SENSE_FAULT.hi F.PWR_STATE_SENSE_FAULT.lo = 0
     else (feedSt t (u - 72)).sense = false) ∧ sameMem s t) ∧
  (∀ (s : State) (u : Fin 74), u.val ∈ s.bist.loopFail → exec (.senseFaultEnd u) s = .next s)

/-! ### Every command -/

/-- Every step answers. Whatever a command and the state, the command completes, but for a register write that reaches a device
whose registers the spec does not give (the slots 0x0A0 and 0x0B0 of Table 1-2), which is refused by name; no command faults.
On an empty queue the step idles, as one tick of the time unit where that runs: the queue and the tick are the model's own
choice (log 1). -/
def Obligations.EveryStepAnswers : Prop :=
  (∀ (c : Instr) (s : State), (∃ t, exec c s = .next t) ∨
    ∃ init addr bytes value, c = .registerWrite init addr bytes value ∧
      reachesDevice s init (busAddr s init addr) bytes = true ∧
      exec c s = .refused (.deviceNotSpecified (busAddr s init addr))) ∧
  (∀ (s : State) (init : Init) (addr bytes : Nat), reachesDevice s init (busAddr s init addr) bytes = true →
    decodeAddr (busAddr s init addr) = some (.slot 0x0A0) ∨ decodeAddr (busAddr s init addr) = some (.slot 0x0B0)) ∧
  (∀ s : State, s.pending = [] → ∃ t, step s = .next t ∧ t.pending = [] ∧ t.mem = s.mem ∧ t.out = s.out ∧
    keepsOutside [idsTOCSIN, idsEPORT, idsTIME] s t ∧ (s.time.run = false ∨ s.pm.phase = 2 → t = s))

/-- What a command leaves alone. Every register outside the blocks that `commandWrites` gives a command keeps its word, and every
byte of memory is kept where the command stores nothing; the commands that wait stay as they are. -/
def Obligations.CommandsKeepOtherBlocks : Prop :=
  ∀ (c : Instr) (s t : State), exec c s = .next t →
    keepsOutside (commandWrites c).1 s t ∧ ((commandWrites c).2 = false → sameMem s t ∧ t.mem = s.mem) ∧ t.pending = s.pending

/-- Memory stays in its one canonical form, whatever the device does next. (The form of the list, and what an unlisted byte reads
as, are the model's own: log 2.) -/
def Obligations.MemoryStaysCanonical : Prop :=
  ∀ (s t : State), s.memOk → step s = .next t → t.memOk

/-- After reset the memory has its canonical form and lists nothing, no command waits, the device is powered down to its island
and every register reads its reset value; the spine link is DOWN, TIME_STAT.STATE is FREE and FABRIC_TMO holds its limits.
(The memory list and the queue are the model's own: logs 1 and 2; reset values that the spec does not state are the model's:
log 4.) -/
def Obligations.ResetState : Prop :=
  State.reset.memOk ∧ State.reset.mem = [] ∧ State.reset.pending = [] ∧ State.reset.boot.step = 0 ∧
  (∀ (r : Reg) (i : Nat), State.reset.rd r i = BitVec.ofNat 32 (r.rst i)) ∧
  State.reset.get F.SPINE_STAT_STATE 0 = 0 ∧ State.reset.get F.TIME_STAT_STATE 0 = 3 ∧
  State.reset.get F.FABRIC_TMO_TGT_TMO 0 = 100 ∧ State.reset.get F.FABRIC_TMO_FENCE_MAX 0 = 10000

/-- A step takes nothing back: what has left the device stays out, free values drawn stay drawn, and the step takes at most the
command in front of the queue and adds none. -/
def Obligations.NothingIsTakenBack : Prop :=
  ∀ (s t : State), step s = .next t → s.out <+: t.out ∧ s.free ≤ t.free ∧ t.pending = s.pending.tail

/-- A write that the fabric refuses (R12, R444). Where steps 1 to 3 of R444 or a fence refuse a write, its target is not touched:
no memory changes and no register outside the fabric's late errors, Tocsin and the record of denials. A write by a silent
initiator, or with the K-die unpowered, changes nothing at all. (A hart's write to the xSPI window sends no request: it traps,
R391.) -/
def Obligations.RefusedWritesReachNothing : Prop :=
  (∀ (s : State) (init : Init) (addr bytes value : Nat), busAddr s init addr < csrBase →
    (∀ k, decodeAddr (busAddr s init addr) = some (.tcm k) → init ≠ 0x10 + k) →
    (decodeAddr (busAddr s init addr) = some .xspi → 8 ≤ init) →
    s.pm.phase ≠ 2 → initSilent s init = false → judgeReq s init (busAddr s init addr) bytes ≠ respOkay →
    Runs (.registerWrite init addr bytes value) s fun t => t = s.refuseReq init (busAddr s init addr) bytes true ∧
      sameMem s t ∧ keepsOutside [idsLATE, idsLATE_E, idsTOCSIN, idsDENY] s t) ∧
  (∀ (s : State) (init : Init) (addr bytes value : Nat), s.pm.phase = 2 ∨ initSilent s init = true →
    exec (.registerWrite init addr bytes value) s = .next s)

/-- A write of memory and of registers (R6, R8, R11, R28, R396). A write to SRAM or DRAM that is not refused and covers every
poisoned line it meets stores its octets, the lowest first, at its address and nowhere else, and no other state changes but
that those lines are sound again; one that covers a poisoned line only in part stores nothing and fails with ECC_ERR. A write
to a peripheral slot that is not 4 aligned bytes changes nothing but the late errors. A write of FABRIC_PORT_SEL sets PORT
alone; one of FABRIC_ID, whose fields are read-only, changes no register. -/
def Obligations.RegisterWritesComplete : Prop :=
  (∀ (s : State) (init : Init) (addr bytes value : Nat),
    decodeAddr (busAddr s init addr) = some .sram ∨ decodeAddr (busAddr s init addr) = some .dram →
    s.pm.phase ≠ 2 → initSilent s init = false → judgeReq s init (busAddr s init addr) bytes = respOkay →
    (poisonHit s ((List.range bytes).map (busAddr s init addr + ·)) = none →
      Runs (.registerWrite init addr bytes value) s fun t =>
        t = { s.unpoison ((List.range bytes).map (busAddr s init addr + ·)) with mem := t.mem } ∧
        (∀ k, k < bytes → memGet t.mem (busAddr s init addr + k) = BitVec.ofNat 8 (value / 256 ^ k)) ∧
        ∀ b, b < busAddr s init addr ∨ busAddr s init addr + bytes ≤ b → memGet t.mem b = memGet s.mem b) ∧
    (∀ x, poisonHit s ((List.range bytes).map (busAddr s init addr + ·)) = some x →
      Runs (.registerWrite init addr bytes value) s fun t =>
        t = (memUe init x s).lateErr init (busAddr s init addr) respEcc false ∧ sameMem s t)) ∧
  (∀ (s : State) (init : Init) (addr bytes value n : Nat), decodeAddr (busAddr s init addr) = some (.slot n) →
    s.pm.phase ≠ 2 → initSilent s init = false → judgeReq s init (busAddr s init addr) bytes = respOkay →
    bytes ≠ 4 ∨ busAddr s init addr % 4 ≠ 0 →
    Runs (.registerWrite init addr bytes value) s fun t => t = s.lateErr init (busAddr s init addr) respSize false ∧
      sameMem s t ∧ keepsOutside [idsLATE, idsLATE_E, idsTOCSIN] s t) ∧
  (∀ (s : State) (init : Init) (addr value : Nat), busAddr s init addr = R.FABRIC_PORT_SEL.addr 0 →
    Admitted init (R.FABRIC_PORT_SEL.addr 0) s → Runs (.registerWrite init addr 4 value) s fun t =>
      t.get F.FABRIC_PORT_SEL_PORT 0 = value % 65536 ∧ sameWordsBut [(R.FABRIC_PORT_SEL.id, 0)] s t ∧ sameMem s t) ∧
  (∀ (s : State) (init : Init) (addr value : Nat), busAddr s init addr = R.FABRIC_ID.addr 0 →
    Admitted init (R.FABRIC_ID.addr 0) s → Runs (.registerWrite init addr 4 value) s fun t =>
      (∀ r i, t.rd r i = s.rd r i) ∧ sameMem s t)

/-- Raising a fault source (R471). Its pending bit is set and no other changes, its count goes up by one and stays at its highest
value, and its record with the beat number is the newest of its log; no register outside Tocsin and no memory changes. -/
def Obligations.RaisesAreRecorded : Prop :=
  ∀ (s : State) (n w0 w1 w3 : Nat), n < 512 →
    (∀ m, m < 512 → tocPending (s.raise n w0 w1 w3) m = (tocPending s m || decide (m = n))) ∧
    (s.raise n w0 w1 w3).get F.TOC_CNT_CNT n = satInc (s.get F.TOC_CNT_CNT n) F.TOC_CNT_CNT.top ∧
    (lastRecord (s.raise n w0 w1 w3) n).map (fun r => (r.w0, r.w1, r.w2, r.w3)) =
      some ((2 ^ 31 + w0) % 2 ^ 32, w1 % 2 ^ 32, s.beatLo % 2 ^ 32, w3 % 2 ^ 32) ∧
    keepsOutside [idsTOCSIN] s (s.raise n w0 w1 w3) ∧ (s.raise n w0 w1 w3).mem = s.mem

/-! ### Rules stated whole -/

/-- The value of a chime code (R46): with E = bits 9 to 6 and M = bits 5 to 0, M where E is 0 and (64 + M) × 2^(E−1) else; the
values run from 0 to 2,080,768, which is that of code 0x3FF. -/
def Obligations.ChimeCodeValues : Prop :=
  (∀ c, c < 1024 → bitsOf c 9 6 = 0 → chimeDec c = bitsOf c 5 0) ∧
  (∀ c, c < 1024 → 1 ≤ bitsOf c 9 6 → chimeDec c = (64 + bitsOf c 5 0) * 2 ^ (bitsOf c 9 6 - 1)) ∧
  chimeDec 0 = 0 ∧ chimeDec 0x3FF = 2080768 ∧ ∀ c, c < 1024 → chimeDec c ≤ 2080768

/-- The address map (R12, R13). The space is 40 bits wide and decodes as Tables 1-1 and 1-2 say: SRAM, the populated peripheral
slots, the xSPI window, the pages of VE0 to VE1023 at 0x00_3000_0000 + 0x1000 × n, the two TCMs and DRAM. A request anywhere
else completes with DECODE_ERR: a read returns 0 and changes nothing, and a write changes nothing but the late errors (R28).
The pseudo addresses at which the model takes writes of CSRs (log 8) are no part of the space. -/
def Obligations.AddressMapHolds : Prop :=
  (∀ a, decodeAddr a = some .sram ↔ a ≤ 0x7FFFFF) ∧
  (∀ a n, decodeAddr a = some (.slot n) ↔ 0x10000000 ≤ a ∧ a ≤ 0x1FFFFFFF ∧ n = (a - 0x10000000) / 0x10000 ∧
    (n ≤ 0x006 ∨ n = 0x008 ∨ n = 0x009 ∨ 0x00C ≤ n ∧ n ≤ 0x025 ∨ 0x030 ≤ n ∧ n ≤ 0x036 ∨ n = 0x040 ∨ n = 0x050 ∨ n = 0x051 ∨
      n = 0x060 ∨ n = 0x070 ∨ n = 0x080 ∨ n = 0x090 ∨ n = 0x0A0 ∨ n = 0x0B0 ∨ 0x800 ≤ n ∧ n ≤ 0x8FF)) ∧
  (∀ a, decodeAddr a = some .xspi ↔ 0x20000000 ≤ a ∧ a ≤ 0x2FFFFFFF) ∧
  (∀ a n, decodeAddr a = some (.ve n) ↔ n ≤ 1023 ∧ 0x30000000 + 0x1000 * n ≤ a ∧ a < 0x30000000 + 0x1000 * n + 0x1000) ∧
  (∀ a, decodeAddr a = some (.tcm 0) ↔ 0x40000000 ≤ a ∧ a ≤ 0x400FFFFF) ∧
  (∀ a, decodeAddr a = some (.tcm 1) ↔ 0x40100000 ≤ a ∧ a ≤ 0x401FFFFF) ∧
  (∀ a, decodeAddr a = some .dram ↔ 0x400000000 ≤ a ∧ a ≤ 0x7FFFFFFFF) ∧
  (∀ a, 2 ^ 40 ≤ a → decodeAddr a = none) ∧
  (∀ (s : State) (init : Init) (a bytes : Nat), decodeAddr a = none → busRead init a bytes s = (respDecode, 0, s)) ∧
  (∀ (s : State) (init : Init) (addr bytes value : Nat), decodeAddr (busAddr s init addr) = none → busAddr s init addr < 2 ^ 40 →
    s.pm.phase ≠ 2 → initSilent s init = false → Runs (.registerWrite init addr bytes value) s fun t =>
      t = s.lateErr init (busAddr s init addr) respDecode false ∧ sameMem s t ∧
      keepsOutside [idsLATE, idsLATE_E, idsTOCSIN] s t)

/-- A non-secure read of a late-error entry of a secure initiator (R30): SECURE reads 1 and CAUSE as it stands; INIT, PART and
ADDR read 0. -/
def Obligations.SecureEntriesMasked : Prop :=
  ∀ (s : State) (init : Init) (i : Fin 64), worldFree init = false → secureOf s init = false → s.flag F.LATE_ERR_E0_SECURE i = true →
    (judgeReq s init (R.LATE_ERR_E0.addr i) 4 = respOkay → ∃ d, busRead init (R.LATE_ERR_E0.addr i) 4 s = (respOkay, d, s) ∧
      bitsOf d 30 30 = 1 ∧ bitsOf d 28 26 = s.get F.LATE_ERR_E0_CAUSE i ∧ bitsOf d 25 22 = 0 ∧ bitsOf d 10 0 = 0) ∧
    (judgeReq s init (R.LATE_ERR_E1.addr i) 4 = respOkay → busRead init (R.LATE_ERR_E1.addr i) 4 s = (respOkay, 0, s)) ∧
    (judgeReq s init (R.LATE_ERR_E2.addr i) 4 = respOkay → busRead init (R.LATE_ERR_E2.addr i) 4 s = (respOkay, 0, s))
end

