-- ==== Sys2Proof/Laws/Memory.lean ====
section
/-!
SUPPORT. Memory: reading after a write, and the canonical form, which every operation on memory keeps.
-/

namespace Sys2Proof.Machine

/-- A cell whose address lies below every address of a memory. -/
def below (a : Nat) : List Host.Cell → Prop
  | [] => True
  | (j, _) :: _ => a < j

theorem wf_cons (a : Nat) (x : Byte) (m : List Host.Cell) :
    Memory.wf ((a, x) :: m) = true ↔ x ≠ freshByte ∧ below a m ∧ Memory.wf m = true := by
  cases m with
  | nil => simp [Memory.wf, below]
  | cons c m => cases c; simp [Memory.wf, below, and_assoc]

theorem below_all {a : Nat} {m : List Host.Cell} (hb : below a m) (hw : Memory.wf m = true) : ∀ c ∈ m, a < c.1 := by
  induction m generalizing a with
  | nil => simp
  | cons c m ih =>
    cases c with
    | mk j x =>
      have hj : a < j := hb
      have h := (wf_cons j x m).1 hw
      intro c hc
      rcases List.mem_cons.1 hc with rfl | hc
      · exact hj
      · exact Nat.lt_trans hj (ih h.2.1 h.2.2 c hc)

theorem below_of_all {a : Nat} {m : List Host.Cell} (h : ∀ c ∈ m, a < c.1) : below a m := by
  cases m with
  | nil => trivial
  | cons c m => exact h c (List.mem_cons_self ..)

/-- Cells taken out of a memory leave it in its canonical form. -/
theorem wf_filter (p : Host.Cell → Bool) {m : List Host.Cell} (hw : Memory.wf m = true) : Memory.wf (m.filter p) = true := by
  induction m with
  | nil => rfl
  | cons c m ih =>
    cases c with
    | mk j x =>
      have h := (wf_cons j x m).1 hw
      by_cases hp : p (j, x)
      · rw [List.filter_cons_of_pos hp]
        refine (wf_cons j x _).2 ⟨h.1, below_of_all ?_, ih h.2.2⟩
        intro c hc
        exact below_all h.2.1 h.2.2 c (List.mem_filter.1 hc).1
      · rw [List.filter_cons_of_neg hp]
        exact ih h.2.2

theorem below_ins {b a : Nat} {x : Byte} {m : List Host.Cell} (hb : b < a) (h : below b m) : below b (memIns a x m) := by
  cases m with
  | nil => exact hb
  | cons c m =>
    cases c with
    | mk j y =>
      unfold memIns
      split
      · exact hb
      · exact h

theorem wf_ins {a : Nat} {x : Byte} {m : List Host.Cell} (hx : x ≠ freshByte) (hw : Memory.wf m = true) (ha : ∀ c ∈ m, c.1 ≠ a) :
    Memory.wf (memIns a x m) = true := by
  induction m with
  | nil => simpa [memIns, Memory.wf] using hx
  | cons c m ih =>
    cases c with
    | mk j y =>
      have h := (wf_cons j y m).1 hw
      have hj : j ≠ a := ha (j, y) (List.mem_cons_self ..)
      unfold memIns
      split
      · rename_i hlt
        exact (wf_cons a x _).2 ⟨hx, hlt, hw⟩
      · rename_i hlt
        have hja : j < a := by omega
        refine (wf_cons j y _).2 ⟨h.1, below_ins hja h.2.1, ih h.2.2 ?_⟩
        intro c hc
        exact ha c (List.mem_cons_of_mem _ hc)

/-- Writing a byte keeps the canonical form. -/
theorem wf_memPut {m : List Host.Cell} (a : Nat) (x : Byte) (hw : Memory.wf m = true) : Memory.wf (memPut m a x) = true := by
  unfold memPut
  have hf := wf_filter (fun c => decide (c.1 ≠ a)) hw
  by_cases hx : x = freshByte
  · simpa [hx] using hf
  · simp only [if_neg hx]
    refine wf_ins hx hf ?_
    intro c hc
    simpa using (List.mem_filter.1 hc).2

theorem memGet_filter_other {m : List Host.Cell} {a b : Nat} (h : b ≠ a) :
    memGet (m.filter (fun c => decide (c.1 ≠ a))) b = memGet m b := by
  induction m with
  | nil => rfl
  | cons c m ih =>
    cases c with
    | mk j x =>
      by_cases hj : j = a
      · subst hj
        simpa [List.filter, memGet, Ne.symm h] using ih
      · by_cases hb : j = b
        · subst hb
          simp [List.filter, memGet, hj]
        · simpa [List.filter, hj, memGet, hb] using ih

theorem memGet_filter_same (m : List Host.Cell) (a : Nat) : memGet (m.filter (fun c => decide (c.1 ≠ a))) a = freshByte := by
  induction m with
  | nil => rfl
  | cons c m ih =>
    cases c with
    | mk j x =>
      by_cases hj : j = a
      · simpa [List.filter, hj] using ih
      · simpa [List.filter, hj, memGet] using ih

theorem memGet_ins_same (a : Nat) (x : Byte) {m : List Host.Cell} (h : ∀ c ∈ m, c.1 ≠ a) : memGet (memIns a x m) a = x := by
  induction m with
  | nil => simp [memIns, memGet]
  | cons c m ih =>
    cases c with
    | mk j y =>
      have hj : j ≠ a := h (j, y) (List.mem_cons_self ..)
      unfold memIns
      split
      · simp [memGet]
      · simpa [memGet, hj] using ih (fun c hc => h c (List.mem_cons_of_mem _ hc))

theorem memGet_ins_other {a b : Nat} (h : b ≠ a) (x : Byte) (m : List Host.Cell) : memGet (memIns a x m) b = memGet m b := by
  induction m with
  | nil => simp [memIns, memGet, Ne.symm h]
  | cons c m ih =>
    cases c with
    | mk j y =>
      unfold memIns
      split
      · simp [memGet, Ne.symm h]
      · simp only [memGet, ih]

/-- A byte reads back what was written to it. -/
theorem memGet_memPut_same (m : List Host.Cell) (a : Nat) (x : Byte) : memGet (memPut m a x) a = x := by
  show memGet (if x = freshByte then _ else _) a = x
  by_cases hx : x = freshByte
  · rw [if_pos hx, memGet_filter_same, hx]
  · simp only [if_neg hx]
    refine memGet_ins_same a x ?_
    intro c hc
    simpa using (List.mem_filter.1 hc).2

/-- A write leaves every other byte alone. -/
theorem memGet_memPut_other {a b : Nat} (h : b ≠ a) (m : List Host.Cell) (x : Byte) : memGet (memPut m a x) b = memGet m b := by
  unfold memPut
  by_cases hx : x = freshByte
  · simp only [if_pos hx, memGet_filter_other h]
  · simp only [if_neg hx, memGet_ins_other h, memGet_filter_other h]

/-- Writing octets keeps the canonical form. -/
theorem wf_memWrite (s : State) (a : Nat) (l : List Nat) (h : Memory.wf s.mem = true) : Memory.wf (s.memWrite a l).mem = true := by
  induction l generalizing s a with
  | nil => exact h
  | cons b l ih => exact ih _ _ (wf_memPut a _ h)

/-- Writing octets leaves every byte outside them alone. -/
theorem memGet_memWrite_other (s : State) (a : Nat) (l : List Nat) (b : Nat) (h : b < a ∨ a + l.length ≤ b) :
    memGet (s.memWrite a l).mem b = memGet s.mem b := by
  induction l generalizing s a with
  | nil => rfl
  | cons x l ih =>
    have hl : (x :: l).length = l.length + 1 := rfl
    show memGet (State.memWrite _ (a + 1) l).mem b = _
    rw [ih _ (a + 1) (by omega)]
    exact memGet_memPut_other (by omega) _ _

/-- The octets written read back. -/
theorem memGet_memWrite_same (s : State) (a : Nat) (l : List Nat) (i : Nat) (h : i < l.length) :
    memGet (s.memWrite a l).mem (a + i) = BitVec.ofNat 8 (l.getD i 0) := by
  induction l generalizing s a i with
  | nil => exact absurd h (Nat.not_lt_zero i)
  | cons x l ih =>
    show memGet (State.memWrite _ (a + 1) l).mem (a + i) = _
    cases i with
    | zero =>
      rw [memGet_memWrite_other _ _ _ _ (by omega)]
      exact memGet_memPut_same _ _ _
    | succ i =>
      have := ih { s with mem := memPut s.mem a (BitVec.ofNat 8 x) } (a + 1) i (by simpa using h)
      rw [show a + (i + 1) = a + 1 + i by omega, this]
      rfl

end Sys2Proof.Machine
end

