-- ==== Sys2Proof/Laws/Registers.lean ====
section
/-!
SUPPORT. The register file: reading a word after it or another word has been written, and after words have been reset.
-/

namespace Sys2Proof.Machine

/-! ### One word -/

theorem look_drop_same (m : RegMap) (k : Nat × Nat) : (m.drop k).look k = none := by
  induction m with
  | nil => rfl
  | cons e m ih =>
    by_cases h : e.1 = k
    · simpa [RegMap.drop, List.filter, h] using ih
    · simpa [RegMap.drop, List.filter, h, RegMap.look] using ih

theorem look_drop_other (m : RegMap) {k j : Nat × Nat} (h : j ≠ k) : (m.drop k).look j = m.look j := by
  induction m with
  | nil => rfl
  | cons e m ih =>
    by_cases hk : e.1 = k
    · have hj : e.1 ≠ j := fun hej => h (hej.symm.trans hk)
      simpa [RegMap.drop, List.filter, hk, RegMap.look, hj, Ne.symm h] using ih
    · by_cases hj : e.1 = j
      · simp [RegMap.drop, List.filter, RegMap.look, hj, h]
      · simpa [RegMap.drop, List.filter, hk, RegMap.look, hj] using ih

theorem look_ins_same (k : Nat × Nat) (w : Word) (m : RegMap) (hm : m.look k = none) : (RegMap.ins k w m).look k = some w := by
  induction m with
  | nil => simp [RegMap.ins, RegMap.look]
  | cons e m ih =>
    by_cases hlt : keyLt k e.1
    · simp [RegMap.ins, hlt, RegMap.look]
    · by_cases hj : e.1 = k
      · simp [RegMap.look, hj] at hm
      · simp only [RegMap.look, if_neg hj] at hm
        simp [RegMap.ins, hlt, RegMap.look, hj, ih hm]

theorem look_ins_other {k j : Nat × Nat} (h : j ≠ k) (w : Word) (m : RegMap) : (RegMap.ins k w m).look j = m.look j := by
  induction m with
  | nil => simp [RegMap.ins, RegMap.look, Ne.symm h]
  | cons e m ih =>
    by_cases hlt : keyLt k e.1
    · simp [RegMap.ins, hlt, RegMap.look, Ne.symm h]
    · simp only [RegMap.ins, if_neg hlt, RegMap.look, ih]

/-- A word reads back what was written to it. -/
theorem read_write_same (m : RegMap) (r : Reg) (i : Nat) (w : Word) : (m.write r i w).read r i = w := by
  unfold RegMap.write RegMap.read
  by_cases h : w = r.reset i
  · simp [look_drop_same, h]
  · simp [h, look_ins_same _ _ _ (look_drop_same m (r.id, i))]

/-- A write leaves every other word alone. -/
theorem read_write_other (m : RegMap) {r q : Reg} {i j : Nat} (h : (q.id, j) ≠ (r.id, i)) (w : Word) :
    (m.write r i w).read q j = m.read q j := by
  have e : (m.write r i w).look (q.id, j) = m.look (q.id, j) := by
    unfold RegMap.write
    split
    · rw [look_drop_other m h]
    · rw [look_ins_other h, look_drop_other m h]
  unfold RegMap.read
  rw [e]

@[simp] theorem rd_wr_same (s : State) (r : Reg) (i : Nat) (w : Word) : (s.wr r i w).rd r i = w :=
  read_write_same s.regs r i w

theorem rd_wr_other (s : State) {r q : Reg} {i j : Nat} (h : (q.id, j) ≠ (r.id, i)) (w : Word) :
    (s.wr r i w).rd q j = s.rd q j := read_write_other s.regs h w

theorem rd_wr_id (s : State) {r q : Reg} (h : q.id ≠ r.id) (i j : Nat) (w : Word) : (s.wr r i w).rd q j = s.rd q j :=
  rd_wr_other s (fun e => h (congrArg Prod.fst e)) w

theorem rd_wr_index (s : State) (r : Reg) {i j : Nat} (h : j ≠ i) (w : Word) : (s.wr r i w).rd r j = s.rd r j :=
  rd_wr_other s (fun e => h (congrArg Prod.snd e)) w

/-! ### One field -/

theorem pack_eq (p q a b c : Nat) : a * (p * q) + b * p + c = p * (b + q * a) + c := by
  rw [Nat.mul_add, Nat.mul_comm b p, Nat.mul_comm a, Nat.mul_assoc, Nat.add_comm (p * (q * a))]

theorem bitsOf_withBits_same (w hi lo v : Nat) (h : lo ≤ hi) : bitsOf (withBits w hi lo v) hi lo = v % 2 ^ (hi + 1 - lo) := by
  unfold bitsOf withBits
  have e : 2 ^ (hi + 1) = 2 ^ lo * 2 ^ (hi + 1 - lo) := by rw [← Nat.pow_add]; congr 1; omega
  have a : w / 2 ^ (hi + 1) * 2 ^ (hi + 1) + v % 2 ^ (hi + 1 - lo) * 2 ^ lo + w % 2 ^ lo =
      w % 2 ^ lo + 2 ^ lo * (v % 2 ^ (hi + 1 - lo) + 2 ^ (hi + 1 - lo) * (w / 2 ^ (hi + 1))) := by
    rw [e, pack_eq]; omega
  rw [a, Nat.add_mul_div_left _ _ (Nat.two_pow_pos lo), Nat.div_eq_of_lt (Nat.mod_lt _ (Nat.two_pow_pos lo)), Nat.zero_add,
    Nat.add_mul_mod_self_left, Nat.mod_mod]

theorem testBit_withBits (w hi lo v i : Nat) (h : lo ≤ hi) : (withBits w hi lo v).testBit i =
    if i < lo then w.testBit i else if i ≤ hi then v.testBit (i - lo) else w.testBit i := by
  have e : 2 ^ (hi + 1) = 2 ^ lo * 2 ^ (hi + 1 - lo) := by rw [← Nat.pow_add]; congr 1; omega
  have a : withBits w hi lo v =
      2 ^ lo * (2 ^ (hi + 1 - lo) * (w / 2 ^ (hi + 1)) + v % 2 ^ (hi + 1 - lo)) + w % 2 ^ lo := by
    unfold withBits
    rw [e, pack_eq, Nat.add_comm (v % _)]
  rw [a, Nat.testBit_two_pow_mul_add _ (Nat.mod_lt _ (Nat.two_pow_pos lo))]
  split
  · simp_all
  · rename_i hlo
    rw [Nat.testBit_two_pow_mul_add _ (Nat.mod_lt _ (Nat.two_pow_pos _))]
    by_cases hhi : i ≤ hi
    · have : i - lo < hi + 1 - lo := by omega
      simp [hhi, this]
    · have h1 : ¬ (i - lo < hi + 1 - lo) := by omega
      have h2 : i - lo - (hi + 1 - lo) + (hi + 1) = i := by omega
      simp [hhi, h1, Nat.testBit_div_two_pow, h2]

theorem testBit_bitsOf (w hi lo i : Nat) (h : lo ≤ hi) : (bitsOf w hi lo).testBit i = (decide (i ≤ hi - lo) && w.testBit (i + lo)) := by
  unfold bitsOf
  rw [Nat.testBit_mod_two_pow, Nat.testBit_div_two_pow]
  congr 1
  exact decide_eq_decide.2 (by omega)

/-- Two fields of one word that share no bit: setting one leaves the other. -/
theorem bitsOf_withBits_other (w hi lo v a b : Nat) (h : lo ≤ hi) (hb : b ≤ a) (d : a < lo ∨ hi < b) :
    bitsOf (withBits w hi lo v) a b = bitsOf w a b := by
  apply Nat.eq_of_testBit_eq
  intro i
  rw [testBit_bitsOf _ _ _ _ hb, testBit_bitsOf _ _ _ _ hb]
  by_cases hi' : i ≤ a - b
  · rw [testBit_withBits _ _ _ _ _ h]
    have : i + b < lo ∨ hi < i + b := by omega
    rcases this with h1 | h1
    · simp [h1]
    · have h2 : ¬ i + b < lo := by omega
      have h3 : ¬ i + b ≤ hi := by omega
      simp [h2, h3]
  · simp [hi']

theorem withBits_lt (w hi lo v : Nat) (h : lo ≤ hi) (h32 : hi < 32) (hw : w < 2 ^ 32) : withBits w hi lo v < 2 ^ 32 := by
  apply Nat.lt_pow_two_of_testBit
  intro i hi'
  rw [testBit_withBits _ _ _ _ _ h]
  have h1 : ¬ i < lo := by omega
  have h2 : ¬ i ≤ hi := by omega
  simp only [h1, h2, if_false]
  exact Nat.testBit_lt_two_pow (Nat.lt_of_lt_of_le hw (Nat.pow_le_pow_right (by decide) hi'))

/-- A field lies in its word. -/
def Fld.ok (f : Fld) : Prop := f.lo ≤ f.hi ∧ f.hi < 32

theorem getBits_setBits_same (w : Word) (hi lo v : Nat) (h : lo ≤ hi) (h32 : hi < 32) :
    getBits (setBits w hi lo v) hi lo = v % 2 ^ (hi + 1 - lo) := by
  unfold getBits setBits
  rw [BitVec.toNat_ofNat, Nat.mod_eq_of_lt (withBits_lt _ _ _ _ h h32 w.isLt), bitsOf_withBits_same _ _ _ _ h]

theorem getBits_setBits_other (w : Word) (hi lo v a b : Nat) (h : lo ≤ hi) (h32 : hi < 32) (hb : b ≤ a) (d : a < lo ∨ hi < b) :
    getBits (setBits w hi lo v) a b = getBits w a b := by
  unfold getBits setBits
  rw [BitVec.toNat_ofNat, Nat.mod_eq_of_lt (withBits_lt _ _ _ _ h h32 w.isLt), bitsOf_withBits_other _ _ _ _ _ _ h hb d]

/-- A field reads back what was put into it, modulo its width. -/
theorem get_put_same (s : State) (f : Fld) (i v : Nat) (h : f.ok) : (s.put f i v).get f i = v % 2 ^ (f.hi + 1 - f.lo) := by
  unfold State.put State.get
  rw [rd_wr_same, getBits_setBits_same _ _ _ _ h.1 h.2]

/-- A field of another family keeps its value. -/
theorem get_put_id (s : State) {f g : Fld} (h : g.reg.id ≠ f.reg.id) (i j v : Nat) : (s.put f i v).get g j = s.get g j := by
  unfold State.put State.get
  rw [rd_wr_id s h]

/-- A field of another word of the family keeps its value. -/
theorem get_put_index (s : State) {f g : Fld} (hr : g.reg = f.reg) {i j : Nat} (h : j ≠ i) (v : Nat) :
    (s.put f i v).get g j = s.get g j := by
  unfold State.put State.get
  rw [hr, rd_wr_index s f.reg h]

/-- A field of the same word that shares no bit keeps its value. -/
theorem get_put_field (s : State) {f g : Fld} (hr : g.reg = f.reg) (hf : f.ok) (hg : g.ok) (d : g.hi < f.lo ∨ f.hi < g.lo)
    (i j v : Nat) : (s.put f i v).get g j = s.get g j := by
  by_cases h : j = i
  · subst h
    unfold State.put State.get
    rw [hr, rd_wr_same, getBits_setBits_other _ _ _ _ _ _ hf.1 hf.2 hg.1 d]
  · exact get_put_index s hr h v

/-- A word read through a field is the field of the word. -/
theorem get_wr_same (s : State) (f : Fld) (i : Nat) (w : Word) : (s.wr f.reg i w).get f i = getBits w f.hi f.lo := by
  unfold State.get
  rw [rd_wr_same]

/-- A field of another family than the word written keeps its value. -/
theorem get_wr_id (s : State) {r : Reg} {g : Fld} (h : g.reg.id ≠ r.id) (i j : Nat) (w : Word) :
    (s.wr r i w).get g j = s.get g j := by
  unfold State.get
  rw [rd_wr_id s h]

end Sys2Proof.Machine
end

