-- ==== Sys2Proof/Laws/Moves.lean ====
section
/-!
SUPPORT. What an operation can change at most, as one relation: `Moves B m s t` says that `t` differs from `s` only in register
words of the blocks `B`, in memory only where `m` is true and then in canonical form, and in state that is no register and no
memory; the queue of waiting commands is the same, free values drawn stay drawn, and what has left the device stays out.
-/

namespace Sys2Proof.Machine

/-- Every block of a list is among others. -/
def subBlocks (A B : List (Nat × Nat)) : Bool :=
  A.all (fun a => B.any (fun b => (Nat.beq b.1 0 && Nat.beq b.2 0) || (Nat.beq a.1 b.1 && Nat.beq a.2 b.2)))

/-- What an operation can change at most. -/
structure Moves (B : List (Nat × Nat)) (m : Bool) (s t : State) : Prop where
  regs : ∀ r i, inBlocks B r.id = false → t.rd r i = s.rd r i
  mem : m = false → t.mem = s.mem
  wf : Memory.wf s.mem = true → Memory.wf t.mem = true
  pending : t.pending = s.pending
  free : s.free ≤ t.free
  out : s.out <+: t.out

variable {B A : List (Nat × Nat)} {m k : Bool} {s t u : State}

theorem Moves.refl : Moves B m s s := ⟨fun _ _ _ => rfl, fun _ => rfl, id, rfl, Nat.le_refl _, List.prefix_refl _⟩

theorem Moves.trans (h : Moves B m s t) (g : Moves B m t u) : Moves B m s u :=
  ⟨fun r i hr => (g.regs r i hr).trans (h.regs r i hr), fun hm => (g.mem hm).trans (h.mem hm), fun hw => g.wf (h.wf hw),
   g.pending.trans h.pending, Nat.le_trans h.free g.free, h.out.trans g.out⟩

theorem Moves.get (h : Moves B m s t) {f : Fld} (hf : inBlocks B f.reg.id = false) (i : Nat) : t.get f i = s.get f i := by
  unfold State.get
  rw [h.regs _ _ hf]

theorem Moves.flag (h : Moves B m s t) {f : Fld} (hf : inBlocks B f.reg.id = false) (i : Nat) : t.flag f i = s.flag f i := by
  unfold State.flag
  rw [h.get hf]

theorem inBlocks_sub (h : subBlocks A B = true) {id : Nat} (hb : inBlocks B id = false) : inBlocks A id = false := by
  unfold inBlocks at *
  rw [List.any_eq_false] at *
  intro a ha
  obtain ⟨b, hbm, he⟩ := List.any_eq_true.1 (List.all_eq_true.1 h a ha)
  have hn := hb b hbm
  rw [Bool.or_eq_true, Bool.and_eq_true, Bool.and_eq_true] at he
  rcases he with he | he
  · rw [Nat.eq_of_beq_eq_true he.1, he.2] at hn
    exact absurd rfl hn
  · rw [← Nat.eq_of_beq_eq_true he.1, ← Nat.eq_of_beq_eq_true he.2] at hn
    exact hn

theorem inTrans {id : Nat} (h : inBlocks A id = true) (hb : subBlocks A B = true) : inBlocks B id = true := by
  cases e : inBlocks B id with
  | true => rfl
  | false => rw [inBlocks_sub hb e] at h; exact h

theorem subTrans {C : List (Nat × Nat)} (h : subBlocks A C = true) (hb : subBlocks C B = true) : subBlocks A B = true := by
  unfold subBlocks at *
  rw [List.all_eq_true] at *
  intro a ha
  obtain ⟨c, hc, he⟩ := List.any_eq_true.1 (h a ha)
  obtain ⟨b, hbm, hf⟩ := List.any_eq_true.1 (hb c hc)
  refine List.any_eq_true.2 ⟨b, hbm, ?_⟩
  simp only [Bool.or_eq_true, Bool.and_eq_true] at he hf ⊢
  rcases hf with hf | hf
  · exact Or.inl hf
  · rcases he with he | he
    · left
      exact ⟨by rw [← Nat.eq_of_beq_eq_true hf.1]; exact he.1, by rw [← Nat.eq_of_beq_eq_true hf.2]; exact he.2⟩
    · right
      exact ⟨by rw [Nat.eq_of_beq_eq_true he.1]; exact hf.1, by rw [Nat.eq_of_beq_eq_true he.2]; exact hf.2⟩

/-- An operation that changes less. -/
theorem Moves.sub (h : Moves A k s t) (hb : subBlocks A B = true) (hk : (!k || m) = true) : Moves B m s t :=
  ⟨fun r i hr => h.regs r i (inBlocks_sub hb hr), fun hm => h.mem (by cases k <;> simp_all), h.wf, h.pending, h.free, h.out⟩

/-- An operation of few blocks after others. -/
theorem Moves.after (g : Moves A k t u) (h : Moves B m s t) (hb : subBlocks A B = true) (hk : (!k || m) = true) :
    Moves B m s u := h.trans (g.sub hb hk)

/-- An operation of these blocks after others. -/
theorem Moves.comp (g : Moves B m t u) (h : Moves B m s t) : Moves B m s u := h.trans g

/-- A state on the way. -/
theorem Moves.via (v : State) (h : Moves B m s v) (g : Moves B m s v → Moves B m s t) : Moves B m s t := g h

/-- State that is no register, no memory, no queue, no outbox and no free value is changed. -/
theorem Moves.upd (h : Moves B m s t) (hr : u.regs = t.regs) (hm : u.mem = t.mem) (hp : u.pending = t.pending)
    (hf : u.free = t.free) (ho : u.out = t.out) : Moves B m s u :=
  h.trans ⟨fun r i _ => by unfold State.rd; rw [hr], fun _ => hm, fun hw => by rw [hm]; exact hw, hp, Nat.le_of_eq hf.symm,
    Eq.subst (motive := fun x => t.out <+: x) ho.symm (List.prefix_refl _)⟩

/-- State that is no register, no memory, no queue, no outbox and no free value is replaced. -/
theorem Moves.set {stage : RegMap} {latch : RegMap} {fab : FabSt} {twin : TwinSt} {ch : Tab ChSt} {feed : Tab FeedSt} {tab :
    TablaSt} {io : IoSt} {sw : SwSt} {ports : PortsSt} {time : TimeSt} {bus : BusSt} {car : Tab CarSt} {dict : DictSt} {pm :
    PmSt} {late : List KEff} {temp : TempSt} {toc : TocSt} {kn : KnSt} {wdg : Tab WdgSt} {bist : BistSt} {clk : ClkSt} {boot :
    BootSt} {harts : Tab HartSt} {acl : AclSt} {ve : Tab VeSt} {bel : BelSt} {irqLine : Tab Bool} {irqCnt : Tab Nat}
    (h : Moves B m s t) : Moves B m s (State.mk t.regs stage latch t.mem fab twin ch feed tab io sw ports time bus car dict pm
    late temp toc kn wdg bist clk boot harts acl ve bel irqLine irqCnt t.out t.free t.pending) :=
  h.upd rfl rfl rfl rfl rfl

/-- Anything may change, but for the canonical form, the queue and what has left the device. -/
theorem Moves.whole (hw : Memory.wf s.mem = true → Memory.wf t.mem = true) (hp : t.pending = s.pending) (hf : s.free ≤ t.free)
    (ho : s.out <+: t.out) : Moves everything true s t :=
  ⟨fun _ _ hr => (by rw [show inBlocks everything _ = true by simp [everything, inBlocks, Nat.ble_eq]] at hr; cases hr), fun h => (by cases h), hw, hp, hf, ho⟩

/-- An outcome that, where it is a next state, changes no more than that. -/
def MovesTo (B : List (Nat × Nat)) (m : Bool) (s : State) (o : Res) : Prop := ∀ t, o = .next t → Moves B m s t

theorem MovesTo.next (h : Moves B m s t) : MovesTo B m s (.next t) := fun _ e => by cases e; exact h

/-- A state on the way to an outcome. -/
theorem MovesTo.via {o : Res} (v : State) (h : Moves B m s v) (g : Moves B m s v → MovesTo B m s o) : MovesTo B m s o := g h

theorem MovesTo.refused {r : Refusal} : MovesTo B m s (.refused r) := fun _ e => by cases e

theorem MovesTo.subTo {o : Res} (h : MovesTo A k s o) (hb : subBlocks A B = true) (hk : (!k || m) = true) : MovesTo B m s o :=
  fun t e => (h t e).sub hb hk

theorem MovesTo.ite {c : Prop} [Decidable c] {o p : Res} (h : MovesTo B m s o) (g : MovesTo B m s p) :
    MovesTo B m s (if c then o else p) := by
  split
  · exact h
  · exact g

theorem Moves.ite {c : Prop} [Decidable c] (h : Moves B m s t) (g : Moves B m s u) : Moves B m s (if c then t else u) := by
  split
  · exact h
  · exact g

/-- A match on an optional value. -/
theorem Moves.opt {α : Type} {x : Option α} {f : α → State} {g : State} (hf : ∀ a, Moves B m s (f a)) (hg : Moves B m s g) :
    Moves B m s (match x with | some a => f a | none => g) := by
  cases x with
  | none => exact hg
  | some a => exact hf a

/-- A pair whose second component is the state. -/
theorem Moves.pair {α : Type} {a : α} (h : Moves B m s t) : Moves B m s (a, t).2 := h

theorem Moves.ite1 {α : Type} {c : Prop} [Decidable c] {x y : α × State} (h : Moves B m s x.2) (g : Moves B m s y.2) :
    Moves B m s (if c then x else y).2 := by
  split
  · exact h
  · exact g

theorem Moves.ite2 {α β : Type} {c : Prop} [Decidable c] {x y : α × β × State} (h : Moves B m s x.2.2)
    (g : Moves B m s y.2.2) : Moves B m s (if c then x else y).2.2 := by
  split
  · exact h
  · exact g

theorem Moves.ite3 {α β γ : Type} {c : Prop} [Decidable c] {x y : α × β × γ × State} (h : Moves B m s x.2.2.2)
    (g : Moves B m s y.2.2.2) : Moves B m s (if c then x else y).2.2.2 := by
  split
  · exact h
  · exact g

theorem wr_moves {r : Reg} {i : Nat} {w : Word} (h : inBlocks B r.id = true) : Moves B m s (s.wr r i w) :=
  ⟨fun q j hq => rd_wr_id s (fun e => by rw [e, h] at hq; cases hq) i j w, fun _ => rfl, id, rfl, Nat.le_refl _,
    List.prefix_refl _⟩

theorem put_moves {f : Fld} {i v : Nat} (h : inBlocks B f.reg.id = true) : Moves B m s (s.put f i v) := wr_moves h

theorem foldl_moves {α : Type} {l : List α} {f : State → α → State} (h : ∀ s a, Moves B m s (f s a)) :
    Moves B m s (l.foldl f s) := by
  induction l generalizing s with
  | nil => exact .refl
  | cons a l ih => exact (h s a).trans ih

theorem each_moves {α : Type} {l : List α} {f : α → State → State} (h : ∀ a s, Moves B m s (f a s)) :
    Moves B m s (s.each l f) := foldl_moves (fun s a => h a s)

/-- As `each_moves`, for what holds of the elements of that list. -/
theorem each_moves_of {α : Type} {l : List α} {f : α → State → State} {s : State} (h : ∀ a ∈ l, ∀ s, Moves B m s (f a s)) :
    Moves B m s (s.each l f) := by
  unfold State.each
  induction l generalizing s with
  | nil => exact .refl
  | cons a l ih => exact .comp (ih fun b hb => h b (List.mem_cons_of_mem _ hb)) (h a (List.mem_cons_self ..) s)

theorem when_moves {b : Bool} {f : State → State} (h : ∀ s, Moves B m s (f s)) : Moves B m s (s.when b f) := by
  unfold State.when
  split
  · exact h s
  · exact .refl

theorem memPut_moves {a : Nat} {x : Byte} : Moves B true s { s with mem := memPut s.mem a x } where
  regs := fun _ _ _ => rfl
  mem := fun h => by cases h
  wf := wf_memPut _ _
  pending := rfl
  free := Nat.le_refl _
  out := List.prefix_refl _

theorem memKeep_moves {p : Nat → Bool} : Moves B true s (s.memKeep p) where
  regs := fun _ _ _ => rfl
  mem := fun h => by cases h
  wf := wf_filter _
  pending := rfl
  free := Nat.le_refl _
  out := List.prefix_refl _

theorem memWrite_moves {a : Nat} {l : List Nat} : Moves B true s (s.memWrite a l) := by
  induction l generalizing s a with
  | nil => exact .refl
  | cons b l ih => exact memPut_moves.trans ih

theorem look_filter {hit : Nat × Nat → Bool} {k : Nat × Nat} (h : hit k = false) (l : RegMap) :
    RegMap.look (l.filter (fun e => !hit e.1)) k = RegMap.look l k := by
  induction l with
  | nil => rfl
  | cons e l ih =>
    by_cases hk : e.1 = k
    · have : (!hit e.1) = true := by rw [hk, h]; rfl
      rw [List.filter_cons_of_pos (by exact this)]
      simp [RegMap.look, hk]
    · by_cases hh : hit e.1
      · rw [List.filter_cons_of_neg (by simp [hh]), ih]
        simp [RegMap.look, hk]
      · rw [List.filter_cons_of_pos (by simp [hh])]
        simp [RegMap.look, hk, ih]

theorem resetWords_moves {hit : Nat × Nat → Bool} (h : ∀ q, hit q = true → inBlocks B q.1 = true) :
    Moves B m s (s.resetWords hit) where
  regs := fun r i hr => by
    have : hit (r.id, i) = false := by
      cases e : hit (r.id, i) with
      | false => rfl
      | true => rw [h _ e] at hr; cases hr
    unfold State.rd State.resetWords RegMap.read
    rw [look_filter this]
  mem := fun _ => rfl
  wf := id
  pending := rfl
  free := Nat.le_refl _
  out := List.prefix_refl _

theorem emit_moves {o : Out} : Moves B m s (s.emit o) :=
  ⟨fun _ _ _ => rfl, fun _ => rfl, id, rfl, Nat.le_refl _, List.prefix_append _ _⟩

theorem draw_moves : Moves B m s s.draw.2 :=
  ⟨fun _ _ _ => rfl, fun _ => rfl, id, rfl, Nat.le_succ _, List.prefix_refl _⟩

end Sys2Proof.Machine
end

