-- ==== Sys2Proof/Laws/MovesCore.lean ====
section
/-! SUPPORT.  What each operation of the shared operations, the twin, the channels, the feeds, the IO, Knell, Tocsin and the A-cluster can change at most (`Moves` of Laws/Moves.lean): one lemma per definition,
named after it, so that a proof cites it and never unfolds the definition. -/

namespace Sys2Proof.Machine

variable {B A : List (Nat × Nat)} {m k : Bool}

/-! ### Ops -/

theorem incSat_moves {s : State} {f : Fld} {i : Nat} (h_f : inBlocks B f.reg.id = true) : Moves B m s (State.incSat s f i) := by
  unfold State.incSat
  exact (put_moves h_f)

theorem addSat_moves {s : State} {f : Fld} {i k : Nat} (h_f : inBlocks B f.reg.id = true) : Moves B m s (State.addSat s f i k) := by
  unfold State.addSat
  exact (put_moves h_f)

theorem incWrap_moves {s : State} {f : Fld} {i : Nat} (h_f : inBlocks B f.reg.id = true) : Moves B m s (State.incWrap s f i) := by
  unfold State.incWrap
  exact (put_moves h_f)

theorem put64_moves {s : State} {lo hi : Reg} {i v : Nat} (h_lo : inBlocks B lo.id = true) (h_hi : inBlocks B hi.id = true) : Moves B m s (State.put64 s lo hi i v) := by
  unfold State.put64
  exact (.comp (wr_moves h_hi) (wr_moves h_lo))

theorem clearBlock_moves {s : State} {b : Nat × Nat} : Moves [b] false s (s.clearBlock b) := by
  refine resetWords_moves fun q h => ?_
  simp only [Bool.and_eq_true, decide_eq_true_eq] at h
  simp only [inBlocks, List.any_cons, List.any_nil, Bool.or_false, Bool.and_eq_true, Bool.or_eq_true, Nat.ble_eq]
  omega

theorem clearWords_moves {s : State} {r : Reg} {lo hi : Nat} (h_r : inBlocks B r.id = true) :
    Moves B m s (s.clearWords r lo hi) := by
  refine resetWords_moves fun q h => ?_
  simp only [Bool.and_eq_true, decide_eq_true_eq] at h
  rw [h.1.1]
  exact h_r

theorem imsicSet_moves {s : State} {file id : Nat} : Moves B m s (State.imsicSet s file id) := by
  unfold State.imsicSet
  extract_lets n1
  exact (.ite (.set .refl) .refl)

theorem setAplic_moves {s : State} {d : Nat} {x : AplicDom} : Moves B m s (State.setAplic s d x) := by
  unfold State.setAplic
  extract_lets n1
  exact (.set .refl)

theorem aplicSend_moves {s : State} {d i : Nat} : Moves B m s (State.aplicSend s d i) := by
  unfold State.aplicSend
  extract_lets n1 n2 x3 n4
  refine .via x3 setAplic_moves fun h5 => ?_
  exact (.ite (.ite (.comp imsicSet_moves h5) h5) .refl)

theorem aplicEdge_moves {s : State} {i : Nat} {rise : Bool} : Moves B m s (State.aplicEdge s i rise) := by
  unfold State.aplicEdge
  extract_lets n1 n2 n3
  exact (.ite (.comp aplicSend_moves setAplic_moves) .refl)

theorem raiseIrq_moves {s : State} {n : Nat} : Moves B m s (State.raiseIrq s n) := by
  unfold State.raiseIrq
  exact (.ite .refl (.comp aplicEdge_moves (.set .refl)))

theorem dropIrq_moves {s : State} {n : Nat} : Moves B m s (State.dropIrq s n) := by
  unfold State.dropIrq
  exact (.ite (.comp aplicEdge_moves (.set .refl)) .refl)

theorem levelIrq_moves {s : State} {n : Nat} {on : Bool} : Moves B m s (State.levelIrq s n on) := by
  unfold State.levelIrq
  exact (.ite (.ite .refl raiseIrq_moves) dropIrq_moves)

theorem logRec_moves {s : State} {n : Nat} {r : LogRec} : Moves B m s (State.logRec s n r) := by
  unfold State.logRec
  extract_lets n1
  exact (.set .refl)

theorem tocRefresh_moves {s : State} : Moves [idsTOCSIN] false s (tocRefresh s) := by
  unfold tocRefresh
  exact (.comp (put_moves rfl) (put_moves rfl))

theorem sendNmi_moves {s : State} {n : Nat} : Moves B m s (State.sendNmi s n) := by
  unfold State.sendNmi
  refine .comp (each_moves (fun a1 s2 => ?_)) ?_
  · extract_lets n3
    exact (.ite (.set .refl) .refl)
  · exact .refl

theorem askResetChip_moves {s : State} {n cls : Nat} : Moves [idsTOCSIN] false s (State.askResetChip s n cls) := by
  unfold State.askResetChip
  split
  · exact .refl
  · extract_lets n1 x2 x3
    refine .via x2 (.set .refl) fun h4 => ?_
    refine .via x3 (.comp (wr_moves rfl) h4) fun h5 => ?_
    exact (.comp (wr_moves rfl) h5)

theorem askResetPart_moves {s : State} {p : Nat} : Moves B m s (State.askResetPart s p) := by
  unfold State.askResetPart
  extract_lets n1
  exact (.ite .refl (.set .refl))

theorem react_moves {s : State} {n : Nat} : Moves [idsTOCSIN] false s (State.react s n) := by
  unfold State.react
  extract_lets n1 x2 x3 n4 x5
  refine .via x2 (.ite raiseIrq_moves .refl) fun h6 => ?_
  refine .via x3 (.ite (.comp sendNmi_moves h6) h6) fun h7 => ?_
  refine .via x5 (.ite (.set h7) h7) fun h8 => ?_
  exact (.ite (.ite (.after askResetChip_moves h8 rfl rfl) (.comp askResetPart_moves h8)) (.ite (.after askResetChip_moves h8 rfl rfl) h8))

theorem raiseRec_moves {s : State} {n w0 w1 w2 w3 : Nat} : Moves [idsTOCSIN] false s (State.raiseRec s n w0 w1 w2 w3) := by
  unfold State.raiseRec
  extract_lets x1 x2 x3
  refine .via x1 (wr_moves rfl) fun h4 => ?_
  refine .via x2 (.comp (incSat_moves rfl) h4) fun h5 => ?_
  refine .via x3 (.comp logRec_moves h5) fun h6 => ?_
  exact (.after tocRefresh_moves (.after react_moves h6 rfl rfl) rfl rfl)

theorem raise_moves {s : State} {n w0 w1 w3 : Nat} : Moves [idsTOCSIN] false s (State.raise s n w0 w1 w3) := by
  unfold State.raise
  exact (raiseRec_moves.sub rfl rfl)

theorem raiseFab_moves {s : State} {n code init port w1 w3 : Nat} : Moves [idsTOCSIN] false s (State.raiseFab s n code init port w1 w3) := by
  unfold State.raiseFab
  exact (raise_moves.sub rfl rfl)

theorem lateErr_moves {s : State} {init addr cause : Nat} {discarded : Bool} : Moves [idsLATE, idsLATE_E, idsTOCSIN] false s (State.lateErr s init addr cause discarded) := by
  unfold State.lateErr
  extract_lets n1 x2 n3 n4 x5 x6 x7 x8 n9 x10 x11 x12
  refine .via x2 (incSat_moves rfl) fun h13 => ?_
  refine .via x5 (wr_moves rfl) fun h14 => ?_
  refine .via x6 (.comp (wr_moves rfl) h14) fun h15 => ?_
  refine .via x7 (.comp (wr_moves rfl) h15) fun h16 => ?_
  refine .via x8 (.comp (wr_moves rfl) h16) fun h17 => ?_
  refine .via x10 (.comp (put_moves rfl) h17) fun h18 => ?_
  refine .via x11 (.ite (.after raiseFab_moves h13 rfl rfl) (.comp (put_moves rfl) h18)) fun h19 => ?_
  refine .via x12 (.comp (put_moves rfl) h19) fun h20 => ?_
  exact (.comp raiseIrq_moves h20)

theorem raiseSec_moves {s : State} {n part code init w1 : Nat} : Moves [idsTOCSIN] false s (State.raiseSec s n part code init w1) := by
  unfold State.raiseSec
  exact (raise_moves.sub rfl rfl)

theorem deny_moves {s : State} {wm : Bool} {init addr : Nat} : Moves [idsTOCSIN, idsDENY] false s (State.deny s wm init addr) := by
  unfold State.deny
  extract_lets x1 x2 x3 x4 n5 x6 n7 x8 n9
  refine .via x1 (wr_moves rfl) fun h10 => ?_
  refine .via x2 (.comp (wr_moves rfl) h10) fun h11 => ?_
  refine .via x3 (.ite .refl (.comp (put_moves rfl) h11)) fun h12 => ?_
  refine .via x4 (.comp (incSat_moves rfl) h12) fun h13 => ?_
  refine .via x6 (.set h13) fun h14 => ?_
  refine .via x8 (.set h13) fun h15 => ?_
  exact (.ite (.ite h14 (.after raiseSec_moves (.set h14) rfl rfl)) (.ite h15 (.after raiseSec_moves (.set h15) rfl rfl)))

theorem updPort_moves {s : State} {p : Nat} {f : PortSt → PortSt} : Moves B m s (State.updPort s p f) := by
  unfold State.updPort
  extract_lets n1
  exact (.set .refl)

theorem readFails_moves {s : State} {q : Req} {code : Nat} : Moves [idsCSR] false s (State.readFails s q code) := by
  unfold State.readFails
  extract_lets x1 x2 x3
  refine .via x1 emit_moves fun h4 => ?_
  refine .via x2 ?_ fun h5 => ?_
  · unfold x2
    exact (.ite (.comp (put_moves rfl) h4) (.comp (put_moves rfl) h4))
  refine .via x3 (.set h4) fun h6 => ?_
  exact (.ite (.comp emit_moves h5) (.ite (.comp emit_moves h6) h4))

theorem reqFails_moves {s : State} {q : Req} {code : Nat} {discarded : Bool} : Moves [idsLATE, idsLATE_E, idsTOCSIN, idsCSR] false s (State.reqFails s q code discarded) := by
  unfold State.reqFails
  exact (.ite (lateErr_moves.sub rfl rfl) (readFails_moves.sub rfl rfl))

theorem endByFence_moves {s : State} {p : Nat} {q : Req} : Moves [idsLATE, idsLATE_E, idsTOCSIN, idsCSR] false s (State.endByFence s p q) := by
  unfold State.endByFence
  exact (.after reqFails_moves updPort_moves rfl rfl)

theorem fence_moves {s : State} {p cause : Nat} {outst : List Req} : Moves [idsLATE, idsLATE_E, idsTOCSIN, idsCSR] false s (State.fence s p cause outst) := by
  unfold State.fence
  extract_lets x1
  refine .via x1 updPort_moves fun h2 => ?_
  exact (.ite updPort_moves (.comp (each_moves (fun _ _ => (endByFence_moves.sub rfl rfl))) h2))

theorem endCause_moves {s : State} {p cause : Nat} : Moves B m s (State.endCause s p cause) := by
  unfold State.endCause
  exact updPort_moves

theorem openPort_moves {s : State} {p : Nat} : Moves B m s (State.openPort s p) := by
  unfold State.openPort
  exact (.ite updPort_moves .refl)

theorem refuseReq_moves {s : State} {init a n : Nat} {write : Bool} : Moves [idsLATE, idsLATE_E, idsTOCSIN, idsDENY] false s (State.refuseReq s init a n write) := by
  unfold State.refuseReq
  extract_lets n1 x2 x3
  refine .via x2 (.ite (deny_moves.sub rfl rfl) .refl) fun h4 => ?_
  refine .via x3 ?_ fun h5 => ?_
  · unfold x3
    refine .ite ?_ ?_
    · split
      · exact (.comp updPort_moves h4)
      · exact h4
    · exact h4
  exact (.ite (.after lateErr_moves h5 rfl rfl) h5)

theorem busWrite_moves {s : State} {init a bytes : Nat} {eff : State → State} (hB : subBlocks [idsLATE, idsLATE_E, idsTOCSIN, idsDENY] B = true) (h_eff : ∀ y0, Moves B m y0 (eff y0)) : Moves B m s (State.busWrite s init a bytes eff) := by
  unfold State.busWrite
  exact (.ite .refl (.ite (refuseReq_moves.sub (subTrans rfl hB) rfl) (.ite (lateErr_moves.sub (subTrans rfl hB) rfl) (h_eff _))))

theorem denyWrite_moves {s : State} {init a : Nat} : Moves [idsLATE, idsLATE_E, idsTOCSIN] false s (State.denyWrite s init a) := by
  unfold State.denyWrite
  exact (lateErr_moves.sub rfl rfl)

theorem swWrite_moves {s : State} {sec : Bool} {r : Reg} {i : Nat} {v : Word} (h_r : inBlocks B r.id = true) : Moves B m s (State.swWrite s sec r i v) := by
  unfold State.swWrite
  exact (wr_moves h_r)

/-! ### Twin -/

theorem updSlot_moves {s : State} {n : Nat} {f : SlotSt → SlotSt} : Moves B m s (State.updSlot s n f) := by
  unfold State.updSlot
  extract_lets n1
  exact (.set .refl)

theorem setCons_moves {s : State} {c : Nat} {x : ConsSt} : Moves B m s (State.setCons s c x) := by
  unfold State.setCons
  extract_lets n1
  exact (.set .refl)

theorem publish_moves {s : State} {n v : Nat} : Moves B m s (State.publish s n v) := by
  unfold State.publish
  exact updSlot_moves

theorem pubWrite_moves {init a n v : Nat} {s : State} : Moves [idsLATE, idsLATE_E, idsTOCSIN] false s (pubWrite init a n v s) := by
  unfold pubWrite
  exact (.ite publish_moves (denyWrite_moves.sub rfl rfl))

theorem beatPub_moves {init : Nat} {v : Word} {s : State} : Moves [idsLATE, idsLATE_E, idsTOCSIN] false s (beatPub init v s) := by
  unfold beatPub
  exact (.ite (denyWrite_moves.sub rfl rfl) (pubWrite_moves.sub rfl rfl))

theorem execBeatPub_moves {init : Init} {value : Word} {s : State} : MovesTo [idsLATE, idsLATE_E, idsTOCSIN, idsDENY] false s (execBeatPub init value s) := by
  unfold execBeatPub
  refine .next ?_
  exact (busWrite_moves rfl (fun _ => (beatPub_moves.sub rfl rfl)))

theorem execPwrCmdPub_moves {ch : Fin 72} {init : Init} {value : Word} {s : State} : MovesTo [idsLATE, idsLATE_E, idsTOCSIN, idsDENY] false s (execPwrCmdPub ch init value s) := by
  unfold execPwrCmdPub
  refine .next ?_
  exact (busWrite_moves rfl (fun _ => (pubWrite_moves.sub rfl rfl)))

theorem execPwrLimPub_moves {ch : Fin 72} {init : Init} {value : Word} {s : State} : MovesTo [idsLATE, idsLATE_E, idsTOCSIN, idsDENY] false s (execPwrLimPub ch init value s) := by
  unfold execPwrLimPub
  refine .next ?_
  exact (busWrite_moves rfl (fun _ => (pubWrite_moves.sub rfl rfl)))

theorem advanceSlots_moves {s : State} : Moves B m s (State.advanceSlots s) := by
  unfold State.advanceSlots
  extract_lets n1
  exact (.set .refl)

theorem deliverSlots_moves {s : State} : Moves B m s (State.deliverSlots s) := by
  unfold State.deliverSlots
  extract_lets n1
  exact (.set .refl)

theorem checkWord_moves {s : State} {consumer slot w hold : Nat} {kept : Bool} : Moves [idsTOCSIN] false s (State.checkWord s consumer slot w hold kept) := by
  unfold State.checkWord
  extract_lets n1 n2 n3 x4
  refine .via x4 setCons_moves fun h5 => ?_
  split
  · exact h5
  · exact (.after raiseRec_moves h5 rfl rfl)

/-! ### Pwr -/

theorem setCh_moves {s : State} {ch : Nat} {c : ChSt} : Moves B m s (State.setCh s ch c) := by
  unfold State.setCh
  exact (.set .refl)

theorem updFeed_moves {s : State} {f : Nat} {g : FeedSt → FeedSt} : Moves B m s (State.updFeed s f g) := by
  unfold State.updFeed
  exact (.set .refl)

theorem apply_moves {e : KEff} {s : State} : Moves [idsTOCSIN, idsPWR, idsFEED] false s (KEff.apply e s) := by
  unfold KEff.apply
  split
  · exact (wr_moves rfl)
  · exact (incSat_moves rfl)
  · exact (put_moves rfl)
  · exact (.comp (wr_moves rfl) (.comp (wr_moves rfl) (.comp (wr_moves rfl) (wr_moves rfl))))
  · exact (.ite raiseIrq_moves .refl)
  · exact (raiseRec_moves.sub rfl rfl)
  · extract_lets x1
    refine .via x1 (wr_moves rfl) fun h2 => ?_
    exact (.ite (.comp raiseIrq_moves h2) h2)
  · exact (incSat_moves rfl)
  · exact (.comp (put_moves rfl) (put_moves rfl))
  · exact (put_moves rfl)
  · exact raiseIrq_moves

theorem kdo_moves {s : State} {l : List KEff} : Moves [idsTOCSIN, idsPWR, idsFEED] false s (State.kdo s l) := by
  unfold State.kdo
  exact (.ite (each_moves (fun _ _ => (apply_moves.sub rfl rfl))) (.set .refl))

theorem mapBit_moves {s : State} {r : Reg} {ch : Nat} {on : Bool} (h_r : inBlocks B r.id = true) : Moves B m s (mapBit s r ch on) := by
  unfold mapBit
  extract_lets n1 n2
  exact (wr_moves h_r)

theorem mirror_moves {s : State} {ch : Nat} : Moves [idsPWR, idsFEED] false s (State.mirror s ch) := by
  unfold State.mirror
  extract_lets n1 x2 n3 x4 x5
  refine .via x2 (wr_moves rfl) fun h6 => ?_
  refine .via x4 (.comp (mapBit_moves rfl) h6) fun h7 => ?_
  refine .via x5 (.comp (mapBit_moves rfl) h7) fun h8 => ?_
  exact (.ite (.comp (mapBit_moves rfl) h8) .refl)

theorem chFault_moves {s : State} {n ch ofs : Nat} : Moves [idsTOCSIN, idsPWR, idsFEED] false s (State.chFault s n ch ofs) := by
  unfold State.chFault
  extract_lets n1
  exact (kdo_moves.sub rfl rfl)

theorem goCh_moves {s : State} {ch st cause ofs : Nat} : Moves [idsTOCSIN, idsPWR, idsFEED] false s (State.goCh s ch st cause ofs) := by
  unfold State.goCh
  extract_lets n1 n2 n3 n4 n5 n6 n7 n8 n9 n10 x11 x12 x13 x14 x15
  refine .via x11 (.after mirror_moves setCh_moves rfl rfl) fun h16 => ?_
  refine .via x12 (.after kdo_moves h16 rfl rfl) fun h17 => ?_
  refine .via x13 (.comp (when_moves (fun _ => (kdo_moves.sub rfl rfl))) h17) fun h18 => ?_
  refine .via x14 (.comp (when_moves (fun _ => (kdo_moves.sub rfl rfl))) h18) fun h19 => ?_
  refine .via x15 (.ite h16 (.comp (when_moves (fun _ => (.after chFault_moves (kdo_moves.sub rfl rfl) rfl rfl))) h19)) fun h20 => ?_
  exact (.comp (when_moves (fun _ => (chFault_moves.sub rfl rfl))) h20)

theorem takeCfg_moves {s : State} {ch : Nat} {lim : Option Nat} : Moves [idsTOCSIN, idsPWR, idsFEED] false s (State.takeCfg s ch lim) := by
  unfold State.takeCfg
  extract_lets n1 n2 n3 n4 n5 n6 x7 n8 n9 x10 x11 x12 x13
  refine .via x7 setCh_moves fun h14 => ?_
  refine .via x10 (.comp (when_moves (fun _ => (kdo_moves.sub rfl rfl))) h14) fun h15 => ?_
  refine .via x11 (.comp (when_moves (fun _ => (kdo_moves.sub rfl rfl))) h15) fun h16 => ?_
  refine .via x12 (.comp (when_moves (fun _ => (kdo_moves.sub rfl rfl))) h16) fun h17 => ?_
  refine .via x13 (.comp (wr_moves rfl) h17) fun h18 => ?_
  exact (.comp (wr_moves rfl) h18)

theorem tripRec_moves {ch prev peak letI2t ofs : Nat} {s : State} : Moves [idsTOCSIN, idsPWR, idsFEED] false s (tripRec ch prev peak letI2t ofs s) := by
  unfold tripRec
  extract_lets n1
  exact (kdo_moves.sub rfl rfl)

theorem tripShort_moves {s : State} {ch cause peak letI2t ofs : Nat} : Moves [idsTOCSIN, idsPWR, idsFEED] false s (State.tripShort s ch cause peak letI2t ofs) := by
  unfold State.tripShort
  extract_lets n1 x2 x3 x4 x5
  refine .via x2 (goCh_moves.sub rfl rfl) fun h6 => ?_
  refine .via x3 (.after tripRec_moves h6 rfl rfl) fun h7 => ?_
  refine .via x4 (.after kdo_moves h7 rfl rfl) fun h8 => ?_
  refine .via x5 (.comp (when_moves (fun _ => (kdo_moves.sub rfl rfl))) h8) fun h9 => ?_
  exact (.after chFault_moves h9 rfl rfl)

theorem wireTrip_moves {s : State} {ch peak letI2t ofs : Nat} : Moves [idsTOCSIN, idsPWR, idsFEED] false s (State.wireTrip s ch peak letI2t ofs) := by
  unfold State.wireTrip
  extract_lets n1 n2 n3 n4 x5 x6 x7 x8 x9
  refine .via x5 (.ite setCh_moves .refl) fun h10 => ?_
  refine .via x6 (.after goCh_moves h10 rfl rfl) fun h11 => ?_
  refine .via x7 (.after tripRec_moves h11 rfl rfl) fun h12 => ?_
  refine .via x8 (.after kdo_moves h12 rfl rfl) fun h13 => ?_
  refine .via x9 (.after chFault_moves h13 rfl rfl) fun h14 => ?_
  exact (.comp (when_moves (fun _ => (chFault_moves.sub rfl rfl))) h14)

theorem execShortTrip_moves {ch : Fin 72} {vds current vgsHigh : Bool} {peak letI2t ofs : Nat} {s : State} : MovesTo [idsTOCSIN, idsPWR, idsFEED] false s (execShortTrip ch vds current vgsHigh peak letI2t ofs s) := by
  unfold execShortTrip
  extract_lets n1
  refine .ite ?_ ?_
  · refine .next ?_
    exact (tripShort_moves.sub rfl rfl)
  · refine .next ?_
    exact .refl

theorem execGateUv_moves {ch : Fin 72} {peak letI2t ofs : Nat} {s : State} : MovesTo [idsTOCSIN, idsPWR, idsFEED] false s (execGateUv ch peak letI2t ofs s) := by
  unfold execGateUv
  refine .ite ?_ ?_
  · refine .next ?_
    exact (tripShort_moves.sub rfl rfl)
  · refine .next ?_
    exact .refl

theorem execPrechargeDone_moves {ch : Fin 72} {ofs : Nat} {s : State} : MovesTo [idsTOCSIN, idsPWR, idsFEED] false s (execPrechargeDone ch ofs s) := by
  unfold execPrechargeDone
  refine .ite ?_ ?_
  · refine .next ?_
    exact (goCh_moves.sub rfl rfl)
  · refine .next ?_
    exact .refl

theorem execPreTimeout_moves {ch : Fin 72} {peak letI2t ofs : Nat} {s : State} : MovesTo [idsTOCSIN, idsPWR, idsFEED] false s (execPreTimeout ch peak letI2t ofs s) := by
  unfold execPreTimeout
  refine .ite ?_ ?_
  · refine .next ?_
    exact (tripShort_moves.sub rfl rfl)
  · refine .next ?_
    exact .refl

theorem execFetFault_moves {ch : Fin 72} {ofs : Nat} {s : State} : MovesTo [idsTOCSIN, idsPWR, idsFEED] false s (execFetFault ch ofs s) := by
  unfold execFetFault
  extract_lets n1
  refine .ite ?_ ?_
  · refine .next ?_
    exact (goCh_moves.sub rfl rfl)
  · refine .next ?_
    exact .refl

theorem execOutHigh_moves {ch : Fin 72} {ofs : Nat} {s : State} : MovesTo [idsTOCSIN, idsPWR, idsFEED] false s (execOutHigh ch ofs s) := by
  unfold execOutHigh
  extract_lets n1 x2
  refine .via x2 (.after mirror_moves setCh_moves rfl rfl) fun h3 => ?_
  refine .ite ?_ ?_
  · refine .next ?_
    exact (.after chFault_moves (.after kdo_moves h3 rfl rfl) rfl rfl)
  · refine .next ?_
    exact .refl

theorem senseFault_moves {s : State} {ch ofs : Nat} : Moves [idsTOCSIN, idsPWR, idsFEED] false s (State.senseFault s ch ofs) := by
  unfold State.senseFault
  extract_lets n1 x2 x3
  refine .via x2 (.after mirror_moves setCh_moves rfl rfl) fun h4 => ?_
  refine .via x3 (.comp (when_moves (fun _ => (put_moves rfl))) h4) fun h5 => ?_
  exact (.ite .refl (.after chFault_moves (.after kdo_moves h5 rfl rfl) rfl rfl))

theorem execCurrentSenseFault_moves {ch : Fin 72} {ofs : Nat} {s : State} : MovesTo [idsTOCSIN, idsPWR, idsFEED] false s (execCurrentSenseFault ch ofs s) := by
  unfold execCurrentSenseFault
  refine .ite ?_ ?_
  · refine .next ?_
    exact (senseFault_moves.sub rfl rfl)
  · refine .next ?_
    exact .refl

theorem countCh_moves {ch raw : Nat} {dir valid : Bool} {s : State} : Moves B m s (countCh ch raw dir valid s) := by
  unfold countCh
  extract_lets n1 n2
  exact (.ite .refl (.ite updFeed_moves (.ite updFeed_moves (.comp updFeed_moves setCh_moves))))

theorem measureCh_moves {x : ConvSample} {ch : Nat} {s : State} : Moves [idsPWR] false s (measureCh x ch s) := by
  unfold measureCh
  extract_lets n1 n2 n3 n4 n5 x6 x7 x8 x9 n10 n11
  refine .via x6 ?_ fun h12 => ?_
  · unfold x6
    exact (.ite (wr_moves rfl) (when_moves (fun _ => (put_moves rfl))))
  refine .via x7 (.comp (wr_moves rfl) h12) fun h13 => ?_
  refine .via x8 (.comp (wr_moves rfl) h13) fun h14 => ?_
  refine .via x9 ?_ fun h15 => ?_
  · unfold x9
    exact (.ite (.comp countCh_moves h14) .refl)
  exact (.comp setCh_moves h15)

theorem modelCh_moves {x : ConvSample} {ch ofs : Nat} {s : State} : Moves [idsTOCSIN, idsPWR, idsFEED] false s (modelCh x ch ofs s) := by
  unfold modelCh
  extract_lets n1 n2 n3 n4 n5 n6 n7 r8 x9 n10 n11 x12 x13 x14 x15 x16
  refine .via r8.2 draw_moves fun h17 => ?_
  refine .via x9 h17 fun h18 => ?_
  refine .via x12 (.after mirror_moves (.comp setCh_moves h18) rfl rfl) fun h19 => ?_
  refine .via x13 (.comp (when_moves (fun _ => (.after chFault_moves (kdo_moves.sub rfl rfl) rfl rfl))) h19) fun h20 => ?_
  refine .via x14 (.comp (when_moves (fun _ => (wireTrip_moves.sub rfl rfl))) h20) fun h21 => ?_
  refine .via x15 (.comp (wr_moves rfl) h21) fun h22 => ?_
  refine .via x16 (.comp (put_moves rfl) h22) fun h23 => ?_
  exact (.ite (.comp (put_moves rfl) h23) h21)

theorem measureFeed_moves {x : ConvSample} {f : Nat} {s : State} : Moves [idsFEED] false s (measureFeed x f s) := by
  unfold measureFeed
  extract_lets n1 n2 n3 n4 x5 x6 n7 x8 n9
  refine .via x5 (.ite (wr_moves rfl) (put_moves rfl)) fun h10 => ?_
  refine .via x6 (.comp (wr_moves rfl) h10) fun h11 => ?_
  refine .via x8 (.ite (.comp updFeed_moves h11) .refl) fun h12 => ?_
  exact (.comp updFeed_moves h12)

theorem execConversion_moves {ofs : Nat} {samples : List ConvSample} {s : State} : MovesTo [idsTOCSIN, idsPWR, idsFEED] false s (execConversion ofs samples s) := by
  unfold execConversion
  extract_lets x1
  refine .via x1 (each_moves (fun _ _ => (.after modelCh_moves (measureCh_moves.sub rfl rfl) rfl rfl))) fun h2 => ?_
  refine .ite ?_ ?_
  · refine .next ?_
    exact (.comp (each_moves (fun _ _ => (measureFeed_moves.sub rfl rfl))) h2)
  · refine .next ?_
    exact .refl

theorem engage_moves {ch slot prod : Nat} {f : Fld} {s : State} : Moves B m s (engage ch slot prod f s) := by
  unfold engage
  extract_lets n1
  exact (.ite .refl (.comp setCons_moves setCh_moves))

theorem engageCh_moves {ch : Nat} {s : State} : Moves B m s (engageCh ch s) := by
  unfold engageCh
  exact (.comp engage_moves engage_moves)

theorem chCheck_moves {ch slot hold : Nat} {kept : Bool} {s : State} : Moves [idsTOCSIN, idsPWR, idsFEED] false s (chCheck ch slot hold kept s) := by
  unfold chCheck
  extract_lets x1
  refine .via x1 (checkWord_moves.sub rfl rfl) fun h2 => ?_
  exact (.comp (when_moves (fun _ => (kdo_moves.sub rfl rfl))) h2)

theorem checkCmd_moves {ch : Nat} {s : State} : Moves [idsTOCSIN, idsPWR, idsFEED] false s (checkCmd ch s) := by
  unfold checkCmd
  extract_lets n1
  exact (.ite (chCheck_moves.sub rfl rfl) .refl)

theorem checkLim_moves {ch : Nat} {s : State} : Moves [idsTOCSIN, idsPWR, idsFEED] false s (checkLim ch s) := by
  unfold checkLim
  extract_lets n1
  exact (.ite (chCheck_moves.sub rfl rfl) .refl)

theorem checkChannels_moves {s : State} : Moves [idsTOCSIN, idsPWR, idsFEED] false s (checkChannels s) := by
  unfold checkChannels
  extract_lets x1
  refine .via x1 (each_moves (fun _ _ => engageCh_moves)) fun h2 => ?_
  exact (.ite (.comp (each_moves (fun _ _ => (checkLim_moves.sub rfl rfl))) (.comp (each_moves (fun _ _ => (checkCmd_moves.sub rfl rfl))) h2)) .refl)

theorem judged_moves {ch : Nat} {cmd : Cmd} {limSafe : Bool} {s : State} : Moves B m s (judged ch cmd limSafe s) := by
  unfold judged
  extract_lets n1 n2 n3 n4 n5 n6
  exact setCh_moves

theorem afterEval_moves {ch : Nat} {cmd : Cmd} {good : Bool} {s : State} : Moves B m s (afterEval ch cmd good s) := by
  unfold afterEval
  extract_lets n1 n2 n3 n4 n5 n6 n7 n8 n9
  exact setCh_moves

theorem openLoad_moves {ch bit : Nat} {s : State} : Moves [idsTOCSIN, idsPWR, idsFEED] false s (openLoad ch bit s) := by
  unfold openLoad
  extract_lets n1
  exact (.ite .refl (.after chFault_moves (.after kdo_moves setCh_moves rfl rfl) rfl rfl))

theorem diagnose_moves {ch old : Nat} {s : State} : Moves [idsTOCSIN, idsPWR, idsFEED] false s (diagnose ch old s) := by
  unfold diagnose
  extract_lets n1 x2 n3
  refine .via x2 setCh_moves fun h4 => ?_
  exact (.ite (.ite (.ite (.after openLoad_moves h4 rfl rfl) h4) setCh_moves) (.ite (.ite setCh_moves (.ite (openLoad_moves.sub rfl rfl) .refl)) .refl))

theorem evalEngaged_moves {ch : Nat} {s : State} : Moves [idsTOCSIN, idsPWR, idsFEED] false s (evalEngaged ch s) := by
  unfold evalEngaged
  extract_lets n1 n2 n3 n4 n5 n6 n7 x8 n9 n10 x11 x12 x13
  refine .via x8 (.after takeCfg_moves judged_moves rfl rfl) fun h14 => ?_
  refine .via x11 (.comp (when_moves (fun _ => (kdo_moves.sub rfl rfl))) h14) fun h15 => ?_
  refine .via x12 ?_ fun h16 => ?_
  · unfold x12
    exact (.ite (.after goCh_moves h15 rfl rfl) h14)
  refine .via x13 (.comp (when_moves (fun _ => (.after chFault_moves (kdo_moves.sub rfl rfl) rfl rfl))) h16) fun h17 => ?_
  exact (.after mirror_moves (.after diagnose_moves (.comp afterEval_moves h17) rfl rfl) rfl rfl)

theorem evalIdle_moves {ch : Nat} {s : State} : Moves [idsTOCSIN, idsPWR, idsFEED] false s (evalIdle ch s) := by
  unfold evalIdle
  extract_lets x1 x2
  refine .via x1 setCh_moves fun h3 => ?_
  refine .via x2 (.after takeCfg_moves h3 rfl rfl) fun h4 => ?_
  exact (.after mirror_moves (.after diagnose_moves (.comp afterEval_moves h4) rfl rfl) rfl rfl)

theorem evalCh_moves {ch : Nat} {s : State} : Moves [idsTOCSIN, idsPWR, idsFEED] false s (evalCh ch s) := by
  unfold evalCh
  exact (.ite (evalEngaged_moves.sub rfl rfl) (evalIdle_moves.sub rfl rfl))

theorem evalChannels_moves {s : State} : Moves [idsTOCSIN, idsPWR, idsFEED] false s (evalChannels s) := by
  unfold evalChannels
  exact (.ite (each_moves (fun _ _ => (evalCh_moves.sub rfl rfl))) .refl)

theorem forceCh_moves {ch ofs : Nat} {s : State} : Moves [idsTOCSIN, idsPWR, idsFEED] false s (forceCh ch ofs s) := by
  unfold forceCh
  extract_lets n1 n2 x3 n4
  refine .via x3 setCh_moves fun h5 => ?_
  exact (.ite (.comp setCh_moves h5) (.ite (.after mirror_moves h5 rfl rfl) (.ite (.after mirror_moves h5 rfl rfl) (.after goCh_moves h5 rfl rfl))))

theorem forceGroup_moves {s : State} {g ofs : Nat} : Moves [idsTOCSIN, idsPWR, idsFEED] false s (State.forceGroup s g ofs) := by
  unfold State.forceGroup
  exact (each_moves (fun _ _ => (.ite (forceCh_moves.sub rfl rfl) .refl)))

theorem pwrLinkDown_moves {s : State} : Moves [idsPWR, idsFEED] false s (pwrLinkDown s) := by
  unfold pwrLinkDown
  extract_lets x1
  refine .via x1 (each_moves (fun _ _ => (put_moves rfl))) fun h2 => ?_
  exact (.comp (each_moves (fun _ _ => (.comp updFeed_moves (put_moves rfl)))) h2)

theorem pwrHReset_moves {s : State} : Moves B m s (pwrHReset s) := by
  unfold pwrHReset
  exact (.set .refl)

theorem restartCh_moves {expired : Bool} {ch : Nat} {s : State} : Moves [idsTOCSIN, idsPWR, idsFEED] false s (restartCh expired ch s) := by
  unfold restartCh
  extract_lets n1 n2 n3 n4 n5 n6 n7 n8 n9 n10 n11 n12 n13 n14 x15 x16 n17 x18 x19
  refine .via x15 setCh_moves fun h20 => ?_
  refine .via x16 (.comp setCons_moves (.comp setCons_moves h20)) fun h21 => ?_
  refine .via x18 (.after mirror_moves h21 rfl rfl) fun h22 => ?_
  refine .via x19 (.after kdo_moves h22 rfl rfl) fun h23 => ?_
  exact (.ite h22 (.comp (when_moves (fun _ => (kdo_moves.sub rfl rfl))) h23))

theorem pwrLinkUp_moves {reset expired : Bool} {s : State} : Moves [idsTOCSIN, idsPWR, idsFEED] false s (pwrLinkUp reset expired s) := by
  unfold pwrLinkUp
  extract_lets x1 x2 n3 x4 x5
  refine .via x1 (when_moves (fun _ => (each_moves (fun _ _ => updFeed_moves)))) fun h6 => ?_
  refine .via x2 (.comp (when_moves (fun _ => (each_moves (fun _ _ => (restartCh_moves.sub rfl rfl))))) h6) fun h7 => ?_
  refine .via x4 (.comp (each_moves (fun _ _ => (apply_moves.sub rfl rfl))) (.set h7)) fun h8 => ?_
  refine .via x5 (.comp (each_moves (fun _ _ => (put_moves rfl))) h8) fun h9 => ?_
  exact (.comp (each_moves (fun _ _ => (mirror_moves.sub rfl rfl))) h9)

/-! ### Feed -/

theorem latchCh_moves {ch : Nat} {s : State} : Moves [idsPWR] false s (latchCh ch s) := by
  unfold latchCh
  extract_lets n1
  exact (.comp (put64_moves rfl rfl) setCh_moves)

theorem latchFeed_moves {f : Nat} {s : State} : Moves [idsFEED] false s (latchFeed f s) := by
  unfold latchFeed
  extract_lets n1 x2 n3 x4 x5 x6 x7 x8
  refine .via x2 updFeed_moves fun h9 => ?_
  refine .via x4 (.comp (when_moves (fun _ => (put_moves rfl))) h9) fun h10 => ?_
  refine .via x5 (.comp (put64_moves rfl rfl) h10) fun h11 => ?_
  refine .via x6 (.comp (put64_moves rfl rfl) h11) fun h12 => ?_
  refine .via x7 (.comp (put64_moves rfl rfl) h12) fun h13 => ?_
  refine .via x8 (.comp (put64_moves rfl rfl) h13) fun h14 => ?_
  exact (.comp (put64_moves rfl rfl) h14)

theorem latchCharges_moves {s : State} : Moves [idsPWR, idsFEED] false s (latchCharges s) := by
  unfold latchCharges
  exact (.comp (each_moves (fun _ _ => (latchFeed_moves.sub rfl rfl))) (each_moves (fun _ _ => (latchCh_moves.sub rfl rfl))))

theorem feedEvt_moves {s : State} {f bit : Nat} : Moves [idsTOCSIN, idsPWR, idsFEED] false s (State.feedEvt s f bit) := by
  unfold State.feedEvt
  exact (apply_moves.sub rfl rfl)

theorem feedFault_moves {s : State} {n f neg value : Nat} : Moves [idsTOCSIN] false s (State.feedFault s n f neg value) := by
  unfold State.feedFault
  extract_lets r1
  refine .via r1.2 draw_moves fun h2 => ?_
  exact (.after raiseRec_moves h2 rfl rfl)

theorem auditFeed_moves {f : Nat} {s : State} : Moves [idsTOCSIN, idsPWR, idsFEED] false s (auditFeed f s) := by
  unfold auditFeed
  exact (.ite .refl (.after feedFault_moves (feedEvt_moves.sub rfl rfl) rfl rfl))

theorem keepJudged_moves {f n : Nat} {s : State} : Moves B m s (keepJudged f n s) := by
  unfold keepJudged
  refine .comp (each_moves (fun a1 s2 => ?_)) ?_
  · extract_lets n3
    exact setCh_moves
  · exact .refl

theorem measureImb_moves {f : Nat} {s : State} : Moves [idsFEED] false s ((measureImb f s).2.2) := by
  unfold measureImb
  extract_lets n1 n2 r3 x4 n5 n6 n7 x8
  refine .via r3.2 draw_moves fun h9 => ?_
  refine .via x4 ?_ fun h10 => ?_
  · unfold x4
    exact (.ite h9 .refl)
  refine .via x8 (.comp updFeed_moves h10) fun h11 => ?_
  exact (.comp (put_moves rfl) (.comp (put_moves rfl) h11))

theorem judgeBeat_moves {f imb neg : Nat} {s : State} : Moves [idsTOCSIN, idsPWR, idsFEED] false s (judgeBeat f imb neg s) := by
  unfold judgeBeat
  extract_lets x1 n2 x3
  refine .via x1 (.comp keepJudged_moves (put_moves rfl)) fun h4 => ?_
  refine .via x3 (.comp (put_moves rfl) h4) fun h5 => ?_
  exact (.ite (.after feedFault_moves (.comp (incSat_moves rfl) (.after feedEvt_moves h5 rfl rfl)) rfl rfl) (.comp (put_moves rfl) h4))

theorem ledger_moves {f : Nat} {s : State} : Moves [idsTOCSIN, idsPWR, idsFEED] false s (ledger f s) := by
  unfold ledger
  extract_lets n1 r2 x3
  refine .via r2.2.2 (measureImb_moves.sub rfl rfl) fun h4 => ?_
  refine .via x3 h4 fun h5 => ?_
  exact (.ite (.after judgeBeat_moves h5 rfl rfl) (.comp (put_moves rfl) (.comp (incSat_moves rfl) h5)))

theorem feedGap_moves {f : Nat} {s : State} : Moves [idsTOCSIN, idsPWR, idsFEED] false s (feedGap f s) := by
  unfold feedGap
  exact (when_moves (fun _ => (.after feedFault_moves (.after feedEvt_moves (incSat_moves rfl) rfl rfl) rfl rfl)))

theorem shedLoop_moves {f n budget z0 z1 : Nat} {z2 : Int} {z3 : State} :
    Moves [idsTOCSIN, idsPWR, idsFEED] false z3 (shedLoop f n budget z0 z1 z2 z3).2.2 := by
  induction z0 generalizing z1 z2 z3 with
  | zero => exact .refl
  | succ k ih =>
    unfold shedLoop
    split
    · exact .comp ih apply_moves
    · exact .refl

theorem budget_moves {f : Nat} {s : State} : Moves [idsTOCSIN, idsPWR, idsFEED] false s (budget f s) := by
  unfold budget
  extract_lets n1 x2 n3 n4 n5 n6 n7 r8 n9 n10 x11 x12 x13 x14 x15 x16
  refine .via x2 updFeed_moves fun h17 => ?_
  refine .via r8.2.2 (.after shedLoop_moves h17 rfl rfl) fun h18 => ?_
  refine .via x11 h18 fun h19 => ?_
  refine .via x12 (.after kdo_moves (.comp updFeed_moves h19) rfl rfl) fun h20 => ?_
  refine .via x13 (.after feedFault_moves (.comp (incSat_moves rfl) (.after feedEvt_moves h20 rfl rfl)) rfl rfl) fun h21 => ?_
  refine .via x14 (.comp (put_moves rfl) h19) fun h22 => ?_
  refine .via x15 (.comp (put_moves rfl) (.comp updFeed_moves h22)) fun h23 => ?_
  refine .via x16 ?_ fun h24 => ?_
  · unfold x16
    exact (.ite (.ite (.after feedFault_moves (.after feedEvt_moves h21 rfl rfl) rfl rfl) h21) (.ite (.after feedEvt_moves h23 rfl rfl) h19))
  exact (.ite (.comp (put_moves rfl) h17) (.comp (put_moves rfl) (.comp (put_moves rfl) (.comp (put_moves rfl) h24))))

theorem stepSeven_moves {f : Nat} {s : State} : Moves [idsTOCSIN, idsPWR, idsFEED] false s (stepSeven f s) := by
  unfold stepSeven
  exact (.ite (feedGap_moves.sub rfl rfl) (.after budget_moves (.after ledger_moves (.after auditFeed_moves (feedGap_moves.sub rfl rfl) rfl rfl) rfl rfl) rfl rfl))

theorem execFastPathShed_moves {f : Fin 2} {ofs : Nat} {s : State} : MovesTo [idsTOCSIN, idsPWR, idsFEED] false s (execFastPathShed f ofs s) := by
  unfold execFastPathShed
  extract_lets n1 n2 n3 n4 n5 x6 x7 x8
  refine .via x6 (kdo_moves.sub rfl rfl) fun h9 => ?_
  refine .via x7 (.after kdo_moves (.comp updFeed_moves h9) rfl rfl) fun h10 => ?_
  refine .via x8 (.comp (each_moves (fun _ _ => (.ite (goCh_moves.sub rfl rfl) .refl))) h10) fun h11 => ?_
  refine .ite ?_ ?_
  · refine .next ?_
    exact (.after kdo_moves h11 rfl rfl)
  · refine .next ?_
    exact .refl

theorem feedSense_moves {f ofs : Nat} {s : State} : Moves [idsTOCSIN, idsPWR, idsFEED] false s (feedSense f ofs s) := by
  unfold feedSense
  extract_lets x1 x2
  refine .via x1 updFeed_moves fun h3 => ?_
  refine .via x2 (.comp (when_moves (fun _ => (put_moves rfl))) h3) fun h4 => ?_
  exact (.ite .refl (.after kdo_moves h4 rfl rfl))

theorem execFeedSenseFault_moves {f : Fin 2} {ofs : Nat} {s : State} : MovesTo [idsTOCSIN, idsPWR, idsFEED] false s (execFeedSenseFault f ofs s) := by
  unfold execFeedSenseFault
  refine .next ?_
  exact (.ite (feedSense_moves.sub rfl rfl) .refl)

theorem senseEnd_moves {unit : Nat} {s : State} : Moves [idsPWR, idsFEED] false s (senseEnd unit s) := by
  unfold senseEnd
  exact (.ite .refl (.ite (.after mirror_moves setCh_moves rfl rfl) updFeed_moves))

theorem execSenseFaultEnd_moves {unit : Fin 74} {s : State} : MovesTo [idsPWR, idsFEED] false s (execSenseFaultEnd unit s) := by
  unfold execSenseFaultEnd
  refine .next ?_
  exact (senseEnd_moves.sub rfl rfl)

theorem feedAct_moves {f ofs : Nat} {s : State} : Moves [idsTOCSIN, idsFEED] false s (feedAct f ofs s) := by
  unfold feedAct
  exact (.ite .refl (.after raiseRec_moves (.comp (incSat_moves rfl) (put_moves rfl)) rfl rfl))

theorem feedDepart_moves {g ofs f : Nat} {s : State} : Moves [idsTOCSIN, idsFEED] false s (feedDepart g ofs f s) := by
  unfold feedDepart
  exact (.ite (feedAct_moves.sub rfl rfl) .refl)

theorem feedKnell_moves {f : Nat} {s : State} : Moves [idsTOCSIN, idsFEED] false s (feedKnell f s) := by
  unfold feedKnell
  exact (.ite (feedAct_moves.sub rfl rfl) (put_moves rfl))

theorem evalPower_moves {s : State} : Moves [idsTOCSIN, idsPWR, idsFEED] false s (evalPower s) := by
  unfold evalPower
  exact (.after evalChannels_moves (when_moves (fun _ => (each_moves (fun _ _ => (feedKnell_moves.sub rfl rfl))))) rfl rfl)

/-! ### Io -/

theorem freeOfs_moves {s : State} : Moves B m s ((State.freeOfs s).2) := by
  unfold State.freeOfs
  extract_lets r1
  refine .via r1.2 draw_moves fun h2 => ?_
  exact h2

theorem ioFault_moves {s : State} {n kind idx value ofs : Nat} : Moves [idsTOCSIN] false s (State.ioFault s n kind idx value ofs) := by
  unfold State.ioFault
  exact (raiseRec_moves.sub rfl rfl)

theorem setMfi_moves {s : State} {i : Nat} {x : MfiSt} : Moves B m s (State.setMfi s i x) := by
  unfold State.setMfi
  extract_lets n1
  exact (.set .refl)

theorem setLso_moves {s : State} {j : Nat} {x : LsoSt} : Moves B m s (State.setLso s j x) := by
  unfold State.setLso
  extract_lets n1
  exact (.set .refl)

theorem setPwm_moves {s : State} {g : Nat} {x : PwmGrp} : Moves B m s (State.setPwm s g x) := by
  unfold State.setPwm
  extract_lets n1
  exact (.set .refl)

theorem setBr_moves {s : State} {b : Nat} {x : BrSt} : Moves B m s (State.setBr s b x) := by
  unfold State.setBr
  extract_lets n1
  exact (.set .refl)

theorem setSent_moves {s : State} {c : Nat} {x : SentSt} : Moves B m s (State.setSent s c x) := by
  unfold State.setSent
  extract_lets n1
  exact (.set .refl)

theorem updTemp_moves {ofs n : Nat} {s : State} : Moves [idsTOCSIN, idsIOX] false s (updTemp ofs n s) := by
  unfold updTemp
  extract_lets n1 n2 n3 x4
  refine .via x4 ?_ fun h5 => ?_
  · unfold x4
    split
    · refine .ite ?_ ?_
      · exact (.comp (put_moves rfl) (put_moves rfl))
      · split
        · exact (.comp (put_moves rfl) (.comp (put_moves rfl) (put_moves rfl)))
        · exact (.comp (put_moves rfl) (put_moves rfl))
    · exact (.comp (put_moves rfl) (put_moves rfl))
  exact (.ite (.after ioFault_moves h5 rfl rfl) h5)

theorem updTemps_moves {kind idx ofs : Nat} {s : State} : Moves [idsTOCSIN, idsIOX] false s (updTemps kind idx ofs s) := by
  unfold updTemps
  exact (each_moves (fun _ _ => (.ite (updTemp_moves.sub rfl rfl) .refl)))

theorem mfiAnalog_moves {i raw ofs : Nat} {s : State} : Moves [idsTOCSIN, idsIOX] false s (mfiAnalog i raw ofs s) := by
  unfold mfiAnalog
  extract_lets n1 n2 n3 x4 n5 x6 x7 x8
  refine .via x4 (wr_moves rfl) fun h9 => ?_
  refine .via x6 (.comp setMfi_moves h9) fun h10 => ?_
  refine .via x7 (.comp (when_moves (fun _ => (put_moves rfl))) h10) fun h11 => ?_
  refine .via x8 (.comp (when_moves (fun _ => (ioFault_moves.sub rfl rfl))) h11) fun h12 => ?_
  exact (.after updTemps_moves h12 rfl rfl)

theorem mfiChange_moves {i : Nat} {v : Bool} {s : State} : Moves [idsIOX] false s (mfiChange i v s) := by
  unfold mfiChange
  extract_lets n1 n2 x3 x4 n5 x6
  refine .via x3 (wr_moves rfl) fun h7 => ?_
  refine .via x4 (.comp (wr_moves rfl) h7) fun h8 => ?_
  refine .via x6 ?_ fun h9 => ?_
  · unfold x6
    refine .comp (when_moves (fun s10 => ?_)) ?_
    · extract_lets n11
      exact (.comp emit_moves setMfi_moves)
    · exact h8
  exact (.ite (.comp raiseIrq_moves h9) h9)

theorem mfiDigital_moves {i raw : Nat} {s : State} : Moves [idsIOX] false s (mfiDigital i raw s) := by
  unfold mfiDigital
  extract_lets n1 n2 n3 n4 n5 x6
  refine .via x6 setMfi_moves fun h7 => ?_
  exact (.comp (when_moves (fun _ => (mfiChange_moves.sub rfl rfl))) h7)

theorem mfiSample_moves {i raw ofs : Nat} {s : State} : Moves [idsTOCSIN, idsIOX] false s (mfiSample i raw ofs s) := by
  unfold mfiSample
  extract_lets n1 x2
  refine .via x2 ?_ fun h3 => ?_
  · unfold x2
    exact (.ite (mfiAnalog_moves.sub rfl rfl) .refl)
  exact (.ite (.comp (when_moves (fun _ => (mfiDigital_moves.sub rfl rfl))) h3) .refl)

theorem unmeasure_moves {f : Fld} {kind i : Nat} {s : State} (hB : subBlocks [idsTOCSIN, idsIOX] B = true) (h_f : inBlocks B f.reg.id = true) : Moves B m s (unmeasure f kind i s) := by
  unfold unmeasure
  extract_lets r1
  refine .via r1.2 (.comp freeOfs_moves (put_moves h_f)) fun h2 => ?_
  exact (.ite (.after updTemps_moves h2 (subTrans rfl hB) rfl) .refl)

theorem mfiCfgAfter_moves {i was : Nat} {s : State} : Moves [idsTOCSIN, idsIOX] false s (mfiCfgAfter i was s) := by
  unfold mfiCfgAfter
  exact (when_moves (fun _ => (unmeasure_moves rfl rfl)))

theorem tempAfter_moves {n : Nat} {s : State} : Moves [idsTOCSIN, idsIOX] false s (tempAfter n s) := by
  unfold tempAfter
  extract_lets r1
  refine .via r1.2 freeOfs_moves fun h2 => ?_
  exact (.after updTemp_moves h2 rfl rfl)

theorem ssupMeasure_moves {n vRaw iRaw : Nat} {s : State} : Moves [idsIOX] false s (ssupMeasure n vRaw iRaw s) := by
  unfold ssupMeasure
  extract_lets n1 x2
  refine .via x2 (wr_moves rfl) fun h3 => ?_
  exact (.comp (wr_moves rfl) h3)

theorem ssupGo_moves {n st : Nat} {s : State} : Moves [idsTOCSIN, idsIOX] false s (ssupGo n st s) := by
  unfold ssupGo
  extract_lets x1
  refine .via x1 (.comp (put_moves rfl) (.comp (put_moves rfl) (put_moves rfl))) fun h2 => ?_
  exact (.ite h2 (.comp (each_moves (fun _ _ => (.ite (unmeasure_moves rfl rfl) .refl))) h2))

theorem raiCfgAfter_moves {i : Nat} {s : State} : Moves [idsTOCSIN, idsIOX] false s (raiCfgAfter i s) := by
  unfold raiCfgAfter
  split
  · exact (.ite .refl (unmeasure_moves rfl rfl))
  · exact .refl

theorem execRaiConversion_moves {i : Fin 16} {ratio : Nat} {above : Bool} {vRaw iRaw ofs : Nat} {s : State} : MovesTo [idsTOCSIN, idsIOX] false s (execRaiConversion i ratio above vRaw iRaw ofs s) := by
  unfold execRaiConversion
  extract_lets n1 x2 n3 n4 x5 x6
  refine .via x2 ?_ fun h7 => ?_
  · unfold x2
    split
    · exact (ssupMeasure_moves.sub rfl rfl)
    · exact .refl
  refine .via x5 (.comp (wr_moves rfl) h7) fun h8 => ?_
  refine .via x6 (.ite (.after ioFault_moves (.comp (put_moves rfl) h8) rfl rfl) h8) fun h9 => ?_
  refine .ite ?_ ?_
  · refine .next ?_
    exact (.after updTemps_moves h9 rfl rfl)
  · refine .next ?_
    exact .refl

theorem execSsupLimit_moves {n : Fin 8} {vRaw iRaw : Nat} {s : State} : MovesTo [idsTOCSIN, idsIOX] false s (execSsupLimit n vRaw iRaw s) := by
  unfold execSsupLimit
  refine .ite ?_ ?_
  · refine .next ?_
    exact (.comp (when_moves (fun _ => (ssupMeasure_moves.sub rfl rfl))) (ssupGo_moves.sub rfl rfl))
  · refine .next ?_
    exact .refl

theorem execSsupLimitEnd_moves {n : Fin 8} {vRaw iRaw : Nat} {s : State} : MovesTo [idsTOCSIN, idsIOX] false s (execSsupLimitEnd n vRaw iRaw s) := by
  unfold execSsupLimitEnd
  refine .ite ?_ ?_
  · refine .next ?_
    exact (.comp (when_moves (fun _ => (ssupMeasure_moves.sub rfl rfl))) (ssupGo_moves.sub rfl rfl))
  · refine .next ?_
    exact .refl

theorem execSsupOverload_moves {n : Fin 8} {vRaw iRaw ofs : Nat} {s : State} : MovesTo [idsTOCSIN, idsIOX] false s (execSsupOverload n vRaw iRaw ofs s) := by
  unfold execSsupOverload
  extract_lets x1
  refine .via x1 (.comp (put_moves rfl) (.comp (when_moves (fun _ => (ssupMeasure_moves.sub rfl rfl))) (ssupGo_moves.sub rfl rfl))) fun h2 => ?_
  refine .ite ?_ ?_
  · refine .next ?_
    exact (.after ioFault_moves h2 rfl rfl)
  · refine .next ?_
    exact .refl

theorem execSsupBackfeed_moves {n : Fin 8} {vRaw iRaw ofs : Nat} {s : State} : MovesTo [idsTOCSIN, idsIOX] false s (execSsupBackfeed n vRaw iRaw ofs s) := by
  unfold execSsupBackfeed
  extract_lets n1 x2
  refine .via x2 (.comp (put_moves rfl) (.comp (when_moves (fun _ => (ssupMeasure_moves.sub rfl rfl))) (ssupGo_moves.sub rfl rfl))) fun h3 => ?_
  refine .ite ?_ ?_
  · refine .next ?_
    exact (.after ioFault_moves h3 rfl rfl)
  · refine .next ?_
    exact .refl

theorem execSsupBackfeedEnd_moves {n : Fin 8} {vRaw iRaw : Nat} {s : State} : MovesTo [idsTOCSIN, idsIOX] false s (execSsupBackfeedEnd n vRaw iRaw s) := by
  unfold execSsupBackfeedEnd
  refine .ite ?_ ?_
  · refine .next ?_
    exact (.comp (when_moves (fun _ => (ssupMeasure_moves.sub rfl rfl))) (ssupGo_moves.sub rfl rfl))
  · refine .next ?_
    exact .refl

theorem ssupEnable_moves {n : Nat} {en : Bool} {s : State} : Moves [idsTOCSIN, idsIOX] false s (ssupEnable n en s) := by
  unfold ssupEnable
  exact (.ite (ssupGo_moves.sub rfl rfl) (.ite (ssupGo_moves.sub rfl rfl) .refl))

theorem driveSsup_moves {n : Nat} {en : Bool} {s : State} : Moves [idsTOCSIN, idsIOX] false s (driveSsup n en s) := by
  unfold driveSsup
  exact (.ite .refl (.comp (when_moves (fun _ => (ssupEnable_moves.sub rfl rfl))) (put_moves rfl)))

theorem pwmAfter_moves {g old : Nat} {s : State} : Moves [idsIOX] false s (pwmAfter g old s) := by
  unfold pwmAfter
  extract_lets x1
  refine .via x1 (put_moves rfl) fun h2 => ?_
  exact (.ite .refl setPwm_moves)

theorem lsoApply_moves {j duty : Nat} {s : State} : Moves B m s (lsoApply j duty s) := by
  unfold lsoApply
  extract_lets n1 n2
  exact setLso_moves

theorem driveLso_moves {j duty : Nat} {s : State} : Moves [idsIOX] false s (driveLso j duty s) := by
  unfold driveLso
  refine .ite ?_ ?_
  · exact .refl
  · refine .comp (when_moves (fun s1 => ?_)) ?_
    · extract_lets n2
      exact setLso_moves
    · exact (put_moves rfl)

theorem brShow_moves {b st mode duty : Nat} {s : State} : Moves [idsIOX] false s (brShow b st mode duty s) := by
  unfold brShow
  exact (.comp (put_moves rfl) (.comp (put_moves rfl) (put_moves rfl)))

theorem brApply_moves {b : Nat} {s : State} : Moves [idsIOX] false s (brApply b s) := by
  unfold brApply
  extract_lets n1
  exact (brShow_moves.sub rfl rfl)

theorem brCommand_moves {b mode duty : Nat} {s : State} : Moves [idsIOX] false s (brCommand b mode duty s) := by
  unfold brCommand
  extract_lets n1 n2 n3 x4
  refine .via x4 setBr_moves fun h5 => ?_
  exact (.ite .refl (.ite h5 (.ite (.comp emit_moves (.after brShow_moves h5 rfl rfl)) (.after brApply_moves h5 rfl rfl))))

theorem driveBr_moves {b mode duty : Nat} {s : State} : Moves [idsIOX] false s (driveBr b mode duty s) := by
  unfold driveBr
  exact (.ite .refl (.comp (when_moves (fun _ => (brCommand_moves.sub rfl rfl))) (.comp (put_moves rfl) (put_moves rfl))))

theorem forceSsup_moves {n : Nat} {s : State} : Moves [idsTOCSIN, idsIOX] false s (forceSsup n s) := by
  unfold forceSsup
  extract_lets x1
  refine .via x1 (put_moves rfl) fun h2 => ?_
  split
  · exact (.after ssupEnable_moves h2 rfl rfl)
  · exact h2
  · exact (.ite h2 (.after ssupEnable_moves h2 rfl rfl))

theorem quietSsup_moves {n : Nat} {s : State} : Moves [idsTOCSIN, idsIOX] false s (quietSsup n s) := by
  unfold quietSsup
  exact (.after ssupEnable_moves (.comp (put_moves rfl) (put_moves rfl)) rfl rfl)

theorem followSsup_moves {n : Nat} {s : State} : Moves [idsTOCSIN, idsIOX] false s (followSsup n s) := by
  unfold followSsup
  exact (.ite (forceSsup_moves.sub rfl rfl) (.ite (quietSsup_moves.sub rfl rfl) .refl))

theorem refuseOutput_moves {init a kind idx : Nat} {s : State} : Moves [idsLATE, idsLATE_E, idsTOCSIN] false s (refuseOutput init a kind idx s) := by
  unfold refuseOutput
  extract_lets r1
  refine .via r1.2 (.comp freeOfs_moves (denyWrite_moves.sub rfl rfl)) fun h2 => ?_
  exact (.after ioFault_moves h2 rfl rfl)

theorem ssupWrite_moves {n init : Nat} {v : Word} {s : State} : Moves [idsLATE, idsLATE_E, idsTOCSIN, idsIOX] false s (ssupWrite n init v s) := by
  unfold ssupWrite
  extract_lets n1 n2 x3
  refine .via x3 (when_moves (fun _ => (.after followSsup_moves (wr_moves rfl) rfl rfl))) fun h4 => ?_
  exact (.ite (refuseOutput_moves.sub rfl rfl) (.comp (when_moves (fun _ => (driveSsup_moves.sub rfl rfl))) h4))

theorem execIoxSsupCtrl_moves {n : Fin 8} {init : Init} {value : Word} {s : State} : MovesTo [idsLATE, idsLATE_E, idsTOCSIN, idsIOX, idsDENY] false s (execIoxSsupCtrl n init value s) := by
  unfold execIoxSsupCtrl
  refine .next ?_
  exact (busWrite_moves rfl (fun _ => (ssupWrite_moves.sub rfl rfl)))

theorem lsoWrite_moves {j init : Nat} {v : Word} {s : State} : Moves [idsLATE, idsLATE_E, idsTOCSIN, idsIOX] false s (lsoWrite j init v s) := by
  unfold lsoWrite
  exact (.ite (driveLso_moves.sub rfl rfl) (refuseOutput_moves.sub rfl rfl))

theorem execIoxLsoDuty_moves {j : Fin 32} {init : Init} {value : Word} {s : State} : MovesTo [idsLATE, idsLATE_E, idsTOCSIN, idsIOX, idsDENY] false s (execIoxLsoDuty j init value s) := by
  unfold execIoxLsoDuty
  refine .next ?_
  exact (busWrite_moves rfl (fun _ => (lsoWrite_moves.sub rfl rfl)))

theorem brWrite_moves {b init : Nat} {v : Word} {s : State} : Moves [idsLATE, idsLATE_E, idsTOCSIN, idsIOX] false s (brWrite b init v s) := by
  unfold brWrite
  exact (.ite (driveBr_moves.sub rfl rfl) (refuseOutput_moves.sub rfl rfl))

theorem execIoxBrCmd_moves {b : Fin 6} {init : Init} {value : Word} {s : State} : MovesTo [idsLATE, idsLATE_E, idsTOCSIN, idsIOX, idsDENY] false s (execIoxBrCmd b init value s) := by
  unfold execIoxBrCmd
  refine .next ?_
  exact (busWrite_moves rfl (fun _ => (brWrite_moves.sub rfl rfl)))

theorem lsoIrq_moves {j : Nat} {s : State} : Moves B m s (lsoIrq j s) := by
  unfold lsoIrq
  exact (.ite raiseIrq_moves .refl)

theorem execLsoOvercurrent_moves {j : Fin 32} {i ofs : Nat} {s : State} : MovesTo [idsTOCSIN, idsIOX] false s (execLsoOvercurrent j i ofs s) := by
  unfold execLsoOvercurrent
  extract_lets x1
  refine .via x1 (.comp (put_moves rfl) (.comp (put_moves rfl) (put_moves rfl))) fun h2 => ?_
  refine .ite ?_ ?_
  · refine .next ?_
    exact (.after ioFault_moves (.comp lsoIrq_moves h2) rfl rfl)
  · refine .next ?_
    exact .refl

theorem lsoStatWrite_moves {j : Nat} {v : Word} {s : State} : Moves [idsIOX] false s (lsoStatWrite j v s) := by
  unfold lsoStatWrite
  extract_lets x1
  refine .via x1 (swWrite_moves rfl) fun h2 => ?_
  exact (.comp (when_moves (fun _ => (put_moves rfl))) h2)

theorem execLsoOcClear_moves {j : Fin 32} {init : Init} {value : Word} {s : State} : MovesTo [idsLATE, idsLATE_E, idsTOCSIN, idsIOX, idsDENY] false s (execLsoOcClear j init value s) := by
  unfold execLsoOcClear
  refine .next ?_
  exact (busWrite_moves rfl (fun _ => (lsoStatWrite_moves.sub rfl rfl)))

theorem execLsoOvertemp_moves {j : Fin 32} {i ofs : Nat} {s : State} : MovesTo [idsTOCSIN, idsIOX] false s (execLsoOvertemp j i ofs s) := by
  unfold execLsoOvertemp
  extract_lets n1 x2
  refine .via x2 (.comp (put_moves rfl) setLso_moves) fun h3 => ?_
  refine .ite ?_ ?_
  · refine .next ?_
    exact (.after ioFault_moves (.comp lsoIrq_moves (.comp (put_moves rfl) h3)) rfl rfl)
  · refine .next ?_
    exact .refl

theorem execLsoOvertempRecover_moves {j : Fin 32} {s : State} : MovesTo B m s (execLsoOvertempRecover j s) := by
  unfold execLsoOvertempRecover
  refine .next ?_
  extract_lets n1
  exact setLso_moves

theorem execLsoOpenLoad_moves {j : Fin 32} {on : Bool} {i ofs : Nat} {s : State} : MovesTo [idsTOCSIN, idsIOX] false s (execLsoOpenLoad j on i ofs s) := by
  unfold execLsoOpenLoad
  extract_lets x1
  refine .via x1 (.ite (put_moves rfl) (put_moves rfl)) fun h2 => ?_
  refine .ite ?_ ?_
  · refine .next ?_
    exact (.after ioFault_moves (.comp lsoIrq_moves (.comp (put_moves rfl) h2)) rfl rfl)
  · refine .next ?_
    exact .refl

theorem brIrq_moves {b : Nat} {s : State} : Moves B m s (brIrq b s) := by
  unfold brIrq
  exact (.ite raiseIrq_moves .refl)

theorem execBridgeGapEnd_moves {b : Fin 6} {s : State} : MovesTo [idsIOX] false s (execBridgeGapEnd b s) := by
  unfold execBridgeGapEnd
  refine .ite ?_ ?_
  · refine .next ?_
    exact (brApply_moves.sub rfl rfl)
  · refine .next ?_
    exact .refl

theorem brLimit_moves {b code ofs : Nat} {s : State} : Moves [idsTOCSIN, idsIOX] false s (brLimit b code ofs s) := by
  unfold brLimit
  extract_lets n1 n2 x3
  refine .via x3 (.comp (incSat_moves rfl) setBr_moves) fun h4 => ?_
  exact (.ite (.after ioFault_moves (.comp brIrq_moves (.comp (put_moves rfl) h4)) rfl rfl) h4)

theorem brPeriod_moves {b : Nat} {above : Bool} {code ofs : Nat} {s : State} : Moves [idsTOCSIN, idsIOX] false s (brPeriod b above code ofs s) := by
  unfold brPeriod
  extract_lets n1 x2 n3 x4 n5 n6
  refine .via x2 setBr_moves fun h7 => ?_
  refine .via x4 ?_ fun h8 => ?_
  · unfold x4
    exact (.ite (brLimit_moves.sub rfl rfl) .refl)
  exact (.ite (.ite (.after brLimit_moves h7 rfl rfl) (.comp setBr_moves h7)) (.ite (.comp setBr_moves h8) (.comp setBr_moves h8)))

theorem execBridgeCurrentLimit_moves {b : Fin 6} {raw : Nat} {dir : Bool} {vsRaw ofs : Nat} {s : State} : MovesTo [idsTOCSIN, idsIOX] false s (execBridgeCurrentLimit b raw dir vsRaw ofs s) := by
  unfold execBridgeCurrentLimit
  extract_lets n1 x2
  refine .via x2 ?_ fun h3 => ?_
  · unfold x2
    exact (.ite (.comp (wr_moves rfl) (wr_moves rfl)) .refl)
  refine .ite ?_ ?_
  · refine .next ?_
    exact (.ite (.after brPeriod_moves h3 rfl rfl) h3)
  · refine .next ?_
    exact .refl

theorem brSafe_moves {b : Nat} {s : State} : Moves B m s (brSafe b s) := by
  unfold brSafe
  extract_lets n1
  split
  · exact setBr_moves
  · exact (.ite .refl setBr_moves)
  · exact setBr_moves

theorem execBridgeShort_moves {b : Fin 6} {ofs : Nat} {s : State} : MovesTo [idsTOCSIN, idsIOX] false s (execBridgeShort b ofs s) := by
  unfold execBridgeShort
  extract_lets x1 x2
  refine .via x1 (.after brShow_moves setBr_moves rfl rfl) fun h3 => ?_
  refine .via x2 (.comp (incSat_moves rfl) (.comp (put_moves rfl) h3)) fun h4 => ?_
  refine .ite ?_ ?_
  · refine .next ?_
    exact (.after ioFault_moves (.comp brIrq_moves h4) rfl rfl)
  · refine .next ?_
    exact .refl

theorem brStatWrite_moves {b : Nat} {v : Word} {s : State} : Moves [idsIOX] false s (brStatWrite b v s) := by
  unfold brStatWrite
  extract_lets x1
  refine .via x1 (.comp (put_moves rfl) (swWrite_moves rfl)) fun h2 => ?_
  exact (.ite (.after brApply_moves (.comp (when_moves (fun _ => brSafe_moves)) h2) rfl rfl) h2)

theorem execBridgeClr_moves {b : Fin 6} {init : Init} {value : Word} {s : State} : MovesTo [idsLATE, idsLATE_E, idsTOCSIN, idsIOX, idsDENY] false s (execBridgeClr b init value s) := by
  unfold execBridgeClr
  refine .next ?_
  exact (busWrite_moves rfl (fun _ => (brStatWrite_moves.sub rfl rfl)))

theorem brSupply_moves {b vsRaw : Nat} {s : State} : Moves [idsIOX] false s (brSupply b vsRaw s) := by
  unfold brSupply
  exact (when_moves (fun _ => (wr_moves rfl)))

theorem execBridgeUv_moves {b : Fin 6} {vsRaw ofs : Nat} {s : State} : MovesTo [idsTOCSIN, idsIOX] false s (execBridgeUv b vsRaw ofs s) := by
  unfold execBridgeUv
  extract_lets x1 x2
  refine .via x1 (.comp (put_moves rfl) (brSupply_moves.sub rfl rfl)) fun h3 => ?_
  refine .via x2 (.ite h3 (.after brShow_moves h3 rfl rfl)) fun h4 => ?_
  refine .ite ?_ ?_
  · refine .next ?_
    exact (.after ioFault_moves (.comp brIrq_moves h4) rfl rfl)
  · refine .next ?_
    exact .refl

theorem execBridgeUvRecover_moves {b : Fin 6} {vsRaw : Nat} {s : State} : MovesTo [idsIOX] false s (execBridgeUvRecover b vsRaw s) := by
  unfold execBridgeUvRecover
  refine .ite ?_ ?_
  · refine .next ?_
    exact (.after brApply_moves (brSupply_moves.sub rfl rfl) rfl rfl)
  · refine .next ?_
    exact .refl

theorem forceLso_moves {j : Nat} {s : State} : Moves [idsIOX] false s (forceLso j s) := by
  unfold forceLso
  extract_lets x1 n2
  refine .via x1 (put_moves rfl) fun h3 => ?_
  split
  · exact (.comp setLso_moves h3)
  · exact (.ite (.comp setLso_moves h3) h3)
  · exact (.comp setLso_moves h3)

theorem forceBr_moves {b : Nat} {s : State} : Moves [idsIOX] false s (forceBr b s) := by
  unfold forceBr
  extract_lets x1 x2 n3 x4 n5
  refine .via x1 ?_ fun h6 => ?_
  · unfold x1
    refine .comp (when_moves (fun s7 => ?_)) ?_
    · extract_lets n8
      exact setBr_moves
    · exact .refl
  refine .via x2 (.comp brSafe_moves (.comp (put_moves rfl) h6)) fun h9 => ?_
  refine .via x4 ?_ fun h10 => ?_
  · unfold x4
    exact (.ite (.comp setBr_moves h9) h9)
  exact (.ite h10 (.after brApply_moves h10 rfl rfl))

theorem hoscOutputs_moves {s : State} : Moves [idsIOX] false s (hoscOutputs s) := by
  unfold hoscOutputs
  extract_lets x1
  refine .via x1 (each_moves (fun _ _ => (.ite (.ite (forceLso_moves.sub rfl rfl) .refl) .refl))) fun h2 => ?_
  exact (.comp (each_moves (fun _ _ => (.ite (.ite (forceBr_moves.sub rfl rfl) .refl) .refl))) h2)

theorem forceOutputs_moves {g : Nat} {s : State} : Moves [idsTOCSIN, idsIOX] false s (forceOutputs g s) := by
  unfold forceOutputs
  extract_lets x1 x2
  refine .via x1 (each_moves (fun _ _ => (.ite (forceSsup_moves.sub rfl rfl) .refl))) fun h3 => ?_
  refine .via x2 (.comp (each_moves (fun _ _ => (.ite (forceLso_moves.sub rfl rfl) .refl))) h3) fun h4 => ?_
  exact (.comp (each_moves (fun _ _ => (.ite (forceBr_moves.sub rfl rfl) .refl))) h4)

theorem quietLso_moves {j : Nat} {s : State} : Moves [idsIOX] false s (quietLso j s) := by
  unfold quietLso
  exact (.comp lsoApply_moves (.comp (put_moves rfl) (put_moves rfl)))

theorem quietBr_moves {b : Nat} {s : State} : Moves [idsIOX] false s (quietBr b s) := by
  unfold quietBr
  extract_lets x1 n2 x3 n4
  refine .via x1 (.comp (wr_moves rfl) (put_moves rfl)) fun h5 => ?_
  refine .via x3 (.comp setBr_moves h5) fun h6 => ?_
  exact (.ite h6 (.after brApply_moves h6 rfl rfl))

theorem releaseOutputs_moves {g : Nat} {s : State} : Moves [idsTOCSIN, idsIOX] false s (releaseOutputs g s) := by
  unfold releaseOutputs
  extract_lets x1 x2
  refine .via x1 (each_moves (fun _ _ => (.ite (quietSsup_moves.sub rfl rfl) .refl))) fun h3 => ?_
  refine .via x2 (.comp (each_moves (fun _ _ => (.ite (quietLso_moves.sub rfl rfl) .refl))) h3) fun h4 => ?_
  exact (.comp (each_moves (fun _ _ => (.ite (quietBr_moves.sub rfl rfl) .refl))) h4)

theorem followLso_moves {j : Nat} {s : State} : Moves [idsIOX] false s (followLso j s) := by
  unfold followLso
  exact (.ite (forceLso_moves.sub rfl rfl) (.ite (quietLso_moves.sub rfl rfl) .refl))

theorem followBr_moves {b : Nat} {s : State} : Moves [idsIOX] false s (followBr b s) := by
  unfold followBr
  exact (.ite (forceBr_moves.sub rfl rfl) (.ite (quietBr_moves.sub rfl rfl) .refl))

theorem followGroups_moves {s : State} : Moves [idsTOCSIN, idsIOX] false s (followGroups s) := by
  unfold followGroups
  extract_lets x1 x2
  refine .via x1 (each_moves (fun _ _ => (followSsup_moves.sub rfl rfl))) fun h3 => ?_
  refine .via x2 (.comp (each_moves (fun _ _ => (followLso_moves.sub rfl rfl))) h3) fun h4 => ?_
  exact (.comp (each_moves (fun _ _ => (followBr_moves.sub rfl rfl))) h4)

theorem resetPartOutputs_moves {p : Nat} {s : State} : Moves [idsTOCSIN, idsIOX] false s (resetPartOutputs p s) := by
  unfold resetPartOutputs
  extract_lets x1 x2
  refine .via x1 (each_moves (fun _ _ => (.ite (quietSsup_moves.sub rfl rfl) .refl))) fun h3 => ?_
  refine .via x2 (.comp (each_moves (fun _ _ => (.ite (quietLso_moves.sub rfl rfl) .refl))) h3) fun h4 => ?_
  exact (.comp (each_moves (fun _ _ => (.ite (quietBr_moves.sub rfl rfl) .refl))) h4)

theorem ioLinkDown_moves {s : State} : Moves [idsTOCSIN, idsIOX, idsSENT] false s (ioLinkDown s) := by
  unfold ioLinkDown
  extract_lets x1 x2 x3 x4 x5 x6 r7
  refine .via x1 (put_moves rfl) fun h8 => ?_
  refine .via x2 (.comp (each_moves (fun _ _ => (put_moves rfl))) h8) fun h9 => ?_
  refine .via x3 (.comp (each_moves (fun _ _ => (put_moves rfl))) h9) fun h10 => ?_
  refine .via x4 (.comp (each_moves (fun _ _ => (.comp (put_moves rfl) (put_moves rfl)))) h10) fun h11 => ?_
  refine .via x5 (.comp (each_moves (fun _ _ => (.comp (put_moves rfl) (put_moves rfl)))) h11) fun h12 => ?_
  refine .via x6 (.comp (each_moves (fun _ _ => (.comp (put_moves rfl) (.comp (put_moves rfl) (.comp (put_moves rfl) (put_moves rfl)))))) h12) fun h13 => ?_
  refine .via r7.2 (.comp freeOfs_moves h13) fun h14 => ?_
  exact (.comp (each_moves (fun _ _ => (updTemp_moves.sub rfl rfl))) h14)

theorem ioLinkUp_moves {s : State} : Moves [idsTOCSIN, idsIOX] false s (ioLinkUp s) := by
  unfold ioLinkUp
  exact (.after followGroups_moves (put_moves rfl) rfl rfl)

theorem sentShowFast_moves {c : Nat} {fc : Nat × Option Nat} {status : Nat} {s : State} : Moves [idsSENT] false s (sentShowFast c fc status s) := by
  unfold sentShowFast
  extract_lets x1 x2
  refine .via x1 (.comp (put_moves rfl) (put_moves rfl)) fun h3 => ?_
  refine .via x2 (.comp (wr_moves rfl) h3) fun h4 => ?_
  split
  · exact (.comp (wr_moves rfl) h4)
  · exact (.comp (put_moves rfl) h4)

theorem sentShowSlow_moves {c : Nat} {slow : Option (Nat × Nat)} {s : State} : Moves [idsSENT] false s (sentShowSlow c slow s) := by
  unfold sentShowSlow
  split
  · extract_lets x1
    refine .via x1 (wr_moves rfl) fun h2 => ?_
    exact (.ite (.comp raiseIrq_moves h2) h2)
  · exact .refl

theorem sentAccept_moves {c : Nat} {fr : SentFrame} {s : State} : Moves [idsSENT] false s (sentAccept c fr s) := by
  unfold sentAccept
  extract_lets x1 n2 n3 n4 n5
  refine .via x1 (.comp (incSat_moves rfl) (sentShowFast_moves.sub rfl rfl)) fun h6 => ?_
  exact (.after sentShowSlow_moves (.comp setSent_moves h6) rfl rfl)

theorem execSentFrame_moves {c : Fin 8} {fr : SentFrame} {ofs : Nat} {s : State} : MovesTo [idsTOCSIN, idsSENT] false s (execSentFrame c fr ofs s) := by
  unfold execSentFrame
  extract_lets n1 n2 x3 n4 x5 x6 x7
  refine .via x3 setSent_moves fun h8 => ?_
  refine .via x5 (.comp setSent_moves h8) fun h9 => ?_
  refine .via x6 (.comp (put_moves rfl) (.comp (put_moves rfl) (.comp (incSat_moves rfl) h9))) fun h10 => ?_
  refine .via x7 ?_ fun h11 => ?_
  · unfold x7
    exact (.ite (.comp raiseIrq_moves h10) h10)
  refine .ite ?_ ?_
  · refine .ite ?_ ?_
    · refine .next ?_
      exact (.after sentAccept_moves h8 rfl rfl)
    · refine .next ?_
      exact (.after ioFault_moves h11 rfl rfl)
  · refine .next ?_
    exact .refl

theorem execSentTimeout_moves {c : Fin 8} {ofs : Nat} {s : State} : MovesTo [idsTOCSIN, idsSENT] false s (execSentTimeout c ofs s) := by
  unfold execSentTimeout
  extract_lets n1 x2 x3 x4 x5
  refine .via x2 setSent_moves fun h6 => ?_
  refine .via x3 (.comp (put_moves rfl) (.comp (put_moves rfl) (.comp (put_moves rfl) h6))) fun h7 => ?_
  refine .via x4 (.comp (put_moves rfl) h7) fun h8 => ?_
  refine .via x5 ?_ fun h9 => ?_
  · unfold x5
    exact (.ite (.comp raiseIrq_moves h8) h8)
  refine .ite ?_ ?_
  · refine .next ?_
    exact (.after ioFault_moves h9 rfl rfl)
  · refine .next ?_
    exact .refl

theorem sentTrigger_moves {c : Nat} {s : State} : Moves B m s (sentTrigger c s) := by
  unfold sentTrigger
  extract_lets n1
  exact (.ite (.comp emit_moves setSent_moves) .refl)

theorem sentCfgWrite_moves {c : Nat} {v : Word} {s : State} : Moves [idsSENT] false s (sentCfgWrite c v s) := by
  unfold sentCfgWrite
  extract_lets x1
  refine .via x1 (.comp (put_moves rfl) (swWrite_moves rfl)) fun h2 => ?_
  exact (.comp (when_moves (fun _ => sentTrigger_moves)) h2)

theorem execSentTrig_moves {c : Fin 8} {init : Init} {value : Word} {s : State} : MovesTo [idsLATE, idsLATE_E, idsTOCSIN, idsSENT, idsDENY] false s (execSentTrig c init value s) := by
  unfold execSentTrig
  refine .next ?_
  exact (busWrite_moves rfl (fun _ => (sentCfgWrite_moves.sub rfl rfl)))

/-! ### Knell -/

theorem knPut_moves {g bit : Nat} {on : Bool} {s : State} : Moves [idsKNELL] false s (knPut g bit on s) := by
  unfold knPut
  exact (wr_moves rfl)

theorem knFault_moves {n unit code : Nat} {s : State} : Moves [idsTOCSIN] false s (knFault n unit code s) := by
  unfold knFault
  exact (raise_moves.sub rfl rfl)

theorem knIrq_moves {s : State} : Moves B m s (knIrq s) := by
  unfold knIrq
  extract_lets n1
  exact (.ite raiseIrq_moves (.set .refl))

theorem forceMembers_moves {g : Nat} {s : State} : Moves [idsTOCSIN, idsPWR, idsFEED, idsIOX] false s (forceMembers g s) := by
  unfold forceMembers
  extract_lets r1
  refine .via r1.2 freeOfs_moves fun h2 => ?_
  exact (.comp (each_moves (fun _ _ => (feedDepart_moves.sub rfl rfl))) (.after forceOutputs_moves (.after forceGroup_moves h2 rfl rfl) rfl rfl))

theorem knDepart_moves {g bit : Nat} {s : State} : Moves [idsTOCSIN, idsKNELL, idsPWR, idsFEED, idsIOX] false s (knDepart g bit s) := by
  unfold knDepart
  extract_lets x1 x2 x3 n4 x5
  refine .via x1 (put_moves rfl) fun h6 => ?_
  refine .via x2 (.comp (incSat_moves rfl) h6) fun h7 => ?_
  refine .via x3 (.comp (wr_moves rfl) h7) fun h8 => ?_
  refine .via x5 ?_ fun h9 => ?_
  · unfold x5
    exact (.ite (.after knFault_moves h8 rfl rfl) (.set h8))
  exact (.after forceMembers_moves (.comp knIrq_moves h9) rfl rfl)

theorem knCause_moves {g bit : Nat} {s : State} : Moves [idsTOCSIN, idsKNELL, idsPWR, idsFEED, idsIOX] false s (knCause g bit s) := by
  unfold knCause
  extract_lets n1 x2 n3 x4
  refine .via x2 (knPut_moves.sub rfl rfl) fun h5 => ?_
  refine .via x4 ?_ fun h6 => ?_
  · unfold x4
    exact (.ite (.after knDepart_moves (.set h5) rfl rfl) (.ite (.comp knIrq_moves (.comp (put_moves rfl) h5)) h5))
  exact (.after tocRefresh_moves h6 rfl rfl)

theorem knCauseAll_moves {bit : Nat} {s : State} : Moves [idsTOCSIN, idsKNELL, idsPWR, idsFEED, idsIOX] false s (knCauseAll bit s) := by
  unfold knCauseAll
  exact (each_moves (fun _ _ => (knCause_moves.sub rfl rfl)))

theorem knClearAll_moves {bit : Nat} {s : State} : Moves [idsKNELL] false s (knClearAll bit s) := by
  unfold knClearAll
  exact (each_moves (fun _ _ => (knPut_moves.sub rfl rfl)))

theorem judgePair_moves {g : Nat} {s : State} : Moves [idsTOCSIN, idsKNELL, idsPWR, idsFEED, idsIOX] false s (judgePair g s) := by
  unfold judgePair
  extract_lets n1
  exact (.ite (.ite (knCause_moves.sub rfl rfl) (knPut_moves.sub rfl rfl)) .refl)

theorem execKnellRequest_moves {g : Fin 8} {broken : Option (Bool × Bool)} {s : State} : MovesTo [idsTOCSIN, idsKNELL, idsPWR, idsFEED, idsIOX] false s (execKnellRequest g broken s) := by
  unfold execKnellRequest
  extract_lets n1 n2 n3 x4 x5
  refine .via x4 (.set .refl) fun h6 => ?_
  refine .via x5 ?_ fun h7 => ?_
  · unfold x5
    exact (.ite (.after knPut_moves h6 rfl rfl) h6)
  refine .next ?_
  exact (.after judgePair_moves h7 rfl rfl)

theorem execKnellRailFault_moves {g : Fin 8} {s : State} : MovesTo [idsTOCSIN, idsKNELL, idsPWR, idsFEED, idsIOX] false s (execKnellRailFault g s) := by
  unfold execKnellRailFault
  extract_lets x1 n2 x3
  refine .via x1 (wr_moves rfl) fun h4 => ?_
  refine .via x3 ?_ fun h5 => ?_
  · unfold x3
    exact (.ite (.after knFault_moves h4 rfl rfl) (.set h4))
  refine .ite ?_ ?_
  · refine .next ?_
    exact (.after knCause_moves h5 rfl rfl)
  · refine .next ?_
    exact .refl

theorem heartbeatLost_moves {s : State} : Moves [idsTOCSIN, idsKNELL, idsPWR, idsFEED, idsIOX] false s (heartbeatLost s) := by
  unfold heartbeatLost
  extract_lets n1 x2
  refine .via x2 (.set .refl) fun h3 => ?_
  exact (.ite .refl (.after tocRefresh_moves (.after knCauseAll_moves (.comp (put_moves rfl) h3) rfl rfl) rfl rfl))

theorem execKsupLoss_moves {s : State} : MovesTo [idsTOCSIN, idsKNELL, idsPWR, idsFEED, idsIOX] false s (execKsupLoss s) := by
  unfold execKsupLoss
  extract_lets n1 x2
  refine .via x2 (.set .refl) fun h3 => ?_
  refine .ite ?_ ?_
  · refine .next ?_
    exact .refl
  · refine .next ?_
    exact (.after knCauseAll_moves h3 rfl rfl)

theorem execHoscStop_moves {s : State} : MovesTo [idsTOCSIN, idsKNELL, idsPWR, idsFEED, idsIOX] false s (execHoscStop s) := by
  unfold execHoscStop
  extract_lets n1 x2 x3 n4 x5
  refine .via x2 (.set .refl) fun h6 => ?_
  refine .via x3 (.comp (put_moves rfl) h6) fun h7 => ?_
  refine .via x5 ?_ fun h8 => ?_
  · unfold x5
    exact (.ite (.after knFault_moves h7 rfl rfl) (.set h7))
  refine .ite ?_ ?_
  · refine .next ?_
    exact (.after hoscOutputs_moves (.after knCauseAll_moves h8 rfl rfl) rfl rfl)
  · refine .next ?_
    exact .refl

theorem knRelease_moves {g : Nat} {s : State} : Moves [idsTOCSIN, idsKNELL, idsIOX] false s (knRelease g s) := by
  unfold knRelease
  extract_lets x1 x2 x3 n4 x5
  refine .via x1 (.comp (put_moves rfl) (.after knPut_moves (knPut_moves.sub rfl rfl) rfl rfl)) fun h6 => ?_
  refine .via x2 (.comp (put_moves rfl) h6) fun h7 => ?_
  refine .via x3 (.comp (wr_moves rfl) h7) fun h8 => ?_
  refine .via x5 (.set h8) fun h9 => ?_
  exact (.after tocRefresh_moves (.after releaseOutputs_moves (.comp knIrq_moves h9) rfl rfl) rfl rfl)

theorem knCheck_moves {g : Nat} {s : State} : Moves [idsTOCSIN, idsKNELL, idsPWR, idsFEED, idsIOX] false s (knCheck g s) := by
  unfold knCheck
  extract_lets n1 n2 n3 x4 n5 x6 n7
  refine .via x4 (checkWord_moves.sub rfl rfl) fun h8 => ?_
  refine .via x6 ?_ fun h9 => ?_
  · unfold x6
    exact (.ite (.after knCause_moves h8 rfl rfl) (.ite (.after knCause_moves h8 rfl rfl) h8))
  exact (.ite .refl (.ite (.ite (.ite (.after knRelease_moves h9 rfl rfl) (.comp (put_moves rfl) h9)) (.comp (put_moves rfl) h9)) h9))

theorem knCheckAll_moves {s : State} : Moves [idsTOCSIN, idsKNELL, idsPWR, idsFEED, idsIOX] false s (knCheckAll s) := by
  unfold knCheckAll
  exact (.ite (each_moves (fun _ _ => (knCheck_moves.sub rfl rfl))) .refl)

theorem knLinkUp_moves {s : State} : Moves [idsTOCSIN, idsKNELL, idsPWR, idsFEED, idsIOX] false s (knLinkUp s) := by
  unfold knLinkUp
  extract_lets x1 x2 n3 x4 x5 x6 x7 x8 x9
  refine .via x1 (.after knClearAll_moves (knClearAll_moves.sub rfl rfl) rfl rfl) fun h10 => ?_
  refine .via x2 ?_ fun h11 => ?_
  · unfold x2
    exact (.ite (.after knClearAll_moves h10 rfl rfl) h10)
  refine .via x4 (.set h11) fun h12 => ?_
  refine .via x5 ?_ fun h13 => ?_
  · unfold x5
    exact (.ite h12 (.after knFault_moves (.comp (put_moves rfl) h12) rfl rfl))
  refine .via x6 (.comp (each_moves (fun _ _ => (knFault_moves.sub rfl rfl))) h13) fun h14 => ?_
  refine .via x7 ?_ fun h15 => ?_
  · unfold x7
    exact (.ite (.after knFault_moves h14 rfl rfl) h14)
  refine .via x8 (.comp (each_moves (fun _ _ => (knFault_moves.sub rfl rfl))) h15) fun h16 => ?_
  refine .via x9 ?_ fun h17 => ?_
  · unfold x9
    exact (.ite (.comp raiseIrq_moves h16) h16)
  exact (.comp (each_moves (fun _ _ => (judgePair_moves.sub rfl rfl))) h17)

/-! ### Toc -/

theorem tocClear_moves {w init : Nat} {v : Word} {s : State} : Moves [idsTOCSIN] false s (tocClear w init v s) := by
  unfold tocClear
  extract_lets n1 x2
  refine .via x2 (wr_moves rfl) fun h3 => ?_
  exact (.after tocRefresh_moves (.comp (each_moves (fun _ _ => (.ite dropIrq_moves .refl))) h3) rfl rfl)

theorem execTocPend_moves {w : Fin 16} {init : Init} {value : Word} {s : State} : MovesTo [idsLATE, idsLATE_E, idsTOCSIN, idsDENY] false s (execTocPend w init value s) := by
  unfold execTocPend
  refine .next ?_
  exact (busWrite_moves rfl (fun _ => (tocClear_moves.sub rfl rfl)))

theorem swintClear_moves {k init : Nat} {v : Word} {s : State} : Moves [idsTOCSIN] false s (swintClear k init v s) := by
  unfold swintClear
  extract_lets n1 x2
  refine .via x2 (wr_moves rfl) fun h3 => ?_
  exact (.comp (each_moves (fun _ _ => (.ite dropIrq_moves .refl))) h3)

theorem logSel_moves {init : Nat} {v : Word} {s : State} : Moves [idsLATE, idsLATE_E, idsTOCSIN] false s (logSel init v s) := by
  unfold logSel
  extract_lets n1 n2 x3 x4 x5
  refine .via x3 (.comp (put_moves rfl) (put_moves rfl)) fun h6 => ?_
  refine .via x4 (.comp (put_moves rfl) (.comp (put_moves rfl) h6)) fun h7 => ?_
  refine .via x5 (.comp (wr_moves rfl) (.comp (wr_moves rfl) h7)) fun h8 => ?_
  exact (.ite (denyWrite_moves.sub rfl rfl) (.comp (wr_moves rfl) (.comp (wr_moves rfl) h8)))

theorem execTocLogSel_moves {init : Init} {value : Word} {s : State} : MovesTo [idsLATE, idsLATE_E, idsTOCSIN, idsDENY] false s (execTocLogSel init value s) := by
  unfold execTocLogSel
  refine .next ?_
  exact (busWrite_moves rfl (fun _ => (logSel_moves.sub rfl rfl)))

theorem swRaise_moves {init : Nat} {v : Word} {s : State} : Moves [idsLATE, idsLATE_E, idsTOCSIN] false s (swRaise init v s) := by
  unfold swRaise
  extract_lets n1 n2
  exact (.ite (raise_moves.sub rfl rfl) (denyWrite_moves.sub rfl rfl))

theorem execTocSwraise_moves {init : Init} {value : Word} {s : State} : MovesTo [idsLATE, idsLATE_E, idsTOCSIN, idsDENY] false s (execTocSwraise init value s) := by
  unfold execTocSwraise
  refine .next ?_
  exact (busWrite_moves rfl (fun _ => (swRaise_moves.sub rfl rfl)))

theorem swInt_moves {init : Nat} {v : Word} {s : State} : Moves [idsLATE, idsLATE_E, idsTOCSIN] false s (swInt init v s) := by
  unfold swInt
  extract_lets n1
  exact (.ite (.comp raiseIrq_moves (wr_moves rfl)) (denyWrite_moves.sub rfl rfl))

theorem execTocSwint_moves {init : Init} {value : Word} {s : State} : MovesTo [idsLATE, idsLATE_E, idsTOCSIN, idsDENY] false s (execTocSwint init value s) := by
  unfold execTocSwint
  refine .next ?_
  exact (busWrite_moves rfl (fun _ => (swInt_moves.sub rfl rfl)))

theorem errnRelease_moves {init : Nat} {v : Word} {s : State} : Moves [idsLATE, idsLATE_E, idsTOCSIN] false s (errnRelease init v s) := by
  unfold errnRelease
  extract_lets n1
  exact (.ite (denyWrite_moves.sub rfl rfl) (.ite (.after tocRefresh_moves (.set .refl) rfl rfl) .refl))

theorem execErrnRelease_moves {init : Init} {value : Word} {s : State} : MovesTo [idsLATE, idsLATE_E, idsTOCSIN, idsDENY] false s (execErrnRelease init value s) := by
  unfold execErrnRelease
  refine .next ?_
  exact (busWrite_moves rfl (fun _ => (errnRelease_moves.sub rfl rfl)))

theorem setWdg_moves {s : State} {w : Nat} {x : WdgSt} : Moves B m s (State.setWdg s w x) := by
  unfold State.setWdg
  exact (.set .refl)

theorem wdgCount_moves {w us : Nat} {s : State} : Moves [idsTOCSIN] false s (wdgCount w us s) := by
  unfold wdgCount
  extract_lets n1
  exact (.comp (put_moves rfl) setWdg_moves)

theorem wdgFirst_moves {w : Nat} {s : State} : Moves [idsTOCSIN] false s (wdgFirst w s) := by
  unfold wdgFirst
  extract_lets n1 x2
  refine .via x2 setWdg_moves fun h3 => ?_
  exact (.after wdgCount_moves (.comp (put_moves rfl) h3) rfl rfl)

theorem wdgBootLock_moves {s : State} : Moves [idsTOCSIN] false s (wdgBootLock s) := by
  unfold wdgBootLock
  refine .comp (each_moves (fun a1 s2 => ?_)) ?_
  · extract_lets n3
    exact (.ite (.after wdgFirst_moves (.comp (put_moves rfl) setWdg_moves) rfl rfl) .refl)
  · exact .refl

theorem wdgPause_moves {w : Nat} {pause : Bool} {s : State} : Moves [idsTOCSIN] false s (wdgPause w pause s) := by
  unfold wdgPause
  extract_lets n1 x2
  refine .via x2 (.comp (put_moves rfl) setWdg_moves) fun h3 => ?_
  exact (.ite .refl (.ite h3 (.after wdgFirst_moves h3 rfl rfl)))

theorem wdgResetPart_moves {w : Nat} {s : State} : Moves [idsTOCSIN] false s (wdgResetPart w s) := by
  unfold wdgResetPart
  exact (.ite (wdgFirst_moves.sub rfl rfl) .refl)

theorem wdgEvent_moves {w code : Nat} {s : State} : Moves [idsTOCSIN] false s (wdgEvent w code s) := by
  unfold wdgEvent
  extract_lets x1
  refine .via x1 (.comp (incSat_moves rfl) (put_moves rfl)) fun h2 => ?_
  exact (.after wdgFirst_moves (.after raise_moves h2 rfl rfl) rfl rfl)

theorem wdgKick_moves {w init : Nat} {v : Word} {us : Nat} {s : State} : Moves [idsLATE, idsLATE_E, idsTOCSIN] false s (wdgKick w init v us s) := by
  unfold wdgKick
  extract_lets n1 x2
  refine .via x2 setWdg_moves fun h3 => ?_
  refine .ite ?_ ?_
  · exact (denyWrite_moves.sub rfl rfl)
  · refine .ite ?_ ?_
    · exact .refl
    · exact (.ite (wdgEvent_moves.sub rfl rfl) (.ite (wdgEvent_moves.sub rfl rfl) (.ite (wdgEvent_moves.sub rfl rfl) (.after wdgCount_moves (.comp (put_moves rfl) h3) rfl rfl))))

theorem execWdgKick_moves {w : Fin 16} {init : Init} {value : Word} {us : Nat} {s : State} : MovesTo [idsLATE, idsLATE_E, idsTOCSIN, idsDENY] false s (execWdgKick w init value us s) := by
  unfold execWdgKick
  refine .next ?_
  exact (busWrite_moves rfl (fun _ => (wdgKick_moves.sub rfl rfl)))

theorem execWdgExpired_moves {w : Fin 16} {s : State} : MovesTo [idsTOCSIN] false s (execWdgExpired w s) := by
  unfold execWdgExpired
  refine .ite ?_ ?_
  · refine .next ?_
    exact (wdgEvent_moves.sub rfl rfl)
  · refine .next ?_
    exact .refl

theorem execWdgPreWarning_moves {w : Fin 16} {s : State} : MovesTo [idsTOCSIN] false s (execWdgPreWarning w s) := by
  unfold execWdgPreWarning
  extract_lets n1
  refine .ite ?_ ?_
  · refine .next ?_
    exact (.comp raiseIrq_moves (wdgCount_moves.sub rfl rfl))
  · refine .next ?_
    exact .refl

/-! ### Acluster -/

theorem updHart_moves {s : State} {h : Nat} {f : HartSt → HartSt} : Moves B m s (State.updHart s h f) := by
  unfold State.updHart
  exact (.set .refl)

theorem csrTrap_moves {h : Nat} {p : Priv} {s : State} : Moves B m s (csrTrap h p s) := by
  unfold csrTrap
  exact emit_moves

theorem spflush_moves {s : State} {h v : Nat} : Moves B m s (State.spflush s h v) := by
  unfold State.spflush
  exact updHart_moves

theorem execSpflush_moves {hart : Fin 8} {priv : Priv} {value : Nat} {s : State} : MovesTo B m s (execSpflush hart priv value s) := by
  unfold execSpflush
  refine .next ?_
  exact (.ite .refl (.ite spflush_moves csrTrap_moves))

theorem execHgatpWrite_moves {hart : Fin 8} {priv : Priv} {value : Nat} {guest : Bool} {s : State} : MovesTo B m s (execHgatpWrite hart priv value guest s) := by
  unfold execHgatpWrite
  refine .next ?_
  extract_lets n1 x2
  refine .via x2 updHart_moves fun h3 => ?_
  exact (.ite .refl (.ite (.comp (when_moves (fun _ => spflush_moves)) h3) csrTrap_moves))

theorem cacheUe_moves {h level : Nat} {s : State} : Moves [idsCSR] false s (cacheUe h level s) := by
  unfold cacheUe
  exact (.comp (put_moves rfl) (incSat_moves rfl))

theorem execCacheEccError_moves {hart : Fin 8} {level : Nat} {kind : CacheErr} {s : State} : MovesTo [idsCSR] false s (execCacheEccError hart level kind s) := by
  unfold execCacheEccError
  refine .next ?_
  refine .ite ?_ ?_
  · exact .refl
  · split
    · exact (incSat_moves rfl)
    · extract_lets x1 x2
      refine .via x1 (cacheUe_moves.sub rfl rfl) fun h3 => ?_
      refine .via x2 ?_ fun h4 => ?_
      · unfold x2
        exact (.ite (.comp (put_moves rfl) h3) (.comp (put_moves rfl) h3))
      exact (.comp emit_moves h4)
    · extract_lets x5 n6
      refine .via x5 (cacheUe_moves.sub rfl rfl) fun h7 => ?_
      exact (.set h7)

theorem memFault_moves {n init port addr : Nat} {s : State} : Moves [idsTOCSIN] false s (memFault n init port addr s) := by
  unfold memFault
  exact (raiseFab_moves.sub rfl rfl)

theorem memEcc_moves {ce port : Nat} {corrected : Bool} {q : Req} {addr : Nat} {s : State} : Moves [idsLATE, idsLATE_E, idsTOCSIN, idsCSR] false s (memEcc ce port corrected q addr s) := by
  unfold memEcc
  exact (.ite (memFault_moves.sub rfl rfl) (.after reqFails_moves (memFault_moves.sub rfl rfl) rfl rfl))

theorem execSsramEccError_moves {corrected : Bool} {req : Req} {addr : Nat} {s : State} : MovesTo [idsLATE, idsLATE_E, idsTOCSIN, idsCSR] false s (execSsramEccError corrected req addr s) := by
  unfold execSsramEccError
  refine .next ?_
  exact (memEcc_moves.sub rfl rfl)

theorem execDramEccError_moves {corrected : Bool} {req : Req} {addr : Nat} {s : State} : MovesTo [idsLATE, idsLATE_E, idsTOCSIN, idsCSR] false s (execDramEccError corrected req addr s) := by
  unfold execDramEccError
  refine .next ?_
  exact (memEcc_moves.sub rfl rfl)

theorem imsicWrite_moves {a v : Nat} {s : State} : Moves B m s (imsicWrite a v s) := by
  unfold imsicWrite
  split
  · exact (.ite imsicSet_moves .refl)
  · exact .refl

theorem execImsicSeteipnum_moves {init : Init} {addr : Nat} {value : Word} {s : State} : MovesTo [idsLATE, idsLATE_E, idsTOCSIN, idsDENY] false s (execImsicSeteipnum init addr value s) := by
  unfold execImsicSeteipnum
  refine .next ?_
  exact (busWrite_moves rfl (fun _ => (.ite imsicWrite_moves (denyWrite_moves.sub rfl rfl))))

theorem aplicSrc_moves {d i : Nat} {f : AplicDom → AplicDom} {s : State} : Moves B m s (aplicSrc d i f s) := by
  unfold aplicSrc
  exact (.ite (.comp aplicSend_moves setAplic_moves) .refl)

theorem aplicWrite_moves {o v : Nat} {s : State} : Moves B m s (aplicWrite o v s) := by
  unfold aplicWrite
  extract_lets d r setP clrP setE clrE x
  have hP : ∀ i s, Moves B m s (setP i s) := fun _ _ => aplicSrc_moves
  have hC : ∀ i s, Moves B m s (clrP i s) := fun _ _ => aplicSrc_moves
  have hE : ∀ i s, Moves B m s (setE i s) := fun _ _ => aplicSrc_moves
  have hF : ∀ i s, Moves B m s (clrE i s) := fun _ _ => aplicSrc_moves
  clear_value setP clrP setE clrE
  refine .ite (.comp (each_moves fun _ _ => aplicSend_moves) setAplic_moves) ?_
  refine .ite aplicSrc_moves (.ite (each_moves hP) (.ite (hP _ _) (.ite (each_moves hC) (.ite (hC _ _) ?_))))
  exact .ite (each_moves hE) (.ite (hE _ _) (.ite (each_moves hF) (.ite (hF _ _) (.ite aplicSrc_moves .refl))))

theorem setIoReg_moves {s : State} {o v : Nat} : Moves B m s (State.setIoReg s o v) := by
  unfold State.setIoReg
  extract_lets n1
  exact (.set .refl)

theorem ioRead_moves {o : Nat} {s : State} : Moves B m s ((ioRead o s).2) := by
  unfold ioRead
  extract_lets n1
  refine .ite1 ?_ ?_
  · exact (.set .refl)
  · refine .ite1 ?_ ?_
    · exact .refl
    · exact .refl

theorem ioWrite64_moves {o lo hi : Nat} {s : State} : Moves B m s (ioWrite64 o lo hi s) := by
  unfold ioWrite64
  exact (.ite .refl (.ite (.ite (.comp setIoReg_moves setIoReg_moves) .refl) (.comp setIoReg_moves setIoReg_moves)))

theorem resetIommu_moves {s : State} : Moves B m s (resetIommu s) := by
  unfold resetIommu
  exact setIoReg_moves

theorem unpoison_moves {s : State} {l : List Nat} : Moves B m s (State.unpoison s l) := by
  unfold State.unpoison
  extract_lets n1
  exact (.set .refl)

theorem memScatter_moves {s : State} {l : List (Nat × Nat)} : Moves B true s (State.memScatter s l) := by
  unfold State.memScatter
  exact (.comp (foldl_moves (fun _ _ => memWrite_moves)) unpoison_moves)

theorem ioStore_moves {a : Nat} {data : List Nat} {s : State} : Moves [idsLATE, idsLATE_E, idsTOCSIN, idsDENY] true s (ioStore a data s) := by
  unfold ioStore
  extract_lets n1
  refine .ite ?_ ?_
  · exact (refuseReq_moves.sub rfl rfl)
  · refine .ite ?_ ?_
    · exact (lateErr_moves.sub rfl rfl)
    · split
      · exact (.after lateErr_moves (.ite (memFault_moves.sub rfl rfl) (memFault_moves.sub rfl rfl)) rfl rfl)
      · exact (.comp memWrite_moves unpoison_moves)

theorem ioIrq_moves {b v : Nat} {s : State} : Moves [idsLATE, idsLATE_E, idsTOCSIN, idsDENY] true s (ioIrq b v s) := by
  unfold ioIrq
  extract_lets x1 n2
  refine .via x1 setIoReg_moves fun h3 => ?_
  refine .ite ?_ ?_
  · exact .refl
  · refine .ite ?_ ?_
    · exact h3
    · split
      · exact (.comp imsicWrite_moves h3)
      · exact (.after ioStore_moves h3 rfl rfl)

theorem ioFaultIrq_moves {s : State} : Moves [idsLATE, idsLATE_E, idsTOCSIN, idsDENY] true s (ioFaultIrq s) := by
  unfold ioFaultIrq
  exact (.ite (ioIrq_moves.sub rfl rfl) .refl)

theorem faultRecord_moves {cause did ttyp iotval iotval2 : Nat} {s : State} : Moves [idsLATE, idsLATE_E, idsTOCSIN, idsDENY] true s ((faultRecord cause did ttyp iotval iotval2 s).2) := by
  unfold faultRecord
  extract_lets n1 n2 x3
  refine .via x3 (ioStore_moves.sub rfl rfl) fun h4 => ?_
  refine .ite1 ?_ ?_
  · exact .refl
  · refine .ite1 ?_ ?_
    · exact .refl
    · refine .ite1 ?_ ?_
      · exact (.after ioFaultIrq_moves setIoReg_moves rfl rfl)
      · exact (.after ioFaultIrq_moves (.comp setIoReg_moves h4) rfl rfl)

theorem cqStop_moves {b : Nat} {s : State} : Moves [idsLATE, idsLATE_E, idsTOCSIN, idsDENY] true s (cqStop b s) := by
  unfold cqStop
  extract_lets x1
  refine .via x1 setIoReg_moves fun h2 => ?_
  exact (.ite (.after ioIrq_moves h2 rfl rfl) h2)

theorem cqCommand_moves {c0 c1 : Nat} {s t : State} (h : cqCommand c0 c1 s = some t) :
    Moves [idsLATE, idsLATE_E, idsTOCSIN, idsDENY] true s t := by
  unfold cqCommand at h
  split at h
  · cases h; exact .refl
  · cases h; exact .refl
  · split at h
    · cases h
    · cases h; exact .ite ioStore_moves .refl
  · cases h; exact .refl
  · cases h; exact .refl
  · cases h

theorem cqRun_moves {z0 : Nat} {z1 : State} : Moves [idsLATE, idsLATE_E, idsTOCSIN, idsDENY] true z1 (cqRun z0 z1) := by
  induction z0 generalizing z1 with
  | zero => exact .refl
  | succ k ih =>
    unfold cqRun
    refine .ite .refl (.ite cqStop_moves ?_)
    split
    · exact cqStop_moves
    · next h => exact .comp ih (.comp setIoReg_moves (cqCommand_moves h))

theorem cqDrain_moves {s : State} : Moves [idsLATE, idsLATE_E, idsTOCSIN, idsDENY] true s (cqDrain s) := by
  unfold cqDrain
  exact (cqRun_moves.sub rfl rfl)

theorem ioCsrWrite_moves {o idx v : Nat} {s : State} : Moves B m s (ioCsrWrite o idx v s) := by
  unfold ioCsrWrite
  extract_lets n1 n2 n3 x4
  refine .via x4 setIoReg_moves fun h5 => ?_
  exact (.ite (.comp setIoReg_moves h5) h5)

theorem iommuWrite_moves {o v : Nat} {s : State} : Moves [idsLATE, idsLATE_E, idsTOCSIN, idsDENY] true s (iommuWrite o v s) := by
  unfold iommuWrite
  extract_lets n1
  refine .ite ?_ ?_
  · exact (.set .refl)
  · refine .ite ?_ ?_
    · exact ioWrite64_moves
    · refine .ite ?_ ?_
      · exact .refl
      · refine .ite ?_ ?_
        · exact (.after cqDrain_moves ioCsrWrite_moves rfl rfl)
        · exact (.ite ioCsrWrite_moves (.ite (.after cqDrain_moves setIoReg_moves rfl rfl) (.ite setIoReg_moves (.ite setIoReg_moves .refl))))

theorem walkFault_moves {did iova : Nat} {acc : WalkAcc} {e : WalkErr} {s : State} : Moves [idsLATE, idsLATE_E, idsTOCSIN, idsIOMMU, idsDENY] true s (walkFault did iova acc e s) := by
  unfold walkFault
  extract_lets r1 x2 x3 n4 n5 x6 x7 x8 x9 x10
  refine .via r1.2 (faultRecord_moves.sub rfl rfl) fun h11 => ?_
  refine .via x2 ?_ fun h12 => ?_
  · unfold x2
    exact (.ite (.ite (.after memFault_moves h11 rfl rfl) (.after memFault_moves h11 rfl rfl)) h11)
  refine .via x3 (.comp (incSat_moves rfl) h12) fun h13 => ?_
  refine .via x6 (.comp (wr_moves rfl) h13) fun h14 => ?_
  refine .via x7 (.comp (wr_moves rfl) h14) fun h15 => ?_
  refine .via x8 (.comp (wr_moves rfl) h15) fun h16 => ?_
  refine .via x9 (.comp (wr_moves rfl) h16) fun h17 => ?_
  refine .via x10 (.comp (put_moves rfl) h17) fun h18 => ?_
  exact (.ite h12 (.ite (.comp (incSat_moves rfl) h13) (.comp (put_moves rfl) h18)))

theorem execIommuWalk_moves {did : Nat} {iova : Nat} {acc : WalkAcc} {ecc : List Nat} {s : State} : MovesTo [idsLATE, idsLATE_E, idsTOCSIN, idsIOMMU, idsDENY] true s (execIommuWalk did iova acc ecc s) := by
  unfold execIommuWalk
  refine .next ?_
  split
  · exact (walkFault_moves.sub rfl rfl)
  · exact .refl

theorem vxLogai_moves {v : Nat} {s : State} : Moves [idsIOMMU] false s (vxLogai v s) := by
  unfold vxLogai
  extract_lets n1 n2
  exact (.ite .refl (.comp (put_moves rfl) (put_moves rfl)))

theorem execIommuVxLogai_moves {init : Init} {value : Word} {s : State} : MovesTo [idsLATE, idsLATE_E, idsTOCSIN, idsIOMMU, idsDENY] false s (execIommuVxLogai init value s) := by
  unfold execIommuVxLogai
  refine .next ?_
  exact (busWrite_moves rfl (fun _ => (vxLogai_moves.sub rfl rfl)))

theorem dmaStore_moves {did init iova : Nat} {data : List Nat} {s t : State} (h : dmaStore did init iova data s = .ok t) :
    Moves B true s t := by
  unfold dmaStore at h
  split at h
  · cases h
  · split at h
    · cases h
    · cases h; exact memScatter_moves

end Sys2Proof.Machine
end

