-- ==== Sys2Proof/Laws/Tables.lean ====
section
/-! SUPPORT.  Reading a sparse table after a write: the entry written, and every other. -/

namespace Sys2Proof.Machine

variable {α : Type} {d x : α} {t : Tab α} {j k : Nat}

theorem tget_terase_same : tget d (terase t k) k = d := by
  induction t with
  | nil => rfl
  | cons e t ih =>
    unfold terase at *
    by_cases h : e.1 = k
    · rw [List.filter_cons_of_neg (by simp [h])]
      exact ih
    · rw [List.filter_cons_of_pos (by simp [h])]
      obtain ⟨a, y⟩ := e
      unfold tget
      rw [if_neg h]
      exact ih

theorem tget_terase_other (h : j ≠ k) : tget d (terase t k) j = tget d t j := by
  induction t with
  | nil => rfl
  | cons e t ih =>
    obtain ⟨a, y⟩ := e
    unfold terase at *
    by_cases ha : a = k
    · rw [List.filter_cons_of_neg (by simp [ha]), ih]
      conv => rhs; unfold tget
      rw [if_neg (fun e => h (e.symm.trans ha))]
    · rw [List.filter_cons_of_pos (by simp [ha])]
      conv => lhs; unfold tget
      conv => rhs; unfold tget
      rw [ih]

theorem tget_tins_fresh (h : ∀ e ∈ t, e.1 ≠ k) : tget d (tins k x t) k = x := by
  induction t with
  | nil => simp [tins, tget]
  | cons e t ih =>
    obtain ⟨a, y⟩ := e
    unfold tins
    split
    · simp [tget]
    · unfold tget
      rw [if_neg (h _ (List.mem_cons_self ..))]
      exact ih fun f hf => h f (List.mem_cons_of_mem _ hf)

theorem tget_tins_other (h : j ≠ k) : tget d (tins k x t) j = tget d t j := by
  induction t with
  | nil => simp [tins, tget, Ne.symm h]
  | cons e t ih =>
    obtain ⟨a, y⟩ := e
    unfold tins
    split
    · conv => lhs; unfold tget
      rw [if_neg (Ne.symm h)]
    · unfold tget
      rw [ih]

variable [DecidableEq α]

@[simp] theorem tget_tset_same : tget d (tset d t k x) k = x := by
  unfold tset
  split
  · rename_i h
    rw [tget_terase_same, h]
  · refine tget_tins_fresh fun e he => ?_
    unfold terase at he
    simpa using (List.mem_filter.1 he).2

theorem tget_tset_other (h : j ≠ k) : tget d (tset d t k x) j = tget d t j := by
  unfold tset
  split
  · exact tget_terase_other h
  · rw [tget_tins_other h, tget_terase_other h]

@[simp] theorem tget_tupd_same {f : α → α} : tget d (tupd d t k f) k = f (tget d t k) := tget_tset_same

theorem tget_tupd_other {f : α → α} (h : j ≠ k) : tget d (tupd d t k f) j = tget d t j := tget_tset_other h

end Sys2Proof.Machine
end

