-- ==== Sys2Proof/Laws/Raise.lean ====
section
/-! SUPPORT.  What raising a fault source or an interrupt does: the pending bit is set, the record stands first in the log, and
outside the registers, Tocsin, the interrupt lines and the interrupt files nothing moves (`Quiet`). -/

namespace Sys2Proof.Machine

variable {s t u : State}

/-- Nothing but registers, Tocsin's own state, interrupt lines and the A-cluster's interrupt files differs. -/
def Quiet (s t : State) : Prop :=
  t = { s with regs := t.regs, toc := t.toc, irqLine := t.irqLine, irqCnt := t.irqCnt, acl := t.acl }

theorem Quiet.refl : Quiet s s := rfl

theorem Quiet.trans (h : Quiet s t) (g : Quiet t u) : Quiet s u := by
  unfold Quiet at *
  rw [g, h]

theorem Quiet.comp (g : Quiet t u) (h : Quiet s t) : Quiet s u := h.trans g

/-- The form in which an update of those fields shows itself. -/
theorem Quiet.set {regs : RegMap} {toc : TocSt} {irqLine : Tab Bool} {irqCnt : Tab Nat} {acl : AclSt} (h : Quiet s t) :
    Quiet s (State.mk regs t.stage t.latch t.mem t.fab t.twin t.ch t.feed t.tab t.io t.sw t.ports t.time t.bus t.car t.dict t.pm t.late t.temp toc t.kn t.wdg t.bist t.clk t.boot t.harts acl t.ve t.bel irqLine irqCnt t.out t.free t.pending) := by
  unfold Quiet at *
  rw [h]

theorem Quiet.via (v : State) (h : Quiet s v) (g : Quiet s v → Quiet s t) : Quiet s t := g h

theorem Quiet.ite {c : Prop} [Decidable c] (h : Quiet s t) (g : Quiet s u) : Quiet s (if c then t else u) := by
  split
  · exact h
  · exact g

theorem wr_quiet {r : Reg} {i : Nat} {w : Word} : Quiet s (s.wr r i w) := Quiet.set .refl

theorem put_quiet {f : Fld} {i v : Nat} : Quiet s (s.put f i v) := wr_quiet

theorem incSat_quiet {f : Fld} {i : Nat} : Quiet s (s.incSat f i) := put_quiet

theorem each_quiet {α : Type} {l : List α} {f : α → State → State} (h : ∀ a s, Quiet s (f a s)) : Quiet s (s.each l f) := by
  unfold State.each
  induction l generalizing s with
  | nil => exact .refl
  | cons a l ih => exact (h a s).trans ih

theorem when_quiet {b : Bool} {f : State → State} (h : ∀ s, Quiet s (f s)) : Quiet s (s.when b f) := by
  cases b with
  | true => exact h s
  | false => exact .refl

theorem imsicSet_quiet {file id : Nat} : Quiet s (s.imsicSet file id) := by
  unfold State.imsicSet
  split
  · exact .set .refl
  · exact .refl

theorem aplicSend_quiet {d i : Nat} : Quiet s (s.aplicSend d i) := by
  unfold State.aplicSend
  extract_lets x y z h
  exact .via z (.set .refl) fun hz => .ite (.ite (imsicSet_quiet.comp hz) hz) .refl

theorem aplicEdge_quiet {i : Nat} {rise : Bool} : Quiet s (s.aplicEdge i rise) := by
  unfold State.aplicEdge
  extract_lets d x m
  exact .ite (aplicSend_quiet.comp (.set .refl)) .refl

theorem raiseIrq_quiet {n : Nat} : Quiet s (s.raiseIrq n) := by
  unfold State.raiseIrq
  exact .ite .refl (aplicEdge_quiet.comp (.set .refl))

theorem sendNmi_quiet {n : Nat} : Quiet s (s.sendNmi n) := by
  unfold State.sendNmi
  exact each_quiet fun _ _ => .ite (.set .refl) .refl

theorem askResetChip_quiet {n c : Nat} : Quiet s (s.askResetChip n c) := by
  unfold State.askResetChip
  split
  · exact .refl
  · exact wr_quiet.comp (wr_quiet.comp (.set .refl))

theorem askResetPart_quiet {p : Nat} : Quiet s (s.askResetPart p) := by
  unfold State.askResetPart
  exact .ite .refl (.set .refl)

theorem react_quiet {n : Nat} : Quiet s (s.react n) := by
  unfold State.react
  extract_lets c x y _ z
  refine .via x (.ite raiseIrq_quiet .refl) fun hx => ?_
  refine .via y (.ite (sendNmi_quiet.comp hx) hx) fun hy => ?_
  refine .via z (.ite (.set hy) hy) fun hz => ?_
  exact .ite (.ite (askResetChip_quiet.comp hz) (askResetPart_quiet.comp hz)) (.ite (askResetChip_quiet.comp hz) hz)

theorem tocRefresh_quiet : Quiet s (tocRefresh s) := put_quiet.comp put_quiet

theorem logRec_quiet {n : Nat} {r : LogRec} : Quiet s (s.logRec n r) := Quiet.set .refl

theorem raiseRec_quiet {n a b c d : Nat} : Quiet s (s.raiseRec n a b c d) := by
  unfold State.raiseRec
  extract_lets x y z
  refine .via x wr_quiet fun hx => ?_
  refine .via y (incSat_quiet.comp hx) fun hy => ?_
  refine .via z (logRec_quiet.comp hy) fun hz => ?_
  exact tocRefresh_quiet.comp (react_quiet.comp hz)

theorem raise_quiet {n a b d : Nat} : Quiet s (s.raise n a b d) := raiseRec_quiet

theorem raiseFab_quiet {n c i p a b : Nat} : Quiet s (s.raiseFab n c i p a b) := raise_quiet

theorem lateErr_quiet {i a c : Nat} {b : Bool} : Quiet s (s.lateErr i a c b) := by
  unfold State.lateErr
  extract_lets p x j w0 e0 e1 e2 e3 n f z y
  refine .via z ?_ fun hz => .via y (put_quiet.comp hz) fun hy => raiseIrq_quiet.comp hy
  refine .ite (.via x incSat_quiet fun hx => raiseFab_quiet.comp hx) ?_
  refine .via e0 wr_quiet fun h0 => ?_
  refine .via e1 (wr_quiet.comp h0) fun h1 => ?_
  refine .via e2 (wr_quiet.comp h1) fun h2 => ?_
  refine .via e3 (wr_quiet.comp h2) fun h3 => ?_
  exact .via f (put_quiet.comp h3) fun hf => put_quiet.comp hf

theorem denyWrite_quiet {i a : Nat} : Quiet s (s.denyWrite i a) := lateErr_quiet

/-! ### What is pending after a raise -/

/-- Every fault source pending before is pending after. -/
def StillPending (s t : State) : Prop := ∀ n, tocPending s n = true → tocPending t n = true

theorem tocPending_wr_id {r : Reg} {i n : Nat} {w : Word} (h : R.TOC_PEND.id ≠ r.id) :
    tocPending (s.wr r i w) n = tocPending s n := by
  unfold tocPending
  rw [rd_wr_id s h]

theorem tocPending_eq (h : ∀ i, t.rd R.TOC_PEND i = s.rd R.TOC_PEND i) (n : Nat) : tocPending t n = tocPending s n := by
  unfold tocPending
  rw [h]

theorem aplicEdge_regs {i : Nat} {rise : Bool} : (s.aplicEdge i rise).regs = s.regs := by
  have h : (s.aplicEdge i rise).regs = s.regs := by
    unfold State.aplicEdge State.aplicSend State.imsicSet State.setAplic
    dsimp only
    repeat' (first | rfl | split)
  exact h

theorem raiseIrq_regs {n : Nat} : (s.raiseIrq n).regs = s.regs := by
  unfold State.raiseIrq
  split
  · rfl
  · exact aplicEdge_regs

theorem rd_raiseIrq {n i : Nat} {r : Reg} : (s.raiseIrq n).rd r i = s.rd r i := by
  unfold State.rd
  rw [raiseIrq_regs]

theorem sendNmi_regs {n : Nat} : (s.sendNmi n).regs = s.regs := by
  unfold State.sendNmi State.each
  generalize [0, 1, 2] = l
  induction l generalizing s with
  | nil => rfl
  | cons a l ih =>
    rw [List.foldl_cons, ih]
    dsimp only
    split <;> rfl

theorem pend_askResetChip {n c i : Nat} : (s.askResetChip n c).rd R.TOC_PEND i = s.rd R.TOC_PEND i := by
  unfold State.askResetChip
  split
  · rfl
  · rw [rd_wr_id _ (by decide), rd_wr_id _ (by decide)]
    rfl

theorem pend_askResetPart {p i : Nat} : (s.askResetPart p).rd R.TOC_PEND i = s.rd R.TOC_PEND i := by
  unfold State.askResetPart
  split <;> rfl

theorem rd_regs (h : t.regs = s.regs) (r : Reg) (i : Nat) : t.rd r i = s.rd r i := by
  unfold State.rd
  rw [h]

theorem pend_react {n i : Nat} : (s.react n).rd R.TOC_PEND i = s.rd R.TOC_PEND i := by
  unfold State.react
  extract_lets c x y _ z
  have hx : x.regs = s.regs := by
    unfold x
    split
    · exact raiseIrq_regs
    · rfl
  have hy : y.regs = s.regs := by
    unfold y
    split
    · rw [sendNmi_regs, hx]
    · exact hx
  have hz : z.regs = s.regs := by
    unfold z
    split <;> exact hy
  clear_value x y z
  have e := rd_regs hz R.TOC_PEND i
  split
  · split
    · rw [pend_askResetChip, e]
    · rw [pend_askResetPart, e]
  · split
    · rw [pend_askResetChip, e]
    · exact e

theorem pend_tocRefresh {i : Nat} : (tocRefresh s).rd R.TOC_PEND i = s.rd R.TOC_PEND i := by
  unfold tocRefresh State.put
  rw [rd_wr_id _ (by decide), rd_wr_id _ (by decide)]

theorem pend_logRec {n i : Nat} {r : LogRec} : (s.logRec n r).rd R.TOC_PEND i = s.rd R.TOC_PEND i := rfl

theorem pend_incCnt {n i : Nat} : (s.incSat F.TOC_CNT_CNT n).rd R.TOC_PEND i = s.rd R.TOC_PEND i := by
  unfold State.incSat State.put
  rw [rd_wr_id _ (by decide)]

theorem pend_raiseRec {n a b c d i : Nat} : (s.raiseRec n a b c d).rd R.TOC_PEND i =
    (s.wr R.TOC_PEND (n / 32) (s.rd R.TOC_PEND (n / 32) ||| BitVec.ofNat 32 (2 ^ (n % 32)))).rd R.TOC_PEND i := by
  unfold State.raiseRec
  extract_lets x y z
  rw [pend_tocRefresh, pend_react]
  unfold z
  rw [pend_logRec]
  unfold y
  rw [pend_incCnt]

/-- A raise changes the pending words in one bit. -/
theorem tocPending_raiseRec {n m a b c d : Nat} :
    tocPending (s.raiseRec n a b c d) m = (tocPending s m || decide (m = n)) := by
  rw [tocPending_eq (fun i => pend_raiseRec (i := i))]
  unfold tocPending
  by_cases h : m / 32 = n / 32
  · rw [h, rd_wr_same, BitVec.getLsbD_or, BitVec.getLsbD_ofNat]
    have hm : m % 32 < 32 := Nat.mod_lt _ (by decide)
    rw [decide_eq_true hm, Bool.true_and, Nat.testBit_two_pow]
    congr 1
    rw [decide_eq_decide]
    omega
  · rw [rd_wr_index _ _ h]
    rw [decide_eq_false (by omega), Bool.or_false]

theorem tocPending_raise {n m a b d : Nat} : tocPending (s.raise n a b d) m = (tocPending s m || decide (m = n)) :=
  tocPending_raiseRec

@[simp] theorem raise_pending {n a b d : Nat} : tocPending (s.raise n a b d) n = true := by
  rw [tocPending_raise, decide_eq_true rfl, Bool.or_true]

@[simp] theorem raiseFab_pending {n c i p a b : Nat} : tocPending (s.raiseFab n c i p a b) n = true := raise_pending

theorem tocPending_raiseIrq {n m : Nat} : tocPending (s.raiseIrq n) m = tocPending s m := tocPending_eq (fun _ => rd_raiseIrq) m

end Sys2Proof.Machine
end

