-- ==== Sys2Proof/Laws/Bus.lean ====
section
/-! SUPPORT.  What a posted register write comes to where it is admitted, and how a completion is shown. -/

namespace Sys2Proof.Machine

variable {s t : State} {c : Instr} {P : State → Prop}

theorem Runs.of (h : exec c s = .next t) (p : P t) : Runs c s P := ⟨t, h, p⟩

theorem busWrite_admitted {init a : Nat} {f : State → State} (h : Admitted init a s) : s.busWrite init a 4 f = f s := by
  obtain ⟨h1, h2, h3, h4⟩ := h
  unfold State.busWrite
  rw [if_neg (by simp [h1, h2]), if_neg (by simp [h3]), if_neg (by simp [h4])]

theorem busWrite_dead {init a n : Nat} {f : State → State} (h : s.pm.phase = 2 ∨ initSilent s init = true) :
    s.busWrite init a n f = s := by
  unfold State.busWrite
  rw [if_pos (by simpa using h)]

theorem busWrite_refused {init a n : Nat} {f : State → State} (h : s.pm.phase ≠ 2) (hi : initSilent s init = false)
    (hj : judgeReq s init a n ≠ respOkay) : s.busWrite init a n f = s.refuseReq init a n true := by
  unfold State.busWrite
  rw [if_neg (by simp [h, hi]), if_pos hj]

end Sys2Proof.Machine
end

