-- ==== Sys2Proof/Laws/MovesNet.lean ====
section
/-! SUPPORT.  What each operation of the switch, the ports and network time can change at most (`Moves` of Laws/Moves.lean): one lemma per definition,
named after it, so that a proof cites it and never unfolds the definition. -/

namespace Sys2Proof.Machine

variable {B A : List (Nat × Nat)} {m k : Bool}

/-! ### VeBase -/

theorem updVe_moves {s : State} {n : Nat} {f : VeSt → VeSt} : Moves B m s (State.updVe s n f) := by
  unfold State.updVe
  exact (.set .refl)

theorem veFault_moves {src n code w1 : Nat} {s : State} : Moves [idsTOCSIN] false s (veFault src n code w1 s) := by
  unfold veFault
  exact (raise_moves.sub rfl rfl)

theorem veMsi_moves {n v : Nat} {s : State} : Moves B m s ((veMsi n v s).2) := by
  unfold veMsi
  extract_lets n1 n2
  split
  · exact .refl
  · split
    · exact (.comp emit_moves imsicWrite_moves)
    · exact .refl

theorem dmaFailed_moves {n code iova : Nat} {acc : WalkAcc} {s : State} : Moves [idsLATE, idsLATE_E, idsTOCSIN] false s (dmaFailed n code iova acc s) := by
  unfold dmaFailed
  extract_lets n1 n2 x3
  refine .via x3 ?_ fun h4 => ?_
  · unfold x3
    refine .ite ?_ ?_
    · split
      · exact updPort_moves
      · exact .refl
    · exact (.ite (.ite (memFault_moves.sub rfl rfl) (memFault_moves.sub rfl rfl)) .refl)
  exact (.ite (.after lateErr_moves h4 rfl rfl) h4)

theorem veErrRecord_moves {n code src iova : Nat} {e : Option WalkErr} {acc : WalkAcc} {s : State} : Moves [idsLATE, idsLATE_E, idsTOCSIN, idsIOMMU, idsVE, idsDENY] true s (veErrRecord n code src iova e acc s) := by
  unfold veErrRecord
  extract_lets x1 x2 x3 x4
  refine .via x1 ?_ fun h5 => ?_
  · unfold x1
    split
    · exact (walkFault_moves.sub rfl rfl)
    · exact .refl
  refine .via x2 (.comp (put_moves rfl) h5) fun h6 => ?_
  refine .via x3 (.comp (put_moves rfl) (.comp (put_moves rfl) h6)) fun h7 => ?_
  refine .via x4 (.comp (put64_moves rfl rfl) h7) fun h8 => ?_
  exact (.ite h8 (.after veFault_moves (.comp updVe_moves h8) rfl rfl))

theorem veSend_moves {n v : Nat} {s : State} : Moves [idsLATE, idsLATE_E, idsTOCSIN, idsIOMMU, idsVE, idsDENY] true s (veSend n v s) := by
  unfold veSend
  extract_lets r1 n2
  refine .via r1.2 veMsi_moves fun h3 => ?_
  refine .ite ?_ ?_
  · exact (put_moves rfl)
  · split
    · exact h3
    · extract_lets x4
      refine .via x4 (.after veErrRecord_moves (.after dmaFailed_moves h3 rfl rfl) rfl rfl) fun h5 => ?_
      exact (.comp (put_moves rfl) h5)

theorem veEvent_moves {n e : Nat} {s : State} : Moves [idsLATE, idsLATE_E, idsTOCSIN, idsIOMMU, idsVE, idsDENY] true s (veEvent n e s) := by
  unfold veEvent
  extract_lets x1 n2
  refine .via x1 (put_moves rfl) fun h3 => ?_
  exact (.ite .refl (.ite (.after veSend_moves h3 rfl rfl) h3))

theorem veDmaErr_moves {n code src iova : Nat} {e : Option WalkErr} {acc : WalkAcc} {s : State} : Moves [idsLATE, idsLATE_E, idsTOCSIN, idsIOMMU, idsVE, idsDENY] true s (veDmaErr n code src iova e acc s) := by
  unfold veDmaErr
  exact (.after veEvent_moves (.after veErrRecord_moves (dmaFailed_moves.sub rfl rfl) rfl rfl) rfl rfl)

theorem veRead_moves {n src iova len : Nat} {s : State} : Moves [idsLATE, idsLATE_E, idsTOCSIN, idsIOMMU, idsVE, idsDENY] true s ((veRead n src iova len s).2) := by
  unfold veRead
  split
  · exact .refl
  · exact (veDmaErr_moves.sub rfl rfl)

theorem veWrite_moves {n src iova : Nat} {data : List Nat} {s : State} :
    Moves [idsLATE, idsLATE_E, idsTOCSIN, idsIOMMU, idsVE, idsDENY] true s (veWrite n src iova data s).2 := by
  unfold veWrite
  split
  · next h => exact dmaStore_moves h
  · exact veDmaErr_moves.sub rfl rfl

theorem veWrites_moves {n src : Nat} {z0 : List (Nat × List Nat)} {z1 : State} :
    Moves [idsLATE, idsLATE_E, idsTOCSIN, idsIOMMU, idsVE, idsDENY] true z1 (veWrites n src z0 z1).2 := by
  induction z0 generalizing z1 with
  | nil => exact .refl
  | cons a l ih =>
    unfold veWrites
    exact .ite1 (.comp ih veWrite_moves) veWrite_moves

theorem veGo_moves {n st : Nat} {s : State} : Moves [idsLATE, idsLATE_E, idsTOCSIN, idsIOMMU, idsVEMGR, idsVE, idsDENY] true s (veGo n st s) := by
  unfold veGo
  extract_lets x1 n2
  refine .via x1 (.after veEvent_moves (put_moves rfl) rfl rfl) fun h3 => ?_
  exact (.comp (put_moves rfl) h3)

theorem mgrLevel_moves {m : Nat} {s : State} : Moves [idsVEMGR] false s (mgrLevel m s) := by
  unfold mgrLevel
  extract_lets n1 x2
  refine .via x2 (.comp (put_moves rfl) (put_moves rfl)) fun h3 => ?_
  exact (.comp levelIrq_moves h3)

theorem mgrLevels_moves {s : State} : Moves [idsVEMGR] false s (mgrLevels s) := by
  unfold mgrLevels
  exact (each_moves (fun _ _ => (mgrLevel_moves.sub rfl rfl)))

theorem veAdvance_moves {n : Nat} {c : VeCpl} {s : State} : Moves [idsLATE, idsLATE_E, idsTOCSIN, idsIOMMU, idsVE, idsVE_ETH, idsVE_CAN, idsVE_CRY, idsDENY] true s (veAdvance n c s) := by
  unfold veAdvance
  split
  · exact (.after veEvent_moves (put_moves rfl) rfl rfl)
  · exact (.after veEvent_moves (put_moves rfl) rfl rfl)
  · exact (.after veEvent_moves (put_moves rfl) rfl rfl)
  · extract_lets n1 x2 x3
    refine .via x2 (put_moves rfl) fun h4 => ?_
    refine .via x3 (.comp (put_moves rfl) h4) fun h5 => ?_
    exact (.after veEvent_moves (.comp updVe_moves h5) rfl rfl)

theorem veFlush_moves {n : Nat} {z0 : List VeCpl} {z1 : State} :
    Moves [idsLATE, idsLATE_E, idsTOCSIN, idsIOMMU, idsVE, idsVE_ETH, idsVE_CAN, idsVE_CRY, idsDENY] true z1 (veFlush n z0 z1) := by
  induction z0 generalizing z1 with
  | nil => exact updVe_moves
  | cons a l ih =>
    unfold veFlush
    exact .ite (.comp ih (.comp veAdvance_moves (veWrites_moves.sub rfl rfl))) (.comp updVe_moves (veWrites_moves.sub rfl rfl))

theorem veComplete_moves {n : Nat} {c : VeCpl} {s : State} : Moves [idsLATE, idsLATE_E, idsTOCSIN, idsIOMMU, idsVE, idsVE_ETH, idsVE_CAN, idsVE_CRY, idsDENY] true s (veComplete n c s) := by
  unfold veComplete
  split
  · exact (veFlush_moves.sub rfl rfl)
  · exact updVe_moves

theorem veCounted_moves {n : Nat} {abort : Bool} {s : State} : Moves [idsVE] false s (veCounted n abort s) := by
  unfold veCounted
  exact (.ite (incSat_moves rfl) updVe_moves)

theorem ethTxDone_moves {n tag copies reason code len : Nat} {s : State} : Moves [idsLATE, idsLATE_E, idsTOCSIN, idsIOMMU, idsVE, idsVE_ETH, idsVE_CAN, idsVE_CRY, idsDENY] true s (ethTxDone n tag copies reason code len s) := by
  unfold ethTxDone
  extract_lets n1 n2 n3 x4
  refine .via x4 ?_ fun h5 => ?_
  · unfold x4
    exact (.ite (incSat_moves rfl) (incSat_moves rfl))
  exact (.after veComplete_moves (.after veCounted_moves h5 rfl rfl) rfl rfl)

theorem can1Done_moves {n entry code : Nat} {s : State} : Moves [idsLATE, idsLATE_E, idsTOCSIN, idsIOMMU, idsVE, idsVE_ETH, idsVE_CAN, idsVE_CRY, idsDENY] true s (can1Done n entry code s) := by
  unfold can1Done
  extract_lets n1 n2
  exact (.after veComplete_moves (veCounted_moves.sub rfl rfl) rfl rfl)

theorem veTxDone_moves {n tag copies reason len : Nat} {s : State} : Moves [idsLATE, idsLATE_E, idsTOCSIN, idsIOMMU, idsVE, idsVE_ETH, idsVE_CAN, idsVE_CRY, idsDENY] true s (veTxDone n tag copies reason len s) := by
  unfold veTxDone
  extract_lets n1
  exact (.ite (can1Done_moves.sub rfl rfl) (ethTxDone_moves.sub rfl rfl))

theorem rxFill_moves {n k' : Nat} {data : List Nat} {z0 : Nat} {z1 : State} :
    Moves [idsLATE, idsLATE_E, idsTOCSIN, idsIOMMU, idsVE, idsDENY] true z1 (rxFill n k' data z0 z1).2.2.2 := by
  induction z0 generalizing k' data z1 with
  | zero => exact .refl
  | succ f ih =>
    unfold rxFill
    refine .ite3 .refl ?_
    extract_lets r
    refine .via r.2 veRead_moves fun h => ?_
    clear_value r
    split
    · exact h
    · exact .ite3 (.comp ih (.comp veWrite_moves h)) (.comp veWrite_moves h)

theorem ethRx_moves {n : Nat} {i : RxInfo} {data : List Nat} {s : State} : Moves [idsLATE, idsLATE_E, idsTOCSIN, idsIOMMU, idsVE, idsVE_ETH, idsVE_CAN, idsVE_CRY, idsDENY] true s ((ethRx n i data s).2) := by
  unfold ethRx
  extract_lets n1 n2 r3 x4 n5 n6 n7
  refine .via r3.2.2.2 (rxFill_moves.sub rfl rfl) fun h8 => ?_
  refine .via x4 h8 fun h9 => ?_
  refine .ite1 ?_ ?_
  · exact h9
  · exact (.after veComplete_moves h9 rfl rfl)

/-! ### TimeBase -/

theorem timeFault_moves {n port reason w1 : Nat} {s : State} : Moves [idsTOCSIN] false s (timeFault n port reason w1 s) := by
  unfold timeFault
  exact (raise_moves.sub rfl rfl)

theorem oneStepCount_moves {e reason : Nat} {s : State} : Moves [idsTOCSIN, idsTIME] false s (oneStepCount e reason s) := by
  unfold oneStepCount
  extract_lets x1 n2
  refine .via x1 (.comp (put_moves rfl) (incSat_moves rfl)) fun h3 => ?_
  exact (.ite .refl (.ite (incSat_moves rfl) (.ite h3 (.after timeFault_moves (.set h3) rfl rfl))))

theorem echoDrop_moves {p : Nat} {s : State} : Moves [idsTOCSIN, idsTIME] false s (echoDrop p s) := by
  unfold echoDrop
  extract_lets x1
  refine .via x1 (incSat_moves rfl) fun h2 => ?_
  exact (.after timeFault_moves h2 rfl rfl)

theorem echoReturn_moves {o : TxOrigin} {inPort e t gen cls vid : Nat} {stomped : Bool} {sent : List Nat} {s : State} : Moves [idsTOCSIN, idsTIME] false s (echoReturn o inPort e t gen cls vid stomped sent s) := by
  unfold echoReturn
  extract_lets n1 n2 n3
  exact (.ite .refl (.ite (echoDrop_moves.sub rfl rfl) (.set .refl)))

theorem echoArrive_moves {p : Nat} {x : Echo} {s : State} : Moves [idsLATE, idsLATE_E, idsTOCSIN, idsTIME, idsIOMMU, idsVE, idsVE_ETH, idsVE_CAN, idsVE_CRY, idsDENY] true s (echoArrive p x s) := by
  unfold echoArrive
  extract_lets n1 r2
  refine .via r2.2 ?_ fun h3 => ?_
  · unfold r2
    refine .ite1 ?_ ?_
    · exact (ethRx_moves.sub rfl rfl)
    · exact .refl
  exact (.ite (.comp (incSat_moves rfl) h3) (.after echoDrop_moves h3 rfl rfl))

theorem echoDeliver_moves {s : State} : Moves [idsLATE, idsLATE_E, idsTOCSIN, idsTIME, idsIOMMU, idsVE, idsVE_ETH, idsVE_CAN, idsVE_CRY, idsDENY] true s (echoDeliver s) := by
  unfold echoDeliver
  exact each_moves fun _ _ => .set (each_moves fun _ _ => echoArrive_moves)

/-! ### Stream -/

theorem updEp_moves {s : State} {p : Nat} {f : EpSt → EpSt} : Moves B m s (State.updEp s p f) := by
  unfold State.updEp
  extract_lets n1
  exact (.set .refl)

theorem portFault_moves {n p idx w1 : Nat} {s : State} : Moves [idsTOCSIN] false s (portFault n p idx w1 s) := by
  unfold portFault
  exact (raise_moves.sub rfl rfl)

theorem portFaultFree_moves {n p idx : Nat} {s : State} : Moves [idsTOCSIN] false s (portFaultFree n p idx s) := by
  unfold portFaultFree
  extract_lets r1
  refine .via r1.2 draw_moves fun h2 => ?_
  exact (.after portFault_moves h2 rfl rfl)

theorem epEvt_moves {p bit : Nat} {s : State} : Moves [idsEPORT] false s (epEvt p bit s) := by
  unfold epEvt
  extract_lets x1
  refine .via x1 (wr_moves rfl) fun h2 => ?_
  exact (.ite (.comp raiseIrq_moves h2) h2)

theorem tblSet_moves {s : State} {t i v : Nat} : Moves B m s (State.tblSet s t i v) := by
  unfold State.tblSet
  extract_lets n1
  exact (.set .refl)

theorem tblPut_moves {s : State} {t i w hi lo v : Nat} : Moves B m s (State.tblPut s t i w hi lo v) := by
  unfold State.tblPut
  exact tblSet_moves

theorem tblInc_moves {s : State} {t i w hi lo : Nat} : Moves B m s (State.tblInc s t i w hi lo) := by
  unfold State.tblInc
  exact tblPut_moves

theorem sgShow_moves {g : Nat} {s : State} : Moves B m s (sgShow g s) := by
  unfold sgShow
  extract_lets n1
  exact tblPut_moves

theorem setSg_moves {s : State} {g : Nat} {x : SgSt} : Moves B m s (State.setSg s g x) := by
  unfold State.setSg
  extract_lets n1
  exact (.comp sgShow_moves (.set .refl))

theorem sgCycle_moves {g : Nat} {s : State} : Moves B m s (sgCycle g s) := by
  unfold sgCycle
  extract_lets n1 n2 n3
  exact setSg_moves

theorem sgNext_moves {g : Nat} {s : State} : Moves B m s (sgNext g s) := by
  unfold sgNext
  extract_lets n1
  split
  · exact setSg_moves
  · exact .refl

theorem polSettle_moves {p c : Nat} {s : State} : Moves B m s (polSettle p c s) := by
  unfold polSettle
  extract_lets n1
  exact updEp_moves

theorem police_moves {p c n : Nat} {s : State} : Moves B m s ((police p c n s).2) := by
  unfold police
  extract_lets n1 n2 n3 n4 n5 n6
  split
  · exact .refl
  · exact updEp_moves

theorem meterColour_moves {m_ n : Nat} {s : State} : Moves B m s ((meterColour m_ n s).2) := by
  unfold meterColour
  extract_lets n1 n2 n3 n4 n5 n6 n7 n8 n9 n10 n11 n12 n13 n14 n15
  exact (.set .refl)

theorem meter_moves {p m_ n : Nat} {s : State} : Moves [idsTOCSIN] false s ((meter p m_ n s).2) := by
  unfold meter
  extract_lets r1 x2
  refine .via r1.2 meterColour_moves fun h3 => ?_
  refine .via x2 h3 fun h4 => ?_
  refine .ite1 ?_ ?_
  · exact .refl
  · refine .ite1 ?_ ?_
    · exact .refl
    · refine .ite1 ?_ ?_
      · exact (.ite (.after portFaultFree_moves (.comp tblPut_moves h4) rfl rfl) h4)
      · exact h4

theorem updFrer_moves {s : State} {k : Nat} {f : FrerSt → FrerSt} : Moves B m s (State.updFrer s k f) := by
  unfold State.updFrer
  extract_lets n1
  exact (.set .refl)

theorem frerAccept_moves {k q hist : Nat} {top : Bool} {s : State} : Moves B m s (frerAccept k q hist top s) := by
  unfold frerAccept
  extract_lets x1 x2
  refine .via x1 updFrer_moves fun h3 => ?_
  refine .via x2 (.ite (.comp tblPut_moves h3) h3) fun h4 => ?_
  exact (.comp tblInc_moves h4)

theorem frerJudge_moves {p k q : Nat} {s : State} : Moves [idsTOCSIN] false s ((frerJudge p k q s).2) := by
  unfold frerJudge
  extract_lets n1 n2 n3 x4
  refine .via x4 (.comp tblInc_moves tblInc_moves) fun h5 => ?_
  split
  · exact frerAccept_moves
  · split
    · split
      · exact tblInc_moves
      · exact frerAccept_moves
    · split
      · exact (.ite h5 (.after portFault_moves (.comp updFrer_moves h5) rfl rfl))
      · split
        · split
          · exact tblInc_moves
          · exact frerAccept_moves
        · exact frerAccept_moves

theorem frerWithdraw_moves {k q : Nat} {s : State} : Moves B m s (frerWithdraw k q s) := by
  unfold frerWithdraw
  extract_lets n1
  exact updFrer_moves

theorem execFrerReset_moves {k : Fin 64} {s : State} : MovesTo [idsTOCSIN] false s (execFrerReset k s) := by
  unfold execFrerReset
  refine .next ?_
  extract_lets x1
  refine .via x1 updFrer_moves fun h2 => ?_
  exact (.ite (.after portFault_moves h2 rfl rfl) .refl)

theorem filterChecks_moves {p i n : Nat} {s : State} : Moves [idsTOCSIN] false s ((filterChecks p i n s).2) := by
  unfold filterChecks
  extract_lets n1 x2 n3 r4 x5 n6
  refine .via x2 (.set .refl) fun h7 => ?_
  refine .via r4.2 (.after meter_moves h7 rfl rfl) fun h8 => ?_
  refine .via x5 h8 fun h9 => ?_
  refine .ite1 ?_ ?_
  · exact (.ite (.after portFaultFree_moves (.comp sgShow_moves (.comp tblPut_moves h7)) rfl rfl) h7)
  · refine .ite1 ?_ ?_
    · exact h7
    · refine .ite1 ?_ ?_
      · exact (.set h9)
      · exact h8

theorem filterFrer_moves {p i : Nat} {seq : Option Nat} {s : State} : Moves [idsTOCSIN] false s ((filterFrer p i seq s).2) := by
  unfold filterFrer
  extract_lets n1 n2
  split
  · exact .refl
  · split
    · split
      · exact tblPut_moves
      · exact .refl
    · split
      · exact .refl
      · extract_lets r3
        refine .via r3.2 (frerJudge_moves.sub rfl rfl) fun h4 => ?_
        split
        · exact .refl
        · split
          · exact h4
          · exact h4

theorem streamChecks_moves {p n cls : Nat} {f seq : Option Nat} {s : State} : Moves [idsTOCSIN] false s ((streamChecks p n cls f seq s).2) := by
  unfold streamChecks
  extract_lets r1 r2
  refine .via r1.2 ?_ fun h3 => ?_
  · unfold r1
    split
    · exact (filterChecks_moves.sub rfl rfl)
    · exact .refl
  refine .via r2.2 (.comp police_moves h3) fun h4 => ?_
  split
  · exact h3
  · refine .ite1 ?_ ?_
    · exact h4
    · split
      · exact (.after filterFrer_moves h4 rfl rfl)
      · exact h4

theorem msecDrop_moves {p sa pn : Nat} {s : State} : Moves [idsTOCSIN] false s (msecDrop p sa pn s) := by
  unfold msecDrop
  exact (.ite .refl (.after portFault_moves updEp_moves rfl rfl))

theorem msecRx_moves {p ty : Nat} {t : Option SecTag} {icvOk : Bool} {s : State} : Moves [idsTOCSIN, idsEPORT] false s ((msecRx p ty t icvOk s).2) := by
  unfold msecRx
  extract_lets n1 x2
  refine .via x2 (incSat_moves rfl) fun h3 => ?_
  refine .ite1 ?_ ?_
  · exact .refl
  · split
    · refine .ite1 ?_ ?_
      · exact .refl
      · refine .ite1 ?_ ?_
        · exact h3
        · exact (.after msecDrop_moves h3 rfl rfl)
    · extract_lets n4 n5 x6
      refine .via x6 (incSat_moves rfl) fun h7 => ?_
      refine .ite1 ?_ ?_
      · exact (.ite (put64_moves rfl rfl) .refl)
      · refine .ite1 ?_ ?_
        · exact h7
        · exact (.after msecDrop_moves h7 rfl rfl)

theorem msecTake_moves {e : Nat} {s : State} : Moves [idsTOCSIN, idsEPORT] false s (msecTake e s) := by
  unfold msecTake
  extract_lets n1 n2 n3 x4 n5 x6 x7
  refine .via x4 (.comp (incSat_moves rfl) (put64_moves rfl rfl)) fun h8 => ?_
  refine .via x6 (.comp (incSat_moves rfl) (.comp updEp_moves h8)) fun h9 => ?_
  refine .via x7 (.ite (.after portFault_moves (.after epEvt_moves h9 rfl rfl) rfl rfl) h8) fun h10 => ?_
  exact (.ite (.after portFault_moves (.after epEvt_moves (.comp updEp_moves h10) rfl rfl) rfl rfl) h10)

/-! ### Switch -/

theorem swFault_moves {n p c v : Nat} {s : State} : Moves [idsTOCSIN] false s (swFault n p c v s) := by
  unfold swFault
  exact (raise_moves.sub rfl rfl)

theorem swFaultFree_moves {n p c : Nat} {s : State} : Moves [idsTOCSIN] false s (swFaultFree n p c s) := by
  unfold swFaultFree
  extract_lets r1
  refine .via r1.2 draw_moves fun h2 => ?_
  exact (.after swFault_moves h2 rfl rfl)

theorem swEvt_moves {bit : Nat} {s : State} : Moves [idsSWITCH] false s (swEvt bit s) := by
  unfold swEvt
  extract_lets x1
  refine .via x1 (wr_moves rfl) fun h2 => ?_
  exact (.ite (.comp raiseIrq_moves h2) h2)

theorem countDrop_moves {p c r : Nat} {s : State} : Moves [idsTOCSIN, idsSWITCH] false s (countDrop p c r s) := by
  unfold countDrop
  extract_lets x1 x2 n3
  refine .via x1 (incSat_moves rfl) fun h4 => ?_
  refine .via x2 (.after swEvt_moves h4 rfl rfl) fun h5 => ?_
  exact (.ite (.ite h5 (.after swFaultFree_moves (.set h5) rfl rfl)) h4)

theorem setFrame_moves {s : State} {f : Nat} {x : SwFrame} : Moves B m s (State.setFrame s f x) := by
  unfold State.setFrame
  extract_lets n1
  exact (.set .refl)

theorem updFrame_moves {s : State} {f : Nat} {g : SwFrame → SwFrame} : Moves B m s (State.updFrame s f g) := by
  unfold State.updFrame
  exact setFrame_moves

theorem updCopy_moves {s : State} {f e : Nat} {g : SwCopy → SwCopy} : Moves B m s (State.updCopy s f e g) := by
  unfold State.updCopy
  exact updFrame_moves

theorem cbsShow_moves {e c : Nat} {s : State} : Moves [idsEPORT] false s (cbsShow e c s) := by
  unfold cbsShow
  extract_lets n1 x2
  refine .via x2 (put_moves rfl) fun h3 => ?_
  exact (.comp (put_moves rfl) (.comp (put_moves rfl) h3))

theorem setCbs_moves {e c : Nat} {x : CbsSt} {s : State} : Moves [idsEPORT] false s (setCbs e c x s) := by
  unfold setCbs
  exact (.after cbsShow_moves updEp_moves rfl rfl)

theorem cbsSettle_moves {e c : Nat} {s : State} : Moves [idsEPORT] false s (cbsSettle e c s) := by
  unfold cbsSettle
  extract_lets n1 n2 n3 n4 n5 n6 n7
  refine .ite ?_ ?_
  · exact .refl
  · split
    · extract_lets n8
      exact (setCbs_moves.sub rfl rfl)
    · exact (setCbs_moves.sub rfl rfl)

theorem cbsSettleAll_moves {e : Nat} {s : State} : Moves [idsEPORT] false s (cbsSettleAll e s) := by
  unfold cbsSettleAll
  exact (each_moves (fun _ _ => (cbsSettle_moves.sub rfl rfl)))

theorem cbsStart_moves {e c n : Nat} {s : State} : Moves [idsEPORT] false s (cbsStart e c n s) := by
  unfold cbsStart
  extract_lets n1 n2
  exact (.ite (setCbs_moves.sub rfl rfl) updEp_moves)

theorem cbsEnd_moves {e c : Nat} {s : State} : Moves [idsEPORT] false s (cbsEnd e c s) := by
  unfold cbsEnd
  extract_lets x1 n2 n3
  refine .via x1 (cbsSettle_moves.sub rfl rfl) fun h4 => ?_
  split
  · exact (.ite (.after setCbs_moves h4 rfl rfl) (.comp updEp_moves h4))
  · exact h4

theorem startCopy_moves {f e : Nat} {cut : Bool} {s : State} : Moves [idsTOCSIN, idsEPORT] false s (startCopy f e cut s) := by
  unfold startCopy
  extract_lets n1 n2 n3 n4 n5 n6 n7 n8 x9 x10
  refine .via x9 updCopy_moves fun h11 => ?_
  refine .via x10 ?_ fun h12 => ?_
  · unfold x10
    exact (.ite (.after msecTake_moves h11 rfl rfl) h11)
  exact (.after cbsStart_moves (.after cbsSettleAll_moves h12 rfl rfl) rfl rfl)

theorem occUp_moves {q : Nat} {s : State} : Moves [idsSWITCH] false s (occUp q s) := by
  unfold occUp
  extract_lets n1
  exact (.comp (put_moves rfl) (put_moves rfl))

theorem chargeCell_moves {f e : Nat} {s : State} : Moves [idsSWITCH] false s ((chargeCell f e s).2) := by
  unfold chargeCell
  extract_lets n1 n2 n3
  split
  · exact (.comp updCopy_moves (.after occUp_moves (.set .refl) rfl rfl))
  · split
    · exact (.comp updCopy_moves (.comp (put_moves rfl) (.after occUp_moves (put_moves rfl) rfl rfl)))
    · split
      · exact (.comp updCopy_moves (.comp (put_moves rfl) (occUp_moves.sub rfl rfl)))
      · exact .refl

theorem releaseCharges_moves {x : SwFrame} {c : SwCopy} {s : State} : Moves [idsSWITCH] false s (releaseCharges x c s) := by
  unfold releaseCharges
  extract_lets n1 n2 x3 x4 x5 x6
  refine .via x3 (.set .refl) fun h7 => ?_
  refine .via x4 (.comp (put_moves rfl) h7) fun h8 => ?_
  refine .via x5 (.comp (put_moves rfl) h8) fun h9 => ?_
  refine .via x6 (.comp (put_moves rfl) h9) fun h10 => ?_
  exact (.comp (put_moves rfl) h10)

theorem auditHit_moves {kind p diff : Nat} {first : Bool} {s : State} : Moves [idsTOCSIN, idsSWITCH] false s (auditHit kind p diff first s) := by
  unfold auditHit
  extract_lets n1 x2
  refine .via x2 ?_ fun h3 => ?_
  · unfold x2
    exact (.ite (wr_moves rfl) .refl)
  refine .ite ?_ ?_
  · exact (.after swFault_moves (.after swEvt_moves (.comp (put_moves rfl) h3) rfl rfl) rfl rfl)
  · exact (.after swFault_moves (.after swEvt_moves (.comp (put_moves rfl) h3) rfl rfl) rfl rfl)

theorem allocCell_moves {f : Nat} {s : State} : Moves [idsSWITCH] false s (allocCell f s) := by
  unfold allocCell
  extract_lets n1 x2 n3 x4
  refine .via x2 updFrame_moves fun h5 => ?_
  refine .via x4 (.set h5) fun h6 => ?_
  exact (.comp (put_moves rfl) h6)

theorem releaseCell_moves {n : Nat} {s : State} : Moves [idsTOCSIN, idsSWITCH] false s (releaseCell n s) := by
  unfold releaseCell
  extract_lets n1 x2
  refine .via x2 (.set .refl) fun h3 => ?_
  exact (.ite (.comp (put_moves rfl) h3) (auditHit_moves.sub rfl rfl))

theorem releaseCells_moves {f : Nat} {s : State} : Moves [idsTOCSIN, idsSWITCH] false s (releaseCells f s) := by
  unfold releaseCells
  extract_lets n1
  exact (.comp (each_moves (fun _ _ => (releaseCell_moves.sub rfl rfl))) updFrame_moves)

theorem frameComplete_moves {x : SwFrame} {s : State} : Moves [idsLATE, idsLATE_E, idsTOCSIN, idsIOMMU, idsVE, idsVE_ETH, idsVE_CAN, idsVE_CRY, idsDENY] true s (frameComplete x s) := by
  unfold frameComplete
  split
  · exact (veTxDone_moves.sub rfl rfl)
  · exact .refl

theorem settleFrame_moves {f : Nat} {s : State} : Moves [idsLATE, idsLATE_E, idsTOCSIN, idsSWITCH, idsIOMMU, idsVE, idsVE_ETH, idsVE_CAN, idsVE_CRY, idsDENY] true s (settleFrame f s) := by
  unfold settleFrame
  extract_lets n1 x2
  refine .via x2 (releaseCells_moves.sub rfl rfl) fun h3 => ?_
  exact (.ite (.ite (.after frameComplete_moves (.comp setFrame_moves h3) rfl rfl) h3) .refl)

theorem tc10Drained_moves {e : Nat} {s : State} : Moves [idsEPORT] false s (tc10Drained e s) := by
  unfold tc10Drained
  exact (.ite (.comp emit_moves (put_moves rfl)) .refl)

theorem endCopy_moves {f e r : Nat} {s : State} : Moves [idsLATE, idsLATE_E, idsTOCSIN, idsSWITCH, idsEPORT, idsIOMMU, idsVE, idsVE_ETH, idsVE_CAN, idsVE_CRY, idsDENY] true s (endCopy f e r s) := by
  unfold endCopy
  split
  · exact .refl
  · extract_lets n1 x2 x3
    refine .via x2 ?_ fun h4 => ?_
    · unfold x2
      exact (.ite (cbsEnd_moves.sub rfl rfl) (cbsSettle_moves.sub rfl rfl))
    refine .via x3 (.after releaseCharges_moves h4 rfl rfl) fun h5 => ?_
    exact (.after tc10Drained_moves (.after settleFrame_moves (.comp updFrame_moves h5) rfl rfl) rfl rfl)

theorem dropCopy_moves {f e r : Nat} {s : State} : Moves [idsLATE, idsLATE_E, idsTOCSIN, idsSWITCH, idsEPORT, idsIOMMU, idsVE, idsVE_ETH, idsVE_CAN, idsVE_CRY, idsDENY] true s (dropCopy f e r s) := by
  unfold dropCopy
  exact (.ite (.after countDrop_moves (endCopy_moves.sub rfl rfl) rfl rfl) .refl)

theorem setFdb_moves {s : State} {i : Nat} {x : Option FdbEnt} : Moves [idsSWITCH] false s (State.setFdb s i x) := by
  unfold State.setFdb
  extract_lets n1 x2
  refine .via x2 (.set .refl) fun h3 => ?_
  exact (.comp (put_moves rfl) h3)

theorem learn_moves {p vid src : Nat} {s : State} : Moves [idsTOCSIN, idsSWITCH] false s (learn p vid src s) := by
  unfold learn
  extract_lets n1 x2 n3
  refine .via x2 (incSat_moves rfl) fun h4 => ?_
  refine .ite ?_ ?_
  · exact .refl
  · split
    · split
      · exact (.ite .refl (setFdb_moves.sub rfl rfl))
      · exact .refl
    · split
      · exact (setFdb_moves.sub rfl rfl)
      · exact (.ite h4 (.after swFaultFree_moves (.after swEvt_moves (.set h4) rfl rfl) rfl rfl))

theorem fdbHit_moves {i : Nat} {s : State} : Moves [idsSWITCH] false s (fdbHit i s) := by
  unfold fdbHit
  split
  · exact (setFdb_moves.sub rfl rfl)
  · exact .refl

theorem destSet_moves {p vid dst : Nat} {s : State} : Moves [idsSWITCH] false s ((destSet p vid dst s).2) := by
  unfold destSet
  extract_lets n1 n2 r3 n4 n5
  refine .via r3.2 ?_ fun h6 => ?_
  · unfold r3
    split
    · exact .refl
    · split
      · exact (fdbHit_moves.sub rfl rfl)
      · exact .refl
  exact h6

theorem execFdbAgeScan_moves {s : State} : MovesTo [idsSWITCH] false s (execFdbAgeScan s) := by
  unfold execFdbAgeScan
  refine .next ?_
  refine .ite ?_ ?_
  · exact .refl
  · refine .comp (each_moves (fun a1 s2 => ?_)) ?_
    · split
      · exact (.ite (setFdb_moves.sub rfl rfl) (.ite (setFdb_moves.sub rfl rfl) (setFdb_moves.sub rfl rfl)))
      · exact .refl
    · exact .refl

theorem fdbDone_moves {res idx : Nat} {s : State} : Moves [idsSWITCH] false s (fdbDone res idx s) := by
  unfold fdbDone
  extract_lets x1
  refine .via x1 (.comp (put_moves rfl) (.comp (put_moves rfl) (put_moves rfl))) fun h2 => ?_
  exact (.after swEvt_moves (.comp (put_moves rfl) h2) rfl rfl)

theorem fdbReturn_moves {x : Option FdbEnt} {s : State} : Moves [idsSWITCH] false s (fdbReturn x s) := by
  unfold fdbReturn
  split
  · extract_lets x1 x2
    refine .via x1 (put_moves rfl) fun h3 => ?_
    refine .via x2 (.comp (put_moves rfl) (.comp (put_moves rfl) h3)) fun h4 => ?_
    exact (.comp (wr_moves rfl) h4)
  · exact (wr_moves rfl)

theorem fdbInsert_moves {static : Bool} {s : State} : Moves [idsSWITCH] false s (fdbInsert static s) := by
  unfold fdbInsert
  split
  · extract_lets n1
    refine .ite ?_ ?_
    · exact (fdbDone_moves.sub rfl rfl)
    · split
      · exact (.after fdbDone_moves (setFdb_moves.sub rfl rfl) rfl rfl)
      · exact (fdbDone_moves.sub rfl rfl)

theorem fdbFlush_moves {t : FdbEnt → Bool} {s : State} : Moves [idsSWITCH] false s (fdbFlush t s) := by
  unfold fdbFlush
  refine .after fdbDone_moves ?_ rfl rfl
  · refine .comp (each_moves (fun a1 s2 => ?_)) ?_
    · split
      · exact (.ite (setFdb_moves.sub rfl rfl) .refl)
      · exact .refl
    · exact .refl

theorem fdbLook_moves {s : State} : Moves [idsSWITCH] false s (fdbLook s) := by
  unfold fdbLook
  split
  · exact (.after fdbDone_moves (fdbReturn_moves.sub rfl rfl) rfl rfl)
  · exact (fdbDone_moves.sub rfl rfl)

theorem fdbDrop_moves {s : State} : Moves [idsSWITCH] false s (fdbDrop s) := by
  unfold fdbDrop
  split
  · exact (.after fdbDone_moves (setFdb_moves.sub rfl rfl) rfl rfl)
  · exact (fdbDone_moves.sub rfl rfl)

theorem fdbAt_moves {i : Nat} {s : State} : Moves [idsSWITCH] false s (fdbAt i s) := by
  unfold fdbAt
  split
  · exact (.after fdbDone_moves (fdbReturn_moves.sub rfl rfl) rfl rfl)
  · exact (.after fdbDone_moves (fdbReturn_moves.sub rfl rfl) rfl rfl)

theorem fdbCmd_moves {op : Nat} {s : State} : Moves [idsSWITCH] false s (fdbCmd op s) := by
  unfold fdbCmd
  split
  · exact (fdbLook_moves.sub rfl rfl)
  · exact (fdbInsert_moves.sub rfl rfl)
  · exact (fdbInsert_moves.sub rfl rfl)
  · exact (fdbDrop_moves.sub rfl rfl)
  · exact (fdbFlush_moves.sub rfl rfl)
  · exact (fdbFlush_moves.sub rfl rfl)
  · exact (fdbAt_moves.sub rfl rfl)
  · exact (fdbDone_moves.sub rfl rfl)

theorem fdbGo_moves {op : Nat} {v : Word} {s : State} : Moves [idsSWITCH] false s (fdbGo op v s) := by
  unfold fdbGo
  extract_lets x1
  refine .via x1 (.comp (put_moves rfl) (put_moves rfl)) fun h2 => ?_
  exact (.ite .refl (.after fdbCmd_moves (.comp (put_moves rfl) h2) rfl rfl))

theorem fdbRow_moves {op init : Nat} {v : Word} {s : State} : MovesTo [idsLATE, idsLATE_E, idsTOCSIN, idsSWITCH, idsDENY] false s (fdbRow op init v s) := by
  unfold fdbRow
  refine .next ?_
  exact (busWrite_moves rfl (fun _ => (fdbGo_moves.sub rfl rfl)))

theorem execFdbLookup_moves {init : Init} {value : Word} {s : State} : MovesTo [idsLATE, idsLATE_E, idsTOCSIN, idsSWITCH, idsDENY] false s (execFdbLookup init value s) := by
  unfold execFdbLookup
  exact (fdbRow_moves.subTo rfl rfl)

theorem execFdbInsertStatic_moves {init : Init} {value : Word} {s : State} : MovesTo [idsLATE, idsLATE_E, idsTOCSIN, idsSWITCH, idsDENY] false s (execFdbInsertStatic init value s) := by
  unfold execFdbInsertStatic
  exact (fdbRow_moves.subTo rfl rfl)

theorem execFdbInsertDynamic_moves {init : Init} {value : Word} {s : State} : MovesTo [idsLATE, idsLATE_E, idsTOCSIN, idsSWITCH, idsDENY] false s (execFdbInsertDynamic init value s) := by
  unfold execFdbInsertDynamic
  exact (fdbRow_moves.subTo rfl rfl)

theorem execFdbDelete_moves {init : Init} {value : Word} {s : State} : MovesTo [idsLATE, idsLATE_E, idsTOCSIN, idsSWITCH, idsDENY] false s (execFdbDelete init value s) := by
  unfold execFdbDelete
  exact (fdbRow_moves.subTo rfl rfl)

theorem execFdbFlushFid_moves {init : Init} {value : Word} {s : State} : MovesTo [idsLATE, idsLATE_E, idsTOCSIN, idsSWITCH, idsDENY] false s (execFdbFlushFid init value s) := by
  unfold execFdbFlushFid
  exact (fdbRow_moves.subTo rfl rfl)

theorem execFdbFlushPort_moves {init : Init} {value : Word} {s : State} : MovesTo [idsLATE, idsLATE_E, idsTOCSIN, idsSWITCH, idsDENY] false s (execFdbFlushPort init value s) := by
  unfold execFdbFlushPort
  exact (fdbRow_moves.subTo rfl rfl)

theorem execFdbReadIndex_moves {init : Init} {value : Word} {s : State} : MovesTo [idsLATE, idsLATE_E, idsTOCSIN, idsSWITCH, idsDENY] false s (execFdbReadIndex init value s) := by
  unfold execFdbReadIndex
  exact (fdbRow_moves.subTo rfl rfl)

theorem clrPeak_moves {s : State} : Moves [idsSWITCH] false s (clrPeak s) := by
  unfold clrPeak
  exact (each_moves (fun _ _ => (put_moves rfl)))

theorem execClrPeak_moves {init : Init} {value : Word} {s : State} : MovesTo [idsLATE, idsLATE_E, idsTOCSIN, idsSWITCH, idsDENY] false s (execClrPeak init value s) := by
  unfold execClrPeak
  refine .next ?_
  exact (busWrite_moves rfl (fun _ => (.ite (clrPeak_moves.sub rfl rfl) .refl)))

theorem admitCopy_moves {f e : Nat} {s : State} : Moves [idsTOCSIN, idsSWITCH, idsEPORT] false s (admitCopy f e s) := by
  unfold admitCopy
  extract_lets n1 x2 x3 x4
  refine .via x2 (cbsSettle_moves.sub rfl rfl) fun h5 => ?_
  refine .via x3 (.comp updFrame_moves h5) fun h6 => ?_
  refine .via x4 (.after chargeCell_moves h6 rfl rfl) fun h7 => ?_
  refine .ite ?_ ?_
  · exact (.after countDrop_moves updFrame_moves rfl rfl)
  · split
    · exact (.after countDrop_moves updFrame_moves rfl rfl)
    · exact (.ite (.comp (incSat_moves rfl) (.after startCopy_moves h7 rfl rfl)) h7)

theorem dropFrame_moves {p c r : Nat} {x : SwFrame} {s : State} : Moves [idsLATE, idsLATE_E, idsTOCSIN, idsSWITCH, idsIOMMU, idsVE, idsVE_ETH, idsVE_CAN, idsVE_CRY, idsDENY] true s (dropFrame p c r x s) := by
  unfold dropFrame
  exact (.after frameComplete_moves (countDrop_moves.sub rfl rfl) rfl rfl)

theorem swArrive_moves {p : Nat} {raw : List Nat} {len : Nat} {sec : Option SecTag} {origin : Option TxOrigin} {s : State} : Moves [idsLATE, idsLATE_E, idsTOCSIN, idsSWITCH, idsEPORT, idsIOMMU, idsVE, idsVE_ETH, idsVE_CAN, idsVE_CRY, idsDENY] true s (swArrive p raw len sec origin s) := by
  unfold swArrive
  extract_lets n1 n2 n3 n4 n5 n6 n7 n8 n9 n10 n11 n12 n13 n14 r15 x16 r17 x18 n19 n20 x21 x22
  refine .via r15.2 (destSet_moves.sub rfl rfl) fun h23 => ?_
  refine .via x16 (.after learn_moves h23 rfl rfl) fun h24 => ?_
  refine .via r17.2 (.after streamChecks_moves h24 rfl rfl) fun h25 => ?_
  refine .via x18 h25 fun h26 => ?_
  refine .via x21 (.set h26) fun h27 => ?_
  refine .via x22 (.after allocCell_moves (.comp setFrame_moves h27) rfl rfl) fun h28 => ?_
  refine .ite ?_ ?_
  · exact (dropFrame_moves.sub rfl rfl)
  · refine .ite ?_ ?_
    · exact (dropFrame_moves.sub rfl rfl)
    · refine .ite ?_ ?_
      · exact (.after dropFrame_moves h24 rfl rfl)
      · split
        · exact (.after dropFrame_moves h25 rfl rfl)
        · exact (.after settleFrame_moves (.comp (each_moves (fun _ _ => (admitCopy_moves.sub rfl rfl))) h28) rfl rfl)

theorem firstCell_moves {p : Nat} {octets : List Nat} {len : Nat} {sec : Option SecTag} {origin : Option TxOrigin} {s : State} : Moves [idsLATE, idsLATE_E, idsTOCSIN, idsSWITCH, idsEPORT, idsIOMMU, idsVE, idsVE_ETH, idsVE_CAN, idsVE_CRY, idsDENY] true s (firstCell p octets len sec origin s) := by
  unfold firstCell
  exact (.ite .refl (.ite (.ite (incSat_moves rfl) .refl) (swArrive_moves.sub rfl rfl)))

theorem execFrameFirstCell_moves {p : Fin 24} {octets : List Nat} {len : Nat} {sec : Option SecTag} {s : State} : MovesTo [idsLATE, idsLATE_E, idsTOCSIN, idsSWITCH, idsEPORT, idsIOMMU, idsVE, idsVE_ETH, idsVE_CAN, idsVE_CRY, idsDENY] true s (execFrameFirstCell p octets len sec s) := by
  unfold execFrameFirstCell
  refine .next ?_
  exact (firstCell_moves.sub rfl rfl)

theorem sendCopy_moves {e : Nat} {x : SwFrame} {c : SwCopy} {body : List Nat} {k : Nat} {stomp : Bool} {s : State} : Moves [idsTOCSIN, idsSWITCH, idsTIME] false s (sendCopy e x c body k stomp s) := by
  unfold sendCopy
  extract_lets n1 n2 x3 x4 n5 x6
  refine .via x3 (oneStepCount_moves.sub rfl rfl) fun h7 => ?_
  refine .via x4 (.comp (put_moves rfl) h7) fun h8 => ?_
  refine .via x6 ?_ fun h9 => ?_
  · unfold x6
    exact (.ite (.comp emit_moves h7) (.set h8))
  split
  · exact (.after echoReturn_moves h9 rfl rfl)
  · exact h9

theorem abandonCopy_moves {f e : Nat} {s : State} : Moves [idsLATE, idsLATE_E, idsTOCSIN, idsSWITCH, idsEPORT, idsTIME, idsIOMMU, idsVE, idsVE_ETH, idsVE_CAN, idsVE_CRY, idsDENY] true s (abandonCopy f e s) := by
  unfold abandonCopy
  split
  · exact .refl
  · extract_lets n1 x2
    refine .via x2 ?_ fun h3 => ?_
    · unfold x2
      exact (.ite (.comp (incSat_moves rfl) (sendCopy_moves.sub rfl rfl)) .refl)
    exact (.after swFaultFree_moves (.after swEvt_moves (.after dropCopy_moves h3 rfl rfl) rfl rfl) rfl rfl)

theorem nextCell_moves {f : Nat} {octets : List Nat} {s : State} : Moves [idsLATE, idsLATE_E, idsTOCSIN, idsSWITCH, idsEPORT, idsTIME, idsIOMMU, idsVE, idsVE_ETH, idsVE_CAN, idsVE_CRY, idsDENY] true s (nextCell f octets s) := by
  unfold nextCell
  extract_lets n1 x2
  refine .via x2 setFrame_moves fun h3 => ?_
  refine .ite ?_ ?_
  · exact .refl
  · refine .ite ?_ ?_
    · exact h3
    · refine .after settleFrame_moves ?_ rfl rfl
      · refine .comp (each_moves (fun a4 s5 => ?_)) ?_
        · extract_lets r6
          refine .via r6.2 (chargeCell_moves.sub rfl rfl) fun h7 => ?_
          exact (.ite h7 (abandonCopy_moves.sub rfl rfl))
        · exact (.after allocCell_moves h3 rfl rfl)

theorem execContinuationCell_moves {p : Fin 24} {octets : List Nat} {s : State} : MovesTo [idsLATE, idsLATE_E, idsTOCSIN, idsSWITCH, idsEPORT, idsTIME, idsIOMMU, idsVE, idsVE_ETH, idsVE_CAN, idsVE_CRY, idsDENY] true s (execContinuationCell p octets s) := by
  unfold execContinuationCell
  refine .next ?_
  split
  · exact (nextCell_moves.sub rfl rfl)
  · exact .refl

theorem toEgress_moves {f e : Nat} {s : State} : Moves [idsEPORT] false s (toEgress f e s) := by
  unfold toEgress
  split
  · extract_lets n1 x2 n3 n4
    refine .via x2 (cbsSettle_moves.sub rfl rfl) fun h5 => ?_
    exact (.ite (.comp updCopy_moves (.set h5)) .refl)
  · exact .refl

theorem failFrame_moves {f r : Nat} {s : State} : Moves [idsLATE, idsLATE_E, idsTOCSIN, idsSWITCH, idsEPORT, idsIOMMU, idsVE, idsVE_ETH, idsVE_CAN, idsVE_CRY, idsDENY] true s (failFrame f r s) := by
  unfold failFrame
  extract_lets n1 x2 n3 n4 x5 x6 x7 x8
  refine .via x2 ?_ fun h9 => ?_
  · unfold x2
    split
    · exact frerWithdraw_moves
    · exact .refl
  refine .via x5 ?_ fun h10 => ?_
  · unfold x5
    exact (.ite h9 (.after countDrop_moves h9 rfl rfl))
  refine .via x6 ?_ fun h11 => ?_
  · unfold x6
    exact (.ite h10 (.comp (incSat_moves rfl) h10))
  refine .via x7 (.comp (each_moves (fun _ _ => (incSat_moves rfl))) h11) fun h12 => ?_
  refine .via x8 (.comp updFrame_moves h12) fun h13 => ?_
  exact (.comp (each_moves (fun _ _ => (endCopy_moves.sub rfl rfl))) h13)

theorem endFrame_moves {f : Nat} {fcsOk : Bool} {icv : List Nat} {s : State} : Moves [idsLATE, idsLATE_E, idsTOCSIN, idsSWITCH, idsEPORT, idsIOMMU, idsVE, idsVE_ETH, idsVE_CAN, idsVE_CRY, idsDENY] true s (endFrame f fcsOk icv s) := by
  unfold endFrame
  extract_lets n1 n2 n3 x4 n5 x6 r7 x8
  refine .via x4 (.set .refl) fun h9 => ?_
  refine .via x6 (.comp updFrame_moves h9) fun h10 => ?_
  refine .via r7.2 (.after msecRx_moves h10 rfl rfl) fun h11 => ?_
  refine .via x8 ?_ fun h12 => ?_
  · unfold x8
    exact (.ite (.after failFrame_moves (.comp (incSat_moves rfl) h10) rfl rfl) (.ite (.comp (incSat_moves rfl) h11) (.after failFrame_moves h11 rfl rfl)))
  exact (.after settleFrame_moves (.comp (each_moves (fun _ _ => (toEgress_moves.sub rfl rfl))) h12) rfl rfl)

theorem execFrameEnd_moves {p : Fin 24} {octets : List Nat} {fcsOk : Bool} {icv : List Nat} {s : State} : MovesTo [idsLATE, idsLATE_E, idsTOCSIN, idsSWITCH, idsEPORT, idsTIME, idsIOMMU, idsVE, idsVE_ETH, idsVE_CAN, idsVE_CRY, idsDENY] true s (execFrameEnd p octets fcsOk icv s) := by
  unfold execFrameEnd
  refine .next ?_
  split
  · exact (.after endFrame_moves (.ite .refl (nextCell_moves.sub rfl rfl)) rfl rfl)
  · exact .refl

theorem movePointers_moves {ms : List (Nat × Nat)} {s : State} : Moves B m s (movePointers ms s) := by
  unfold movePointers
  refine .comp (each_moves (fun a1 s2 => ?_)) ?_
  · extract_lets n3
    exact (.set .refl)
  · exact .refl

theorem dropAged_moves {e : Nat} {l : List (Nat × SwFrame × SwCopy)} {s : State} : Moves [idsLATE, idsLATE_E, idsTOCSIN, idsSWITCH, idsEPORT, idsIOMMU, idsVE, idsVE_ETH, idsVE_CAN, idsVE_CRY, idsDENY] true s (dropAged e l s) := by
  unfold dropAged
  exact (each_moves (fun _ _ => (dropCopy_moves.sub rfl rfl)))

theorem ageEgress_moves {e : Nat} {s : State} : Moves [idsLATE, idsLATE_E, idsTOCSIN, idsSWITCH, idsEPORT, idsIOMMU, idsVE, idsVE_ETH, idsVE_CAN, idsVE_CRY, idsDENY] true s (ageEgress e s) := by
  unfold ageEgress
  exact (each_moves (fun _ _ => (dropAged_moves.sub rfl rfl)))

theorem ageAll_moves {s : State} : Moves [idsLATE, idsLATE_E, idsTOCSIN, idsSWITCH, idsEPORT, idsIOMMU, idsVE, idsVE_ETH, idsVE_CAN, idsVE_CRY, idsDENY] true s (ageAll s) := by
  unfold ageAll
  extract_lets x1
  refine .via x1 (each_moves (fun _ _ => (dropAged_moves.sub rfl rfl))) fun h2 => ?_
  exact (.comp (each_moves (fun _ _ => (ageEgress_moves.sub rfl rfl))) h2)

theorem crossCell_moves {i o : Nat} {s : State} : Moves [idsEPORT] false s (crossCell i o s) := by
  unfold crossCell
  split
  · exact (.after toEgress_moves updCopy_moves rfl rfl)
  · exact .refl

theorem endpointCell_moves {e : Nat} {s : State} : Moves [idsSWITCH] false s (endpointCell e s) := by
  unfold endpointCell
  split
  · exact (.ite (.comp updCopy_moves (put_moves rfl)) .refl)
  · exact .refl

theorem execCellSlot_moves {s : State} : MovesTo [idsLATE, idsLATE_E, idsTOCSIN, idsSWITCH, idsEPORT, idsIOMMU, idsVE, idsVE_ETH, idsVE_CAN, idsVE_CRY, idsDENY] true s (execCellSlot s) := by
  unfold execCellSlot
  extract_lets x1 n2 n3 n4 x5 n6 n7 n8
  refine .via x1 (ageAll_moves.sub rfl rfl) fun h9 => ?_
  refine .via x5 (.comp movePointers_moves h9) fun h10 => ?_
  refine .next ?_
  exact (.comp (each_moves (fun _ _ => (endpointCell_moves.sub rfl rfl))) (.comp (each_moves (fun _ _ => (crossCell_moves.sub rfl rfl))) h10))

theorem execCopyAged_moves {e : Fin 24} {c : Fin 8} {voq? : Option (Fin 24)} {s : State} : MovesTo [idsLATE, idsLATE_E, idsTOCSIN, idsSWITCH, idsEPORT, idsIOMMU, idsVE, idsVE_ETH, idsVE_CAN, idsVE_CRY, idsDENY] true s (execCopyAged e c voq? s) := by
  unfold execCopyAged
  extract_lets n1
  refine .next ?_
  exact (dropAged_moves.sub rfl rfl)

theorem execTransmitSelection_moves {e : Fin 24} {s : State} : MovesTo [idsLATE, idsLATE_E, idsTOCSIN, idsSWITCH, idsEPORT, idsIOMMU, idsVE, idsVE_ETH, idsVE_CAN, idsVE_CRY, idsDENY] true s (execTransmitSelection e s) := by
  unfold execTransmitSelection
  extract_lets x1
  refine .via x1 (.after ageEgress_moves (cbsSettleAll_moves.sub rfl rfl) rfl rfl) fun h2 => ?_
  refine .next ?_
  refine .ite ?_ ?_
  · exact h2
  · split
    · exact (.after startCopy_moves h2 rfl rfl)
    · exact h2

theorem finishCopy_moves {f e k : Nat} {stomp : Bool} {s : State} : Moves [idsLATE, idsLATE_E, idsTOCSIN, idsSWITCH, idsEPORT, idsTIME, idsIOMMU, idsVE, idsVE_ETH, idsVE_CAN, idsVE_CRY, idsDENY] true s (finishCopy f e k stomp s) := by
  unfold finishCopy
  split
  · exact .refl
  · extract_lets n1 n2 x3 x4 x5
    refine .via x3 (sendCopy_moves.sub rfl rfl) fun h6 => ?_
    refine .via x4 (.comp (incSat_moves rfl) (.after cbsEnd_moves h6 rfl rfl)) fun h7 => ?_
    refine .via x5 (.after releaseCharges_moves h7 rfl rfl) fun h8 => ?_
    exact (.after tc10Drained_moves (.after settleFrame_moves (.comp updFrame_moves h8) rfl rfl) rfl rfl)

theorem execCopyTransmitDone_moves {e : Fin 24} {s : State} : MovesTo [idsLATE, idsLATE_E, idsTOCSIN, idsSWITCH, idsEPORT, idsTIME, idsIOMMU, idsVE, idsVE_ETH, idsVE_CAN, idsVE_CRY, idsDENY] true s (execCopyTransmitDone e s) := by
  unfold execCopyTransmitDone
  refine .next ?_
  split
  · exact (.ite (finishCopy_moves.sub rfl rfl) .refl)
  · exact .refl

theorem execBufferEccError_moves {e : Fin 24} {cell : Nat} {kind : BufErr} {s : State} : MovesTo [idsLATE, idsLATE_E, idsTOCSIN, idsSWITCH, idsEPORT, idsTIME, idsIOMMU, idsVE, idsVE_ETH, idsVE_CAN, idsVE_CRY, idsDENY] true s (execBufferEccError e cell kind s) := by
  unfold execBufferEccError
  extract_lets n1 x2 n3
  refine .via x2 (.after swFault_moves (.after swEvt_moves (incSat_moves rfl) rfl rfl) rfl rfl) fun h4 => ?_
  refine .next ?_
  split
  · exact (.after swFault_moves (incSat_moves rfl) rfl rfl)
  · extract_lets x5
    refine .via x5 ?_ fun h6 => ?_
    · unfold x5
      exact (.ite (.set h4) h4)
    split
    · exact (.after finishCopy_moves h6 rfl rfl)
    · exact h6

theorem flushPort_moves {e : Nat} {queued : Bool} {s : State} : Moves [idsLATE, idsLATE_E, idsTOCSIN, idsSWITCH, idsEPORT, idsIOMMU, idsVE, idsVE_ETH, idsVE_CAN, idsVE_CRY, idsDENY] true s (flushPort e queued s) := by
  unfold flushPort
  exact (each_moves (fun _ _ => (dropCopy_moves.sub rfl rfl)))

theorem egressDown_moves {e : Nat} {s : State} : Moves [idsLATE, idsLATE_E, idsTOCSIN, idsSWITCH, idsEPORT, idsIOMMU, idsVE, idsVE_ETH, idsVE_CAN, idsVE_CRY, idsDENY] true s (egressDown e s) := by
  unfold egressDown
  exact (.ite (.after flushPort_moves (put_moves rfl) rfl rfl) (flushPort_moves.sub rfl rfl))

theorem ingressDown_moves {p : Nat} {s : State} : Moves [idsLATE, idsLATE_E, idsTOCSIN, idsSWITCH, idsEPORT, idsIOMMU, idsVE, idsVE_ETH, idsVE_CAN, idsVE_CRY, idsDENY] true s (ingressDown p s) := by
  unfold ingressDown
  split
  · exact (endFrame_moves.sub rfl rfl)
  · exact .refl

theorem linkLost_moves {p : Nat} {s : State} : Moves [idsTOCSIN, idsEPORT] false s (linkLost p s) := by
  unfold linkLost
  extract_lets x1 x2
  refine .via x1 (epEvt_moves.sub rfl rfl) fun h3 => ?_
  refine .via x2 (.comp (incSat_moves rfl) h3) fun h4 => ?_
  exact (.ite (.after portFault_moves h4 rfl rfl) h3)

theorem endpointFenced_moves {p : Nat} {s : State} : Moves [idsLATE, idsLATE_E, idsTOCSIN, idsSWITCH, idsEPORT, idsIOMMU, idsVE, idsVE_ETH, idsVE_CAN, idsVE_CRY, idsDENY] true s (endpointFenced p s) := by
  unfold endpointFenced
  extract_lets x1 x2 x3 n4
  refine .via x1 (.after egressDown_moves (.after ingressDown_moves (linkLost_moves.sub rfl rfl) rfl rfl) rfl rfl) fun h5 => ?_
  refine .via x2 (.comp (put_moves rfl) (.comp (put_moves rfl) h5)) fun h6 => ?_
  refine .via x3 (.comp (each_moves (fun _ _ => (countDrop_moves.sub rfl rfl))) h6) fun h7 => ?_
  exact (.comp (incSat_moves rfl) (.set h7))

theorem fenceSw_moves {s : State} {p cause : Nat} {outst : List Req} : Moves [idsLATE, idsLATE_E, idsTOCSIN, idsSWITCH, idsEPORT, idsIOMMU, idsCSR, idsVE, idsVE_ETH, idsVE_CAN, idsVE_CRY, idsDENY] true s (State.fenceSw s p cause outst) := by
  unfold State.fenceSw
  extract_lets n1 x2
  refine .via x2 (fence_moves.sub rfl rfl) fun h3 => ?_
  exact (.comp (each_moves (fun _ _ => (.ite .refl (endpointFenced_moves.sub rfl rfl)))) h3)

theorem openSw_moves {s : State} {p : Nat} : Moves [idsSWITCH, idsEPORT] false s (State.openSw s p) := by
  unfold State.openSw
  extract_lets n1 x2
  refine .via x2 openPort_moves fun h3 => ?_
  exact (.comp (each_moves (fun _ _ => (.ite (.after epEvt_moves (put_moves rfl) rfl rfl) .refl))) h3)

theorem rxTake_moves {p : Nat} {x : SwRx} {s t : State} (h : rxTake p s = some (x, t)) : Moves [idsSWITCH] false s t := by
  unfold rxTake at h
  split at h
  · cases h
  · cases h; exact .comp (put_moves rfl) (.set .refl)

theorem swBootLock_moves {s : State} : Moves [idsTOCSIN, idsSWITCH] false s (swBootLock s) := by
  unfold swBootLock
  extract_lets n1 n2 n3 n4 n5 x6 x7
  refine .via x6 (.comp (put_moves rfl) (put_moves rfl)) fun h8 => ?_
  refine .via x7 (.comp (put_moves rfl) (.comp (put_moves rfl) (.comp (put_moves rfl) h8))) fun h9 => ?_
  exact (.ite h9 (.after swFaultFree_moves (.comp (put_moves rfl) (.comp (put_moves rfl) h9)) rfl rfl))

theorem swEnable_moves {s : State} : Moves [idsSWITCH] false s (swEnable s) := by
  unfold swEnable
  exact (.ite .refl (.comp (put_moves rfl) (put_moves rfl)))

theorem auditCells_moves {s : State} : Moves B m s ((auditCells s).2) := by
  unfold auditCells
  extract_lets n1 n2 n3 n4 r5 r6
  refine .via r5.2 draw_moves fun h7 => ?_
  refine .via r6.2 (.comp draw_moves h7) fun h8 => ?_
  refine .ite1 ?_ ?_
  · exact .refl
  · refine .ite1 ?_ ?_
    · exact .refl
    · refine .ite1 ?_ ?_
      · exact .refl
      · refine .ite1 ?_ ?_
        · exact h8
        · exact .refl

theorem swAudit_moves {s : State} : Moves [idsTOCSIN, idsSWITCH] false s (swAudit s) := by
  unfold swAudit
  extract_lets n1 n2 r3 x4 n5 x6 x7
  refine .via r3.2 (.comp auditCells_moves (incWrap_moves rfl)) fun h8 => ?_
  refine .via x4 h8 fun h9 => ?_
  refine .via x6 (.set h9) fun h10 => ?_
  refine .via x7 ?_ fun h11 => ?_
  · unfold x7
    split
    · exact (.after auditHit_moves h10 rfl rfl)
    · exact h10
  clear_value n1 n2 r3 x7
  split
  · exact (.after auditHit_moves h11 rfl rfl)
  · exact h11

theorem swBeat_moves {s : State} : Moves B m s (swBeat s) := by
  unfold swBeat
  extract_lets n1 n2 x3 x4
  refine .via x3 (.set .refl) fun h5 => ?_
  refine .via x4 (.comp (each_moves (fun _ _ => updEp_moves)) h5) fun h6 => ?_
  exact (.comp (each_moves (fun _ _ => updFrer_moves)) h6)

/-! ### Gong -/

theorem pmFault_moves {n w1 : Nat} {s : State} : Moves [idsTOCSIN] false s (pmFault n w1 s) := by
  unfold pmFault
  exact (raise_moves.sub rfl rfl)

theorem recordCause_moves {kind index ticks : Nat} {s : State} : Moves [idsPMODE] false s (recordCause kind index ticks s) := by
  unfold recordCause
  extract_lets x1 x2 x3 n4
  refine .via x1 (wr_moves rfl) fun h5 => ?_
  refine .via x2 (.ite (.ite (.comp (put_moves rfl) (put_moves rfl)) .refl) (.comp (wr_moves rfl) h5)) fun h6 => ?_
  refine .via x3 (.comp (put_moves rfl) h6) fun h7 => ?_
  exact (.set h7)

theorem pmResult_moves {r : Nat} {s : State} : Moves [idsPMODE] false s (pmResult r s) := by
  unfold pmResult
  exact (.comp (put_moves rfl) (put_moves rfl))

theorem pmEnter_moves {m : Nat} {s : State} : Moves [idsPMODE] false s (pmEnter m s) := by
  unfold pmEnter
  exact (.comp raiseIrq_moves (.comp (put_moves rfl) (pmResult_moves.sub rfl rfl)))

theorem pmAbort_moves {s : State} : Moves [idsTOCSIN, idsPMODE] false s (pmAbort s) := by
  unfold pmAbort
  extract_lets x1
  refine .via x1 (.comp (incSat_moves rfl) (pmResult_moves.sub rfl rfl)) fun h2 => ?_
  exact (.after pmFault_moves h2 rfl rfl)

theorem pauseWdgs_moves {s : State} : Moves [idsTOCSIN] false s (pauseWdgs s) := by
  unfold pauseWdgs
  exact (each_moves (fun _ _ => (.ite (wdgPause_moves.sub rfl rfl) .refl)))

theorem applyGates_moves {outst : List Req} {s : State} : Moves [idsLATE, idsLATE_E, idsTOCSIN, idsSWITCH, idsEPORT, idsIOMMU, idsCSR, idsVE, idsVE_ETH, idsVE_CAN, idsVE_CRY, idsDENY] true s (applyGates outst s) := by
  unfold applyGates
  exact (.after pauseWdgs_moves (each_moves (fun _ _ => (each_moves (fun _ _ => (.ite (.ite .refl (.ite (.after openSw_moves endCause_moves rfl rfl) .refl)) (.ite .refl (fenceSw_moves.sub rfl rfl))))))) rfl rfl)

theorem pmToRun_moves {s : State} : Moves [idsLATE, idsLATE_E, idsTOCSIN, idsPMODE, idsSWITCH, idsEPORT, idsIOMMU, idsCSR, idsVE, idsVE_ETH, idsVE_CAN, idsVE_CRY, idsDENY] true s (pmToRun s) := by
  unfold pmToRun
  exact (.after applyGates_moves (pmEnter_moves.sub rfl rfl) rfl rfl)

theorem aclRelease_moves {s : State} : Moves [idsCSR] false s (aclRelease s) := by
  unfold aclRelease
  exact (each_moves (fun _ _ => (put_moves rfl)))

theorem pmLeave_moves {s : State} : Moves [idsLATE, idsLATE_E, idsTOCSIN, idsPMODE, idsSWITCH, idsEPORT, idsIOMMU, idsCSR, idsVE, idsVE_ETH, idsVE_CAN, idsVE_CRY, idsDENY] true s (pmLeave s) := by
  unfold pmLeave
  extract_lets n1 x2
  refine .via x2 (pmToRun_moves.sub rfl rfl) fun h3 => ?_
  exact (.ite (.after aclRelease_moves (.comp endCause_moves (.comp endCause_moves h3)) rfl rfl) h3)

theorem gongQualify_moves {bit : Nat} {s : State} : Moves B m s (gongQualify bit s) := by
  unfold gongQualify
  extract_lets n1
  exact (.ite (.set .refl) .refl)

theorem fwStart_moves {from_ : Nat} {s : State} : Moves B m s (fwStart from_ s) := by
  unfold fwStart
  extract_lets n1 x2 n3 x4
  refine .via x2 (.set .refl) fun h5 => ?_
  refine .via x4 ?_ fun h6 => ?_
  · unfold x4
    exact (.ite (.comp gongQualify_moves h5) h5)
  exact (.ite (.comp gongQualify_moves h6) h6)

theorem wakeEvent_moves {kind index ticks : Nat} {s : State} : Moves [idsLATE, idsLATE_E, idsTOCSIN, idsPMODE, idsSWITCH, idsEPORT, idsIOMMU, idsCSR, idsVE, idsVE_ETH, idsVE_CAN, idsVE_CRY, idsDENY] true s (wakeEvent kind index ticks s) := by
  unfold wakeEvent
  extract_lets n1 x2 n3 x4 n5 x6 n7
  refine .via x2 (recordCause_moves.sub rfl rfl) fun h8 => ?_
  refine .via x4 ?_ fun h9 => ?_
  · unfold x4
    exact (.ite (.comp (incSat_moves rfl) h8) h8)
  refine .via x6 (.comp raiseIrq_moves h9) fun h10 => ?_
  refine .ite ?_ ?_
  · exact .refl
  · refine .ite ?_ ?_
    · exact (put_moves rfl)
    · refine .ite ?_ ?_
      · exact .refl
      · exact (.ite (.after pmAbort_moves (.comp raiseIrq_moves (.set h8)) rfl rfl) (.ite (.set h9) (.ite (.comp fwStart_moves (.after pmLeave_moves (.set h10) rfl rfl)) h10)))

/-! ### Ports -/

theorem phyUp_moves {p speed : Nat} {leader : Bool} {sqi : Nat} {s : State} : Moves [idsSWITCH, idsEPORT] false s (phyUp p speed leader sqi s) := by
  unfold phyUp
  extract_lets n1 n2 n3 x4 x5
  refine .via x4 (.comp (put_moves rfl) (.comp (put_moves rfl) (.comp (put_moves rfl) (put_moves rfl)))) fun h6 => ?_
  refine .via x5 (.comp (put_moves rfl) (.comp (put_moves rfl) h6)) fun h7 => ?_
  exact (.ite .refl (.after epEvt_moves (.ite (.comp gongQualify_moves h7) h7) rfl rfl))

theorem phyDown_moves {p : Nat} {s : State} : Moves [idsLATE, idsLATE_E, idsTOCSIN, idsSWITCH, idsEPORT, idsIOMMU, idsVE, idsVE_ETH, idsVE_CAN, idsVE_CRY, idsDENY] true s (phyDown p s) := by
  unfold phyDown
  exact (.ite .refl (.after egressDown_moves (.after ingressDown_moves (.after linkLost_moves (.comp (put_moves rfl) (put_moves rfl)) rfl rfl) rfl rfl) rfl rfl))

theorem execLinkUp_moves {p : Fin 24} {speed : Fin 4} {leader : Bool} {sqi : Fin 8} {s : State} : MovesTo [idsSWITCH, idsEPORT] false s (execLinkUp p speed leader sqi s) := by
  unfold execLinkUp
  refine .next ?_
  exact (phyUp_moves.sub rfl rfl)

theorem execLinkDown_moves {p : Fin 24} {s : State} : MovesTo [idsLATE, idsLATE_E, idsTOCSIN, idsSWITCH, idsEPORT, idsIOMMU, idsVE, idsVE_ETH, idsVE_CAN, idsVE_CRY, idsDENY] true s (execLinkDown p s) := by
  unfold execLinkDown
  refine .next ?_
  exact (phyDown_moves.sub rfl rfl)

theorem execPlcaLost_moves {p : Fin 24} {s : State} : MovesTo [idsTOCSIN, idsEPORT] false s (execPlcaLost p s) := by
  unfold execPlcaLost
  refine .next ?_
  exact (.ite (.after portFaultFree_moves (.after epEvt_moves updEp_moves rfl rfl) rfl rfl) .refl)

theorem execPlcaBeacon_moves {p : Fin 24} {s : State} : MovesTo B m s (execPlcaBeacon p s) := by
  unfold execPlcaBeacon
  refine .next ?_
  exact updEp_moves

theorem gclShow_moves {p : Nat} {s : State} : Moves [idsEPORT] false s (gclShow p s) := by
  unfold gclShow
  exact (put_moves rfl)

theorem markOpened_moves {p : Nat} {s : State} : Moves B m s (markOpened p s) := by
  unfold markOpened
  extract_lets n1
  exact (.set .refl)

theorem gclEntry_moves {p i t : Nat} {s : State} : Moves [idsEPORT] false s (gclEntry p i t s) := by
  unfold gclEntry
  extract_lets x1
  refine .via x1 (.comp (put_moves rfl) (cbsSettleAll_moves.sub rfl rfl)) fun h2 => ?_
  exact (.comp markOpened_moves (.after gclShow_moves (.comp updEp_moves h2) rfl rfl))

theorem gclTrunc_moves {p : Nat} {s : State} : Moves [idsEPORT] false s (gclTrunc p s) := by
  unfold gclTrunc
  extract_lets n1 n2
  exact (.ite (put_moves rfl) .refl)

theorem gclCycle_moves {p : Nat} {s : State} : Moves [idsEPORT] false s (gclCycle p s) := by
  unfold gclCycle
  extract_lets x1 n2 n3 n4
  refine .via x1 (gclTrunc_moves.sub rfl rfl) fun h5 => ?_
  exact (.after gclEntry_moves (.comp updEp_moves h5) rfl rfl)

theorem gclAdopt_moves {p : Nat} {g : Gcl} {s : State} : Moves [idsEPORT] false s (gclAdopt p g s) := by
  unfold gclAdopt
  extract_lets x1 x2 x3 x4
  refine .via x1 (gclTrunc_moves.sub rfl rfl) fun h5 => ?_
  refine .via x2 (.comp updEp_moves h5) fun h6 => ?_
  refine .via x3 (.comp (each_moves (fun _ _ => (wr_moves rfl))) h6) fun h7 => ?_
  refine .via x4 (.comp (put_moves rfl) (.comp (put_moves rfl) h7)) fun h8 => ?_
  exact (.after gclCycle_moves (.after epEvt_moves h8 rfl rfl) rfl rfl)

theorem gclChange_moves {p : Nat} {s : State} : Moves [idsTOCSIN, idsEPORT] false s (gclChange p s) := by
  unfold gclChange
  extract_lets n1 n2 n3 n4
  exact (.ite (.after portFaultFree_moves (put_moves rfl) rfl rfl) (.comp (put_moves rfl) updEp_moves))

theorem gclCtrlWrite_moves {p : Nat} {v : Word} {s : State} : Moves [idsTOCSIN, idsEPORT] false s (gclCtrlWrite p v s) := by
  unfold gclCtrlWrite
  extract_lets x1 x2 x3
  refine .via x1 (cbsSettleAll_moves.sub rfl rfl) fun h4 => ?_
  refine .via x2 (.comp (put_moves rfl) (.comp (swWrite_moves rfl) h4)) fun h5 => ?_
  refine .via x3 (.comp markOpened_moves (.after gclShow_moves h5 rfl rfl)) fun h6 => ?_
  exact (.ite (.after gclChange_moves h6 rfl rfl) h6)

theorem execGclChange_moves {p : Fin 24} {init : Init} {value : Word} {s : State} : MovesTo [idsLATE, idsLATE_E, idsTOCSIN, idsEPORT, idsDENY] false s (execGclChange p init value s) := by
  unfold execGclChange
  refine .next ?_
  exact (busWrite_moves rfl (fun _ => (gclCtrlWrite_moves.sub rfl rfl)))

theorem execGateEntrySwitch_moves {p : Fin 24} {kind : Fin 3} {s : State} : MovesTo [idsEPORT] false s (execGateEntrySwitch p kind s) := by
  unfold execGateEntrySwitch
  extract_lets n1
  refine .next ?_
  split
  · refine .ite ?_ ?_
    · exact .refl
    · split
      · exact (gclEntry_moves.sub rfl rfl)
      · exact .refl
  · exact (.ite .refl (gclCycle_moves.sub rfl rfl))
  · split
    · exact (.ite (gclAdopt_moves.sub rfl rfl) .refl)
    · exact .refl

theorem gclBoundary_moves {nbi p : Nat} {s : State} : Moves [idsEPORT] false s (gclBoundary nbi p s) := by
  unfold gclBoundary
  extract_lets x1 n2 x3
  refine .via x1 updEp_moves fun h4 => ?_
  refine .via x3 (.ite (.after gclCycle_moves h4 rfl rfl) h4) fun h5 => ?_
  split
  · exact (.ite (.after gclAdopt_moves h4 rfl rfl) h5)
  · exact h5

theorem portRealign_moves {p : Nat} {s : State} : Moves [idsTOCSIN, idsEPORT] false s (portRealign p s) := by
  unfold portRealign
  exact (.ite (.after portFaultFree_moves (.comp (put_moves rfl) updEp_moves) rfl rfl) .refl)

theorem execStreamGateEntrySwitch_moves {g : Fin 127} {start : Bool} {s : State} : MovesTo B m s (execStreamGateEntrySwitch g start s) := by
  unfold execStreamGateEntrySwitch
  refine .next ?_
  exact (.ite .refl (.ite (.ite .refl sgCycle_moves) sgNext_moves))

theorem sgBoundary_moves {nbi : Nat} {s : State} : Moves B m s (sgBoundary nbi s) := by
  unfold sgBoundary
  exact (each_moves (fun _ _ => (.ite sgCycle_moves .refl)))

theorem cbsClamp_moves {p c : Nat} {s : State} : Moves [idsEPORT] false s (cbsClamp p c s) := by
  unfold cbsClamp
  extract_lets n1 n2 n3
  exact (.ite (.after epEvt_moves (setCbs_moves.sub rfl rfl) rfl rfl) (.ite (.after epEvt_moves (setCbs_moves.sub rfl rfl) rfl rfl) (setCbs_moves.sub rfl rfl)))

theorem cbsSlopeWrite_moves {p c : Nat} {v : Word} {s : State} : Moves [idsEPORT] false s (cbsSlopeWrite p c v s) := by
  unfold cbsSlopeWrite
  extract_lets n1 n2 x3 n4 n5 n6 x7
  refine .via x3 (cbsSettle_moves.sub rfl rfl) fun h8 => ?_
  refine .via x7 (.comp (swWrite_moves rfl) h8) fun h9 => ?_
  exact (.ite (.after cbsClamp_moves (.after setCbs_moves h9 rfl rfl) rfl rfl) (.comp (put_moves rfl) (.comp updEp_moves h9)))

theorem execCbsSlope_moves {p : Fin 24} {c : Fin 8} {init : Init} {value : Word} {s : State} : MovesTo [idsLATE, idsLATE_E, idsTOCSIN, idsEPORT, idsDENY] false s (execCbsSlope p c init value s) := by
  unfold execCbsSlope
  refine .next ?_
  exact (busWrite_moves rfl (fun _ => (cbsSlopeWrite_moves.sub rfl rfl)))

theorem polWrite_moves {r : Reg} {i : Nat} {v : Word} {s : State} (h_r : inBlocks B r.id = true) : Moves B m s (polWrite r i v s) := by
  unfold polWrite
  exact (.comp (swWrite_moves h_r) polSettle_moves)

theorem cbsMaxIntWrite_moves {p c : Nat} {v : Word} {s : State} : Moves [idsEPORT] false s (cbsMaxIntWrite p c v s) := by
  unfold cbsMaxIntWrite
  extract_lets x1
  refine .via x1 (.comp (swWrite_moves rfl) (cbsSettle_moves.sub rfl rfl)) fun h2 => ?_
  exact (.ite (.after cbsShow_moves h2 rfl rfl) h2)

theorem keyRefused_moves {part status init : Nat} {s : State} : Moves [idsTOCSIN] false s (keyRefused part status init s) := by
  unfold keyRefused
  extract_lets r1 x2 n3
  refine .via r1.2 draw_moves fun h4 => ?_
  refine .via x2 h4 fun h5 => ?_
  exact (.ite .refl (.after raiseSec_moves (.set h5) rfl rfl))

theorem setSaValid_moves {p sa v : Nat} {s : State} : Moves [idsEPORT] false s (setSaValid p sa v s) := by
  unfold setSaValid
  exact (.ite (put_moves rfl) (put_moves rfl))

theorem clearSa_moves {p sa : Nat} {s : State} : Moves [idsEPORT] false s (clearSa p sa s) := by
  unfold clearSa
  exact (.comp updEp_moves (setSaValid_moves.sub rfl rfl))

theorem saKeyWrite_moves {p sa init : Nat} {v : Word} {s : State} : Moves [idsTOCSIN, idsEPORT] false s (saKeyWrite p sa init v s) := by
  unfold saKeyWrite
  extract_lets n1 n2 n3 x4
  refine .via x4 (.after portFaultFree_moves (.after epEvt_moves (clearSa_moves.sub rfl rfl) rfl rfl) rfl rfl) fun h5 => ?_
  exact (.ite .refl (.ite (clearSa_moves.sub rfl rfl) (.ite (.comp updEp_moves (setSaValid_moves.sub rfl rfl)) (.ite (.after keyRefused_moves h5 rfl rfl) h5))))

theorem execSaKey_moves {p : Fin 24} {sa : Fin 36} {init : Init} {value : Word} {s : State} : MovesTo [idsLATE, idsLATE_E, idsTOCSIN, idsEPORT, idsDENY] false s (execSaKey p sa init value s) := by
  unfold execSaKey
  refine .next ?_
  exact (busWrite_moves rfl (fun _ => (saKeyWrite_moves.sub rfl rfl)))

theorem tc10Write_moves {p : Nat} {v : Word} {s : State} : Moves [idsEPORT] false s (tc10Write p v s) := by
  unfold tc10Write
  extract_lets n1 x2 n3 x4 x5 x6
  refine .via x2 (swWrite_moves rfl) fun h7 => ?_
  refine .via x4 ?_ fun h8 => ?_
  · unfold x4
    exact (.ite h7 (.comp (put_moves rfl) h7))
  refine .via x5 (.comp (put_moves rfl) (.ite (.comp emit_moves h8) h8)) fun h9 => ?_
  refine .via x6 ?_ fun h10 => ?_
  · unfold x6
    exact (.ite (.comp (put_moves rfl) h9) h9)
  exact (.ite (.after tc10Drained_moves (.comp (put_moves rfl) h10) rfl rfl) h10)

theorem execTc10SleepReq_moves {p : Fin 20} {init : Init} {value : Word} {s : State} : MovesTo [idsLATE, idsLATE_E, idsTOCSIN, idsEPORT, idsDENY] false s (execTc10SleepReq p init value s) := by
  unfold execTc10SleepReq
  refine .next ?_
  exact (busWrite_moves rfl (fun _ => (tc10Write_moves.sub rfl rfl)))

theorem execTc10WakeReq_moves {p : Fin 20} {init : Init} {value : Word} {s : State} : MovesTo [idsLATE, idsLATE_E, idsTOCSIN, idsEPORT, idsDENY] false s (execTc10WakeReq p init value s) := by
  unfold execTc10WakeReq
  refine .next ?_
  exact (busWrite_moves rfl (fun _ => (tc10Write_moves.sub rfl rfl)))

theorem tc10Sleep_moves {p : Nat} {s : State} : Moves [idsLATE, idsLATE_E, idsTOCSIN, idsSWITCH, idsEPORT, idsIOMMU, idsVE, idsVE_ETH, idsVE_CAN, idsVE_CRY, idsDENY] true s (tc10Sleep p s) := by
  unfold tc10Sleep
  exact (.after phyDown_moves (.comp (put_moves rfl) (put_moves rfl)) rfl rfl)

theorem execTc10SleepAck_moves {p : Fin 20} {s : State} : MovesTo [idsLATE, idsLATE_E, idsTOCSIN, idsSWITCH, idsEPORT, idsIOMMU, idsVE, idsVE_ETH, idsVE_CAN, idsVE_CRY, idsDENY] true s (execTc10SleepAck p s) := by
  unfold execTc10SleepAck
  refine .next ?_
  exact (.ite (tc10Sleep_moves.sub rfl rfl) .refl)

theorem execTc10DrainTimeout_moves {p : Fin 20} {s : State} : MovesTo [idsLATE, idsLATE_E, idsTOCSIN, idsSWITCH, idsEPORT, idsIOMMU, idsVE, idsVE_ETH, idsVE_CAN, idsVE_CRY, idsDENY] true s (execTc10DrainTimeout p s) := by
  unfold execTc10DrainTimeout
  refine .next ?_
  exact (.ite (.after portFaultFree_moves (.after epEvt_moves (tc10Sleep_moves.sub rfl rfl) rfl rfl) rfl rfl) .refl)

theorem tc10Wake_moves {p ticks : Nat} {s : State} : Moves [idsLATE, idsLATE_E, idsTOCSIN, idsPMODE, idsSWITCH, idsEPORT, idsIOMMU, idsCSR, idsVE, idsVE_ETH, idsVE_CAN, idsVE_CRY, idsDENY] true s (tc10Wake p ticks s) := by
  unfold tc10Wake
  extract_lets n1 x2 x3 x4
  refine .via x2 (.after epEvt_moves (.comp (put_moves rfl) (put_moves rfl)) rfl rfl) fun h5 => ?_
  refine .via x3 (.comp (incSat_moves rfl) h5) fun h6 => ?_
  refine .via x4 (.comp (each_moves (fun _ _ => (.ite emit_moves .refl))) h6) fun h7 => ?_
  exact (.ite .refl (.ite h5 (.ite (.comp (incSat_moves rfl) h5) (.ite (.after wakeEvent_moves h7 rfl rfl) h7))))

theorem execTc10WakeRx_moves {p : Fin 20} {ticks : Nat} {s : State} : MovesTo [idsLATE, idsLATE_E, idsTOCSIN, idsPMODE, idsSWITCH, idsEPORT, idsIOMMU, idsCSR, idsVE, idsVE_ETH, idsVE_CAN, idsVE_CRY, idsDENY] true s (execTc10WakeRx p ticks s) := by
  unfold execTc10WakeRx
  refine .next ?_
  exact (.ite (.ite (wakeEvent_moves.sub rfl rfl) .refl) (tc10Wake_moves.sub rfl rfl))

theorem setTest_moves {p n : Nat} {s : State} : Moves [idsLATE, idsLATE_E, idsTOCSIN, idsSWITCH, idsEPORT, idsIOMMU, idsVE, idsVE_ETH, idsVE_CAN, idsVE_CRY, idsDENY] true s (setTest p n s) := by
  unfold setTest
  exact (.ite .refl (.ite (put_moves rfl) (.ite (.after phyDown_moves (put_moves rfl) rfl rfl) .refl)))

theorem setTestAs_moves {p n : Nat} {s : State} : Moves [idsLATE, idsLATE_E, idsTOCSIN, idsSWITCH, idsEPORT, idsIOMMU, idsVE, idsVE_ETH, idsVE_CAN, idsVE_CRY, idsDENY] true s (setTestAs p n s) := by
  unfold setTestAs
  exact (.ite (setTest_moves.sub rfl rfl) .refl)

theorem testWrite_moves {p : Nat} {v : Word} {s : State} : Moves [idsLATE, idsLATE_E, idsTOCSIN, idsSWITCH, idsEPORT, idsIOMMU, idsVE, idsVE_ETH, idsVE_CAN, idsVE_CRY, idsDENY] true s (testWrite p v s) := by
  unfold testWrite
  exact (.ite (setTest_moves.sub rfl rfl) .refl)

theorem execEpTest_moves {p : Fin 24} {init : Init} {value : Word} {s : State} : MovesTo [idsLATE, idsLATE_E, idsTOCSIN, idsSWITCH, idsEPORT, idsIOMMU, idsVE, idsVE_ETH, idsVE_CAN, idsVE_CRY, idsDENY] true s (execEpTest p init value s) := by
  unfold execEpTest
  refine .next ?_
  exact (busWrite_moves rfl (fun _ => (testWrite_moves.sub rfl rfl)))

theorem tblWrite_moves {t i v : Nat} {s : State} : Moves B m s (tblWrite t i v s) := by
  unfold tblWrite
  extract_lets n1 x2 n3
  refine .via x2 tblSet_moves fun h4 => ?_
  exact (.ite (.set h4) (.ite (.comp sgShow_moves h4) (.ite (.comp updFrer_moves h4) h4)))

theorem tblDone_moves {p res : Nat} {s : State} : Moves [idsEPORT] false s (tblDone p res s) := by
  unfold tblDone
  exact (.comp raiseIrq_moves (.comp (put_moves rfl) (.comp (put_moves rfl) (put_moves rfl))))

theorem tblGo_moves {p : Nat} {write : Bool} {v : Word} {s : State} : Moves [idsEPORT] false s (tblGo p write v s) := by
  unfold tblGo
  extract_lets n1 n2 x3
  refine .via x3 (.comp (put_moves rfl) (.comp (put_moves rfl) (put_moves rfl))) fun h4 => ?_
  refine .ite ?_ ?_
  · exact (.after tblDone_moves h4 rfl rfl)
  · refine .ite ?_ ?_
    · exact (.ite (.after tblDone_moves (.comp tblWrite_moves h4) rfl rfl) (.after tblDone_moves h4 rfl rfl))
    · exact (.after tblDone_moves (.comp (each_moves (fun _ _ => (wr_moves rfl))) h4) rfl rfl)

theorem execTableRead_moves {p : Fin 24} {init : Init} {value : Word} {s : State} : MovesTo [idsLATE, idsLATE_E, idsTOCSIN, idsEPORT, idsDENY] false s (execTableRead p init value s) := by
  unfold execTableRead
  refine .next ?_
  exact (busWrite_moves rfl (fun _ => (tblGo_moves.sub rfl rfl)))

theorem execTableWrite_moves {p : Fin 24} {init : Init} {value : Word} {s : State} : MovesTo [idsLATE, idsLATE_E, idsTOCSIN, idsEPORT, idsDENY] false s (execTableWrite p init value s) := by
  unfold execTableWrite
  refine .next ?_
  exact (busWrite_moves rfl (fun _ => (tblGo_moves.sub rfl rfl)))

/-! ### Time -/

theorem setStaged_moves {s : State} {r : Reg} {i : Nat} {v : Word} : Moves B m s (State.setStaged s r i v) := by
  unfold State.setStaged
  exact (.set .refl)

theorem beatState_moves {s : State} : Moves [idsBEATCTL] false s (beatState s) := by
  unfold beatState
  extract_lets n1
  exact (.ite .refl (.comp raiseIrq_moves (put_moves rfl)))

theorem setSync_moves {st cause : Nat} {s : State} : Moves [idsTOCSIN, idsBEATCTL, idsTIME] false s (setSync st cause s) := by
  unfold setSync
  extract_lets n1 x2 n3 n4 x5
  refine .via x2 (.comp (put_moves rfl) (put_moves rfl)) fun h6 => ?_
  refine .via x5 (.ite (.after timeFault_moves (.set h6) rfl rfl) h6) fun h7 => ?_
  exact (.ite h6 (.after beatState_moves (.ite (.comp raiseIrq_moves h7) h7) rfl rfl))

theorem toHoldover_moves {cause : Nat} {s : State} : Moves [idsTOCSIN, idsBEATCTL, idsTIME] false s (toHoldover cause s) := by
  unfold toHoldover
  exact (.ite (setSync_moves.sub rfl rfl) .refl)

theorem timeFallback_moves {s : State} : Moves [idsTOCSIN, idsBEATCTL, idsTIME] false s (timeFallback s) := by
  unfold timeFallback
  extract_lets n1
  exact (.ite (setSync_moves.sub rfl rfl) (.ite (put_moves rfl) .refl))

theorem timeCtrlWrite_moves {v : Word} {s : State} : Moves [idsTOCSIN, idsBEATCTL, idsTIME] false s (timeCtrlWrite v s) := by
  unfold timeCtrlWrite
  extract_lets x1
  refine .via x1 (swWrite_moves rfl) fun h2 => ?_
  exact (.ite (.after setSync_moves h2 rfl rfl) (.ite (.after toHoldover_moves h2 rfl rfl) h2))

theorem timeBus_moves {s : State} {init a : Nat} {eff : State → State} (hB : subBlocks [idsLATE, idsLATE_E, idsTOCSIN, idsDENY] B = true) (h_eff : ∀ y0, Moves B m y0 (eff y0)) : Moves B m s (State.timeBus s init a eff) := by
  unfold State.timeBus
  exact (busWrite_moves (subTrans rfl hB) (fun _ => (.ite (h_eff _) (denyWrite_moves.sub (subTrans rfl hB) rfl))))

theorem timeCtrlRow_moves {init : Nat} {v : Word} {s : State} : MovesTo [idsLATE, idsLATE_E, idsTOCSIN, idsBEATCTL, idsTIME, idsDENY] false s (timeCtrlRow init v s) := by
  unfold timeCtrlRow
  refine .next ?_
  exact (timeBus_moves rfl (fun _ => (.comp (put_moves rfl) (timeCtrlWrite_moves.sub rfl rfl))))

theorem execTimeLock_moves {init : Init} {value : Word} {s : State} : MovesTo [idsLATE, idsLATE_E, idsTOCSIN, idsBEATCTL, idsTIME, idsDENY] false s (execTimeLock init value s) := by
  unfold execTimeLock
  exact (timeCtrlRow_moves.subTo rfl rfl)

theorem execTimeUnlock_moves {init : Init} {value : Word} {s : State} : MovesTo [idsLATE, idsLATE_E, idsTOCSIN, idsBEATCTL, idsTIME, idsDENY] false s (execTimeUnlock init value s) := by
  unfold execTimeUnlock
  exact (timeCtrlRow_moves.subTo rfl rfl)

theorem execTimeKeep_moves {init : Init} {value : Word} {s : State} : MovesTo [idsLATE, idsLATE_E, idsTOCSIN, idsBEATCTL, idsTIME, idsDENY] false s (execTimeKeep init value s) := by
  unfold execTimeKeep
  exact (timeCtrlRow_moves.subTo rfl rfl)

theorem execKeepaliveTimeout_moves {s : State} : MovesTo [idsTOCSIN, idsBEATCTL, idsTIME] false s (execKeepaliveTimeout s) := by
  unfold execKeepaliveTimeout
  refine .next ?_
  exact (.ite .refl (toHoldover_moves.sub rfl rfl))

theorem timeIncWrite_moves {v : Word} {s : State} : Moves [idsTOCSIN, idsTIME] false s (timeIncWrite v s) := by
  unfold timeIncWrite
  extract_lets n1 n2 n3 n4 x5
  refine .via x5 (put64_moves rfl rfl) fun h6 => ?_
  exact (.ite h6 (.after timeFault_moves (.comp (put_moves rfl) h6) rfl rfl))

theorem execTimeInc_moves {init : Init} {value : Word} {s : State} : MovesTo [idsLATE, idsLATE_E, idsTOCSIN, idsTIME, idsDENY] false s (execTimeInc init value s) := by
  unfold execTimeInc
  refine .next ?_
  exact (timeBus_moves rfl (fun _ => (timeIncWrite_moves.sub rfl rfl)))

theorem timeStepWrite_moves {v : Word} {s : State} : Moves B m s (timeStepWrite v s) := by
  unfold timeStepWrite
  extract_lets n1 n2 x3 n4
  refine .via x3 (.comp setStaged_moves setStaged_moves) fun h5 => ?_
  exact (.ite h5 (.set h5))

theorem execTimeStep_moves {init : Init} {value : Word} {s : State} : MovesTo [idsLATE, idsLATE_E, idsTOCSIN, idsDENY] false s (execTimeStep init value s) := by
  unfold execTimeStep
  refine .next ?_
  exact (timeBus_moves rfl (fun _ => timeStepWrite_moves))

theorem applyStep_moves {off : Int} {s : State} : Moves [idsTOCSIN, idsEPORT, idsTIME] false s (applyStep off s) := by
  unfold applyStep
  extract_lets n1 n2 n3 x4 x5 x6 x7 x8
  refine .via x4 (.set .refl) fun h9 => ?_
  refine .via x5 (.comp (incSat_moves rfl) (.comp (incWrap_moves rfl) h9)) fun h10 => ?_
  refine .via x6 (.comp (put64_moves rfl rfl) h10) fun h11 => ?_
  refine .via x7 (.after timeFault_moves h11 rfl rfl) fun h12 => ?_
  refine .via x8 (.ite (.comp raiseIrq_moves h12) h12) fun h13 => ?_
  exact (.ite (put_moves rfl) (.comp (each_moves (fun _ _ => (portRealign_moves.sub rfl rfl))) h13))

theorem timePass_moves {n : Nat} {s : State} : Moves B m s (timePass n s) := by
  unfold timePass
  extract_lets n1 n2 n3
  exact (.set .refl)

theorem nextStep_moves {s : State} : Moves [idsTOCSIN, idsEPORT, idsTIME] false s (nextStep s) := by
  unfold nextStep
  split
  · exact .refl
  · extract_lets n1
    exact (.after applyStep_moves (.set .refl) rfl rfl)

theorem timeTick_moves {s : State} : Moves [idsTOCSIN, idsEPORT, idsTIME] false s (timeTick s) := by
  unfold timeTick
  extract_lets x1
  refine .via x1 timePass_moves fun h2 => ?_
  exact (.ite h2 (.after nextStep_moves h2 rfl rfl))

theorem idleTick_moves {s : State} : Moves [idsLATE, idsLATE_E, idsTOCSIN, idsEPORT, idsTIME, idsIOMMU, idsVE, idsVE_ETH, idsVE_CAN, idsVE_CRY, idsDENY] true s (idleTick s) := by
  unfold idleTick
  extract_lets x1
  refine .via x1 (echoDeliver_moves.sub rfl rfl) fun h2 => ?_
  exact (.ite (.after timeTick_moves h2 rfl rfl) h2)

theorem timeSteps_moves {z0 : List Int} {z1 : Nat} {z2 : State} : Moves [idsTOCSIN, idsEPORT, idsTIME] false z2 (timeSteps z0 z1 z2) := by
  induction z0 generalizing z1 z2 with
  | nil => exact timePass_moves
  | cons o rest ih =>
    cases z1 with
    | zero => exact timePass_moves
    | succ n => exact .ite (.comp timePass_moves timePass_moves) (.comp ih (.comp nextStep_moves timePass_moves))

theorem timeRun_moves {n : Nat} {s : State} : Moves [idsTOCSIN, idsEPORT, idsTIME] false s (timeRun n s) := by
  unfold timeRun
  exact (.ite (timeSteps_moves.sub rfl rfl) .refl)

theorem latchNow_moves {s : State} : Moves [idsTIME] false s (latchNow s) := by
  unfold latchNow
  exact (.comp (put64_moves rfl rfl) (wr_moves rfl))

theorem execTimeNowFrac_moves {u0 : Init} {s : State} : MovesTo [idsTIME] false s (execTimeNowFrac u0 s) := by
  unfold execTimeNowFrac
  refine .next ?_
  exact (.ite updPort_moves (latchNow_moves.sub rfl rfl))

theorem latchCan_moves {s : State} : Moves [idsTIME] false s (latchCan s) := by
  unfold latchCan
  exact (.comp (wr_moves rfl) (each_moves (fun _ _ => (wr_moves rfl))))

theorem setHo_moves {k st : Nat} {s : State} : Moves [idsTIME] false s (setHo k st s) := by
  unfold setHo
  extract_lets x1
  refine .via x1 (put_moves rfl) fun h2 => ?_
  exact (.ite .refl (.ite (.comp raiseIrq_moves h2) h2))

theorem hoSend_moves {k msg seq : Nat} {s : State} : Moves [idsEPORT] false s (hoSend k msg seq s) := by
  unfold hoSend
  extract_lets n1 n2 n3 n4 n5 x6 n7
  refine .via x6 (.after cbsSettle_moves (.set .refl) rfl rfl) fun h8 => ?_
  exact (.ite (.comp setFrame_moves h8) .refl)

theorem updHo_moves {s : State} {k : Nat} {f : HoSt → HoSt} : Moves B m s (State.updHo s k f) := by
  unfold State.updHo
  extract_lets n1
  exact (.set .refl)

theorem hoReq_moves {k : Nat} {s : State} : Moves [idsTOCSIN, idsEPORT, idsTIME] false s (hoReq k s) := by
  unfold hoReq
  extract_lets x1
  refine .via x1 (incWrap_moves rfl) fun h2 => ?_
  exact (.after setHo_moves (.after hoSend_moves (.comp updHo_moves h2) rfl rfl) rfl rfl)

theorem hoCtrlWrite_moves {k : Nat} {v : Word} {s : State} : Moves [idsTOCSIN, idsEPORT, idsTIME] false s (hoCtrlWrite k v s) := by
  unfold hoCtrlWrite
  extract_lets x1 x2
  refine .via x1 (swWrite_moves rfl) fun h3 => ?_
  refine .via x2 (.ite (.after hoSend_moves h3 rfl rfl) (.ite (.after hoSend_moves h3 rfl rfl) h3)) fun h4 => ?_
  exact (.ite h3 (.ite (.after hoReq_moves h4 rfl rfl) h4))

theorem hoRow_moves {k init : Nat} {v : Word} {s : State} : MovesTo [idsLATE, idsLATE_E, idsTOCSIN, idsEPORT, idsTIME, idsDENY] false s (hoRow k init v s) := by
  unfold hoRow
  refine .next ?_
  exact (timeBus_moves rfl (fun _ => (hoCtrlWrite_moves.sub rfl rfl)))

theorem execHandoverReq_moves {k : Fin 2} {init : Init} {value : Word} {s : State} : MovesTo [idsLATE, idsLATE_E, idsTOCSIN, idsEPORT, idsTIME, idsDENY] false s (execHandoverReq k init value s) := by
  unfold execHandoverReq
  exact (hoRow_moves.subTo rfl rfl)

theorem execHandoverGrant_moves {k : Fin 2} {init : Init} {value : Word} {s : State} : MovesTo [idsLATE, idsLATE_E, idsTOCSIN, idsEPORT, idsTIME, idsDENY] false s (execHandoverGrant k init value s) := by
  unfold execHandoverGrant
  exact (hoRow_moves.subTo rfl rfl)

theorem execHandoverRefuse_moves {k : Fin 2} {init : Init} {value : Word} {s : State} : MovesTo [idsLATE, idsLATE_E, idsTOCSIN, idsEPORT, idsTIME, idsDENY] false s (execHandoverRefuse k init value s) := by
  unfold execHandoverRefuse
  exact (hoRow_moves.subTo rfl rfl)

theorem hoCollide_moves {k peer : Nat} {s : State} : Moves [idsTOCSIN, idsEPORT, idsTIME] false s (hoCollide k peer s) := by
  unfold hoCollide
  extract_lets n1 n2 x3
  refine .via x3 (.ite .refl (.after hoSend_moves updHo_moves rfl rfl)) fun h4 => ?_
  exact (.ite (.after setHo_moves h4 rfl rfl) (.ite (.after setHo_moves h4 rfl rfl) (.after timeFault_moves (.comp (put_moves rfl) (.after setHo_moves h4 rfl rfl)) rfl rfl)))

theorem hoVerify_moves {k msg seq : Nat} {h : HoPeer} {s : State} : Moves [idsTOCSIN, idsEPORT] false s ((hoVerify k msg seq h s).2) := by
  unfold hoVerify
  extract_lets n1 n2
  exact (msecRx_moves.sub rfl rfl)

theorem hoTake_moves {k msg seq clockId : Nat} {s : State} : Moves [idsTOCSIN, idsEPORT, idsTIME] false s (hoTake k msg seq clockId s) := by
  unfold hoTake
  extract_lets x1 n2
  refine .via x1 (.comp (incSat_moves rfl) (put64_moves rfl rfl)) fun h3 => ?_
  exact (.ite (.ite (.after hoCollide_moves h3 rfl rfl) (.ite (.after setHo_moves (.comp updHo_moves h3) rfl rfl) h3)) (.ite (.ite (.after setHo_moves h3 rfl rfl) h3) h3))

theorem execHandoverFrameRx_moves {k : Fin 2} {msg seq : Nat} {peer : HoPeer} {s : State} : MovesTo [idsTOCSIN, idsSWITCH, idsEPORT, idsTIME] false s (execHandoverFrameRx k msg seq peer s) := by
  unfold execHandoverFrameRx
  refine .next ?_
  extract_lets r1
  refine .via r1.2 (hoVerify_moves.sub rfl rfl) fun h2 => ?_
  exact (.ite .refl (.ite (.after hoTake_moves h2 rfl rfl) (.after countDrop_moves h2 rfl rfl)))

theorem execHandoverTimeout_moves {k : Fin 2} {s : State} : MovesTo [idsTOCSIN, idsTIME] false s (execHandoverTimeout k s) := by
  unfold execHandoverTimeout
  refine .next ?_
  exact (.ite (.after timeFault_moves (setHo_moves.sub rfl rfl) rfl rfl) .refl)

end Sys2Proof.Machine
end

