-- ==== Sys2Proof/Laws/MovesBus.lean ====
section
/-! SUPPORT.  What each operation of CAN, LIN, Tabla, the spine and the Carillon cores can change at most (`Moves` of Laws/Moves.lean): one lemma per definition,
named after it, so that a proof cites it and never unfolds the definition. -/

namespace Sys2Proof.Machine

variable {B A : List (Nat × Nat)} {m k : Bool}

/-! ### Can -/

theorem updCan_moves {s : State} {n : Nat} {f : CanSt → CanSt} : Moves B m s (State.updCan s n f) := by
  unfold State.updCan
  extract_lets n1
  exact (.set .refl)

theorem updCanSlot_moves {s : State} {n sl : Nat} {f : CanSlot → CanSlot} : Moves B m s (State.updCanSlot s n sl f) := by
  unfold State.updCanSlot
  extract_lets n1
  exact (.set .refl)

theorem busFault_moves {n kind ch slot value : Nat} {s : State} : Moves [idsTOCSIN] false s (busFault n kind ch slot value s) := by
  unfold busFault
  exact (raiseRec_moves.sub rfl rfl)

theorem canFaultFree_moves {n ch slot : Nat} {s : State} : Moves [idsTOCSIN] false s (canFaultFree n ch slot s) := by
  unfold canFaultFree
  extract_lets r1
  refine .via r1.2 draw_moves fun h2 => ?_
  exact (.after busFault_moves h2 rfl rfl)

theorem canEvt_moves {n bit : Nat} {s : State} : Moves [idsCAN] false s (canEvt n bit s) := by
  unfold canEvt
  extract_lets x1
  refine .via x1 (wr_moves rfl) fun h2 => ?_
  exact (.ite (.comp raiseIrq_moves h2) h2)

theorem slotEvent_moves {n sl bit : Nat} {s : State} : Moves [idsLATE, idsLATE_E, idsTOCSIN, idsIOMMU, idsVE, idsDENY] true s (slotEvent n sl bit s) := by
  unfold slotEvent
  exact (.ite (veSend_moves.sub rfl rfl) .refl)

theorem setCan_moves {n st : Nat} {s : State} : Moves [idsLATE, idsLATE_E, idsTOCSIN, idsCAN, idsIOMMU, idsVE, idsDENY] true s (setCan n st s) := by
  unfold setCan
  extract_lets x1 x2 x3
  refine .via x1 ?_ fun h4 => ?_
  · unfold x1
    exact (.ite (canEvt_moves.sub rfl rfl) .refl)
  refine .via x2 (.comp (put_moves rfl) h4) fun h5 => ?_
  refine .via x3 ?_ fun h6 => ?_
  · unfold x3
    exact (.ite h5 (.comp (put_moves rfl) h5))
  exact (.ite .refl (.comp (each_moves (fun _ _ => (slotEvent_moves.sub rfl rfl))) h6))

theorem canRead_moves {n sl a len : Nat} {s : State} : Moves [idsLATE, idsLATE_E, idsTOCSIN, idsIOMMU, idsDENY] true s ((canRead n sl a len s).2) := by
  unfold canRead
  extract_lets n1
  split
  · exact .refl
  · refine .pair ?_
    refine .after dmaFailed_moves ?_ rfl rfl
    · split
      · exact (walkFault_moves.sub rfl rfl)
      · exact .refl

theorem canWrite_moves {n sl a : Nat} {data : List Nat} {s : State} :
    Moves [idsLATE, idsLATE_E, idsTOCSIN, idsCAN, idsIOMMU, idsDENY] true s (canWrite n sl a data s).2 := by
  unfold canWrite
  extract_lets v
  split
  · next h => exact dmaStore_moves h
  · refine .after canFaultFree_moves (.comp (put_moves rfl) (.after dmaFailed_moves ?_ rfl rfl)) rfl rfl
    split
    · exact walkFault_moves.sub rfl rfl
    · exact .refl

theorem canDeliver_moves {n sl : Nat} {x : CanFrame} {sof : Nat} {local_ : Bool} {s : State} : Moves [idsLATE, idsLATE_E, idsTOCSIN, idsCAN, idsIOMMU, idsVE, idsDENY] true s (canDeliver n sl x sof local_ s) := by
  unfold canDeliver
  extract_lets n1 x2 n3 r4 x5 x6
  refine .via x2 (.after slotEvent_moves (.comp (put_moves rfl) (incSat_moves rfl)) rfl rfl) fun h7 => ?_
  refine .via r4.2 (canWrite_moves.sub rfl rfl) fun h8 => ?_
  refine .via x5 (.comp (put_moves rfl) h8) fun h9 => ?_
  refine .via x6 (.comp (put_moves rfl) h9) fun h10 => ?_
  refine .ite ?_ ?_
  · exact (incSat_moves rfl)
  · exact (.ite (.ite h7 (.after canFaultFree_moves (.comp updCan_moves h7) rfl rfl)) (.ite (.comp gongQualify_moves (.after slotEvent_moves h10 rfl rfl)) h8))

theorem canRecord_moves {n sl : Nat} {r : Nat × Nat} {s : State} : Moves [idsLATE, idsLATE_E, idsTOCSIN, idsCAN, idsIOMMU, idsVE, idsDENY] true s ((canRecord n sl r s).2) := by
  unfold canRecord
  extract_lets n1 n2 r3 x4 x5 x6
  refine .via r3.2 (canWrite_moves.sub rfl rfl) fun h7 => ?_
  refine .via x4 (.comp (put_moves rfl) h7) fun h8 => ?_
  refine .via x5 (.comp (put_moves rfl) h8) fun h9 => ?_
  refine .via x6 (.comp (incSat_moves rfl) (.comp updCanSlot_moves h9)) fun h10 => ?_
  refine .ite1 ?_ ?_
  · exact (.after slotEvent_moves h10 rfl rfl)
  · exact h7

theorem canRecords_moves {n sl : Nat} {z0 : List (Nat × Nat)} {z1 : State} :
    Moves [idsLATE, idsLATE_E, idsTOCSIN, idsCAN, idsIOMMU, idsVE, idsDENY] true z1 (canRecords n sl z0 z1) := by
  induction z0 generalizing z1 with
  | nil => exact updCanSlot_moves
  | cons r l ih =>
    unfold canRecords
    exact .ite (.comp ih canRecord_moves) (.comp updCanSlot_moves canRecord_moves)

theorem canComplete_moves {n : Nat} {t : CanTx} {code : Nat} {s : State} : Moves [idsLATE, idsLATE_E, idsTOCSIN, idsCAN, idsIOMMU, idsVE, idsDENY] true s (canComplete n t code s) := by
  unfold canComplete
  extract_lets x1 n2 n3 x4 x5
  refine .via x1 updCan_moves fun h6 => ?_
  refine .via x4 (.comp (put_moves rfl) h6) fun h7 => ?_
  refine .via x5 ?_ fun h8 => ?_
  · unfold x5
    exact (.ite (.after veCounted_moves h7 rfl rfl) h7)
  exact (.ite h6 (.after canRecords_moves h8 rfl rfl))

theorem updTx_moves {n : Nat} {t : CanTx} {f : CanTx → CanTx} {s : State} : Moves B m s (updTx n t f s) := by
  unfold updTx
  exact updCan_moves

theorem canAbort_moves {n : Nat} {t : CanTx} {s : State} : Moves [idsLATE, idsLATE_E, idsTOCSIN, idsCAN, idsIOMMU, idsVE, idsDENY] true s (canAbort n t s) := by
  unfold canAbort
  exact (.ite updTx_moves (canComplete_moves.sub rfl rfl))

theorem canAbortAll_moves {n : Nat} {p : CanTx → Bool} {s : State} : Moves [idsLATE, idsLATE_E, idsTOCSIN, idsCAN, idsIOMMU, idsVE, idsDENY] true s (canAbortAll n p s) := by
  unfold canAbortAll
  exact (each_moves (fun _ _ => (canAbort_moves.sub rfl rfl)))

theorem canDisable_moves {n : Nat} {s : State} : Moves [idsLATE, idsLATE_E, idsTOCSIN, idsCAN, idsIOMMU, idsVE, idsDENY] true s (canDisable n s) := by
  unfold canDisable
  extract_lets x1
  refine .via x1 updCan_moves fun h2 => ?_
  exact (.after setCan_moves (.after canAbortAll_moves h2 rfl rfl) rfl rfl)

theorem canCtrlWrite_moves {n : Nat} {v : Word} {s : State} : Moves [idsLATE, idsLATE_E, idsTOCSIN, idsCAN, idsIOMMU, idsVE, idsDENY] true s (canCtrlWrite n v s) := by
  unfold canCtrlWrite
  extract_lets n1 x2 x3
  refine .via x2 (swWrite_moves rfl) fun h4 => ?_
  refine .via x3 ?_ fun h5 => ?_
  · unfold x3
    exact (.ite (.comp (put_moves rfl) h4) h4)
  exact (.ite (.after canDisable_moves h5 rfl rfl) (.ite h5 (.ite (.after setCan_moves h5 rfl rfl) (.after canFaultFree_moves (.after canEvt_moves h5 rfl rfl) rfl rfl))))

theorem execCanEnable_moves {n : Fin 16} {init : Init} {value : Word} {s : State} : MovesTo [idsLATE, idsLATE_E, idsTOCSIN, idsCAN, idsIOMMU, idsVE, idsDENY] true s (execCanEnable n init value s) := by
  unfold execCanEnable
  refine .next ?_
  exact (busWrite_moves rfl (fun _ => (canCtrlWrite_moves.sub rfl rfl)))

theorem canEndTx_moves {n code : Nat} {s : State} : Moves [idsLATE, idsLATE_E, idsTOCSIN, idsCAN, idsIOMMU, idsVE, idsDENY] true s (canEndTx n code s) := by
  unfold canEndTx
  split
  · exact (canComplete_moves.sub rfl rfl)
  · exact .refl

theorem canGoBusOff_moves {n : Nat} {s : State} : Moves [idsLATE, idsLATE_E, idsTOCSIN, idsCAN, idsIOMMU, idsVE, idsDENY] true s (canGoBusOff n s) := by
  unfold canGoBusOff
  extract_lets x1 x2 x3
  refine .via x1 (.after setCan_moves (.comp (incSat_moves rfl) (canEvt_moves.sub rfl rfl)) rfl rfl) fun h4 => ?_
  refine .via x2 (.comp (each_moves (fun _ _ => (slotEvent_moves.sub rfl rfl))) h4) fun h5 => ?_
  refine .via x3 (.after busFault_moves h5 rfl rfl) fun h6 => ?_
  exact (.after canEndTx_moves h6 rfl rfl)

theorem canCount'_moves {n tec rec_ : Nat} {s : State} : Moves [idsLATE, idsLATE_E, idsTOCSIN, idsCAN, idsIOMMU, idsVE, idsDENY] true s (canCount' n tec rec_ s) := by
  unfold canCount'
  extract_lets x1
  refine .via x1 (.comp (put_moves rfl) (put_moves rfl)) fun h2 => ?_
  refine .ite ?_ ?_
  · exact (.after canGoBusOff_moves h2 rfl rfl)
  · exact (.ite (.after busFault_moves (.after setCan_moves (.after canEvt_moves h2 rfl rfl) rfl rfl) rfl rfl) (.ite (.after setCan_moves h2 rfl rfl) h2))

theorem canIntegrated_moves {n : Nat} {s : State} : Moves [idsLATE, idsLATE_E, idsTOCSIN, idsCAN, idsIOMMU, idsVE, idsDENY] true s (canIntegrated n s) := by
  unfold canIntegrated
  exact (.after canCount'_moves (setCan_moves.sub rfl rfl) rfl rfl)

theorem execCanIntegrationDone_moves {n : Fin 16} {s : State} : MovesTo [idsLATE, idsLATE_E, idsTOCSIN, idsCAN, idsIOMMU, idsVE, idsDENY] true s (execCanIntegrationDone n s) := by
  unfold execCanIntegrationDone
  refine .next ?_
  exact (.ite (canIntegrated_moves.sub rfl rfl) .refl)

theorem canGoodRx_moves {n : Nat} {s : State} : Moves [idsLATE, idsLATE_E, idsTOCSIN, idsCAN, idsIOMMU, idsVE, idsDENY] true s (canGoodRx n s) := by
  unfold canGoodRx
  extract_lets n1 r2
  refine .via r2.2 draw_moves fun h3 => ?_
  exact (.ite (.after canCount'_moves h3 rfl rfl) (canCount'_moves.sub rfl rfl))

theorem said324_moves {n : Nat} {s : State} : Moves [idsTOCSIN] false s (said324 n s) := by
  unfold said324
  exact (.ite .refl (.after canFaultFree_moves updCan_moves rfl rfl))

theorem canForeign_moves {n : Nat} {s : State} : Moves [idsLATE, idsLATE_E, idsTOCSIN, idsCAN, idsIOMMU, idsVE, idsDENY] true s (canForeign n s) := by
  unfold canForeign
  exact (.ite (.after canCount'_moves (incSat_moves rfl) rfl rfl) (.after said324_moves (.after canEvt_moves (incSat_moves rfl) rfl rfl) rfl rfl))

theorem canRx_moves {n : Nat} {x : CanFrame} {sof : Nat} {engine : Bool} {s : State} : Moves [idsLATE, idsLATE_E, idsTOCSIN, idsCAN, idsIOMMU, idsVE, idsDENY] true s (canRx n x sof engine s) := by
  unfold canRx
  extract_lets x1 n2
  refine .via x1 (.comp (incSat_moves rfl) (canGoodRx_moves.sub rfl rfl)) fun h3 => ?_
  exact (.ite (.ite h3 (.comp (incSat_moves rfl) h3)) (.comp (each_moves (fun _ _ => (canDeliver_moves.sub rfl rfl))) h3))

theorem canAttempt_moves {n code : Nat} {t : CanTx} {s : State} : Moves [idsLATE, idsLATE_E, idsTOCSIN, idsCAN, idsIOMMU, idsVE, idsDENY] true s (canAttempt n code t s) := by
  unfold canAttempt
  extract_lets n1 x2
  refine .via x2 (canComplete_moves.sub rfl rfl) fun h3 => ?_
  exact (.ite (.ite h3 (.after busFault_moves (.comp updCan_moves h3) rfl rfl)) (.ite (canComplete_moves.sub rfl rfl) updTx_moves))

theorem canRetry_moves {n code : Nat} {s : State} : Moves [idsLATE, idsLATE_E, idsTOCSIN, idsCAN, idsIOMMU, idsVE, idsDENY] true s (canRetry n code s) := by
  unfold canRetry
  split
  · exact (canAttempt_moves.sub rfl rfl)
  · exact .refl

theorem canErrorCount_moves {n : Nat} {tx : Bool} {err : CanErr} {s : State} : Moves [idsLATE, idsLATE_E, idsTOCSIN, idsCAN, idsIOMMU, idsVE, idsDENY] true s (canErrorCount n tx err s) := by
  unfold canErrorCount
  extract_lets n1 n2
  exact (.ite (canCount'_moves.sub rfl rfl) (canCount'_moves.sub rfl rfl))

theorem execCanBusError_moves {n : Fin 16} {tx : Bool} {err : CanErr} {s : State} : MovesTo [idsLATE, idsLATE_E, idsTOCSIN, idsCAN, idsIOMMU, idsVE, idsDENY] true s (execCanBusError n tx err s) := by
  unfold execCanBusError
  refine .next ?_
  exact (.ite .refl (.ite (canRetry_moves.sub rfl rfl) (.after canRetry_moves (.after canErrorCount_moves (incSat_moves rfl) rfl rfl) rfl rfl)))

theorem execCanArbitrationLost_moves {n : Fin 16} {s : State} : MovesTo [idsLATE, idsLATE_E, idsTOCSIN, idsCAN, idsIOMMU, idsVE, idsDENY] true s (execCanArbitrationLost n s) := by
  unfold execCanArbitrationLost
  refine .next ?_
  exact (.ite .refl (canRetry_moves.sub rfl rfl))

theorem canMeasure_moves {n : Nat} {t : CanTx} {s : State} : Moves [idsCAN] false s (canMeasure n t s) := by
  unfold canMeasure
  extract_lets r1
  refine .via r1.2 draw_moves fun h2 => ?_
  exact (.ite (.comp (put_moves rfl) h2) .refl)

theorem execCanTxEnd_moves {n : Fin 16} {s : State} : MovesTo [idsLATE, idsLATE_E, idsTOCSIN, idsCAN, idsIOMMU, idsVE, idsDENY] true s (execCanTxEnd n s) := by
  unfold execCanTxEnd
  refine .next ?_
  split
  · exact .refl
  · extract_lets n1 n2 x3 x4 x5
    refine .via x3 (.after canMeasure_moves (.comp emit_moves (incSat_moves rfl)) rfl rfl) fun h6 => ?_
    refine .via x4 (.after canCount'_moves h6 rfl rfl) fun h7 => ?_
    refine .via x5 (.after canComplete_moves h7 rfl rfl) fun h8 => ?_
    exact (.ite .refl (.comp (each_moves (fun _ _ => (canDeliver_moves.sub rfl rfl))) h8))

theorem canRecover_moves {n : Nat} {s : State} : Moves [idsLATE, idsLATE_E, idsTOCSIN, idsCAN, idsIOMMU, idsVE, idsDENY] true s (canRecover n s) := by
  unfold canRecover
  exact (.ite (.after setCan_moves (put_moves rfl) rfl rfl) .refl)

theorem execBusoffRecover_moves {n : Fin 16} {init : Init} {value : Word} {s : State} : MovesTo [idsLATE, idsLATE_E, idsTOCSIN, idsCAN, idsIOMMU, idsVE, idsDENY] true s (execBusoffRecover n init value s) := by
  unfold execBusoffRecover
  refine .next ?_
  exact (busWrite_moves rfl (fun _ => (.ite (canRecover_moves.sub rfl rfl) .refl)))

theorem execCanRecoveryComplete_moves {n : Fin 16} {s : State} : MovesTo [idsLATE, idsLATE_E, idsTOCSIN, idsCAN, idsIOMMU, idsVE, idsDENY] true s (execCanRecoveryComplete n s) := by
  unfold execCanRecoveryComplete
  refine .next ?_
  exact (.ite (.after setCan_moves (.comp (put_moves rfl) (put_moves rfl)) rfl rfl) .refl)

theorem slotWrite_moves {n sl init : Nat} {r : Reg} {eff : State → State} {s : State} (hB : subBlocks [idsLATE, idsLATE_E, idsTOCSIN, idsDENY] B = true) (h_eff : ∀ y0, Moves B m y0 (eff y0)) : Moves B m s (slotWrite n sl init r eff s) := by
  unfold slotWrite
  exact (busWrite_moves (subTrans rfl hB) (fun _ => (.ite (h_eff _) (denyWrite_moves.sub (subTrans rfl hB) rfl))))

theorem canSubmit_moves {n sl e : Nat} {s : State} : Moves [idsLATE, idsLATE_E, idsTOCSIN, idsCAN, idsIOMMU, idsVE, idsDENY] true s (canSubmit n sl e s) := by
  unfold canSubmit
  extract_lets n1 n2 x3 x4 x5 n6 r7
  refine .via x3 updCanSlot_moves fun h8 => ?_
  refine .via x4 (.comp (put_moves rfl) h8) fun h9 => ?_
  refine .via x5 ?_ fun h10 => ?_
  · unfold x5
    exact (.ite (.comp updVe_moves h9) h9)
  refine .via r7.2 (.after canRead_moves h10 rfl rfl) fun h11 => ?_
  refine .ite ?_ ?_
  · exact .refl
  · refine .ite ?_ ?_
    · exact (put_moves rfl)
    · split
      · exact (.after canComplete_moves h11 rfl rfl)
      · extract_lets n12 n13
        exact (.ite (.after canComplete_moves h11 rfl rfl) (.ite (.after canComplete_moves h11 rfl rfl) (.comp updCan_moves h11)))

theorem execCanTxsub_moves {n : Fin 16} {sl : Fin 8} {init : Init} {value : Word} {s : State} : MovesTo [idsLATE, idsLATE_E, idsTOCSIN, idsCAN, idsIOMMU, idsVE, idsDENY] true s (execCanTxsub n sl init value s) := by
  unfold execCanTxsub
  refine .next ?_
  exact (slotWrite_moves rfl (fun _ => (canSubmit_moves.sub rfl rfl)))

theorem execCanTxabort_moves {n : Fin 16} {sl : Fin 8} {init : Init} {value : Word} {s : State} : MovesTo [idsLATE, idsLATE_E, idsTOCSIN, idsCAN, idsIOMMU, idsVE, idsDENY] true s (execCanTxabort n sl init value s) := by
  unfold execCanTxabort
  refine .next ?_
  exact (slotWrite_moves rfl (fun _ => (canAbortAll_moves.sub rfl rfl)))

theorem canSelect_moves {n sof z0 : Nat} {z1 : State} :
    Moves [idsLATE, idsLATE_E, idsTOCSIN, idsCAN, idsIOMMU, idsVE, idsDENY] true z1 (canSelect n sof z0 z1) := by
  induction z0 generalizing z1 with
  | zero => exact .refl
  | succ k ih =>
    unfold canSelect
    split
    · exact .refl
    · refine .ite updTx_moves ?_
      extract_lets i r
      refine .via r.2 (canRead_moves.sub rfl rfl) fun h => ?_
      clear_value r
      split
      · exact .comp ih (.comp canComplete_moves h)
      · exact .comp updTx_moves h

theorem execCanTxSelection_moves {n : Fin 16} {sof : Word} {s : State} : MovesTo [idsLATE, idsLATE_E, idsTOCSIN, idsCAN, idsIOMMU, idsVE, idsDENY] true s (execCanTxSelection n sof s) := by
  unfold execCanTxSelection
  refine .next ?_
  exact (.ite .refl (canSelect_moves.sub rfl rfl))

theorem canRxai_moves {n sl v : Nat} {s : State} : Moves [idsCAN] false s (canRxai n sl v s) := by
  unfold canRxai
  extract_lets n1 n2 n3 n4
  exact (.ite (put_moves rfl) (.ite .refl (.comp (put_moves rfl) (put_moves rfl))))

theorem execCanRxai_moves {n : Fin 16} {sl : Fin 8} {init : Init} {value : Word} {s : State} : MovesTo [idsLATE, idsLATE_E, idsTOCSIN, idsCAN, idsDENY] false s (execCanRxai n sl init value s) := by
  unfold execCanRxai
  refine .next ?_
  exact (slotWrite_moves rfl (fun _ => (canRxai_moves.sub rfl rfl)))

theorem canCqai_moves {n sl v : Nat} {s : State} : Moves [idsCAN] false s (canCqai n sl v s) := by
  unfold canCqai
  extract_lets n1 n2 n3 n4 n5
  exact (.ite (put_moves rfl) (.ite .refl (.comp updCanSlot_moves (.comp (put_moves rfl) (put_moves rfl)))))

theorem execCanCqai_moves {n : Fin 16} {sl : Fin 8} {init : Init} {value : Word} {s : State} : MovesTo [idsLATE, idsLATE_E, idsTOCSIN, idsCAN, idsDENY] false s (execCanCqai n sl init value s) := by
  unfold execCanCqai
  refine .next ?_
  exact (slotWrite_moves rfl (fun _ => (canCqai_moves.sub rfl rfl)))

theorem canSlotEn_moves {n sl : Nat} {on : Bool} {s : State} : Moves [idsLATE, idsLATE_E, idsTOCSIN, idsCAN, idsIOMMU, idsVE, idsDENY] true s (canSlotEn n sl on s) := by
  unfold canSlotEn
  extract_lets n1
  exact (.ite (.ite .refl (.ite (put_moves rfl) (put_moves rfl))) (.after canAbortAll_moves (put_moves rfl) rfl rfl))

theorem slotCfgWrite_moves {n sl : Nat} {v : Word} {s : State} : Moves [idsLATE, idsLATE_E, idsTOCSIN, idsCAN, idsIOMMU, idsVE, idsDENY] true s (slotCfgWrite n sl v s) := by
  unfold slotCfgWrite
  extract_lets n1 x2 x3 x4
  refine .via x2 ?_ fun h5 => ?_
  · unfold x2
    exact (.ite (canSlotEn_moves.sub rfl rfl) .refl)
  refine .via x3 ?_ fun h6 => ?_
  · unfold x3
    exact (.ite h5 (.comp (put_moves rfl) h5))
  refine .via x4 (.comp (put_moves rfl) (.comp (put_moves rfl) (.comp (put_moves rfl) h6))) fun h7 => ?_
  exact (.ite (.after canSlotEn_moves h7 rfl rfl) h7)

theorem execCanSlotCfg_moves {n : Fin 16} {sl : Fin 8} {init : Init} {value : Word} {s : State} : MovesTo [idsLATE, idsLATE_E, idsTOCSIN, idsCAN, idsIOMMU, idsVE, idsDENY] true s (execCanSlotCfg n sl init value s) := by
  unfold execCanSlotCfg
  refine .next ?_
  exact (busWrite_moves rfl (fun _ => (slotCfgWrite_moves.sub rfl rfl)))

theorem canLinkDown_moves {n : Nat} {s : State} : Moves [idsLATE, idsLATE_E, idsTOCSIN, idsCAN, idsIOMMU, idsVE, idsDENY] true s (canLinkDown n s) := by
  unfold canLinkDown
  extract_lets x1 x2
  refine .via x1 (canEvt_moves.sub rfl rfl) fun h3 => ?_
  refine .via x2 ?_ fun h4 => ?_
  · unfold x2
    exact (.ite h3 (.after canEndTx_moves (.after setCan_moves h3 rfl rfl) rfl rfl))
  exact (.ite .refl (.after canFaultFree_moves h4 rfl rfl))

theorem canLinkUp_moves {reset : Bool} {n : Nat} {s : State} : Moves [idsLATE, idsLATE_E, idsTOCSIN, idsCAN, idsIOMMU, idsVE, idsDENY] true s (canLinkUp reset n s) := by
  unfold canLinkUp
  extract_lets x1 x2 x3 x4
  refine .via x1 (addSat_moves rfl) fun h5 => ?_
  refine .via x2 ?_ fun h6 => ?_
  · unfold x2
    exact (.ite (.comp (put_moves rfl) (.comp (put_moves rfl) h5)) h5)
  refine .via x3 ?_ fun h7 => ?_
  · unfold x3
    exact (.ite (.comp (put_moves rfl) h6) h6)
  refine .via x4 (.comp updCan_moves h7) fun h8 => ?_
  exact (.ite (.after setCan_moves h8 rfl rfl) h8)

theorem canBeat_moves {n : Nat} {s : State} : Moves [idsLATE, idsLATE_E, idsTOCSIN, idsCAN, idsIOMMU, idsVE, idsDENY] true s (canBeat n s) := by
  unfold canBeat
  extract_lets x1
  refine .via x1 updCan_moves fun h2 => ?_
  exact (.comp (each_moves (fun _ _ => (.ite .refl (canRecords_moves.sub rfl rfl)))) h2)

theorem trxWrite_moves {n : Nat} {v : Word} {s : State} : Moves [idsCAN] false s (trxWrite n v s) := by
  unfold trxWrite
  extract_lets x1 n2 x3 x4
  refine .via x1 (swWrite_moves rfl) fun h5 => ?_
  refine .via x3 (.comp (put_moves rfl) h5) fun h6 => ?_
  refine .via x4 ?_ fun h7 => ?_
  · unfold x4
    exact (.ite h6 (.comp (put_moves rfl) h6))
  exact (.ite h7 (.ite (.comp (put_moves rfl) (.comp (put_moves rfl) h7)) (.comp updCan_moves h7)))

theorem execCanTrxMode_moves {n : Fin 16} {init : Init} {value : Word} {s : State} : MovesTo [idsLATE, idsLATE_E, idsTOCSIN, idsCAN, idsDENY] false s (execCanTrxMode n init value s) := by
  unfold execCanTrxMode
  refine .next ?_
  exact (busWrite_moves rfl (fun _ => (trxWrite_moves.sub rfl rfl)))

theorem trxWake_moves {n cause ticks : Nat} {s : State} : Moves [idsLATE, idsLATE_E, idsTOCSIN, idsPMODE, idsSWITCH, idsEPORT, idsCAN, idsIOMMU, idsCSR, idsVE, idsVE_ETH, idsVE_CAN, idsVE_CRY, idsDENY] true s (trxWake n cause ticks s) := by
  unfold trxWake
  extract_lets x1 x2 x3
  refine .via x1 (.comp (put_moves rfl) (put_moves rfl)) fun h4 => ?_
  refine .via x2 (.after canEvt_moves (.comp (incSat_moves rfl) h4) rfl rfl) fun h5 => ?_
  refine .via x3 ?_ fun h6 => ?_
  · unfold x3
    exact (.ite h4 (.ite (.after canFaultFree_moves h5 rfl rfl) h5))
  exact (.ite (.after wakeEvent_moves h6 rfl rfl) h6)

theorem execCanTrxWake_moves {n : Fin 16} {ticks : Nat} {s : State} : MovesTo [idsLATE, idsLATE_E, idsTOCSIN, idsPMODE, idsSWITCH, idsEPORT, idsCAN, idsIOMMU, idsCSR, idsVE, idsVE_ETH, idsVE_CAN, idsVE_CRY, idsDENY] true s (execCanTrxWake n ticks s) := by
  unfold execCanTrxWake
  refine .next ?_
  exact (.ite (trxWake_moves.sub rfl rfl) .refl)

theorem execWakeFrameDecode_moves {n : Fin 16} {frame : CanFrame} {dlc : Fin 16} {ok : Bool} {ticks : Nat} {s : State} : MovesTo [idsLATE, idsLATE_E, idsTOCSIN, idsPMODE, idsSWITCH, idsEPORT, idsCAN, idsIOMMU, idsCSR, idsVE, idsVE_ETH, idsVE_CAN, idsVE_CRY, idsDENY] true s (execWakeFrameDecode n frame dlc ok ticks s) := by
  unfold execWakeFrameDecode
  refine .next ?_
  extract_lets x1 n2 x3
  refine .via x1 (put_moves rfl) fun h4 => ?_
  refine .via x3 (put_moves rfl) fun h5 => ?_
  exact (.ite .refl (.ite (.ite (.after trxWake_moves h4 rfl rfl) h4) (.ite (.after trxWake_moves h5 rfl rfl) h5)))

theorem execTrxConfirmTimeout_moves {n : Fin 16} {s : State} : MovesTo [idsTOCSIN, idsPMODE, idsCAN] false s (execTrxConfirmTimeout n s) := by
  unfold execTrxConfirmTimeout
  refine .next ?_
  extract_lets x1
  refine .via x1 (.comp (incSat_moves rfl) (put_moves rfl)) fun h2 => ?_
  exact (.ite (.ite h2 (.after pmFault_moves h2 rfl rfl)) .refl)

theorem canTrxFault_moves {n : Nat} {s : State} : Moves [idsTOCSIN, idsCAN] false s (canTrxFault n s) := by
  unfold canTrxFault
  exact (.ite .refl (.after canFaultFree_moves (.after canEvt_moves (put_moves rfl) rfl rfl) rfl rfl))

theorem execCanTxdTimeout_moves {n : Fin 16} {s : State} : MovesTo [idsTOCSIN, idsCAN] false s (execCanTxdTimeout n s) := by
  unfold execCanTxdTimeout
  refine .next ?_
  exact (.ite (canTrxFault_moves.sub rfl rfl) .refl)

/-! ### Tabla -/

theorem setEng_moves {s : State} {n : Nat} {e : EngSt} : Moves B m s (State.setEng s n e) := by
  unfold State.setEng
  extract_lets n1
  exact (.set .refl)

theorem updEng_moves {s : State} {n : Nat} {f : EngSt → EngSt} : Moves B m s (State.updEng s n f) := by
  unfold State.updEng
  exact setEng_moves

theorem setW_moves {s : State} {n i v : Nat} : Moves [idsTABLA] false s (State.setW s n i v) := by
  unfold State.setW
  exact (put_moves rfl)

theorem setSat_moves {s : State} {n : Nat} : Moves [idsTABLA] false s (State.setSat s n) := by
  unfold State.setSat
  exact (.comp (put_moves rfl) updEng_moves)

theorem setInv_moves {s : State} {n : Nat} : Moves [idsTABLA] false s (State.setInv s n) := by
  unfold State.setInv
  exact (.comp (put_moves rfl) updEng_moves)

theorem setSafe_moves {s : State} {n : Nat} : Moves [idsTABLA] false s (State.setSafe s n) := by
  unfold State.setSafe
  exact (.comp (put_moves rfl) updEng_moves)

theorem strokeRefused_moves {s : State} {n : Nat} : Moves [idsTABLA] false s (State.strokeRefused s n) := by
  unfold State.strokeRefused
  exact (.comp (incSat_moves rfl) (setInv_moves.sub rfl rfl))

theorem tablaFault_moves {n eng code w1 : Nat} {s : State} : Moves [idsTOCSIN] false s (tablaFault n eng code w1 s) := by
  unfold tablaFault
  exact (raise_moves.sub rfl rfl)

theorem strokeLate_moves {n late : Nat} {s : State} : Moves [idsTOCSIN, idsTABLA] false s (strokeLate n late s) := by
  unfold strokeLate
  extract_lets x1
  refine .via x1 (.comp (incSat_moves rfl) (put_moves rfl)) fun h2 => ?_
  exact (.ite (.after tablaFault_moves h2 rfl rfl) .refl)

theorem stroke_moves {op n late : Nat} {f : Nat → State → State} {s : State} (hB : subBlocks [idsTOCSIN, idsTABLA] B = true) (h_f : ∀ y0 y1, Moves B m y1 (f y0 y1)) : Moves B m s (stroke op n late f s) := by
  unfold stroke
  extract_lets n1
  split
  · extract_lets x2
    refine .via x2 (.comp (h_f _ _) (strokeLate_moves.sub (subTrans rfl hB) rfl)) fun h3 => ?_
    exact (.ite (.comp updEng_moves h3) .refl)
  · exact .refl

theorem strokeW_moves {op n late : Nat} {f : State → Nat → Nat} {s : State} : Moves [idsTOCSIN, idsTABLA] false s (strokeW op n late f s) := by
  unfold strokeW
  exact (stroke_moves rfl (fun _ _ => (setW_moves.sub rfl rfl)))

theorem strokeSat_moves {op n late : Nat} {f : State → Nat → Nat × Bool} {s : State} : Moves [idsTOCSIN, idsTABLA] false s (strokeSat op n late f s) := by
  unfold strokeSat
  exact (stroke_moves rfl (fun _ _ => (.comp (when_moves (fun _ => (setSat_moves.sub rfl rfl))) (setW_moves.sub rfl rfl))))

theorem strokeC_moves {op n late : Nat} {f : State → Nat → Bool} {s : State} : Moves [idsTOCSIN, idsTABLA] false s (strokeC op n late f s) := by
  unfold strokeC
  exact (stroke_moves rfl (fun _ _ => updEng_moves))

theorem execStrokeEnd_moves {n : Fin 16} {late : Nat} {s : State} : MovesTo [idsTOCSIN, idsTABLA] false s (execStrokeEnd n late s) := by
  unfold execStrokeEnd
  refine .next ?_
  exact (stroke_moves rfl (fun _ _ => updEng_moves))

theorem execStrokeWait_moves {n : Fin 16} {late : Nat} {s : State} : MovesTo [idsTOCSIN, idsTABLA] false s (execStrokeWait n late s) := by
  unfold execStrokeWait
  refine .next ?_
  exact (stroke_moves rfl (fun _ _ => .refl))

theorem rds_moves {n w : Nat} {s : State} : Moves [idsTABLA] false s (rds n w s) := by
  unfold rds
  split
  · exact (setW_moves.sub rfl rfl)
  · exact (setInv_moves.sub rfl rfl)

theorem execStrokeRds_moves {n : Fin 16} {late : Nat} {s : State} : MovesTo [idsTOCSIN, idsTABLA] false s (execStrokeRds n late s) := by
  unfold execStrokeRds
  refine .next ?_
  exact (stroke_moves rfl (fun _ _ => (rds_moves.sub rfl rfl)))

theorem rdt_moves {n w : Nat} {s : State} : Moves [idsTOCSIN, idsTABLA] false s (rdt n w s) := by
  unfold rdt
  extract_lets n1 x2 n3
  refine .via x2 (checkWord_moves.sub rfl rfl) fun h4 => ?_
  exact (.ite (.after setSafe_moves (.after setW_moves h4 rfl rfl) rfl rfl) (.after setW_moves h4 rfl rfl))

theorem execStrokeRdt_moves {n : Fin 16} {late : Nat} {s : State} : MovesTo [idsTOCSIN, idsTABLA] false s (execStrokeRdt n late s) := by
  unfold execStrokeRdt
  refine .next ?_
  exact (stroke_moves rfl (fun _ _ => (rdt_moves.sub rfl rfl)))

theorem execStrokeLdi_moves {n : Fin 16} {late : Nat} {s : State} : MovesTo [idsTOCSIN, idsTABLA] false s (execStrokeLdi n late s) := by
  unfold execStrokeLdi
  refine .next ?_
  exact (strokeW_moves.sub rfl rfl)

theorem execStrokeMov_moves {n : Fin 16} {late : Nat} {s : State} : MovesTo [idsTOCSIN, idsTABLA] false s (execStrokeMov n late s) := by
  unfold execStrokeMov
  refine .next ?_
  exact (strokeW_moves.sub rfl rfl)

theorem execStrokeClt_moves {n : Fin 16} {late : Nat} {s : State} : MovesTo [idsTOCSIN, idsTABLA] false s (execStrokeClt n late s) := by
  unfold execStrokeClt
  refine .next ?_
  exact (strokeC_moves.sub rfl rfl)

theorem execStrokeCle_moves {n : Fin 16} {late : Nat} {s : State} : MovesTo [idsTOCSIN, idsTABLA] false s (execStrokeCle n late s) := by
  unfold execStrokeCle
  refine .next ?_
  exact (strokeC_moves.sub rfl rfl)

theorem execStrokeCeq_moves {n : Fin 16} {late : Nat} {s : State} : MovesTo [idsTOCSIN, idsTABLA] false s (execStrokeCeq n late s) := by
  unfold execStrokeCeq
  refine .next ?_
  exact (strokeC_moves.sub rfl rfl)

theorem execStrokeClti_moves {n : Fin 16} {late : Nat} {s : State} : MovesTo [idsTOCSIN, idsTABLA] false s (execStrokeClti n late s) := by
  unfold execStrokeClti
  refine .next ?_
  exact (strokeC_moves.sub rfl rfl)

theorem execStrokeCgei_moves {n : Fin 16} {late : Nat} {s : State} : MovesTo [idsTOCSIN, idsTABLA] false s (execStrokeCgei n late s) := by
  unfold execStrokeCgei
  refine .next ?_
  exact (strokeC_moves.sub rfl rfl)

theorem execStrokeCadd_moves {n : Fin 16} {late : Nat} {s : State} : MovesTo [idsTOCSIN, idsTABLA] false s (execStrokeCadd n late s) := by
  unfold execStrokeCadd
  refine .next ?_
  exact (strokeSat_moves.sub rfl rfl)

theorem execStrokeCsub_moves {n : Fin 16} {late : Nat} {s : State} : MovesTo [idsTOCSIN, idsTABLA] false s (execStrokeCsub n late s) := by
  unfold execStrokeCsub
  refine .next ?_
  exact (strokeSat_moves.sub rfl rfl)

theorem execStrokeCmul_moves {n : Fin 16} {late : Nat} {s : State} : MovesTo [idsTOCSIN, idsTABLA] false s (execStrokeCmul n late s) := by
  unfold execStrokeCmul
  refine .next ?_
  exact (strokeSat_moves.sub rfl rfl)

theorem execStrokeCmin_moves {n : Fin 16} {late : Nat} {s : State} : MovesTo [idsTOCSIN, idsTABLA] false s (execStrokeCmin n late s) := by
  unfold execStrokeCmin
  refine .next ?_
  exact (strokeW_moves.sub rfl rfl)

theorem execStrokeCmax_moves {n : Fin 16} {late : Nat} {s : State} : MovesTo [idsTOCSIN, idsTABLA] false s (execStrokeCmax n late s) := by
  unfold execStrokeCmax
  refine .next ?_
  exact (strokeW_moves.sub rfl rfl)

theorem execStrokeAdd_moves {n : Fin 16} {late : Nat} {s : State} : MovesTo [idsTOCSIN, idsTABLA] false s (execStrokeAdd n late s) := by
  unfold execStrokeAdd
  refine .next ?_
  exact (strokeSat_moves.sub rfl rfl)

theorem execStrokeSub_moves {n : Fin 16} {late : Nat} {s : State} : MovesTo [idsTOCSIN, idsTABLA] false s (execStrokeSub n late s) := by
  unfold execStrokeSub
  refine .next ?_
  exact (strokeSat_moves.sub rfl rfl)

theorem execStrokeAnd_moves {n : Fin 16} {late : Nat} {s : State} : MovesTo [idsTOCSIN, idsTABLA] false s (execStrokeAnd n late s) := by
  unfold execStrokeAnd
  refine .next ?_
  exact (strokeW_moves.sub rfl rfl)

theorem execStrokeOr_moves {n : Fin 16} {late : Nat} {s : State} : MovesTo [idsTOCSIN, idsTABLA] false s (execStrokeOr n late s) := by
  unfold execStrokeOr
  refine .next ?_
  exact (strokeW_moves.sub rfl rfl)

theorem execStrokeXor_moves {n : Fin 16} {late : Nat} {s : State} : MovesTo [idsTOCSIN, idsTABLA] false s (execStrokeXor n late s) := by
  unfold execStrokeXor
  refine .next ?_
  exact (strokeW_moves.sub rfl rfl)

theorem execStrokeAddi_moves {n : Fin 16} {late : Nat} {s : State} : MovesTo [idsTOCSIN, idsTABLA] false s (execStrokeAddi n late s) := by
  unfold execStrokeAddi
  refine .next ?_
  exact (strokeSat_moves.sub rfl rfl)

theorem execStrokeSubi_moves {n : Fin 16} {late : Nat} {s : State} : MovesTo [idsTOCSIN, idsTABLA] false s (execStrokeSubi n late s) := by
  unfold execStrokeSubi
  refine .next ?_
  exact (strokeSat_moves.sub rfl rfl)

theorem execStrokeAndi_moves {n : Fin 16} {late : Nat} {s : State} : MovesTo [idsTOCSIN, idsTABLA] false s (execStrokeAndi n late s) := by
  unfold execStrokeAndi
  refine .next ?_
  exact (strokeW_moves.sub rfl rfl)

theorem execStrokeShr_moves {n : Fin 16} {late : Nat} {s : State} : MovesTo [idsTOCSIN, idsTABLA] false s (execStrokeShr n late s) := by
  unfold execStrokeShr
  refine .next ?_
  exact (strokeW_moves.sub rfl rfl)

theorem execStrokeShl_moves {n : Fin 16} {late : Nat} {s : State} : MovesTo [idsTOCSIN, idsTABLA] false s (execStrokeShl n late s) := by
  unfold execStrokeShl
  refine .next ?_
  exact (strokeSat_moves.sub rfl rfl)

theorem skip_moves {n w : Nat} {flag : Bool} {s : State} : Moves B m s (skip n w flag s) := by
  unfold skip
  exact (.ite updEng_moves .refl)

theorem execStrokeSkc_moves {n : Fin 16} {late : Nat} {s : State} : MovesTo [idsTOCSIN, idsTABLA] false s (execStrokeSkc n late s) := by
  unfold execStrokeSkc
  refine .next ?_
  exact (stroke_moves rfl (fun _ _ => skip_moves))

theorem execStrokeSkf_moves {n : Fin 16} {late : Nat} {s : State} : MovesTo [idsTOCSIN, idsTABLA] false s (execStrokeSkf n late s) := by
  unfold execStrokeSkf
  refine .next ?_
  exact (stroke_moves rfl (fun _ _ => skip_moves))

theorem wro_moves {n w : Nat} {s : State} : Moves [idsTABLA] false s (wro n w s) := by
  unfold wro
  extract_lets n1
  exact (.ite updEng_moves (strokeRefused_moves.sub rfl rfl))

theorem execStrokeWro_moves {n : Fin 16} {late : Nat} {s : State} : MovesTo [idsTOCSIN, idsTABLA] false s (execStrokeWro n late s) := by
  unfold execStrokeWro
  refine .next ?_
  exact (stroke_moves rfl (fun _ _ => (wro_moves.sub rfl rfl)))

theorem wroApply_moves {cls i v : Nat} {s : State} : Moves [idsTOCSIN, idsIOX] false s (wroApply cls i v s) := by
  unfold wroApply
  refine .ite ?_ ?_
  · exact .refl
  · split
    · exact (driveLso_moves.sub rfl rfl)
    · exact (driveBr_moves.sub rfl rfl)
    · exact (driveBr_moves.sub rfl rfl)
    · exact (driveSsup_moves.sub rfl rfl)

theorem execStrokeWroApply_moves {n : Fin 16} {s : State} : MovesTo [idsTOCSIN, idsIOX] false s (execStrokeWroApply n s) := by
  unfold execStrokeWroApply
  split
  · refine .next ?_
    exact .refl
  · refine .next ?_
    exact (.after wroApply_moves updEng_moves rfl rfl)

theorem postTwin_moves {n slot v addr : Nat} {s : State} : Moves [idsLATE, idsLATE_E, idsTOCSIN, idsTABLA] false s (postTwin n slot v addr s) := by
  unfold postTwin
  exact (.ite publish_moves (.after strokeRefused_moves (denyWrite_moves.sub rfl rfl) rfl rfl))

theorem execStrokeWrp_moves {n : Fin 16} {late : Nat} {s : State} : MovesTo [idsLATE, idsLATE_E, idsTOCSIN, idsTABLA] false s (execStrokeWrp n late s) := by
  unfold execStrokeWrp
  refine .next ?_
  exact (stroke_moves rfl (fun _ _ => (postTwin_moves.sub rfl rfl)))

theorem execStrokePub_moves {n : Fin 16} {late : Nat} {s : State} : MovesTo [idsLATE, idsLATE_E, idsTOCSIN, idsTABLA] false s (execStrokePub n late s) := by
  unfold execStrokePub
  refine .next ?_
  exact (stroke_moves rfl (fun _ _ => (postTwin_moves.sub rfl rfl)))

theorem sreq_moves {n w : Nat} {s : State} : Moves [idsTABLA] false s (sreq n w s) := by
  unfold sreq
  exact (.ite sentTrigger_moves (setInv_moves.sub rfl rfl))

theorem execStrokeSreq_moves {n : Fin 16} {late : Nat} {s : State} : MovesTo [idsTOCSIN, idsTABLA] false s (execStrokeSreq n late s) := by
  unfold execStrokeSreq
  refine .next ?_
  exact (stroke_moves rfl (fun _ _ => (sreq_moves.sub rfl rfl)))

theorem startLoad_moves {n t : Nat} {hold : Bool} {s : State} : Moves [idsTABLA] false s (startLoad n t hold s) := by
  unfold startLoad
  extract_lets n1 n2 x3 x4
  refine .via x3 setEng_moves fun h5 => ?_
  refine .via x4 (.comp (put_moves rfl) (.comp (put_moves rfl) (.comp (put_moves rfl) h5))) fun h6 => ?_
  exact (.comp (when_moves (fun _ => (put_moves rfl))) h6)

theorem execTablaLibraryLoadDone_moves {n : Fin 16} {s : State} : MovesTo [idsTABLA] false s (execTablaLibraryLoadDone n s) := by
  unfold execTablaLibraryLoadDone
  split
  · extract_lets x1
    refine .via x1 updEng_moves fun h2 => ?_
    refine .next ?_
    exact (.comp (put_moves rfl) (.comp (put_moves rfl) (.comp (put_moves rfl) h2)))
  · refine .next ?_
    exact .refl

theorem ldRefuse_moves {n code idx : Nat} {s : State} : Moves [idsTABLA] false s (ldRefuse n code idx s) := by
  unfold ldRefuse
  exact (.comp (put_moves rfl) (.comp (put_moves rfl) (put_moves rfl)))

theorem dropLoad_moves {n : Nat} {s : State} : Moves [idsTABLA] false s (dropLoad n s) := by
  unfold dropLoad
  extract_lets n1
  exact (.ite .refl (.comp (put_moves rfl) (.comp (put_moves rfl) (.comp (put_moves rfl) setEng_moves))))

theorem followSel_moves {n : Nat} {s : State} : Moves [idsTABLA] false s (followSel n s) := by
  unfold followSel
  extract_lets n1
  exact (.ite (dropLoad_moves.sub rfl rfl) (.ite .refl (startLoad_moves.sub rfl rfl)))

theorem ldHi_moves {n : Nat} {v : Word} {s : State} : Moves [idsTABLA] false s (ldHi n v s) := by
  unfold ldHi
  extract_lets n1 n2 n3 x4
  refine .via x4 updEng_moves fun h5 => ?_
  exact (.ite (ldRefuse_moves.sub rfl rfl) (.comp (put_moves rfl) h5))

theorem execTablaLdHi_moves {n : Fin 16} {init : Init} {value : Word} {s : State} : MovesTo [idsLATE, idsLATE_E, idsTOCSIN, idsTABLA, idsDENY] false s (execTablaLdHi n init value s) := by
  unfold execTablaLdHi
  refine .next ?_
  exact (busWrite_moves rfl (fun _ => (ldHi_moves.sub rfl rfl)))

theorem tablaCtrl_moves {n : Nat} {v : Word} {s : State} : Moves [idsTOCSIN, idsTABLA] false s (tablaCtrl n v s) := by
  unfold tablaCtrl
  extract_lets n1 x2
  refine .via x2 (swWrite_moves rfl) fun h3 => ?_
  exact (.ite h3 (.ite (.after tablaFault_moves (.after ldRefuse_moves (.comp (put_moves rfl) h3) rfl rfl) rfl rfl) h3))

theorem execTablaArm_moves {n : Fin 16} {init : Init} {value : Word} {s : State} : MovesTo [idsLATE, idsLATE_E, idsTOCSIN, idsTABLA, idsDENY] false s (execTablaArm n init value s) := by
  unfold execTablaArm
  refine .next ?_
  exact (busWrite_moves rfl (fun _ => (tablaCtrl_moves.sub rfl rfl)))

theorem execTablaValidationDone_moves {n : Fin 16} {s : State} : MovesTo [idsTOCSIN, idsTABLA] false s (execTablaValidationDone n s) := by
  unfold execTablaValidationDone
  extract_lets n1
  refine .ite ?_ ?_
  · split
    · refine .next ?_
      exact (.comp (put_moves rfl) (wr_moves rfl))
    · refine .next ?_
      exact (.after tablaFault_moves (.after ldRefuse_moves (put_moves rfl) rfl rfl) rfl rfl)
  · refine .next ?_
    exact .refl

theorem cutEngine_moves {n : Nat} {s : State} : Moves [idsTABLA] false s (cutEngine n s) := by
  unfold cutEngine
  extract_lets x1
  refine .via x1 ?_ fun h2 => ?_
  · unfold x1
    split
    · exact (put_moves rfl)
    · exact .refl
  split
  · exact (.comp (put_moves rfl) (.comp (incSat_moves rfl) (.comp (addSat_moves rfl) h2)))
  · exact h2

theorem resetRdt_moves {n : Nat} {s : State} : Moves B m s (resetRdt n s) := by
  unfold resetRdt
  extract_lets n1
  exact (.set .refl)

theorem clearW_moves {n : Nat} {s : State} : Moves [idsTABLA] false s (clearW n s) := by
  unfold clearW
  exact (clearWords_moves rfl)

theorem swapEngine_moves {mode : Bool} {n : Nat} {s : State} : Moves [idsTABLA] false s (swapEngine mode n s) := by
  unfold swapEngine
  extract_lets n1 x2 x3 x4 x5 x6
  refine .via x2 (put_moves rfl) fun h7 => ?_
  refine .via x3 (.comp setEng_moves h7) fun h8 => ?_
  refine .via x4 (.comp (put_moves rfl) (.comp (put_moves rfl) (.comp (put_moves rfl) h8))) fun h9 => ?_
  refine .via x5 (.comp (when_moves (fun _ => (clearW_moves.sub rfl rfl))) h9) fun h10 => ?_
  refine .via x6 (.comp (when_moves (fun _ => (put_moves rfl))) h10) fun h11 => ?_
  exact (.ite (.comp raiseIrq_moves (.comp resetRdt_moves h11)) .refl)

theorem loadActive_moves {n : Nat} {s : State} : Moves [idsTABLA] false s (loadActive n s) := by
  unfold loadActive
  extract_lets n1 x2
  refine .via x2 updEng_moves fun h3 => ?_
  exact (.ite .refl (.comp resetRdt_moves (.comp (put_moves rfl) h3)))

theorem reloadEngine_moves {n : Nat} {s : State} : Moves [idsTABLA] false s (reloadEngine n s) := by
  unfold reloadEngine
  exact (.ite (.after loadActive_moves updEng_moves rfl rfl) .refl)

theorem startEngine_moves {n : Nat} {s : State} : Moves B m s (startEngine n s) := by
  unfold startEngine
  extract_lets n1
  exact updEng_moves

theorem resetPartTabla_moves {p : Nat} {s : State} : Moves everything false s (resetPartTabla p s) := by
  unfold resetPartTabla
  refine .comp (each_moves (fun a1 s2 => ?_)) ?_
  · extract_lets n3 n4 x5 x6 n7
    refine .via x5 (each_moves (fun _ _ => (clearWords_moves rfl))) fun h8 => ?_
    refine .via x6 (.comp (put_moves rfl) (.after clearW_moves h8 rfl rfl)) fun h9 => ?_
    exact (.ite (.comp resetRdt_moves (.comp setEng_moves h9)) .refl)
  · exact .refl

theorem restartPartTabla_moves {p : Nat} {s : State} : Moves B m s (restartPartTabla p s) := by
  unfold restartPartTabla
  exact (each_moves (fun _ _ => (.ite updEng_moves .refl)))

/-! ### Lin -/

theorem updLin_moves {s : State} {l : Nat} {f : LinSt → LinSt} : Moves B m s (State.updLin s l f) := by
  unfold State.updLin
  extract_lets n1
  exact (.set .refl)

theorem linEvt_moves {l bit : Nat} {s : State} : Moves [idsLATE, idsLATE_E, idsTOCSIN, idsLIN, idsIOMMU, idsVE, idsDENY] true s (linEvt l bit s) := by
  unfold linEvt
  extract_lets x1 x2
  refine .via x1 (wr_moves rfl) fun h3 => ?_
  refine .via x2 (.comp (each_moves (fun _ _ => (veEvent_moves.sub rfl rfl))) h3) fun h4 => ?_
  exact (.ite (.comp raiseIrq_moves h4) h4)

theorem linFaultFree_moves {n l : Nat} {s : State} : Moves [idsTOCSIN] false s (linFaultFree n l s) := by
  unfold linFaultFree
  extract_lets r1
  refine .via r1.2 draw_moves fun h2 => ?_
  exact (.after busFault_moves h2 rfl rfl)

theorem linHeader_moves {l id : Nat} {event : Option Nat} {s : State} : Moves B m s (linHeader l id event s) := by
  unfold linHeader
  extract_lets n1
  exact updLin_moves

theorem linError_moves {l id code : Nat} {s : State} : Moves [idsLATE, idsLATE_E, idsTOCSIN, idsLIN, idsIOMMU, idsVE, idsDENY] true s (linError l id code s) := by
  unfold linError
  extract_lets n1 x2 x3
  refine .via x2 (.comp (put_moves rfl) (put_moves rfl)) fun h4 => ?_
  refine .via x3 (.after linEvt_moves (.comp (incSat_moves rfl) h4) rfl rfl) fun h5 => ?_
  exact (.after busFault_moves h5 rfl rfl)

theorem linHeaderError_moves {l code : Nat} {s : State} : Moves [idsLATE, idsLATE_E, idsTOCSIN, idsLIN, idsIOMMU, idsVE, idsDENY] true s (linHeaderError l code s) := by
  unfold linHeaderError
  exact (.after busFault_moves (.after linEvt_moves (incSat_moves rfl) rfl rfl) rfl rfl)

theorem linCollision_moves {l res : Nat} {s : State} : Moves [idsLATE, idsLATE_E, idsTOCSIN, idsLIN, idsIOMMU, idsVE, idsDENY] true s (linCollision l res s) := by
  unfold linCollision
  extract_lets x1
  refine .via x1 (.after linEvt_moves (incSat_moves rfl) rfl rfl) fun h2 => ?_
  exact (.comp updLin_moves h2)

theorem linFail_moves {l : Nat} {b : LinBus} {code : Nat} {s : State} : Moves [idsLATE, idsLATE_E, idsTOCSIN, idsLIN, idsIOMMU, idsVE, idsDENY] true s (linFail l b code s) := by
  unfold linFail
  split
  · exact (.ite (linError_moves.sub rfl rfl) (linCollision_moves.sub rfl rfl))
  · exact (linError_moves.sub rfl rfl)

theorem linStore_moves {l : Nat} {b : LinBus} {data : List Nat} {s : State} : Moves [idsLIN] false s (linStore l b data s) := by
  unfold linStore
  extract_lets n1 n2 x3 x4
  refine .via x3 (put64_moves rfl rfl) fun h5 => ?_
  refine .via x4 (.ite (.comp (put_moves rfl) h5) h5) fun h6 => ?_
  exact (.comp (put_moves rfl) (.comp (put_moves rfl) h6))

theorem linGood_moves {l : Nat} {s : State} : Moves [idsLIN, idsVE] false s (linGood l s) := by
  unfold linGood
  exact (.comp (each_moves (fun _ _ => (incSat_moves rfl))) (incSat_moves rfl))

theorem execLinFrameComplete_moves {l : Fin 12} {octets : List Nat} {bitErr : Bool} {s : State} : MovesTo [idsLATE, idsLATE_E, idsTOCSIN, idsLIN, idsIOMMU, idsVE, idsDENY] true s (execLinFrameComplete l octets bitErr s) := by
  unfold execLinFrameComplete
  refine .next ?_
  split
  · exact .refl
  · extract_lets x1 n2 n3
    refine .via x1 updLin_moves fun h4 => ?_
    refine .ite ?_ ?_
    · exact .refl
    · refine .ite ?_ ?_
      · exact (.ite (.after linFail_moves h4 rfl rfl) (.after linGood_moves (.comp emit_moves h4) rfl rfl))
      · exact (.ite h4 (.ite (.after linFail_moves h4 rfl rfl) (.ite (.after linFail_moves h4 rfl rfl) (.after linGood_moves (.after linStore_moves h4 rfl rfl) rfl rfl))))

theorem execLinResponseTimeout_moves {l : Fin 12} {s : State} : MovesTo [idsLATE, idsLATE_E, idsTOCSIN, idsLIN, idsIOMMU, idsVE, idsDENY] true s (execLinResponseTimeout l s) := by
  unfold execLinResponseTimeout
  refine .next ?_
  split
  · exact .refl
  · extract_lets x1
    refine .via x1 updLin_moves fun h2 => ?_
    exact (.ite .refl (.ite (.after linFail_moves h2 rfl rfl) h2))

theorem execLinHeaderRx_moves {l : Fin 12} {pid : Fin 256} {sync : Bool} {s : State} : MovesTo [idsLATE, idsLATE_E, idsTOCSIN, idsLIN, idsIOMMU, idsVE, idsDENY] true s (execLinHeaderRx l pid sync s) := by
  unfold execLinHeaderRx
  refine .next ?_
  exact (.ite .refl (.ite (linHeaderError_moves.sub rfl rfl) (.ite (linHeaderError_moves.sub rfl rfl) linHeader_moves)))

theorem linGoSleep_moves {l : Nat} {s : State} : Moves [idsLIN] false s (linGoSleep l s) := by
  unfold linGoSleep
  extract_lets n1 x2
  refine .via x2 emit_moves fun h3 => ?_
  exact (.comp (put_moves rfl) (.comp (put_moves rfl) h3))

theorem linEntry_moves {l : Nat} {s : State} : Moves [idsLATE, idsLATE_E, idsTOCSIN, idsLIN, idsIOMMU, idsVE, idsDENY] true s (linEntry l s) := by
  unfold linEntry
  extract_lets n1 n2 x3 n4 n5 n6 n7 n8 x9
  refine .via x3 (put_moves rfl) fun h10 => ?_
  refine .via x9 (.comp updLin_moves (.comp (put_moves rfl) h10)) fun h11 => ?_
  refine .ite ?_ ?_
  · exact (.comp updLin_moves h10)
  · refine .ite ?_ ?_
    · exact (.after busFault_moves (.after linEvt_moves (.comp (incSat_moves rfl) h11) rfl rfl) rfl rfl)
    · exact (.ite (.comp linHeader_moves h11) (.ite (.comp linHeader_moves h11) h11))

theorem execLinEntryStart_moves {l : Fin 12} {s : State} : MovesTo [idsLATE, idsLATE_E, idsTOCSIN, idsLIN, idsIOMMU, idsVE, idsDENY] true s (execLinEntryStart l s) := by
  unfold execLinEntryStart
  refine .next ?_
  exact (.ite (linGoSleep_moves.sub rfl rfl) (.ite .refl (.ite (linGoSleep_moves.sub rfl rfl) (linEntry_moves.sub rfl rfl))))

theorem linBeat_moves {l : Nat} {s : State} : Moves B m s (linBeat l s) := by
  unfold linBeat
  exact (.ite .refl updLin_moves)

theorem linCtrlWrite_moves {l : Nat} {v : Word} {s : State} : Moves [idsLIN] false s (linCtrlWrite l v s) := by
  unfold linCtrlWrite
  extract_lets n1 x2 x3 x4 x5 x6
  refine .via x2 (swWrite_moves rfl) fun h7 => ?_
  refine .via x3 ?_ fun h8 => ?_
  · unfold x3
    exact (.ite h7 (.comp (put_moves rfl) h7))
  refine .via x4 ?_ fun h9 => ?_
  · unfold x4
    exact (.ite h8 (.comp updLin_moves h8))
  refine .via x5 ?_ fun h10 => ?_
  · unfold x5
    exact (.ite h9 (.comp (put_moves rfl) h9))
  refine .via x6 (.comp emit_moves (.comp (put_moves rfl) h10)) fun h11 => ?_
  exact (.ite (.comp updLin_moves (.comp (put_moves rfl) h11)) h10)

theorem execLinSleepTx_moves {l : Fin 12} {init : Init} {value : Word} {s : State} : MovesTo [idsLATE, idsLATE_E, idsTOCSIN, idsLIN, idsDENY] false s (execLinSleepTx l init value s) := by
  unfold execLinSleepTx
  refine .next ?_
  exact (busWrite_moves rfl (fun _ => (linCtrlWrite_moves.sub rfl rfl)))

theorem execLinWakeTx_moves {l : Fin 12} {init : Init} {value : Word} {s : State} : MovesTo [idsLATE, idsLATE_E, idsTOCSIN, idsLIN, idsDENY] false s (execLinWakeTx l init value s) := by
  unfold execLinWakeTx
  refine .next ?_
  exact (busWrite_moves rfl (fun _ => (linCtrlWrite_moves.sub rfl rfl)))

theorem execLinWakeGapEnd_moves {l : Fin 12} {s : State} : MovesTo [idsLIN] false s (execLinWakeGapEnd l s) := by
  unfold execLinWakeGapEnd
  refine .next ?_
  extract_lets x1
  refine .via x1 updLin_moves fun h2 => ?_
  exact (.ite (.ite (.comp (put_moves rfl) h2) h2) .refl)

theorem execLinWakeRx_moves {l : Fin 12} {s : State} : MovesTo [idsLATE, idsLATE_E, idsTOCSIN, idsLIN, idsIOMMU, idsVE, idsDENY] true s (execLinWakeRx l s) := by
  unfold execLinWakeRx
  refine .next ?_
  exact (.ite (linEvt_moves.sub rfl rfl) .refl)

theorem linReset_moves {l : Nat} {s : State} : Moves [idsLIN] false s (linReset l s) := by
  unfold linReset
  exact (.comp updLin_moves (.comp (put_moves rfl) (put_moves rfl)))

theorem execLinTxdTimeout_moves {l : Fin 12} {s : State} : MovesTo [idsTOCSIN, idsLIN] false s (execLinTxdTimeout l s) := by
  unfold execLinTxdTimeout
  refine .next ?_
  exact (.ite .refl (.after linFaultFree_moves (.comp updLin_moves (put_moves rfl)) rfl rfl))

theorem linDataHi_moves {l id : Nat} {v : Word} {s : State} : Moves [idsLIN] false s (linDataHi l id v s) := by
  unfold linDataHi
  extract_lets n1
  exact (.comp (wr_moves rfl) (wr_moves rfl))

theorem execLinDataHi_moves {l : Fin 12} {id : Fin 64} {init : Init} {value : Word} {s : State} : MovesTo [idsLATE, idsLATE_E, idsTOCSIN, idsLIN, idsDENY] false s (execLinDataHi l id init value s) := by
  unfold execLinDataHi
  refine .next ?_
  exact (busWrite_moves rfl (fun _ => (linDataHi_moves.sub rfl rfl)))

theorem linDataLoRead_moves {l id init : Nat} {s : State} : Moves [idsLATE, idsLATE_E, idsTOCSIN, idsDENY] false s (linDataLoRead l id init s) := by
  unfold linDataLoRead
  extract_lets n1
  exact (.ite (refuseReq_moves.sub rfl rfl) (.set .refl))

theorem execLinDataLoRead_moves {l : Fin 12} {id : Fin 64} {init : Init} {s : State} : MovesTo [idsLATE, idsLATE_E, idsTOCSIN, idsDENY] false s (execLinDataLoRead l id init s) := by
  unfold execLinDataLoRead
  refine .next ?_
  exact (linDataLoRead_moves.sub rfl rfl)

theorem lreq_moves {n w : Nat} {s : State} : Moves [idsTOCSIN, idsTABLA, idsLIN] false s (lreq n w s) := by
  unfold lreq
  extract_lets n1
  exact (.ite linHeader_moves (.after linFaultFree_moves (.comp (incSat_moves rfl) (setInv_moves.sub rfl rfl)) rfl rfl))

theorem execStrokeLreq_moves {n : Fin 16} {late : Nat} {s : State} : MovesTo [idsTOCSIN, idsTABLA, idsLIN] false s (execStrokeLreq n late s) := by
  unfold execStrokeLreq
  refine .next ?_
  exact (stroke_moves rfl (fun _ _ => (lreq_moves.sub rfl rfl)))

/-! ### Spine -/

theorem spineFault_moves {n w1 : Nat} {s : State} : Moves [idsTOCSIN] false s (spineFault n w1 s) := by
  unfold spineFault
  exact (raiseFab_moves.sub rfl rfl)

theorem setHolding_moves {s : State} {b : Bool} : Moves [idsSPINE] false s (State.setHolding s b) := by
  unfold State.setHolding
  extract_lets n1
  exact (.comp (put_moves rfl) (.set .refl))

theorem holdExpire_moves {s : State} : Moves [idsSPINE, idsTOCSIN, idsKNELL, idsPWR, idsFEED, idsIOX] false s (holdExpire s) := by
  unfold holdExpire
  exact (.after knCauseAll_moves (setHolding_moves.sub rfl rfl) rfl rfl)

theorem linkDown_moves {s : State} {out : List Req} : Moves [idsLATE, idsSPINE, idsLATE_E, idsTOCSIN, idsKNELL, idsPWR, idsFEED, idsIOX, idsSENT, idsCAN, idsIOMMU, idsCSR, idsVE, idsDENY] true s (State.linkDown s out) := by
  unfold State.linkDown
  extract_lets n1 x2 n3 x4 x5 x6 x7
  refine .via x2 (put_moves rfl) fun h8 => ?_
  refine .via x4 (.set h8) fun h9 => ?_
  refine .via x5 (.after spineFault_moves h9 rfl rfl) fun h10 => ?_
  refine .via x6 (.comp (each_moves (fun _ _ => (fence_moves.sub rfl rfl))) h10) fun h11 => ?_
  refine .via x7 (.comp (each_moves (fun _ _ => (canLinkDown_moves.sub rfl rfl))) (.after ioLinkDown_moves (.after pwrLinkDown_moves h11 rfl rfl) rfl rfl)) fun h12 => ?_
  exact (.ite .refl (.ite (.ite (.after holdExpire_moves h12 rfl rfl) (.after setHolding_moves h12 rfl rfl)) h10))

theorem hdieResetNow_moves {s : State} {out : List Req} : Moves [idsLATE, idsSPINE, idsLATE_E, idsTOCSIN, idsKNELL, idsPWR, idsFEED, idsIOX, idsSENT, idsCAN, idsIOMMU, idsCSR, idsVE, idsDENY] true s (State.hdieResetNow s out) := by
  unfold State.hdieResetNow
  extract_lets x1 x2 n3
  refine .via x1 (.comp endCause_moves (linkDown_moves.sub rfl rfl)) fun h4 => ?_
  refine .via x2 (.comp pwrHReset_moves h4) fun h5 => ?_
  exact (.set h5)

theorem replay_moves {s : State} : Moves [idsSPINE, idsTOCSIN] false s (replay s) := by
  unfold replay
  extract_lets x1 n2 n3 x4
  refine .via x1 (incSat_moves rfl) fun h5 => ?_
  refine .via x4 (.set h5) fun h6 => ?_
  exact (.ite (.after spineFault_moves h6 rfl rfl) h6)

theorem retrain_moves {s : State} : Moves [idsSPINE, idsTOCSIN] false s (retrain s) := by
  unfold retrain
  extract_lets x1
  refine .via x1 (.comp (incSat_moves rfl) (put_moves rfl)) fun h2 => ?_
  exact (.after spineFault_moves h2 rfl rfl)

theorem retrainFailed_moves {out : List Req} {s : State} : Moves [idsLATE, idsSPINE, idsLATE_E, idsTOCSIN, idsKNELL, idsPWR, idsFEED, idsIOX, idsSENT, idsCAN, idsIOMMU, idsCSR, idsVE, idsDENY] true s (retrainFailed out s) := by
  unfold retrainFailed
  extract_lets n1 n2 x3
  refine .via x3 (.set .refl) fun h4 => ?_
  exact (.ite (.after linkDown_moves h4 rfl rfl) h4)

theorem execSpineCrcFail_moves {fresh : Bool} {out : List Req} {s : State} : MovesTo [idsLATE, idsSPINE, idsLATE_E, idsTOCSIN, idsKNELL, idsPWR, idsFEED, idsIOX, idsSENT, idsCAN, idsIOMMU, idsCSR, idsVE, idsDENY] true s (execSpineCrcFail fresh out s) := by
  unfold execSpineCrcFail
  extract_lets n1 x2 n3 n4 x5
  refine .via x2 ?_ fun h6 => ?_
  · unfold x2
    exact (.ite (.set .refl) .refl)
  refine .via x5 (.after retrain_moves (.set h6) rfl rfl) fun h7 => ?_
  refine .ite ?_ ?_
  · refine .ite ?_ ?_
    · refine .next ?_
      exact (.after replay_moves (.set h6) rfl rfl)
    · refine .next ?_
      exact (.ite (.after retrainFailed_moves h7 rfl rfl) h7)
  · refine .next ?_
    exact .refl

theorem execRetrainComplete_moves {s : State} : MovesTo [idsSPINE, idsTOCSIN] false s (execRetrainComplete s) := by
  unfold execRetrainComplete
  refine .ite ?_ ?_
  · refine .next ?_
    exact (.after replay_moves (put_moves rfl) rfl rfl)
  · refine .next ?_
    exact .refl

theorem execRetrainTimeout_moves {out : List Req} {s : State} : MovesTo [idsLATE, idsSPINE, idsLATE_E, idsTOCSIN, idsKNELL, idsPWR, idsFEED, idsIOX, idsSENT, idsCAN, idsIOMMU, idsCSR, idsVE, idsDENY] true s (execRetrainTimeout out s) := by
  unfold execRetrainTimeout
  extract_lets x1
  refine .via x1 (retrainFailed_moves.sub rfl rfl) fun h2 => ?_
  refine .ite ?_ ?_
  · refine .next ?_
    exact (.ite (.after retrain_moves h2 rfl rfl) h2)
  · refine .next ?_
    exact .refl

theorem execHdieSupplyLoss_moves {out : List Req} {s : State} : MovesTo [idsLATE, idsSPINE, idsLATE_E, idsTOCSIN, idsKNELL, idsPWR, idsFEED, idsIOX, idsSENT, idsCAN, idsIOMMU, idsCSR, idsVE, idsDENY] true s (execHdieSupplyLoss out s) := by
  unfold execHdieSupplyLoss
  refine .next ?_
  exact (hdieResetNow_moves.sub rfl rfl)

theorem spineCtrl_moves {out : List Req} {v : Word} {s : State} : Moves [idsLATE, idsSPINE, idsLATE_E, idsTOCSIN, idsKNELL, idsPWR, idsFEED, idsIOX, idsSENT, idsCAN, idsIOMMU, idsCSR, idsVE, idsDENY] true s (spineCtrl out v s) := by
  unfold spineCtrl
  extract_lets x1
  refine .via x1 (swWrite_moves rfl) fun h2 => ?_
  exact (.comp (when_moves (fun _ => (hdieResetNow_moves.sub rfl rfl))) h2)

theorem execSpineHreset_moves {init : Init} {value : Word} {out : List Req} {s : State} : MovesTo [idsLATE, idsSPINE, idsLATE_E, idsTOCSIN, idsKNELL, idsPWR, idsFEED, idsIOX, idsSENT, idsCAN, idsIOMMU, idsCSR, idsVE, idsDENY] true s (execSpineHreset init value out s) := by
  unfold execSpineHreset
  refine .next ?_
  exact (busWrite_moves rfl (fun _ => (spineCtrl_moves.sub rfl rfl)))

theorem execHdieResetRelease_moves {s : State} : MovesTo [idsSPINE] false s (execHdieResetRelease s) := by
  unfold execHdieResetRelease
  extract_lets n1 n2 x3
  refine .via x3 (.set .refl) fun h4 => ?_
  refine .ite ?_ ?_
  · refine .next ?_
    exact (.comp (put_moves rfl) h4)
  · refine .next ?_
    exact .refl

theorem farReference_moves {s : State} : Moves B m s (farReference s) := by
  unfold farReference
  extract_lets n1
  exact (.set .refl)

theorem spineUp_moves {s : State} : Moves [idsLATE, idsSPINE, idsLATE_E, idsTOCSIN, idsKNELL, idsPWR, idsFEED, idsIOX, idsCAN, idsIOMMU, idsVE, idsDENY] true s (spineUp s) := by
  unfold spineUp
  extract_lets x1 n2 x3 x4 n5 n6 x7 x8 x9 x10
  refine .via x1 (.comp farReference_moves deliverSlots_moves) fun h11 => ?_
  refine .via x3 (.comp (put_moves rfl) (.after setHolding_moves (.comp (put_moves rfl) h11) rfl rfl)) fun h12 => ?_
  refine .via x4 (.comp (incSat_moves rfl) h12) fun h13 => ?_
  refine .via x7 (.set h13) fun h14 => ?_
  refine .via x8 (.comp (each_moves (fun _ _ => (.comp openPort_moves endCause_moves))) h14) fun h15 => ?_
  refine .via x9 (.after pwrLinkUp_moves h15 rfl rfl) fun h16 => ?_
  refine .via x10 (.comp (each_moves (fun _ _ => (canLinkUp_moves.sub rfl rfl))) h16) fun h17 => ?_
  exact (.ite (.comp raiseIrq_moves (.after knLinkUp_moves (.after ioLinkUp_moves h17 rfl rfl) rfl rfl)) .refl)

theorem execSpineLinkUp_moves {s : State} : MovesTo [idsLATE, idsSPINE, idsLATE_E, idsTOCSIN, idsKNELL, idsPWR, idsFEED, idsIOX, idsCAN, idsIOMMU, idsVE, idsDENY] true s (execSpineLinkUp s) := by
  unfold execSpineLinkUp
  refine .next ?_
  refine .ite ?_ ?_
  · exact .refl
  · split
    · exact .refl
    · exact (spineUp_moves.sub rfl rfl)

theorem execTrainingTimeout_moves {s : State} : MovesTo [idsLATE, idsSPINE, idsLATE_E, idsTOCSIN, idsKNELL, idsPWR, idsFEED, idsIOX, idsSENT, idsCAN, idsIOMMU, idsCSR, idsVE, idsDENY] true s (execTrainingTimeout s) := by
  unfold execTrainingTimeout
  refine .ite ?_ ?_
  · refine .next ?_
    exact (linkDown_moves.sub rfl rfl)
  · refine .next ?_
    exact .refl

theorem execKnellHoldExpire_moves {s : State} : MovesTo [idsSPINE, idsTOCSIN, idsKNELL, idsPWR, idsFEED, idsIOX] false s (execKnellHoldExpire s) := by
  unfold execKnellHoldExpire
  refine .ite ?_ ?_
  · refine .next ?_
    exact (holdExpire_moves.sub rfl rfl)
  · refine .next ?_
    exact .refl

/-! ### Carillon -/

theorem updCar_moves {s : State} {t : Nat} {f : CarSt → CarSt} : Moves B m s (State.updCar s t f) := by
  unfold State.updCar
  exact (.set .refl)

theorem carFault_moves {t m w1 : Nat} {s : State} : Moves [idsTOCSIN] false s (carFault t m w1 s) := by
  unfold carFault
  exact (raise_moves.sub rfl rfl)

theorem carEvt_moves {t bit : Nat} {s : State} : Moves [idsCARILLON] false s (carEvt t bit s) := by
  unfold carEvt
  extract_lets x1
  refine .via x1 (wr_moves rfl) fun h2 => ?_
  exact (.ite (.comp raiseIrq_moves h2) h2)

theorem carCnt_moves {t k : Nat} {s : State} : Moves [idsCARILLON] false s (carCnt t k s) := by
  unfold carCnt
  exact (incSat_moves rfl)

theorem carRecord_moves {t kind cores : Nat} {duplex : Bool} {csr addr : Nat} {s : State} : Moves [idsCARILLON] false s (carRecord t kind cores duplex csr addr s) := by
  unfold carRecord
  extract_lets x1
  refine .via x1 (wr_moves rfl) fun h2 => ?_
  exact (.comp (wr_moves rfl) (.comp (wr_moves rfl) h2))

theorem carFail_moves {t w1 : Nat} {s : State} : Moves [idsTOCSIN, idsCARILLON] false s (carFail t w1 s) := by
  unfold carFail
  exact (.after carFault_moves (.after carEvt_moves (put_moves rfl) rfl rfl) rfl rfl)

theorem carRetire_moves {t c : Nat} {s : State} : Moves [idsCARILLON] false s (carRetire t c s) := by
  unfold carRetire
  extract_lets x1
  refine .via x1 (put_moves rfl) fun h2 => ?_
  exact (.after carCnt_moves (.after carEvt_moves h2 rfl rfl) rfl rfl)

theorem carOdd_moves {t c : Nat} {s : State} : Moves [idsTOCSIN, idsCARILLON] false s (carOdd t c s) := by
  unfold carOdd
  extract_lets n1 n2 x3 x4 x5
  refine .via x3 (.after carCnt_moves (.after carEvt_moves (put_moves rfl) rfl rfl) rfl rfl) fun h6 => ?_
  refine .via x4 (.after carRetire_moves (.comp (put_moves rfl) h6) rfl rfl) fun h7 => ?_
  refine .via x5 (.comp (put_moves rfl) h6) fun h8 => ?_
  exact (.ite (.after carFault_moves (.after carFault_moves h7 rfl rfl) rfl rfl) (.after carFault_moves h8 rfl rfl))

theorem execVoteMismatch_moves {t : Fin 2} {kind : Fin 3} {who : Fin 4} {csr : Nat} {addr : Word} {s : State} : MovesTo [idsTOCSIN, idsCARILLON] false s (execVoteMismatch t kind who csr addr s) := by
  unfold execVoteMismatch
  extract_lets n1 n2
  refine .next ?_
  refine .ite ?_ ?_
  · exact (.ite (.after carFail_moves (carRecord_moves.sub rfl rfl) rfl rfl) (.after carOdd_moves (carRecord_moves.sub rfl rfl) rfl rfl))
  · exact (.ite (.after carFail_moves (carRecord_moves.sub rfl rfl) rfl rfl) (.ite (.after carFail_moves (carRecord_moves.sub rfl rfl) rfl rfl) .refl))

theorem execResyncCopyStart_moves {t : Fin 2} {s : State} : MovesTo [idsCARILLON] false s (execResyncCopyStart t s) := by
  unfold execResyncCopyStart
  refine .next ?_
  exact (.ite (put_moves rfl) .refl)

theorem execResyncComplete_moves {t : Fin 2} {stall : Nat} {s : State} : MovesTo [idsCARILLON] false s (execResyncComplete t stall s) := by
  unfold execResyncComplete
  refine .next ?_
  extract_lets n1 x2 x3 n4 x5
  refine .via x2 updCar_moves fun h6 => ?_
  refine .via x3 (.comp (put_moves rfl) (.comp (put_moves rfl) h6)) fun h7 => ?_
  refine .via x5 (.comp (put_moves rfl) (.comp (put_moves rfl) h7)) fun h8 => ?_
  exact (.ite (.after carCnt_moves (.after carEvt_moves h8 rfl rfl) rfl rfl) .refl)

theorem execLbistComplete_moves {t : Fin 2} {pass : Bool} {s : State} : MovesTo [idsTOCSIN, idsCARILLON] false s (execLbistComplete t pass s) := by
  unfold execLbistComplete
  refine .next ?_
  extract_lets n1 x2 x3 x4 x5 x6 x7
  refine .via x2 (.comp (wr_moves rfl) (.comp (put_moves rfl) (put_moves rfl))) fun h8 => ?_
  refine .via x3 (.after carCnt_moves (.after carEvt_moves (.comp updCar_moves h8) rfl rfl) rfl rfl) fun h9 => ?_
  refine .via x4 (.after carRetire_moves (.comp (put_moves rfl) (.comp (put_moves rfl) h9)) rfl rfl) fun h10 => ?_
  refine .via x5 (.comp updCar_moves h10) fun h11 => ?_
  refine .via x6 (.comp (put_moves rfl) h11) fun h12 => ?_
  refine .via x7 (.after carCnt_moves (.after carEvt_moves h12 rfl rfl) rfl rfl) fun h13 => ?_
  exact (.ite (.ite (.comp (put_moves rfl) (.comp (put_moves rfl) h9)) (.after carFault_moves (.after carFault_moves h13 rfl rfl) rfl rfl)) .refl)

theorem checkerFault_moves {t : Nat} {s : State} : Moves [idsTOCSIN, idsCARILLON] false s (checkerFault t s) := by
  unfold checkerFault
  exact (.ite .refl (.after carFault_moves (.after carCnt_moves (.after carEvt_moves updCar_moves rfl rfl) rfl rfl) rfl rfl))

theorem laneFault_moves {t : Nat} {s : State} : Moves [idsTOCSIN, idsCARILLON] false s (laneFault t s) := by
  unfold laneFault
  exact (.after checkerFault_moves (put_moves rfl) rfl rfl)

theorem execCheckerLaneFault_moves {t : Fin 2} {output : Bool} {addr : Word} {s : State} : MovesTo [idsTOCSIN, idsCARILLON] false s (execCheckerLaneFault t output addr s) := by
  unfold execCheckerLaneFault
  extract_lets n1
  refine .next ?_
  exact (.ite .refl (.ite (.after carFail_moves (.after checkerFault_moves (carRecord_moves.sub rfl rfl) rfl rfl) rfl rfl) (laneFault_moves.sub rfl rfl)))

theorem carInject_moves {t : Nat} {bad : Bool} {s : State} : Moves [idsTOCSIN, idsCARILLON] false s (carInject t bad s) := by
  unfold carInject
  extract_lets x1
  refine .via x1 updCar_moves fun h2 => ?_
  exact (.ite h2 (.ite (.after laneFault_moves h2 rfl rfl) (.after carCnt_moves h2 rfl rfl)))

theorem carRotate_moves {t : Nat} {s : State} : Moves [idsCARILLON] false s (carRotate t s) := by
  unfold carRotate
  extract_lets x1
  refine .via x1 (.comp (put_moves rfl) (put_moves rfl)) fun h2 => ?_
  exact (.ite (.comp updCar_moves (.comp (put_moves rfl) h2)) .refl)

theorem tcmFails_moves {t ofs : Nat} {err : TcmErr} {s : State} :
    Moves [idsLATE, idsLATE_E, idsTOCSIN, idsCSR] false s (tcmFails t ofs err s) := by
  unfold tcmFails
  extract_lets a trap
  have h : ∀ c, Moves [idsLATE, idsLATE_E, idsTOCSIN, idsCSR] false s (trap c) := fun _ => .comp emit_moves updCar_moves
  clear_value trap
  cases err with
  | corrected => exact .refl
  | load => exact h _
  | fetch => exact h _
  | store => exact lateErr_moves.sub rfl rfl
  | bus q => exact reqFails_moves.sub rfl rfl

theorem execTcmEccError_moves {t : Fin 2} {ofs : Nat} {err : TcmErr} {s : State} : MovesTo [idsLATE, idsLATE_E, idsTOCSIN, idsCARILLON, idsCSR] false s (execTcmEccError t ofs err s) := by
  unfold execTcmEccError
  refine .next ?_
  extract_lets x1 x2
  refine .via x1 (.after carEvt_moves (incSat_moves rfl) rfl rfl) fun h3 => ?_
  refine .via x2 (.after carEvt_moves (.comp (put_moves rfl) (incSat_moves rfl)) rfl rfl) fun h4 => ?_
  exact (.ite (.after carFault_moves h3 rfl rfl) (.after tcmFails_moves (.after carFault_moves h4 rfl rfl) rfl rfl))

theorem setClaimed_moves {t x v : Nat} {s : State} : Moves B m s (setClaimed t x v s) := by
  unfold setClaimed
  exact updCar_moves

theorem carClaim_moves {t x : Nat} {s : State} : Moves [idsCARILLON] false s (carClaim t x s) := by
  unfold carClaim
  extract_lets n1 x2 x3
  refine .via x2 (put_moves rfl) fun h4 => ?_
  refine .via x3 (.ite (.comp dropIrq_moves h4) h4) fun h5 => ?_
  exact (.ite h5 (.comp setClaimed_moves h5))

theorem execCarIcClaim_moves {t x : Fin 2} {init : Init} {s : State} : MovesTo [idsLATE, idsLATE_E, idsTOCSIN, idsCARILLON, idsDENY] false s (execCarIcClaim t x init s) := by
  unfold execCarIcClaim
  extract_lets n1
  refine .next ?_
  exact (.ite .refl (.ite (refuseReq_moves.sub rfl rfl) (.ite (carClaim_moves.sub rfl rfl) .refl)))

theorem carComplete_moves {t x i : Nat} {s : State} : Moves B m s (carComplete t x i s) := by
  unfold carComplete
  exact setClaimed_moves

theorem execCarIcComplete_moves {t x : Fin 2} {init : Init} {value : Word} {s : State} : MovesTo [idsLATE, idsLATE_E, idsTOCSIN, idsDENY] false s (execCarIcComplete t x init value s) := by
  unfold execCarIcComplete
  extract_lets n1
  refine .next ?_
  exact (busWrite_moves rfl (fun _ => (.ite (denyWrite_moves.sub rfl rfl) (.ite carComplete_moves .refl))))

theorem carReset_moves {t : Nat} {s : State} : Moves [idsCARILLON] false s (carReset t s) := by
  unfold carReset
  extract_lets n1 x2 x3 x4 x5
  refine .via x2 endCause_moves fun h6 => ?_
  refine .via x3 (.comp (put_moves rfl) (.comp (put_moves rfl) (.comp (put_moves rfl) h6))) fun h7 => ?_
  refine .via x4 (.comp (put_moves rfl) h7) fun h8 => ?_
  refine .via x5 (.comp (clearWords_moves rfl) (.comp (clearWords_moves rfl) (.comp (clearWords_moves rfl) h8))) fun h9 => ?_
  exact (.comp updCar_moves (.comp (clearWords_moves rfl) h9))

theorem carRelease_moves {t : Nat} {s : State} : Moves [idsTOCSIN, idsCARILLON] false s (carRelease t s) := by
  unfold carRelease
  extract_lets n1 n2 x3
  refine .via x3 updCar_moves fun h4 => ?_
  refine .ite ?_ ?_
  · exact .refl
  · exact (.ite (.comp (put_moves rfl) h4) (.ite (.comp (put_moves rfl) h4) (.ite (.comp (put_moves rfl) (.comp (put_moves rfl) h4)) (.after carFail_moves h4 rfl rfl))))

end Sys2Proof.Machine
end

