-- ==== Sys2Proof/Laws/MovesVe.lean ====
section
/-! SUPPORT.  What each operation of the virtual endpoints and the Belfry can change at most (`Moves` of Laws/Moves.lean): one lemma per definition,
named after it, so that a proof cites it and never unfolds the definition. -/

namespace Sys2Proof.Machine

variable {B A : List (Nat × Nat)} {m k : Bool}

/-! ### BelBase -/

theorem random_moves {s : State} {n : Nat} : Moves B m s (State.random s n).2 :=
  ⟨fun _ _ _ => rfl, fun _ => rfl, id, rfl, Nat.le_add_right _ _, List.prefix_refl _⟩

theorem deriveIdent_moves {s : State} : Moves B m s (deriveIdent s) := by
  unfold deriveIdent
  extract_lets n1
  exact (.set .refl)

theorem showModuleId_moves {s : State} : Moves [idsVEMGR] false s (showModuleId s) := by
  unfold showModuleId
  exact (put64_moves rfl rfl)

theorem belStore_moves {s : State} {a : Nat} {d : List Nat} : Moves B true s (State.belStore s a d) := by
  unfold State.belStore
  exact (.comp memWrite_moves unpoison_moves)

theorem belEcc_moves {b : Nat × Nat} {s : State} : Moves [idsTOCSIN] false s (belEcc b s) := by
  unfold belEcc
  exact (.ite (.ite (memFault_moves.sub rfl rfl) (memFault_moves.sub rfl rfl)) .refl)

theorem callReq_moves {src : CallSrc} {s : State} : Moves [idsLATE, idsLATE_E, idsTOCSIN, idsIOMMU, idsVE, idsDENY] true s ((callReq src s).2) := by
  unfold callReq
  split
  · exact .refl
  · exact (veRead_moves.sub rfl rfl)

theorem cryReply_moves {n status : Nat} {data : List Nat} {s : State} : Moves [idsLATE, idsLATE_E, idsTOCSIN, idsIOMMU, idsVE, idsVE_ETH, idsVE_CAN, idsVE_CRY, idsDENY] true s (cryReply n status data s) := by
  unfold cryReply
  extract_lets n1 n2 x3
  refine .via x3 (put_moves rfl) fun h4 => ?_
  exact (.after veComplete_moves (.after veCounted_moves h4 rfl rfl) rfl rfl)

theorem callReply_moves {src : CallSrc} {status : Nat} {data : List Nat} {s : State} : Moves [idsLATE, idsLATE_E, idsTOCSIN, idsIOMMU, idsVE, idsVE_ETH, idsVE_CAN, idsVE_CRY, idsDENY, idsBCTL] true s (callReply src status data s) := by
  unfold callReply
  extract_lets x1 n2 x3
  refine .via x1 ?_ fun h4 => ?_
  · unfold x1
    exact (.ite (raiseSec_moves.sub rfl rfl) .refl)
  refine .via x3 (.set h4) fun h5 => ?_
  split
  · exact (.after cryReply_moves h5 rfl rfl)
  · extract_lets n6 n7 n8 n9 x10 x11 n12 x13 x14
    refine .via x10 (.comp (put_moves rfl) h5) fun h15 => ?_
    refine .via x11 (.comp (each_moves (fun _ _ => (put_moves rfl))) h15) fun h16 => ?_
    refine .via x13 (.set h16) fun h17 => ?_
    refine .via x14 (.comp (incWrap_moves rfl) (.comp (put_moves rfl) (.comp (put_moves rfl) h17))) fun h18 => ?_
    exact (.ite (.comp raiseIrq_moves h18) h18)

theorem callPump_moves {src : CallSrc} {z0 : Nat} {z1 : State} : Moves [idsLATE, idsLATE_E, idsTOCSIN, idsIOMMU, idsVE, idsVE_ETH, idsVE_CAN, idsVE_CRY, idsDENY, idsBCTL] true z1 (callPump src z0 z1) := by
  induction z0 generalizing z1 with
  | zero => exact .refl
  | succ k ih =>
    unfold callPump
    refine .ite .refl ?_
    have h : Moves [idsLATE, idsLATE_E, idsTOCSIN, idsIOMMU, idsVE, idsVE_ETH, idsVE_CAN, idsVE_CRY, idsDENY, idsBCTL] true z1 (callReq src z1).2 := callReq_moves.sub rfl rfl
    generalize callReq src z1 = r at h
    rcases r with ⟨_ | q, u⟩
    · exact .comp ih (.comp callReply_moves h)
    · exact .ite h (.comp ih (.comp callReply_moves h))

theorem mbxPump_moves {z0 : Nat} {z1 : State} : Moves [idsLATE, idsLATE_E, idsTOCSIN, idsIOMMU, idsVE, idsVE_ETH, idsVE_CAN, idsVE_CRY, idsDENY, idsBCTL] true z1 (mbxPump z0 z1) := by
  induction z0 generalizing z1 with
  | zero => exact .refl
  | succ k ih =>
    unfold mbxPump
    split
    · exact .refl
    · exact .ite (.comp ih callPump_moves) callPump_moves

theorem belPump_moves {src : CallSrc} {s : State} : Moves [idsLATE, idsLATE_E, idsTOCSIN, idsIOMMU, idsVE, idsVE_ETH, idsVE_CAN, idsVE_CRY, idsDENY, idsBCTL] true s (belPump src s) := by
  unfold belPump
  split
  · exact (mbxPump_moves.sub rfl rfl)
  · exact (callPump_moves.sub rfl rfl)

theorem belResetPart_moves {p : Nat} {s : State} : Moves B m s (belResetPart p s) := by
  unfold belResetPart
  extract_lets n1
  exact (.set .refl)

/-! ### Ve -/

theorem moreCells_moves {f : Nat} {octets : List Nat} {z0 : Nat} {z1 : State} :
    Moves [idsLATE, idsLATE_E, idsTOCSIN, idsSWITCH, idsEPORT, idsTIME, idsIOMMU, idsVE, idsVE_ETH, idsVE_CAN, idsVE_CRY, idsDENY] true z1
      (moreCells f octets z0 z1) := by
  induction z0 generalizing octets z1 with
  | zero => exact .refl
  | succ k ih =>
    unfold moreCells
    exact .ite .refl (.comp ih nextCell_moves)

theorem swInject_moves {p : Nat} {octets : List Nat} {len : Nat} {origin : Option TxOrigin} {fcsOk : Bool} {s : State} : Moves [idsLATE, idsLATE_E, idsTOCSIN, idsSWITCH, idsEPORT, idsTIME, idsIOMMU, idsVE, idsVE_ETH, idsVE_CAN, idsVE_CRY, idsDENY] true s (swInject p octets len origin fcsOk s) := by
  unfold swInject
  extract_lets x1 x2
  refine .via x1 (firstCell_moves.sub rfl rfl) fun h3 => ?_
  refine .via x2 (firstCell_moves.sub rfl rfl) fun h4 => ?_
  refine .ite ?_ ?_
  · split
    · exact (.after veTxDone_moves h3 rfl rfl)
    · exact h3
  · split
    · exact h4
    · exact (.after endFrame_moves (.after moreCells_moves h4 rfl rfl) rfl rfl)

theorem txDescs_moves {n i : Nat} {first : Bool} {z0 : Nat} {z1 : State} :
    Moves [idsLATE, idsLATE_E, idsTOCSIN, idsIOMMU, idsVE, idsDENY] true z1 (txDescs n i first z0 z1).2.2 := by
  induction z0 generalizing i first z1 with
  | zero => exact .refl
  | succ k ih =>
    unfold txDescs
    extract_lets a
    have h : Moves [idsLATE, idsLATE_E, idsTOCSIN, idsIOMMU, idsVE, idsDENY] true z1 (veRead n 0 a 32 z1).2 := veRead_moves
    generalize veRead n 0 a 32 z1 = r at h
    rcases r with ⟨_ | d, u⟩
    · exact h
    · exact .ite2 h (.ite2 h (.ite2 h (.comp ih h)))

theorem txBuffers_moves {n : Nat} {z0 : List (List Nat)} {z1 : State} :
    Moves [idsLATE, idsLATE_E, idsTOCSIN, idsIOMMU, idsVE, idsDENY] true z1 (txBuffers n z0 z1).2.2 := by
  induction z0 generalizing z1 with
  | nil => exact .refl
  | cons d l ih =>
    unfold txBuffers
    have h : Moves [idsLATE, idsLATE_E, idsTOCSIN, idsIOMMU, idsVE, idsDENY] true z1
        (veRead n 1 (leNat (d.take 8)) (descLen d) z1).2 := veRead_moves
    generalize veRead n 1 (leNat (d.take 8)) (descLen d) z1 = r at h
    rcases r with ⟨_ | o, u⟩
    · exact h
    · exact .comp ih h

theorem txFrame_moves {n : Nat} {ds : List (List Nat)} {s : State} : Moves [idsLATE, idsLATE_E, idsTOCSIN, idsSWITCH, idsEPORT, idsTIME, idsIOMMU, idsVE, idsVE_ETH, idsVE_CAN, idsVE_CRY, idsDENY] true s (txFrame n ds s) := by
  unfold txFrame
  extract_lets n1 n2 n3 n4 n5 r6 x7 n8 x9 n10
  refine .via r6.2.2 (txBuffers_moves.sub rfl rfl) fun h11 => ?_
  refine .via x7 h11 fun h12 => ?_
  refine .via x9 ?_ fun h13 => ?_
  · unfold x9
    exact (.ite (.after swInject_moves h12 rfl rfl) h12)
  exact (.ite (ethTxDone_moves.sub rfl rfl) (.ite (.after ethTxDone_moves h12 rfl rfl) (.ite (.after ethTxDone_moves h13 rfl rfl) (.after swInject_moves h12 rfl rfl))))

theorem ethTx_moves {n : Nat} {s : State} : Moves [idsLATE, idsLATE_E, idsTOCSIN, idsSWITCH, idsEPORT, idsTIME, idsIOMMU, idsVE, idsVE_ETH, idsVE_CAN, idsVE_CRY, idsDENY] true s (ethTx n s) := by
  unfold ethTx
  extract_lets n1 n2 r3 x4 n5 x6 x7 n8 r9 n10
  refine .via r3.2.2 (txDescs_moves.sub rfl rfl) fun h11 => ?_
  refine .via x4 h11 fun h12 => ?_
  refine .via x6 (.comp (put_moves rfl) h12) fun h13 => ?_
  refine .via x7 (.comp updVe_moves h13) fun h14 => ?_
  refine .via r9.2 (.comp draw_moves h14) fun h15 => ?_
  refine .ite ?_ ?_
  · exact .refl
  · refine .ite ?_ ?_
    · exact .refl
    · split
      · exact (.after txFrame_moves h14 rfl rfl)
      · exact (.after ethTxDone_moves (.ite h15 h14) rfl rfl)
      · exact (.after ethTxDone_moves h14 rfl rfl)

theorem execEthTxFrameFetch_moves {n : Fin 1024} {s : State} : MovesTo [idsLATE, idsLATE_E, idsTOCSIN, idsSWITCH, idsEPORT, idsTIME, idsIOMMU, idsVE, idsVE_ETH, idsVE_CAN, idsVE_CRY, idsDENY] true s (execEthTxFrameFetch n s) := by
  unfold execEthTxFrameFetch
  refine .next ?_
  exact (.ite (ethTx_moves.sub rfl rfl) .refl)

theorem can1Rx_moves {n : Nat} {x : CanFrame} {s : State} : Moves [idsLATE, idsLATE_E, idsTOCSIN, idsIOMMU, idsVE, idsVE_CAN, idsDENY] true s (can1Rx n x s) := by
  unfold can1Rx
  extract_lets n1 r2 n3 r4 x5
  refine .via r2.2 draw_moves fun h6 => ?_
  refine .via r4.2 (.after veWrite_moves h6 rfl rfl) fun h7 => ?_
  refine .via x5 (.comp (put_moves rfl) h7) fun h8 => ?_
  exact (.ite .refl (.ite (.after veEvent_moves (.comp (put_moves rfl) h8) rfl rfl) h7))

theorem can1Send_moves {n e : Nat} {s : State} :
    Moves [idsLATE, idsLATE_E, idsTOCSIN, idsSWITCH, idsEPORT, idsTIME, idsIOMMU, idsVE, idsVE_ETH, idsVE_CAN, idsVE_CRY, idsDENY] true s
      (can1Send n e s) := by
  unfold can1Send
  extract_lets a
  have h := veRead_moves (n := n) (src := 0) (iova := a) (len := 16) (s := s)
  generalize veRead n 0 a 16 s = r at h
  rcases r with ⟨_ | o, u⟩
  · exact .after can1Done_moves (h.sub rfl rfl) rfl rfl
  · dsimp only
    refine .ite (.after can1Done_moves (h.sub rfl rfl) rfl rfl) ?_
    have g := veRead_moves (n := n) (src := 1) (iova := a + 16) (len := bitsOf (descWord o 2) 11 0) (s := u)
    generalize veRead n 1 (a + 16) (bitsOf (descWord o 2) 11 0) u = q at g
    rcases q with ⟨_ | d, v⟩
    · exact .after can1Done_moves (.after g (h.sub rfl rfl) rfl rfl) rfl rfl
    · exact .comp swInject_moves (.comp updVe_moves (.after g (h.sub rfl rfl) rfl rfl))

theorem can1Pump_moves {n z0 : Nat} {z1 : State} :
    Moves [idsLATE, idsLATE_E, idsTOCSIN, idsSWITCH, idsEPORT, idsTIME, idsIOMMU, idsVE, idsVE_ETH, idsVE_CAN, idsVE_CRY, idsDENY] true z1
      (can1Pump n z0 z1) := by
  induction z0 generalizing z1 with
  | zero => exact .refl
  | succ k ih =>
    unfold can1Pump
    split
    · exact .refl
    · exact .ite (.comp ih (.comp can1Send_moves updVe_moves)) .refl

theorem can1Submit_moves {n e : Nat} {s : State} : Moves [idsLATE, idsLATE_E, idsTOCSIN, idsSWITCH, idsEPORT, idsTIME, idsIOMMU, idsVE, idsVE_ETH, idsVE_CAN, idsVE_CRY, idsDENY] true s (can1Submit n e s) := by
  unfold can1Submit
  exact (.ite .refl (.after can1Pump_moves updVe_moves rfl rfl))

theorem can1Abort_moves {n e : Nat} {s : State} : Moves [idsLATE, idsLATE_E, idsTOCSIN, idsIOMMU, idsVE, idsVE_ETH, idsVE_CAN, idsVE_CRY, idsDENY] true s (can1Abort n e s) := by
  unfold can1Abort
  exact (.ite (.after can1Done_moves updVe_moves rfl rfl) .refl)

theorem ethDeliver_moves {n vid : Nat} {x : SwRx} {s : State} :
    Moves [idsLATE, idsLATE_E, idsTOCSIN, idsIOMMU, idsVE, idsVE_ETH, idsVE_CAN, idsVE_CRY, idsDENY] true s
      (ethDeliver n vid x s) := by
  unfold ethDeliver
  extract_lets i r u next
  have h : Moves [idsLATE, idsLATE_E, idsTOCSIN, idsIOMMU, idsVE, idsVE_ETH, idsVE_CAN, idsVE_CRY, idsDENY] true s u := ethRx_moves
  have hn : ∀ v, Moves [idsLATE, idsLATE_E, idsTOCSIN, idsIOMMU, idsVE, idsVE_ETH, idsVE_CAN, idsVE_CRY, idsDENY] true v (next v) :=
    fun _ => updVe_moves
  clear_value next u r
  split
  · exact .comp (hn _) (.comp (when_moves fun _ => incSat_moves rfl) (.comp (incSat_moves rfl) h))
  · exact .comp (incSat_moves rfl) h
  · exact .comp (hn _) (.comp (incSat_moves rfl) h)
  · exact .comp (hn _) h

theorem rxCounted_moves {n : Nat} {s : State} : Moves [idsVE] false s (rxCounted n s) := by
  unfold rxCounted
  exact (.ite (incSat_moves rfl) .refl)

theorem ethRxFrame_moves {p : Nat} {s : State} :
    Moves [idsLATE, idsLATE_E, idsTOCSIN, idsSWITCH, idsIOMMU, idsVEMGR, idsVE, idsVE_ETH, idsVE_CAN, idsVE_CRY, idsDENY] true s
      (ethRxFrame p s) := by
  unfold ethRxFrame
  split
  · exact .refl
  · next x u h =>
    have hu := rxTake_moves h
    extract_lets dst vid eth on tun u1 u2 u3
    refine .via u1 (.comp (each_moves fun _ _ => .comp (incSat_moves rfl) (incSat_moves rfl)) (hu.sub rfl rfl)) fun h1 => ?_
    refine .via u2 (.ite (.comp (incSat_moves rfl) h1) h1) fun h2 => ?_
    refine .via u3 (.comp (each_moves fun _ _ => (.comp (rxCounted_moves.sub rfl rfl) (ethDeliver_moves.sub rfl rfl))) h2) fun h3 => ?_
    exact .comp (each_moves fun _ _ => .ite .refl (.comp (rxCounted_moves.sub rfl rfl) (can1Rx_moves.sub rfl rfl))) h3

theorem execEthRxFrame_moves {p : Fin 3} {s : State} : MovesTo [idsLATE, idsLATE_E, idsTOCSIN, idsSWITCH, idsIOMMU, idsVEMGR, idsVE, idsVE_ETH, idsVE_CAN, idsVE_CRY, idsDENY] true s (execEthRxFrame p s) := by
  unfold execEthRxFrame
  refine .next ?_
  exact (.ite (ethRxFrame_moves.sub rfl rfl) .refl)

theorem iogMirror_moves {n : Nat} {edges : Bool} {s : State} : Moves [idsLATE, idsLATE_E, idsTOCSIN, idsIOMMU, idsVE, idsVE_IOG, idsDENY] true s (iogMirror n edges s) := by
  unfold iogMirror
  extract_lets n1 x2
  refine .via x2 ?_ fun h3 => ?_
  · unfold x2
    refine .comp (each_moves (fun a4 s5 => ?_)) ?_
    · extract_lets n6 n7 x8
      refine .via x8 (put_moves rfl) fun h9 => ?_
      exact (.ite (.comp (put_moves rfl) h9) h9)
    · exact .refl
  exact (.ite (.after veEvent_moves h3 rfl rfl) h3)

theorem iogMirrors_moves {s : State} : Moves [idsLATE, idsLATE_E, idsTOCSIN, idsIOMMU, idsVE, idsVE_IOG, idsDENY] true s (iogMirrors s) := by
  unfold iogMirrors
  exact (each_moves (fun _ _ => (iogMirror_moves.sub rfl rfl)))

theorem execMfiSample_moves {i : Fin 96} {raw ofs : Nat} {s : State} : MovesTo [idsLATE, idsLATE_E, idsTOCSIN, idsIOX, idsIOMMU, idsVE, idsVE_IOG, idsDENY] true s (execMfiSample i raw ofs s) := by
  unfold execMfiSample
  refine .next ?_
  exact (.after iogMirrors_moves (mfiSample_moves.sub rfl rfl) rfl rfl)

theorem iogForward_moves {n k v : Nat} {s : State} : Moves [idsLATE, idsLATE_E, idsTOCSIN, idsIOX, idsVE_IOG, idsDENY] false s (iogForward n k v s) := by
  unfold iogForward
  extract_lets n1 x2 n3 n4
  refine .via x2 (put_moves rfl) fun h5 => ?_
  refine .ite ?_ ?_
  · exact h5
  · split
    · exact (.ite (.comp (busWrite_moves rfl (fun _ => (lsoWrite_moves.sub rfl rfl))) h5) h5)
    · exact (.ite (.comp (busWrite_moves rfl (fun _ => (brWrite_moves.sub rfl rfl))) h5) h5)
    · exact (.ite (.comp (busWrite_moves rfl (fun _ => (ssupWrite_moves.sub rfl rfl))) h5) h5)
    · exact h5

theorem pwgPub_moves {n k v : Nat} {s : State} : Moves B m s (pwgPub n k v s) := by
  unfold pwgPub
  extract_lets n1
  exact (.ite (.comp updVe_moves publish_moves) .refl)

theorem pwgRun_moves {n : Nat} {s : State} : Moves B m s (pwgRun n s) := by
  unfold pwgRun
  exact (.ite (each_moves (fun _ _ => pwgPub_moves)) .refl)

theorem pwgBeat_moves {n : Nat} {s : State} : Moves [idsVE] false s (pwgBeat n s) := by
  unfold pwgBeat
  split
  · exact pwgRun_moves
  · exact (addSat_moves rfl)
  · refine .ite ?_ ?_
    · split
      · exact .refl
      · exact (each_moves (fun _ _ => pwgPub_moves))
      · exact (each_moves (fun _ _ => pwgPub_moves))
    · exact .refl

theorem vePublish_moves {s : State} : Moves [idsVE] false s (vePublish s) := by
  unfold vePublish
  exact (each_moves (fun _ _ => (pwgBeat_moves.sub rfl rfl)))

theorem tmrTick_moves {n nbi : Nat} {s : State} : Moves [idsLATE, idsLATE_E, idsTOCSIN, idsIOMMU, idsVE, idsVE_TMR, idsDENY] true s (tmrTick n nbi s) := by
  unfold tmrTick
  exact (.ite (.after veEvent_moves (put64_moves rfl rfl) rfl rfl) .refl)

theorem veBeat_moves {s : State} : Moves [idsLATE, idsLATE_E, idsTOCSIN, idsSWITCH, idsEPORT, idsTIME, idsIOMMU, idsVE, idsVE_ETH, idsVE_CAN, idsVE_TMR, idsVE_CRY, idsDENY] true s (veBeat s) := by
  unfold veBeat
  refine .ite ?_ ?_
  · exact .refl
  · refine .comp (each_moves (fun a1 s2 => ?_)) ?_
    · extract_lets x3 x4 x5
      refine .via x3 updVe_moves fun h6 => ?_
      refine .via x4 (.after veFlush_moves h6 rfl rfl) fun h7 => ?_
      refine .via x5 ?_ fun h8 => ?_
      · unfold x5
        exact (.ite (.after can1Pump_moves h7 rfl rfl) h7)
      exact (.ite (.ite (.after tmrTick_moves h8 rfl rfl) h8) h6)
    · exact .refl

theorem pwgKick_moves {n : Nat} {s : State} : Moves B m s (pwgKick n s) := by
  unfold pwgKick
  exact updVe_moves

theorem pwgCmd_moves {n k v : Nat} {s : State} : Moves [idsVE_PWG] false s (pwgCmd n k v s) := by
  unfold pwgCmd
  exact (.comp updVe_moves (put_moves rfl))

theorem markDue_moves {n : Nat} {f : List Nat → List Nat} {s : State} : Moves B m s (markDue n f s) := by
  unfold markDue
  extract_lets n1
  exact (.set .refl)

theorem dropVeFrames_moves {n : Nat} {s : State} : Moves [idsLATE, idsLATE_E, idsTOCSIN, idsSWITCH, idsEPORT, idsIOMMU, idsVE, idsVE_ETH, idsVE_CAN, idsVE_CRY, idsDENY] true s (dropVeFrames n s) := by
  unfold dropVeFrames
  exact (.comp markDue_moves (each_moves (fun _ _ => (each_moves (fun _ _ => (dropCopy_moves.sub rfl rfl))))))

theorem abortCry_moves {n z0 : Nat} {z1 : State} :
    Moves [idsLATE, idsLATE_E, idsTOCSIN, idsIOMMU, idsVE, idsVE_ETH, idsVE_CAN, idsVE_CRY, idsDENY] true z1 (abortCry n z0 z1) := by
  induction z0 generalizing z1 with
  | zero => exact .refl
  | succ k ih =>
    unfold abortCry
    exact .ite .refl (.comp ih cryReply_moves)

theorem veAbort_moves {n : Nat} {s : State} : Moves [idsLATE, idsLATE_E, idsTOCSIN, idsSWITCH, idsEPORT, idsCAN, idsIOMMU, idsVE, idsVE_ETH, idsVE_CAN, idsVE_CRY, idsDENY] true s (veAbort n s) := by
  unfold veAbort
  extract_lets x1 n2
  refine .via x1 updVe_moves fun h3 => ?_
  split
  · exact (.after dropVeFrames_moves h3 rfl rfl)
  · exact (.ite (.comp (each_moves (fun _ _ => (canComplete_moves.sub rfl rfl))) h3) (.after dropVeFrames_moves h3 rfl rfl))
  · refine .comp (each_moves (fun a4 s5 => ?_)) ?_
    · extract_lets n6
      exact (.ite updSlot_moves .refl)
    · exact h3
  · exact (.after abortCry_moves h3 rfl rfl)
  · exact h3

theorem veResult_moves {n op res : Nat} {s : State} : Moves [idsVEMGR, idsVE] false s (veResult n op res s) := by
  unfold veResult
  extract_lets x1 x2 n3
  refine .via x1 updVe_moves fun h4 => ?_
  refine .via x2 (.comp (put_moves rfl) (.comp (put_moves rfl) h4)) fun h5 => ?_
  exact (.comp (put_moves rfl) h5)

theorem veQuiescedNow_moves {n : Nat} {s : State} : Moves [idsLATE, idsLATE_E, idsTOCSIN, idsIOMMU, idsVEMGR, idsVE, idsDENY] true s (veQuiescedNow n s) := by
  unfold veQuiescedNow
  extract_lets n1 n2 x3 x4 x5 x6
  refine .via x3 updVe_moves fun h7 => ?_
  refine .via x4 ?_ fun h8 => ?_
  · unfold x4
    exact (.ite (.after veResult_moves h7 rfl rfl) h7)
  refine .via x5 (.after veGo_moves h8 rfl rfl) fun h9 => ?_
  refine .via x6 ?_ fun h10 => ?_
  · unfold x6
    exact (.ite (.after veFault_moves h9 rfl rfl) h9)
  exact (.ite h10 (.after veFault_moves (.comp (put_moves rfl) h10) rfl rfl))

theorem quiesceType_moves {n : Nat} {s : State} : Moves [idsLATE, idsLATE_E, idsTOCSIN, idsCAN, idsIOMMU, idsVE, idsVE_ETH, idsVE_CAN, idsVE_CRY, idsDENY] true s (quiesceType n s) := by
  unfold quiesceType
  split
  · exact markDue_moves
  · exact (.ite (canSlotEn_moves.sub rfl rfl) (.comp (each_moves (fun _ _ => (can1Done_moves.sub rfl rfl))) (.comp markDue_moves updVe_moves)))
  · exact updLin_moves
  · exact pwgRun_moves
  · exact .refl

theorem veQuiesce_moves {n : Nat} {s : State} : Moves [idsLATE, idsLATE_E, idsTOCSIN, idsCAN, idsIOMMU, idsVEMGR, idsVE, idsVE_ETH, idsVE_CAN, idsVE_CRY, idsDENY] true s (veQuiesce n s) := by
  unfold veQuiesce
  extract_lets x1
  refine .via x1 (each_moves (fun _ _ => (put_moves rfl))) fun h2 => ?_
  exact (.after quiesceType_moves (.comp updVe_moves (.after veGo_moves h2 rfl rfl)) rfl rfl)

theorem execQuiesceDrainDone_moves {n : Fin 1024} {s : State} : MovesTo [idsLATE, idsLATE_E, idsTOCSIN, idsIOMMU, idsVEMGR, idsVE, idsDENY] true s (execQuiesceDrainDone n s) := by
  unfold execQuiesceDrainDone
  refine .next ?_
  exact (.ite (.after mgrLevels_moves (veQuiescedNow_moves.sub rfl rfl) rfl rfl) .refl)

theorem drainLimit_moves {n : Nat} {s : State} : Moves [idsLATE, idsLATE_E, idsTOCSIN, idsSWITCH, idsEPORT, idsCAN, idsIOMMU, idsVEMGR, idsVE, idsVE_ETH, idsVE_CAN, idsVE_CRY, idsDENY] true s (drainLimit n s) := by
  unfold drainLimit
  exact (.ite .refl (.ite (veQuiescedNow_moves.sub rfl rfl) (.ite .refl (.after veQuiescedNow_moves (veAbort_moves.sub rfl rfl) rfl rfl))))

theorem execQuiesceDrainLimit_moves {n : Fin 1024} {s : State} : MovesTo [idsLATE, idsLATE_E, idsTOCSIN, idsSWITCH, idsEPORT, idsCAN, idsIOMMU, idsVEMGR, idsVE, idsVE_ETH, idsVE_CAN, idsVE_CRY, idsDENY] true s (execQuiesceDrainLimit n s) := by
  unfold execQuiesceDrainLimit
  refine .next ?_
  exact (.ite (.after mgrLevels_moves (drainLimit_moves.sub rfl rfl) rfl rfl) .refl)

theorem veForce_moves {n : Nat} {s : State} : Moves [idsLATE, idsLATE_E, idsTOCSIN, idsSWITCH, idsEPORT, idsCAN, idsIOMMU, idsVEMGR, idsVE, idsVE_ETH, idsVE_CAN, idsVE_CRY, idsDENY] true s (veForce n s) := by
  unfold veForce
  extract_lets x1 x2
  refine .via x1 ?_ fun h3 => ?_
  · unfold x1
    exact (.ite (veQuiesce_moves.sub rfl rfl) .refl)
  refine .via x2 ?_ fun h4 => ?_
  · unfold x2
    exact (.ite (.after veAbort_moves h3 rfl rfl) h3)
  exact (.ite (.after veFault_moves (.after veQuiescedNow_moves h4 rfl rfl) rfl rfl) .refl)

theorem veResetPart_moves {p : Nat} {s : State} : Moves [idsLATE, idsLATE_E, idsTOCSIN, idsSWITCH, idsEPORT, idsCAN, idsIOMMU, idsVEMGR, idsVE, idsVE_ETH, idsVE_CAN, idsVE_CRY, idsDENY] true s (veResetPart p s) := by
  unfold veResetPart
  exact (.after mgrLevels_moves (each_moves (fun _ _ => (veForce_moves.sub rfl rfl))) rfl rfl)

theorem veCleared_blocks : ∀ r ∈ veCleared,
    inBlocks [idsVE, idsVE_ETH, idsVE_CAN, idsVE_LIN, idsVE_IOG, idsVE_PWG, idsVE_TMR, idsVE_CRY, idsVEMGR] r.id = true := by
  have h : veCleared.all (fun r =>
      inBlocks [idsVE, idsVE_ETH, idsVE_CAN, idsVE_LIN, idsVE_IOG, idsVE_PWG, idsVE_TMR, idsVE_CRY, idsVEMGR] r.id) = true := by
    decide
  exact List.all_eq_true.1 h

theorem veClear_moves {n : Nat} {s : State} :
    Moves [idsVE, idsVE_ETH, idsVE_CAN, idsVE_LIN, idsVE_IOG, idsVE_PWG, idsVE_TMR, idsVE_CRY, idsVEMGR] false s
      (veClear n s) := by
  unfold veClear
  extract_lets x1 x2 i clr
  refine .via x1 (resetWords_moves fun q h => ?_) fun h1 => ?_
  · obtain ⟨r, hr, he⟩ := List.any_eq_true.1 h
    rw [Bool.and_eq_true, beq_iff_eq] at he
    rw [← he.1]
    exact veCleared_blocks r hr
  · exact .comp (put_moves rfl) (.comp (put_moves rfl) (.set h1))

theorem veUnassign_moves {n : Nat} {s : State} : Moves [idsLATE, idsLATE_E, idsTOCSIN, idsIOMMU, idsVEMGR, idsVE, idsVE_ETH, idsVE_CAN, idsVE_LIN, idsVE_IOG, idsVE_PWG, idsVE_TMR, idsVE_CRY, idsDENY] true s (veUnassign n s) := by
  unfold veUnassign
  extract_lets x1
  refine .via x1 (veClear_moves.sub rfl rfl) fun h2 => ?_
  exact (.after veGo_moves (.comp (put_moves rfl) (.comp (put_moves rfl) h2)) rfl rfl)

theorem execVeResetComplete_moves {n : Fin 1024} {s : State} : MovesTo [idsLATE, idsLATE_E, idsTOCSIN, idsIOMMU, idsVEMGR, idsVE, idsVE_ETH, idsVE_CAN, idsVE_LIN, idsVE_IOG, idsVE_PWG, idsVE_TMR, idsVE_CRY, idsDENY] true s (execVeResetComplete n s) := by
  unfold execVeResetComplete
  refine .next ?_
  exact (.ite (.after mgrLevels_moves (.after veResult_moves (.after veGo_moves (veClear_moves.sub rfl rfl) rfl rfl) rfl rfl) rfl rfl) .refl)

theorem veActivate_moves {n : Nat} {s : State} : Moves [idsLATE, idsLATE_E, idsTOCSIN, idsCAN, idsIOMMU, idsVEMGR, idsVE, idsVE_IOG, idsDENY] true s (veActivate n s) := by
  unfold veActivate
  extract_lets x1 x2
  refine .via x1 updVe_moves fun h3 => ?_
  refine .via x2 ?_ fun h4 => ?_
  · unfold x2
    split
    · exact (.ite (.after canSlotEn_moves h3 rfl rfl) h3)
    · exact (.comp updLin_moves h3)
    · exact (.after iogMirror_moves h3 rfl rfl)
    · exact h3
  exact (.after veGo_moves h4 rfl rfl)

theorem veAssign_moves {n ty sub : Nat} {s : State} : Moves [idsLATE, idsLATE_E, idsTOCSIN, idsIOMMU, idsVEMGR, idsVE, idsDENY] true s (veAssign n ty sub s) := by
  unfold veAssign
  exact (.after veGo_moves (.comp (put_moves rfl) (put_moves rfl)) rfl rfl)

theorem veStart_moves {n op : Nat} {s : State} : Moves B m s (veStart n op s) := by
  unfold veStart
  exact updVe_moves

theorem mgrRun_moves {m_ op n : Nat} {s : State} : Moves [idsLATE, idsLATE_E, idsTOCSIN, idsCAN, idsIOMMU, idsVEMGR, idsVE, idsVE_ETH, idsVE_CAN, idsVE_LIN, idsVE_IOG, idsVE_PWG, idsVE_TMR, idsVE_CRY, idsDENY] true s ((mgrRun m_ op n s).2) := by
  unfold mgrRun
  extract_lets n1 n2
  refine .ite1 ?_ ?_
  · exact .refl
  · refine .ite1 ?_ ?_
    · exact .refl
    · refine .ite1 ?_ ?_
      · exact .refl
      · split
        · refine .ite1 ?_ ?_
          · exact .refl
          · refine .ite1 ?_ ?_
            · exact .refl
            · exact (veAssign_moves.sub rfl rfl)
        · refine .ite1 ?_ ?_
          · exact .refl
          · refine .ite1 ?_ ?_
            · exact .refl
            · exact (veActivate_moves.sub rfl rfl)
        · refine .ite1 ?_ ?_
          · exact (.after veQuiesce_moves veStart_moves rfl rfl)
          · exact .refl
        · refine .ite1 ?_ ?_
          · exact (.after veGo_moves (put64_moves rfl rfl) rfl rfl)
          · exact .refl
        · refine .ite1 ?_ ?_
          · exact (veGo_moves.sub rfl rfl)
          · exact .refl
        · refine .ite1 ?_ ?_
          · exact (.comp updVe_moves veStart_moves)
          · exact .refl
        · refine .ite1 ?_ ?_
          · exact (.comp updVe_moves veStart_moves)
          · exact .refl
        · refine .ite1 ?_ ?_
          · exact (.after veGo_moves veStart_moves rfl rfl)
          · exact .refl
        · refine .ite1 ?_ ?_
          · exact (veUnassign_moves.sub rfl rfl)
          · exact .refl
        · exact .refl

theorem mgrShow_moves {m_ : Nat} {r : Nat × State} : Moves [idsVEMGR] false r.2 (mgrShow m_ r) := by
  unfold mgrShow
  exact .comp mgrLevels_moves (.comp (put_moves rfl) (put_moves rfl))

theorem mgrGo_moves {m_ op : Nat} {v : Word} {s : State} :
    Moves [idsLATE, idsLATE_E, idsTOCSIN, idsCAN, idsIOMMU, idsVEMGR, idsVE, idsVE_ETH, idsVE_CAN, idsVE_LIN, idsVE_IOG, idsVE_PWG,
      idsVE_TMR, idsVE_CRY, idsDENY] true s (mgrGo m_ op v s) := by
  unfold mgrGo
  extract_lets n
  exact .after mgrShow_moves (.comp mgrRun_moves (.comp (put_moves rfl) (put_moves rfl))) rfl rfl

theorem mgrRow_moves {op m_ init : Nat} {v : Word} {s : State} : MovesTo [idsLATE, idsLATE_E, idsTOCSIN, idsCAN, idsIOMMU, idsVEMGR, idsVE, idsVE_ETH, idsVE_CAN, idsVE_LIN, idsVE_IOG, idsVE_PWG, idsVE_TMR, idsVE_CRY, idsDENY] true s (mgrRow op m_ init v s) := by
  unfold mgrRow
  refine .next ?_
  exact (busWrite_moves rfl (fun _ => (.ite (mgrGo_moves.sub rfl rfl) (denyWrite_moves.sub rfl rfl))))

theorem execAssign_moves {m_ : Fin 4} {init : Init} {value : Word} {s : State} : MovesTo [idsLATE, idsLATE_E, idsTOCSIN, idsCAN, idsIOMMU, idsVEMGR, idsVE, idsVE_ETH, idsVE_CAN, idsVE_LIN, idsVE_IOG, idsVE_PWG, idsVE_TMR, idsVE_CRY, idsDENY] true s (execAssign m_ init value s) := by
  unfold execAssign
  exact (mgrRow_moves.subTo rfl rfl)

theorem execActivate_moves {m_ : Fin 4} {init : Init} {value : Word} {s : State} : MovesTo [idsLATE, idsLATE_E, idsTOCSIN, idsCAN, idsIOMMU, idsVEMGR, idsVE, idsVE_ETH, idsVE_CAN, idsVE_LIN, idsVE_IOG, idsVE_PWG, idsVE_TMR, idsVE_CRY, idsDENY] true s (execActivate m_ init value s) := by
  unfold execActivate
  exact (mgrRow_moves.subTo rfl rfl)

theorem execQuiesce_moves {m_ : Fin 4} {init : Init} {value : Word} {s : State} : MovesTo [idsLATE, idsLATE_E, idsTOCSIN, idsCAN, idsIOMMU, idsVEMGR, idsVE, idsVE_ETH, idsVE_CAN, idsVE_LIN, idsVE_IOG, idsVE_PWG, idsVE_TMR, idsVE_CRY, idsDENY] true s (execQuiesce m_ init value s) := by
  unfold execQuiesce
  exact (mgrRow_moves.subTo rfl rfl)

theorem execFreeze_moves {m_ : Fin 4} {init : Init} {value : Word} {s : State} : MovesTo [idsLATE, idsLATE_E, idsTOCSIN, idsCAN, idsIOMMU, idsVEMGR, idsVE, idsVE_ETH, idsVE_CAN, idsVE_LIN, idsVE_IOG, idsVE_PWG, idsVE_TMR, idsVE_CRY, idsDENY] true s (execFreeze m_ init value s) := by
  unfold execFreeze
  exact (mgrRow_moves.subTo rfl rfl)

theorem execThaw_moves {m_ : Fin 4} {init : Init} {value : Word} {s : State} : MovesTo [idsLATE, idsLATE_E, idsTOCSIN, idsCAN, idsIOMMU, idsVEMGR, idsVE, idsVE_ETH, idsVE_CAN, idsVE_LIN, idsVE_IOG, idsVE_PWG, idsVE_TMR, idsVE_CRY, idsDENY] true s (execThaw m_ init value s) := by
  unfold execThaw
  exact (mgrRow_moves.subTo rfl rfl)

theorem execSave_moves {m_ : Fin 4} {init : Init} {value : Word} {s : State} : MovesTo [idsLATE, idsLATE_E, idsTOCSIN, idsCAN, idsIOMMU, idsVEMGR, idsVE, idsVE_ETH, idsVE_CAN, idsVE_LIN, idsVE_IOG, idsVE_PWG, idsVE_TMR, idsVE_CRY, idsDENY] true s (execSave m_ init value s) := by
  unfold execSave
  exact (mgrRow_moves.subTo rfl rfl)

theorem execRestore_moves {m_ : Fin 4} {init : Init} {value : Word} {s : State} : MovesTo [idsLATE, idsLATE_E, idsTOCSIN, idsCAN, idsIOMMU, idsVEMGR, idsVE, idsVE_ETH, idsVE_CAN, idsVE_LIN, idsVE_IOG, idsVE_PWG, idsVE_TMR, idsVE_CRY, idsDENY] true s (execRestore m_ init value s) := by
  unfold execRestore
  exact (mgrRow_moves.subTo rfl rfl)

theorem execVeReset_moves {m_ : Fin 4} {init : Init} {value : Word} {s : State} : MovesTo [idsLATE, idsLATE_E, idsTOCSIN, idsCAN, idsIOMMU, idsVEMGR, idsVE, idsVE_ETH, idsVE_CAN, idsVE_LIN, idsVE_IOG, idsVE_PWG, idsVE_TMR, idsVE_CRY, idsDENY] true s (execVeReset m_ init value s) := by
  unfold execVeReset
  exact (mgrRow_moves.subTo rfl rfl)

theorem execUnassign_moves {m_ : Fin 4} {init : Init} {value : Word} {s : State} : MovesTo [idsLATE, idsLATE_E, idsTOCSIN, idsCAN, idsIOMMU, idsVEMGR, idsVE, idsVE_ETH, idsVE_CAN, idsVE_LIN, idsVE_IOG, idsVE_PWG, idsVE_TMR, idsVE_CRY, idsDENY] true s (execUnassign m_ init value s) := by
  unfold execUnassign
  exact (mgrRow_moves.subTo rfl rfl)

theorem blobUnpack_moves {n : Nat} {z0 : List BlobItem} {z1 : Nat} {z2 : State}
    (h : ∀ i ∈ z0, inBlocks B i.fld.reg.id = true) : Moves B m z2 (blobUnpack n z0 z1 z2) := by
  induction z0 generalizing z1 z2 with
  | nil => exact .refl
  | cons i l ih =>
    exact .comp (ih fun j hj => h j (List.mem_cons_of_mem _ hj)) (put_moves (h i (List.mem_cons_self ..)))

theorem saveRun_moves {n : Nat} {s : State} : Moves [idsTOCSIN] true s (saveRun n s).2 := by
  unfold saveRun
  extract_lets a size
  split
  · exact .refl
  · refine .ite1 .refl (.ite1 (belEcc_moves.sub rfl rfl) ?_)
    extract_lets
    rename_i r u x k h hdr c
    have hr : Moves [idsTOCSIN] true s u := random_moves
    clear_value c hdr u
    exact .comp belStore_moves hr

theorem execSaveComplete_moves {n : Fin 1024} {s : State} : MovesTo [idsTOCSIN, idsVEMGR, idsVE] true s (execSaveComplete n s) := by
  unfold execSaveComplete
  refine .next ?_
  extract_lets r1
  refine .via r1.2 (saveRun_moves.sub rfl rfl) fun h2 => ?_
  exact (.ite (.after mgrLevels_moves (.after veResult_moves h2 rfl rfl) rfl rfl) .refl)

theorem blobItems_blocks : ∀ t, ∀ i ∈ blobCommon ++ blobType t,
    inBlocks [idsVE, idsVE_ETH, idsVE_CAN, idsVE_LIN, idsVE_IOG, idsVE_PWG, idsVE_TMR, idsVE_CRY] i.fld.reg.id = true := by
  intro t
  have h : (blobCommon ++ blobType t).all (fun i =>
      inBlocks [idsVE, idsVE_ETH, idsVE_CAN, idsVE_LIN, idsVE_IOG, idsVE_PWG, idsVE_TMR, idsVE_CRY] i.fld.reg.id) = true := by
    unfold blobType
    split <;> decide
  exact List.all_eq_true.1 h

theorem restoreRun_moves {n : Nat} {s : State} :
    Moves [idsLATE, idsLATE_E, idsTOCSIN, idsIOMMU, idsVEMGR, idsVE, idsVE_ETH, idsVE_CAN, idsVE_LIN, idsVE_IOG, idsVE_PWG,
      idsVE_TMR, idsVE_CRY, idsDENY] true s (restoreRun n s).2 := by
  unfold restoreRun
  extract_lets a len b u total
  refine .ite1 .refl (.ite1 (belEcc_moves.sub rfl rfl) (.ite1 .refl ?_))
  clear_value total u b len a
  split
  · exact .refl
  · refine .ite1 .refl ?_
    split
    · exact .refl
    · refine .ite1 .refl (.ite1 .refl (.ite1 .refl (.ite1 .refl ?_)))
      extract_lets s'
      refine .ite1 .refl ?_
      refine .after veGo_moves (.comp (wr_moves rfl) (.comp (wr_moves rfl) ?_)) rfl rfl
      exact (blobUnpack_moves (m := false) (blobItems_blocks _)).sub rfl rfl

theorem restoreFault_moves {n res : Nat} {s : State} : Moves [idsTOCSIN] false s (restoreFault n res s) := by
  unfold restoreFault
  exact (.ite (veFault_moves.sub rfl rfl) .refl)

theorem execRestoreComplete_moves {n : Fin 1024} {s : State} : MovesTo [idsLATE, idsLATE_E, idsTOCSIN, idsIOMMU, idsVEMGR, idsVE, idsVE_ETH, idsVE_CAN, idsVE_LIN, idsVE_IOG, idsVE_PWG, idsVE_TMR, idsVE_CRY, idsDENY] true s (execRestoreComplete n s) := by
  unfold execRestoreComplete
  refine .next ?_
  extract_lets r1
  refine .via r1.2 ?_ fun h2 => ?_
  · unfold r1
    refine .ite1 ?_ ?_
    · exact (restoreRun_moves.sub rfl rfl)
    · exact .refl
  exact (.ite (.after mgrLevels_moves (.after restoreFault_moves (.after veResult_moves h2 rfl rfl) rfl rfl) rfl rfl) .refl)

theorem pageWrite_moves {n init a : Nat} {user mgr stateOk : Bool} {eff : State → State} {s : State} (hB : subBlocks [idsLATE, idsLATE_E, idsTOCSIN, idsVE, idsDENY] B = true) (h_eff : ∀ y0, Moves B m y0 (eff y0)) : Moves B m s (pageWrite n init a user mgr stateOk eff s) := by
  unfold pageWrite
  exact (busWrite_moves (subTrans rfl hB) (fun _ => (.ite (denyWrite_moves.sub (subTrans rfl hB) rfl) (.ite .refl (.ite (put_moves (inTrans rfl hB)) (h_eff _))))))

theorem idxErr_moves {n : Nat} {s : State} : Moves [idsTOCSIN, idsVE] false s (idxErr n s) := by
  unfold idxErr
  extract_lets x1
  refine .via x1 (put_moves rfl) fun h2 => ?_
  exact (.ite h2 (.after veFault_moves (.comp updVe_moves h2) rfl rfl))

theorem produce_moves {n : Nat} {wi ai : Fld} {size v : Nat} {then_ : State → State} {s : State} (hB : subBlocks [idsTOCSIN, idsVE] B = true) (h_wi : inBlocks B wi.reg.id = true) (h_then : ∀ y0, Moves B m y0 (then_ y0)) : Moves B m s (produce n wi ai size v then_ s) := by
  unfold produce
  exact (.ite (idxErr_moves.sub (subTrans rfl hB) rfl) (.comp (h_then _) (put_moves h_wi)))

theorem consume_moves {n : Nat} {wi ai : Fld} {v : Nat} {s : State} (hB : subBlocks [idsTOCSIN, idsVE] B = true) (h_ai : inBlocks B ai.reg.id = true) : Moves B m s (consume n wi ai v s) := by
  unfold consume
  extract_lets n1
  exact (.ite (idxErr_moves.sub (subTrans rfl hB) rfl) (put_moves h_ai))

theorem doorbell_moves {n : Nat} {s : State} : Moves [idsVEMGR] false s (doorbell n s) := by
  unfold doorbell
  extract_lets n1
  exact (.after mgrLevels_moves (put_moves rfl) rfl rfl)

theorem ringEffect_moves {n : Nat} {r : VeRing} {v : Nat} {s : State} : Moves [idsLATE, idsLATE_E, idsTOCSIN, idsIOMMU, idsVEMGR, idsVE, idsVE_ETH, idsVE_CAN, idsVE_CRY, idsDENY, idsBCTL] true s (ringEffect n r v s) := by
  unfold ringEffect
  split
  · exact (produce_moves rfl rfl (fun _ => (doorbell_moves.sub rfl rfl)))
  · exact (consume_moves rfl rfl)
  · exact (produce_moves rfl rfl (fun _ => (veEvent_moves.sub rfl rfl)))
  · exact (consume_moves rfl rfl)
  · exact (produce_moves rfl rfl (fun _ => .refl))
  · exact (produce_moves rfl rfl (fun _ => .refl))
  · exact (consume_moves rfl rfl)
  · exact (produce_moves rfl rfl (fun _ => (belPump_moves.sub rfl rfl)))
  · exact (consume_moves rfl rfl)

theorem ringWrite_moves {n : Nat} {r : VeRing} {init : Nat} {v : Word} {s : State} : Moves [idsLATE, idsLATE_E, idsTOCSIN, idsIOMMU, idsVEMGR, idsVE, idsVE_ETH, idsVE_CAN, idsVE_CRY, idsDENY, idsBCTL] true s (ringWrite n r init v s) := by
  unfold ringWrite
  extract_lets n1 n2
  exact (pageWrite_moves rfl (fun _ => (ringEffect_moves.sub rfl rfl)))

theorem execVeRingIndexWrite_moves {n : Fin 1024} {ring : VeRing} {init : Init} {value : Word} {s : State} : MovesTo [idsLATE, idsLATE_E, idsTOCSIN, idsIOMMU, idsVEMGR, idsVE, idsVE_ETH, idsVE_CAN, idsVE_CRY, idsDENY, idsBCTL] true s (execVeRingIndexWrite n ring init value s) := by
  unfold execVeRingIndexWrite
  refine .next ?_
  exact (.ite (ringWrite_moves.sub rfl rfl) .refl)

theorem vecCtrl_moves {n v : Nat} {w : Word} {s : State} : Moves [idsLATE, idsLATE_E, idsTOCSIN, idsIOMMU, idsVE, idsDENY] true s (vecCtrl n v w s) := by
  unfold vecCtrl
  extract_lets n1 x2
  refine .via x2 (put_moves rfl) fun h3 => ?_
  exact (.ite (.after veSend_moves (.comp (put_moves rfl) h3) rfl rfl) h3)

theorem execVecUnmask_moves {n : Fin 1024} {v : Fin 8} {init : Init} {value : Word} {s : State} : MovesTo [idsLATE, idsLATE_E, idsTOCSIN, idsIOMMU, idsVE, idsDENY] true s (execVecUnmask n v init value s) := by
  unfold execVecUnmask
  refine .next ?_
  exact (pageWrite_moves rfl (fun _ => (vecCtrl_moves.sub rfl rfl)))

theorem execPwgKick_moves {n : Fin 1024} {init : Init} {value : Word} {s : State} : MovesTo [idsLATE, idsLATE_E, idsTOCSIN, idsVE, idsDENY] false s (execPwgKick n init value s) := by
  unfold execPwgKick
  refine .next ?_
  exact (.ite (pageWrite_moves rfl (fun _ => (.ite pwgKick_moves .refl))) .refl)

/-! ### Bel -/

theorem mbxCtrl_moves {c : Nat} {v : Word} {s : State} : Moves [idsLATE, idsLATE_E, idsTOCSIN, idsIOMMU, idsVE, idsVE_ETH, idsVE_CAN, idsVE_CRY, idsDENY, idsBCTL] true s (mbxCtrl c v s) := by
  unfold mbxCtrl
  extract_lets x1 x2 n3
  refine .via x1 (put_moves rfl) fun h4 => ?_
  refine .via x2 (.comp (put_moves rfl) h4) fun h5 => ?_
  exact (.ite (.after belPump_moves (.set h5) rfl rfl) h4)

theorem execMailboxRing_moves {c : Fin 16} {init : Init} {value : Word} {s : State} : MovesTo [idsLATE, idsLATE_E, idsTOCSIN, idsIOMMU, idsVE, idsVE_ETH, idsVE_CAN, idsVE_CRY, idsDENY, idsBCTL] true s (execMailboxRing c init value s) := by
  unfold execMailboxRing
  refine .next ?_
  exact (busWrite_moves rfl (fun _ => (.ite (mbxCtrl_moves.sub rfl rfl) (denyWrite_moves.sub rfl rfl))))

theorem belCall_moves {func : Nat} {lenOk : Nat → Bool} {src : CallSrc} {f : List Nat → State → CallRes} {s : State}
    (hB : subBlocks [idsLATE, idsLATE_E, idsTOCSIN, idsIOMMU, idsVE, idsVE_ETH, idsVE_CAN, idsVE_CRY, idsDENY, idsBCTL] B = true)
    (h_f : ∀ y0 y1, Moves B true y1 (f y0 y1).2.2) : Moves B true s (belCall func lenOk src f s) := by
  unfold belCall
  refine .ite .refl ?_
  have h : Moves B true s (callReq src s).2 := callReq_moves.sub (subTrans rfl hB) rfl
  generalize callReq src s = r at h
  rcases r with ⟨_ | q, u⟩
  · exact .after belPump_moves (.after callReply_moves h (subTrans rfl hB) rfl) (subTrans rfl hB) rfl
  · refine .ite .refl (.ite ?_ ?_)
    · exact .after belPump_moves (callReply_moves.sub (subTrans rfl hB) rfl) (subTrans rfl hB) rfl
    · exact .after belPump_moves (.after callReply_moves (h_f _ _) (subTrans rfl hB) rfl) (subTrans rfl hB) rfl

theorem bufFail_moves {src : CallSrc} {l : List (Nat × Nat)} {s : State} : Moves [idsTOCSIN] false s ((bufFail src l s).2.2) := by
  unfold bufFail
  exact (each_moves (fun _ _ => (belEcc_moves.sub rfl rfl)))

theorem refuseKey_moves {src : CallSrc} {st : Nat} {s : State} : Moves [idsTOCSIN] false s ((refuseKey src st s).2.2) := by
  unfold refuseKey
  exact (.ite (keyRefused_moves.sub rfl rfl) .refl)

theorem setKey_moves {s : State} {h : Nat} {k : KeySlot} : Moves B m s (State.setKey s h k) := by
  unfold State.setKey
  extract_lets n1
  exact (.set .refl)

theorem generate_moves {s : State} {n : Nat} : Moves B m s ((State.generate s n).2) := by
  unfold State.generate
  extract_lets r1 x2 n3
  refine .via r1.2 random_moves fun h4 => ?_
  refine .via x2 h4 fun h5 => ?_
  exact (.set h5)

theorem dbgOpen_moves {m_ part init : Nat} {s : State} : Moves [idsTOCSIN, idsBCTL] false s (dbgOpen m_ part init s) := by
  unfold dbgOpen
  extract_lets r1 x2
  refine .via r1.2 draw_moves fun h3 => ?_
  refine .via x2 (.comp (put_moves rfl) h3) fun h4 => ?_
  exact (.comp raiseIrq_moves (.after raiseSec_moves h4 rfl rfl))

theorem dbgShut_moves {m_ : Nat} {s : State} : Moves [idsBCTL] false s (dbgShut m_ s) := by
  unfold dbgShut
  exact (put_moves rfl)

theorem lcProgram_moves {target part init : Nat} {s : State} : Moves [idsTOCSIN, idsBSEC, idsBCTL] false s (lcProgram target part init s) := by
  unfold lcProgram
  extract_lets n1 n2 x3 x4 r5
  refine .via x3 (.set .refl) fun h6 => ?_
  refine .via x4 (.after dbgShut_moves (.comp (put_moves rfl) (.comp (put_moves rfl) h6)) rfl rfl) fun h7 => ?_
  refine .via r5.2 (.comp draw_moves h7) fun h8 => ?_
  exact (.after raiseSec_moves h8 rfl rfl)

theorem lcByCert_moves {target part init : Nat} {s : State} : Moves [idsTOCSIN, idsBSEC, idsBCTL] false s ((lcByCert target part init s).2) := by
  unfold lcByCert
  extract_lets n1 n2 n3
  refine .ite1 ?_ ?_
  · exact .refl
  · refine .ite1 ?_ ?_
    · exact (lcProgram_moves.sub rfl rfl)
    · refine .ite1 ?_ ?_
      · exact (.after lcProgram_moves (.set .refl) rfl rfl)
      · exact .refl

theorem scanEnter_moves {s : State} : Moves [idsTOCSIN, idsKNELL, idsPWR, idsFEED, idsIOX] false s (scanEnter s) := by
  unfold scanEnter
  extract_lets x1 n2
  refine .via x1 (knCauseAll_moves.sub rfl rfl) fun h3 => ?_
  exact (.set h3)

theorem newChallenge_moves {s : State} : Moves [idsBCTL] false s (newChallenge s) := by
  unfold newChallenge
  extract_lets r1 x2 n3 x4 n5
  refine .via r1.2 random_moves fun h6 => ?_
  refine .via x2 h6 fun h7 => ?_
  refine .via x4 (.set h7) fun h8 => ?_
  exact (.ite (.comp (each_moves (fun _ _ => (put_moves rfl))) h8) (.set .refl))

theorem certRefused_moves {part init : Nat} {s : State} : Moves [idsTOCSIN, idsBCTL] false s (certRefused part init s) := by
  unfold certRefused
  extract_lets x1
  refine .via x1 (incSat_moves rfl) fun h2 => ?_
  exact (.after raiseSec_moves h2 rfl rfl)

theorem certSubmit_moves {c : List Nat} {part init : Nat} {s : State} : Moves [idsTOCSIN, idsKNELL, idsPWR, idsFEED, idsIOX, idsBSEC, idsBCTL] false s ((certSubmit c part init s).2) := by
  unfold certSubmit
  refine .ite1 ?_ ?_
  · exact (.after newChallenge_moves (certRefused_moves.sub rfl rfl) rfl rfl)
  · split
    · exact (.after newChallenge_moves (dbgOpen_moves.sub rfl rfl) rfl rfl)
    · extract_lets r1
      refine .via r1.2 (lcByCert_moves.sub rfl rfl) fun h2 => ?_
      exact (.after newChallenge_moves h2 rfl rfl)
    · refine .ite1 ?_ ?_
      · exact (.after scanEnter_moves (newChallenge_moves.sub rfl rfl) rfl rfl)
      · exact (.after newChallenge_moves (certRefused_moves.sub rfl rfl) rfl rfl)

theorem execInfo_moves {src : CallSrc} {s : State} : MovesTo [idsLATE, idsLATE_E, idsTOCSIN, idsIOMMU, idsVE, idsVE_ETH, idsVE_CAN, idsVE_CRY, idsDENY, idsBCTL] true s (execInfo src s) := by
  unfold execInfo
  refine .next ?_
  exact (belCall_moves rfl (fun _ _ => .refl))

theorem execRngGet_moves {src : CallSrc} {s : State} : MovesTo [idsLATE, idsLATE_E, idsTOCSIN, idsIOMMU, idsVE, idsVE_ETH, idsVE_CAN, idsVE_CRY, idsDENY, idsBCTL] true s (execRngGet src s) := by
  unfold execRngGet
  refine .next ?_
  refine .comp (belCall_moves rfl (fun a1 s2 => ?_)) ?_
  · extract_lets n3 r4
    refine .via r4.2 generate_moves fun h5 => ?_
    refine .ite2 ?_ ?_
    · exact .refl
    · refine .ite2 ?_ ?_
      · exact .refl
      · exact h5
  · exact .refl

theorem execKeyInfo_moves {src : CallSrc} {s : State} : MovesTo [idsLATE, idsLATE_E, idsTOCSIN, idsIOMMU, idsVE, idsVE_ETH, idsVE_CAN, idsVE_CRY, idsDENY, idsBCTL] true s (execKeyInfo src s) := by
  unfold execKeyInfo
  refine .next ?_
  refine .comp (belCall_moves rfl (fun a1 s2 => ?_)) ?_
  · extract_lets n3 n4
    refine .ite2 ?_ ?_
    · exact .refl
    · refine .ite2 ?_ ?_
      · exact (refuseKey_moves.sub rfl rfl)
      · exact .refl
  · exact .refl

theorem execKeyGenerate_moves {src : CallSrc} {s : State} : MovesTo [idsLATE, idsLATE_E, idsTOCSIN, idsIOMMU, idsVE, idsVE_ETH, idsVE_CAN, idsVE_CRY, idsDENY, idsBCTL] true s (execKeyGenerate src s) := by
  unfold execKeyGenerate
  refine .next ?_
  refine .comp (belCall_moves rfl (fun a1 s2 => ?_)) ?_
  · extract_lets n3 r4 n5 n6
    refine .via r4.2 generate_moves fun h7 => ?_
    refine .ite2 ?_ ?_
    · exact .refl
    · refine .ite2 ?_ ?_
      · exact .refl
      · split
        · exact .refl
        · exact (.comp setKey_moves h7)
  · exact .refl

theorem execKeyImport_moves {src : CallSrc} {s : State} : MovesTo [idsLATE, idsLATE_E, idsTOCSIN, idsIOMMU, idsVE, idsVE_ETH, idsVE_CAN, idsVE_CRY, idsDENY, idsBCTL] true s (execKeyImport src s) := by
  unfold execKeyImport
  refine .next ?_
  refine .comp (belCall_moves rfl (fun a1 s2 => ?_)) ?_
  · extract_lets n3 n4 n5 n6
    refine .ite2 ?_ ?_
    · exact (refuseKey_moves.sub rfl rfl)
    · refine .ite2 ?_ ?_
      · exact (bufFail_moves.sub rfl rfl)
      · split
        · exact .refl
        · split
          · exact .refl
          · exact setKey_moves
  · exact .refl

theorem destroyKey_moves {h : Nat} {s : State} : Moves [idsEPORT] false s (destroyKey h s) := by
  unfold destroyKey
  extract_lets x1
  refine .via x1 setKey_moves fun h2 => ?_
  exact (.comp (each_moves (fun _ _ => (each_moves (fun _ _ => (clearSa_moves.sub rfl rfl))))) h2)

theorem execKeyDestroy_moves {src : CallSrc} {s : State} :
    MovesTo [idsLATE, idsLATE_E, idsTOCSIN, idsEPORT, idsIOMMU, idsVE, idsVE_ETH, idsVE_CAN, idsVE_CRY, idsDENY, idsBCTL] true s
      (execKeyDestroy src s) := by
  unfold execKeyDestroy
  refine .next (belCall_moves rfl fun d u => ?_)
  extract_lets h k
  clear_value k h
  refine .ite2 .refl (.ite2 (refuseKey_moves.sub rfl rfl) ?_)
  exact .pair (destroyKey_moves.sub rfl rfl)

theorem execGcmSeal_moves {src : CallSrc} {s : State} : MovesTo [idsLATE, idsLATE_E, idsTOCSIN, idsIOMMU, idsVE, idsVE_ETH, idsVE_CAN, idsVE_CRY, idsDENY, idsBCTL] true s (execGcmSeal src s) := by
  unfold execGcmSeal
  refine .next ?_
  refine .comp (belCall_moves rfl (fun a1 s2 => ?_)) ?_
  · extract_lets n3 n4 n5 n6 n7
    refine .ite2 ?_ ?_
    · exact (refuseKey_moves.sub rfl rfl)
    · refine .ite2 ?_ ?_
      · exact (bufFail_moves.sub rfl rfl)
      · exact belStore_moves
  · exact .refl

theorem execGcmOpen_moves {src : CallSrc} {s : State} : MovesTo [idsLATE, idsLATE_E, idsTOCSIN, idsIOMMU, idsVE, idsVE_ETH, idsVE_CAN, idsVE_CRY, idsDENY, idsBCTL] true s (execGcmOpen src s) := by
  unfold execGcmOpen
  refine .next ?_
  refine .comp (belCall_moves rfl (fun a1 s2 => ?_)) ?_
  · extract_lets n3 n4 n5 n6
    refine .ite2 ?_ ?_
    · exact (refuseKey_moves.sub rfl rfl)
    · refine .ite2 ?_ ?_
      · exact (bufFail_moves.sub rfl rfl)
      · split
        · exact .refl
        · exact belStore_moves
  · exact .refl

theorem execCmac_moves {src : CallSrc} {s : State} : MovesTo [idsLATE, idsLATE_E, idsTOCSIN, idsIOMMU, idsVE, idsVE_ETH, idsVE_CAN, idsVE_CRY, idsDENY, idsBCTL] true s (execCmac src s) := by
  unfold execCmac
  refine .next ?_
  refine .comp (belCall_moves rfl (fun a1 s2 => ?_)) ?_
  · extract_lets n3 n4 n5
    refine .ite2 ?_ ?_
    · exact (refuseKey_moves.sub rfl rfl)
    · refine .ite2 ?_ ?_
      · exact (bufFail_moves.sub rfl rfl)
      · exact .refl
  · exact .refl

theorem execSha384_moves {src : CallSrc} {s : State} : MovesTo [idsLATE, idsLATE_E, idsTOCSIN, idsIOMMU, idsVE, idsVE_ETH, idsVE_CAN, idsVE_CRY, idsDENY, idsBCTL] true s (execSha384 src s) := by
  unfold execSha384
  refine .next ?_
  refine .comp (belCall_moves rfl (fun a1 s2 => ?_)) ?_
  · extract_lets n3
    refine .ite2 ?_ ?_
    · exact (bufFail_moves.sub rfl rfl)
    · exact .refl
  · exact .refl

theorem signTo_moves {src : CallSrc} {key : Nat} {digest : List Nat} {o : Nat × Nat} {s : State} : Moves [idsTOCSIN] true s ((signTo src key digest o s).2.2) := by
  unfold signTo
  extract_lets r1
  refine .via r1.2 generate_moves fun h2 => ?_
  refine .ite2 ?_ ?_
  · exact .refl
  · refine .ite2 ?_ ?_
    · exact (bufFail_moves.sub rfl rfl)
    · exact (.comp belStore_moves h2)

theorem execEcdsaSign_moves {src : CallSrc} {s : State} : MovesTo [idsLATE, idsLATE_E, idsTOCSIN, idsIOMMU, idsVE, idsVE_ETH, idsVE_CAN, idsVE_CRY, idsDENY, idsBCTL] true s (execEcdsaSign src s) := by
  unfold execEcdsaSign
  refine .next ?_
  refine .comp (belCall_moves rfl (fun a1 s2 => ?_)) ?_
  · extract_lets n3 n4
    refine .ite2 ?_ ?_
    · exact (refuseKey_moves.sub rfl rfl)
    · exact (signTo_moves.sub rfl rfl)
  · exact .refl

theorem execEcdsaVerify_moves {src : CallSrc} {s : State} : MovesTo [idsLATE, idsLATE_E, idsTOCSIN, idsIOMMU, idsVE, idsVE_ETH, idsVE_CAN, idsVE_CRY, idsDENY, idsBCTL] true s (execEcdsaVerify src s) := by
  unfold execEcdsaVerify
  refine .next ?_
  refine .comp (belCall_moves rfl (fun a1 s2 => ?_)) ?_
  · extract_lets n3 n4 n5 n6 n7 n8
    refine .ite2 ?_ ?_
    · exact (refuseKey_moves.sub rfl rfl)
    · refine .ite2 ?_ ?_
      · exact (bufFail_moves.sub rfl rfl)
      · exact .refl
  · exact .refl

theorem execKdf_moves {src : CallSrc} {s : State} : MovesTo [idsLATE, idsLATE_E, idsTOCSIN, idsIOMMU, idsVE, idsVE_ETH, idsVE_CAN, idsVE_CRY, idsDENY, idsBCTL] true s (execKdf src s) := by
  unfold execKdf
  refine .next ?_
  refine .comp (belCall_moves rfl (fun a1 s2 => ?_)) ?_
  · extract_lets n3 n4 n5 n6
    refine .ite2 ?_ ?_
    · exact (refuseKey_moves.sub rfl rfl)
    · refine .ite2 ?_ ?_
      · exact .refl
      · refine .ite2 ?_ ?_
        · exact .refl
        · refine .ite2 ?_ ?_
          · exact (bufFail_moves.sub rfl rfl)
          · exact setKey_moves
  · exact .refl

theorem execIdentSign_moves {src : CallSrc} {s : State} : MovesTo [idsLATE, idsLATE_E, idsTOCSIN, idsIOMMU, idsVE, idsVE_ETH, idsVE_CAN, idsVE_CRY, idsDENY, idsBCTL] true s (execIdentSign src s) := by
  unfold execIdentSign
  refine .next ?_
  exact (belCall_moves rfl (fun _ _ => (signTo_moves.sub rfl rfl)))

theorem execAuthSubmit_moves {src : CallSrc} {s : State} : MovesTo [idsLATE, idsLATE_E, idsTOCSIN, idsKNELL, idsPWR, idsFEED, idsIOX, idsIOMMU, idsVE, idsVE_ETH, idsVE_CAN, idsVE_CRY, idsBSEC, idsDENY, idsBCTL] true s (execAuthSubmit src s) := by
  unfold execAuthSubmit
  refine .next ?_
  refine .comp (belCall_moves rfl (fun a1 s2 => ?_)) ?_
  · extract_lets n3 n4 r5
    refine .via r5.2 (certSubmit_moves.sub rfl rfl) fun h6 => ?_
    refine .ite2 ?_ ?_
    · exact (certRefused_moves.sub rfl rfl)
    · refine .ite2 ?_ ?_
      · exact (bufFail_moves.sub rfl rfl)
      · exact h6
  · exact .refl

theorem execDebugClose_moves {src : CallSrc} {s : State} : MovesTo [idsLATE, idsLATE_E, idsTOCSIN, idsIOMMU, idsVE, idsVE_ETH, idsVE_CAN, idsVE_CRY, idsDENY, idsBCTL] true s (execDebugClose src s) := by
  unfold execDebugClose
  refine .next ?_
  exact (belCall_moves rfl (fun _ _ => (dbgShut_moves.sub rfl rfl)))

theorem execLcAdvance_moves {src : CallSrc} {s : State} : MovesTo [idsLATE, idsLATE_E, idsTOCSIN, idsIOMMU, idsVE, idsVE_ETH, idsVE_CAN, idsVE_CRY, idsBSEC, idsDENY, idsBCTL] true s (execLcAdvance src s) := by
  unfold execLcAdvance
  refine .next ?_
  refine .comp (belCall_moves rfl (fun a1 s2 => ?_)) ?_
  · extract_lets n3 n4 r5 n6 n7 x8 n9
    refine .via r5.2 generate_moves fun h10 => ?_
    refine .via x8 h10 fun h11 => ?_
    refine .ite2 ?_ ?_
    · exact .refl
    · refine .ite2 ?_ ?_
      · exact .refl
      · refine .ite2 ?_ ?_
        · exact (bufFail_moves.sub rfl rfl)
        · exact (.after lcProgram_moves (.set h11) rfl rfl)
  · exact .refl

theorem rngReadyNow_moves {s : State} : Moves [idsBCTL] false s (rngReadyNow s) := by
  unfold rngReadyNow
  extract_lets n1 x2 x3
  refine .via x2 (.set .refl) fun h4 => ?_
  refine .via x3 (.comp raiseIrq_moves (.comp (put_moves rfl) (.comp (put_moves rfl) h4))) fun h5 => ?_
  exact (.ite h5 (.after newChallenge_moves h5 rfl rfl))

theorem execRngStartupDone_moves {s : State} : MovesTo [idsBCTL] false s (execRngStartupDone s) := by
  unfold execRngStartupDone
  refine .next ?_
  exact (.ite (rngReadyNow_moves.sub rfl rfl) .refl)

theorem rngFail_moves {s : State} : Moves [idsTOCSIN, idsBCTL] false s (rngFail s) := by
  unfold rngFail
  extract_lets x1 n2 x3
  refine .via x1 (incSat_moves rfl) fun h4 => ?_
  refine .via x3 (.set h4) fun h5 => ?_
  exact (.after raiseSec_moves (.comp (put_moves rfl) h5) rfl rfl)

theorem rngDrop_moves {s : State} : Moves [idsLATE, idsLATE_E, idsTOCSIN, idsIOMMU, idsVE, idsVE_ETH, idsVE_CAN, idsVE_CRY, idsDENY, idsBCTL] true s (rngDrop s) := by
  unfold rngDrop
  split
  · exact .refl
  · split
    · exact (.ite (.after belPump_moves (callReply_moves.sub rfl rfl) rfl rfl) .refl)
    · exact .refl

theorem execRngHealthFail_moves {s : State} : MovesTo [idsLATE, idsLATE_E, idsTOCSIN, idsIOMMU, idsVE, idsVE_ETH, idsVE_CAN, idsVE_CRY, idsDENY, idsBCTL] true s (execRngHealthFail s) := by
  unfold execRngHealthFail
  refine .next ?_
  exact (.ite (.after rngDrop_moves (rngFail_moves.sub rfl rfl) rfl rfl) .refl)

theorem execRngStartupFail_moves {s : State} : MovesTo [idsTOCSIN, idsBCTL] false s (execRngStartupFail s) := by
  unfold execRngStartupFail
  refine .next ?_
  extract_lets x1 n2 x3 n4 x5
  refine .via x1 (incSat_moves rfl) fun h6 => ?_
  refine .via x3 (.set h6) fun h7 => ?_
  refine .via x5 (.comp (put_moves rfl) h7) fun h8 => ?_
  exact (.ite .refl (.ite (.after raiseSec_moves (.comp (put_moves rfl) h8) rfl rfl) (.comp (put_moves rfl) h8)))

theorem bwdgRestart_moves {s : State} : Moves [idsBCTL] false s (bwdgRestart s) := by
  unfold bwdgRestart
  extract_lets x1 n2
  refine .via x1 (put_moves rfl) fun h3 => ?_
  exact (.set h3)

theorem execBwdgKick_moves {init : Init} {_value : Word} {s : State} : MovesTo [idsLATE, idsLATE_E, idsTOCSIN, idsDENY, idsBCTL] false s (execBwdgKick init _value s) := by
  unfold execBwdgKick
  refine .next ?_
  exact (busWrite_moves rfl (fun _ => (.ite (bwdgRestart_moves.sub rfl rfl) (denyWrite_moves.sub rfl rfl))))

theorem execBdbgClose_moves {init : Init} {value : Word} {s : State} : MovesTo [idsLATE, idsLATE_E, idsTOCSIN, idsDENY, idsBCTL] false s (execBdbgClose init value s) := by
  unfold execBdbgClose
  refine .next ?_
  exact (busWrite_moves rfl (fun _ => (.ite (dbgShut_moves.sub rfl rfl) (denyWrite_moves.sub rfl rfl))))

theorem execScanClearDone_moves {ok : Bool} {s : State} : MovesTo [idsBCTL] false s (execScanClearDone ok s) := by
  unfold execScanClearDone
  refine .next ?_
  extract_lets x1 n2 n3
  refine .via x1 (.comp (put_moves rfl) (put_moves rfl)) fun h4 => ?_
  exact (.ite (.ite (.set h4) (.set .refl)) .refl)

theorem execBelfrySramEccUe_moves {s : State} : MovesTo [idsTOCSIN] false s (execBelfrySramEccUe s) := by
  unfold execBelfrySramEccUe
  extract_lets r1
  refine .via r1.2 draw_moves fun h2 => ?_
  refine .next ?_
  exact (.after raiseSec_moves h2 rfl rfl)

end Sys2Proof.Machine
end

