-- ==== Sys2Proof/Laws/MovesSys.lean ====
section
/-! SUPPORT.  What each operation of self-test, clocks, the fabric and power modes can change at most (`Moves` of Laws/Moves.lean): one lemma per definition,
named after it, so that a proof cites it and never unfolds the definition. -/

namespace Sys2Proof.Machine

variable {B A : List (Nat × Nat)} {m k : Bool}

/-! ### Bist -/

theorem bistFault_moves {n k u w1 : Nat} {s : State} : Moves [idsTOCSIN] false s (bistFault n k u w1 s) := by
  unfold bistFault
  exact (raise_moves.sub rfl rfl)

theorem loopFailed_moves {u ofs : Nat} {s : State} : Moves [idsTOCSIN, idsPWR, idsFEED, idsIOX] false s (loopFailed u ofs s) := by
  unfold loopFailed
  extract_lets n1 x2
  refine .via x2 (.set .refl) fun h3 => ?_
  exact (.ite (.after senseFault_moves h3 rfl rfl) (.ite (.after feedSense_moves h3 rfl rfl) (.comp (put_moves rfl) h3)))

theorem loopPassed_moves {u : Nat} {s : State} : Moves [idsPWR, idsFEED] false s (loopPassed u s) := by
  unfold loopPassed
  extract_lets n1 x2
  refine .via x2 (.set .refl) fun h3 => ?_
  exact (.ite (.ite (.after senseEnd_moves h3 rfl rfl) h3) .refl)

theorem bistUnit_moves {k u : Nat} {pass : Bool} {raw0 raw1 ofs : Nat} {s : State} : Moves [idsTOCSIN, idsBIST, idsPWR, idsFEED, idsIOX] false s (bistUnit k u pass raw0 raw1 ofs s) := by
  unfold bistUnit
  extract_lets n1 n2 x3 n4 x5 x6 x7 x8
  refine .via x3 (.set .refl) fun h9 => ?_
  refine .via x5 (.comp (put_moves rfl) h9) fun h10 => ?_
  refine .via x6 (.ite (.comp (incSat_moves rfl) h10) h10) fun h11 => ?_
  refine .via x7 (.comp (put_moves rfl) (.comp (incSat_moves rfl) h11)) fun h12 => ?_
  refine .via x8 (.after bistFault_moves h12 rfl rfl) fun h13 => ?_
  exact (.ite (.ite (.after loopPassed_moves h11 rfl rfl) h11) (.ite (.after loopFailed_moves h13 rfl rfl) h13))

theorem lbistSlice_moves {s : State} : Moves [idsBIST, idsCARILLON] false s (lbistSlice s) := by
  unfold lbistSlice
  extract_lets x1
  refine .via x1 (.comp (put_moves rfl) (incSat_moves rfl)) fun h2 => ?_
  exact (.comp (each_moves (fun _ _ => (.ite (.comp updCar_moves (incSat_moves rfl)) .refl))) h2)

theorem bistSlice_moves {pass : Bool} {raw0 raw1 ofs : Nat} {s : State} : Moves [idsTOCSIN, idsBIST, idsPWR, idsFEED, idsIOX, idsCARILLON] false s (bistSlice pass raw0 raw1 ofs s) := by
  unfold bistSlice
  extract_lets n1 n2 x3 x4 n5
  refine .via x3 (put_moves rfl) fun h6 => ?_
  refine .via x4 (.ite (.after bistUnit_moves h6 rfl rfl) (.comp (incSat_moves rfl) h6)) fun h7 => ?_
  exact (.ite .refl (.ite (lbistSlice_moves.sub rfl rfl) (.ite (put_moves rfl) (.set h7))))

theorem execBistSlice_moves {pass : Bool} {raw0 raw1 ofs : Nat} {s : State} : MovesTo [idsTOCSIN, idsBIST, idsPWR, idsFEED, idsIOX, idsCARILLON] false s (execBistSlice pass raw0 raw1 ofs s) := by
  unfold execBistSlice
  refine .next ?_
  exact (bistSlice_moves.sub rfl rfl)

theorem execBistCoverageLate_moves {task : Fin 6} {unit : Nat} {s : State} : MovesTo [idsTOCSIN] false s (execBistCoverageLate task unit s) := by
  unfold execBistCoverageLate
  extract_lets n1 n2 n3
  refine .ite ?_ ?_
  · refine .next ?_
    exact (.after bistFault_moves (.set .refl) rfl rfl)
  · refine .next ?_
    exact .refl

theorem prbsGo_moves {outst : List Req} {s : State} : Moves [idsLATE, idsSPINE, idsLATE_E, idsTOCSIN, idsKNELL, idsBIST, idsPWR, idsFEED, idsIOX, idsSENT, idsSWITCH, idsEPORT, idsCAN, idsIOMMU, idsCSR, idsVE, idsVE_ETH, idsVE_CAN, idsVE_CRY, idsDENY] true s (prbsGo outst s) := by
  unfold prbsGo
  extract_lets n1 n2 n3 x4 x5
  refine .via x4 (.set .refl) fun h6 => ?_
  refine .via x5 (.comp (put_moves rfl) (.comp (put_moves rfl) h6)) fun h7 => ?_
  exact (.ite (.ite (.after phyDown_moves h7 rfl rfl) (.ite (.after linkDown_moves h7 rfl rfl) h7)) (put_moves rfl))

theorem prbsCount_moves {bits errs : Nat} {s : State} : Moves [idsBIST] false s (prbsCount bits errs s) := by
  unfold prbsCount
  exact (.ite (.comp (addSat_moves rfl) (put64_moves rfl rfl)) .refl)

theorem prbsRestore_moves {kind idx saved : Nat} {s : State} : Moves [idsLATE, idsSPINE, idsLATE_E, idsTOCSIN, idsKNELL, idsPWR, idsFEED, idsIOX, idsSWITCH, idsEPORT, idsCAN, idsIOMMU, idsVE, idsDENY] true s (prbsRestore kind idx saved s) := by
  unfold prbsRestore
  exact (.ite .refl (.ite (phyUp_moves.sub rfl rfl) (.after spineUp_moves (put_moves rfl) rfl rfl)))

theorem prbsEnd_moves {bits errs : Nat} {s : State} : Moves [idsLATE, idsSPINE, idsLATE_E, idsTOCSIN, idsKNELL, idsBIST, idsPWR, idsFEED, idsIOX, idsSWITCH, idsEPORT, idsCAN, idsIOMMU, idsVE, idsDENY] true s (prbsEnd bits errs s) := by
  unfold prbsEnd
  split
  · exact .refl
  · extract_lets x1 n2 n3 n4 x5 x6
    refine .via x1 (prbsCount_moves.sub rfl rfl) fun h7 => ?_
    refine .via x5 (.set h7) fun h8 => ?_
    refine .via x6 (.comp (put_moves rfl) (.comp (put_moves rfl) h8)) fun h9 => ?_
    exact (.comp raiseIrq_moves (.after prbsRestore_moves (.comp (put_moves rfl) h9) rfl rfl))

theorem prbsWrite_moves {outst : List Req} {bits errs : Nat} {v : Word} {s : State} : Moves [idsLATE, idsSPINE, idsLATE_E, idsTOCSIN, idsKNELL, idsBIST, idsPWR, idsFEED, idsIOX, idsSENT, idsSWITCH, idsEPORT, idsCAN, idsIOMMU, idsCSR, idsVE, idsVE_ETH, idsVE_CAN, idsVE_CRY, idsDENY] true s (prbsWrite outst bits errs v s) := by
  unfold prbsWrite
  extract_lets x1 x2
  refine .via x1 (wr_moves rfl) fun h3 => ?_
  refine .via x2 (.comp (when_moves (fun _ => (prbsGo_moves.sub rfl rfl))) h3) fun h4 => ?_
  exact (.comp (when_moves (fun _ => (prbsEnd_moves.sub rfl rfl))) h4)

theorem prbsRow_moves {init : Nat} {v : Word} {outst : List Req} {bits errs : Nat} {s : State} : Moves [idsLATE, idsSPINE, idsLATE_E, idsTOCSIN, idsKNELL, idsBIST, idsPWR, idsFEED, idsIOX, idsSENT, idsSWITCH, idsEPORT, idsCAN, idsIOMMU, idsCSR, idsVE, idsVE_ETH, idsVE_CAN, idsVE_CRY, idsDENY] true s (prbsRow init v outst bits errs s) := by
  unfold prbsRow
  extract_lets n1
  exact (busWrite_moves rfl (fun _ => (.ite (prbsWrite_moves.sub rfl rfl) (denyWrite_moves.sub rfl rfl))))

theorem execPrbsGo_moves {init : Init} {value : Word} {outst : List Req} {s : State} : MovesTo [idsLATE, idsSPINE, idsLATE_E, idsTOCSIN, idsKNELL, idsBIST, idsPWR, idsFEED, idsIOX, idsSENT, idsSWITCH, idsEPORT, idsCAN, idsIOMMU, idsCSR, idsVE, idsVE_ETH, idsVE_CAN, idsVE_CRY, idsDENY] true s (execPrbsGo init value outst s) := by
  unfold execPrbsGo
  refine .next ?_
  exact (prbsRow_moves.sub rfl rfl)

theorem execPrbsStop_moves {init : Init} {value : Word} {bits errs : Nat} {s : State} : MovesTo [idsLATE, idsSPINE, idsLATE_E, idsTOCSIN, idsKNELL, idsBIST, idsPWR, idsFEED, idsIOX, idsSENT, idsSWITCH, idsEPORT, idsCAN, idsIOMMU, idsCSR, idsVE, idsVE_ETH, idsVE_CAN, idsVE_CRY, idsDENY] true s (execPrbsStop init value bits errs s) := by
  unfold execPrbsStop
  refine .next ?_
  exact (prbsRow_moves.sub rfl rfl)

theorem execPrbsDurationEnd_moves {bits errs : Nat} {s : State} : MovesTo [idsLATE, idsSPINE, idsLATE_E, idsTOCSIN, idsKNELL, idsBIST, idsPWR, idsFEED, idsIOX, idsSWITCH, idsEPORT, idsCAN, idsIOMMU, idsVE, idsDENY] true s (execPrbsDurationEnd bits errs s) := by
  unfold execPrbsDurationEnd
  refine .next ?_
  exact (.ite .refl (prbsEnd_moves.sub rfl rfl))

theorem execPrbsLock_moves {s : State} : MovesTo [idsBIST] false s (execPrbsLock s) := by
  unfold execPrbsLock
  refine .next ?_
  exact (.ite (.comp (put_moves rfl) (.comp (put64_moves rfl rfl) (put_moves rfl))) .refl)

theorem execPrbsLockLoss_moves {bits errs : Nat} {s : State} : MovesTo [idsBIST] false s (execPrbsLockLoss bits errs s) := by
  unfold execPrbsLockLoss
  refine .next ?_
  exact (.ite (.comp (incSat_moves rfl) (.comp (put_moves rfl) (prbsCount_moves.sub rfl rfl))) .refl)

/-! ### Clk -/

theorem clkFault_moves {n pll dom w1 : Nat} {s : State} : Moves [idsTOCSIN] false s (clkFault n pll dom w1 s) := by
  unfold clkFault
  exact (raise_moves.sub rfl rfl)

theorem clkEvt_moves {bit : Nat} {s : State} : Moves [idsCLK] false s (clkEvt bit s) := by
  unfold clkEvt
  extract_lets x1
  refine .via x1 (wr_moves rfl) fun h2 => ?_
  exact (.ite (.comp raiseIrq_moves h2) h2)

theorem execOscDlyEnd_moves {s : State} : MovesTo B m s (execOscDlyEnd s) := by
  unfold execOscDlyEnd
  refine .next ?_
  extract_lets n1
  exact (.ite (.set .refl) .refl)

theorem milestone_moves {k us : Nat} {s : State} : Moves B m s (milestone k us s) := by
  unfold milestone
  extract_lets n1
  exact (.set .refl)

theorem execClkinQualified_moves {us : Nat} {s : State} : MovesTo [idsCLK] false s (execClkinQualified us s) := by
  unfold execClkinQualified
  refine .next ?_
  extract_lets x1 x2 n3
  refine .via x1 (.comp (put_moves rfl) (put_moves rfl)) fun h4 => ?_
  refine .via x2 (.comp (put_moves rfl) h4) fun h5 => ?_
  exact (.ite (.comp milestone_moves (.set h5)) .refl)

theorem calFollow_moves {c : Nat} {s : State} : Moves [idsTOCSIN, idsCLK] false s (calFollow c s) := by
  unfold calFollow
  extract_lets n1 n2 n3 n4 x5 n6 x7 n8
  refine .via x5 (.after clkEvt_moves (put_moves rfl) rfl rfl) fun h9 => ?_
  refine .via x7 (put_moves rfl) fun h10 => ?_
  exact (.ite (.ite h9 (.after clkFault_moves (.set h9) rfl rfl)) (.ite (.set h10) h10))

theorem watchWindow_moves {c : Nat} {s : State} : Moves [idsTOCSIN, idsCLK] false s (watchWindow c s) := by
  unfold watchWindow
  extract_lets n1 x2 x3 n4
  refine .via x2 (incSat_moves rfl) fun h5 => ?_
  refine .via x3 (.comp (put_moves rfl) h5) fun h6 => ?_
  exact (.ite (.ite (.set .refl) (.after calFollow_moves (.set .refl) rfl rfl)) (.ite (.set h6) (.set h5)))

theorem execMonitorWindow_moves {count : Nat} {s : State} : MovesTo [idsTOCSIN, idsCLK] false s (execMonitorWindow count s) := by
  unfold execMonitorWindow
  refine .next ?_
  extract_lets x1 n2
  refine .via x1 (put_moves rfl) fun h3 => ?_
  exact (.ite .refl (.ite (.set h3) (.after watchWindow_moves h3 rfl rfl)))

theorem stopPhys_moves {s : State} : Moves [idsLATE, idsLATE_E, idsTOCSIN, idsCLK, idsSWITCH, idsEPORT, idsIOMMU, idsVE, idsVE_ETH, idsVE_CAN, idsVE_CRY, idsDENY] true s (stopPhys s) := by
  unfold stopPhys
  exact (.comp (each_moves (fun _ _ => (phyDown_moves.sub rfl rfl))) (put_moves rfl))

theorem pllFallback_moves {p : Nat} {s : State} : Moves [idsCLK] false s (pllFallback p s) := by
  unfold pllFallback
  exact (.ite .refl (.comp (put_moves rfl) (.comp (put_moves rfl) (put_moves rfl))))

theorem execClkinFail_moves {s : State} : MovesTo [idsLATE, idsLATE_E, idsTOCSIN, idsCLK, idsBEATCTL, idsSWITCH, idsEPORT, idsTIME, idsIOMMU, idsVE, idsVE_ETH, idsVE_CAN, idsVE_CRY, idsDENY] true s (execClkinFail s) := by
  unfold execClkinFail
  refine .next ?_
  extract_lets x1 x2 n3 x4
  refine .via x1 (.after stopPhys_moves (each_moves (fun _ _ => (pllFallback_moves.sub rfl rfl))) rfl rfl) fun h5 => ?_
  refine .via x2 (.comp (put_moves rfl) (.comp (put_moves rfl) (.comp (put_moves rfl) h5))) fun h6 => ?_
  refine .via x4 (.after timeFallback_moves (.set h6) rfl rfl) fun h7 => ?_
  exact (.ite .refl (.after clkFault_moves (.comp (incSat_moves rfl) (.after clkEvt_moves h7 rfl rfl)) rfl rfl))

theorem execClkinOk_moves {s : State} : MovesTo [idsCLK] false s (execClkinOk s) := by
  unfold execClkinOk
  refine .next ?_
  exact (.ite (.after clkEvt_moves (put_moves rfl) rfl rfl) .refl)

theorem pllRestore_moves {p : Nat} {s : State} : Moves [idsCLK] false s (pllRestore p s) := by
  unfold pllRestore
  exact (.ite (.comp (put_moves rfl) (.comp (put_moves rfl) (put_moves rfl))) .refl)

theorem clkRestore_moves {s : State} : Moves [idsTOCSIN, idsCLK, idsTIME] false s (clkRestore s) := by
  unfold clkRestore
  extract_lets x1 x2 x3 n4
  refine .via x1 (each_moves (fun _ _ => (pllRestore_moves.sub rfl rfl))) fun h5 => ?_
  refine .via x2 ?_ fun h6 => ?_
  · unfold x2
    exact (.ite h5 (.comp (put_moves rfl) h5))
  refine .via x3 (.comp (put_moves rfl) (.comp (put_moves rfl) (.comp (put_moves rfl) h6))) fun h7 => ?_
  exact (.ite (.after clkFault_moves (.after clkEvt_moves (.set h7) rfl rfl) rfl rfl) .refl)

theorem clkCtrl_moves {v : Word} {s : State} : Moves [idsTOCSIN, idsCLK, idsTIME] false s (clkCtrl v s) := by
  unfold clkCtrl
  exact (when_moves (fun _ => (clkRestore_moves.sub rfl rfl)))

theorem execClkRestore_moves {init : Init} {value : Word} {s : State} : MovesTo [idsLATE, idsLATE_E, idsTOCSIN, idsCLK, idsTIME, idsDENY] false s (execClkRestore init value s) := by
  unfold execClkRestore
  extract_lets n1
  refine .next ?_
  exact (busWrite_moves rfl (fun _ => (.ite (clkCtrl_moves.sub rfl rfl) (denyWrite_moves.sub rfl rfl))))

theorem ddrTrain_moves {s : State} : Moves [idsLATE, idsLATE_E, idsTOCSIN, idsCSR] false s (ddrTrain s) := by
  unfold ddrTrain
  extract_lets x1 n2
  refine .via x1 (fence_moves.sub rfl rfl) fun h3 => ?_
  exact (.set h3)

theorem pllFirst_moves {p : Nat} {s : State} : Moves [idsLATE, idsLATE_E, idsTOCSIN, idsCSR] false s (pllFirst p s) := by
  unfold pllFirst
  extract_lets n1
  exact (.ite (.set .refl) (.ite (ddrTrain_moves.sub rfl rfl) .refl))

theorem execPllLock_moves {p : Fin 4} {us : Nat} {s : State} : MovesTo [idsLATE, idsLATE_E, idsTOCSIN, idsCLK, idsCSR] false s (execPllLock p us s) := by
  unfold execPllLock
  refine .next ?_
  extract_lets x1
  refine .via x1 (.after pllFirst_moves (.comp (put_moves rfl) (put_moves rfl)) rfl rfl) fun h2 => ?_
  exact (.ite (.ite (.comp milestone_moves h2) h2) .refl)

theorem pllUnlock_moves {p : Nat} {s : State} : Moves [idsTOCSIN, idsCLK, idsBEATCTL, idsTIME] false s (pllUnlock p s) := by
  unfold pllUnlock
  extract_lets x1
  refine .via x1 (.comp (incSat_moves rfl) (put_moves rfl)) fun h2 => ?_
  exact (.ite (.ite (.after toHoldover_moves h2 rfl rfl) h2) .refl)

theorem execPllLossOfLock_moves {p : Fin 4} {s : State} : MovesTo [idsTOCSIN, idsCLK, idsBEATCTL, idsTIME] false s (execPllLossOfLock p s) := by
  unfold execPllLossOfLock
  refine .next ?_
  exact (pllUnlock_moves.sub rfl rfl)

theorem domForced_moves {outst : List Req} {d : Nat} {s : State} : Moves [idsLATE, idsSPINE, idsLATE_E, idsTOCSIN, idsKNELL, idsCLK, idsPWR, idsFEED, idsIOX, idsSENT, idsSWITCH, idsEPORT, idsCAN, idsIOMMU, idsCSR, idsVE, idsVE_ETH, idsVE_CAN, idsVE_CRY, idsDENY] true s (domForced outst d s) := by
  unfold domForced
  extract_lets x1 x2 n3
  refine .via x1 (put_moves rfl) fun h4 => ?_
  refine .via x2 (put_moves rfl) fun h5 => ?_
  refine .ite ?_ ?_
  · refine .ite ?_ ?_
    · exact (.comp (each_moves (fun _ _ => (canLinkDown_moves.sub rfl rfl))) h4)
    · exact (.ite (.after stopPhys_moves h4 rfl rfl) (.ite (.after linkDown_moves h4 rfl rfl) (.ite (.comp memKeep_moves (.after fence_moves h4 rfl rfl)) h4)))
  · exact (.set h5)

theorem execPllDead_moves {p : Fin 4} {outst : List Req} {s : State} : MovesTo [idsLATE, idsSPINE, idsLATE_E, idsTOCSIN, idsKNELL, idsCLK, idsBEATCTL, idsPWR, idsFEED, idsIOX, idsSENT, idsSWITCH, idsEPORT, idsTIME, idsCAN, idsIOMMU, idsCSR, idsVE, idsVE_ETH, idsVE_CAN, idsVE_CRY, idsDENY] true s (execPllDead p outst s) := by
  unfold execPllDead
  refine .next ?_
  extract_lets x1
  refine .via x1 (.after clkFault_moves (.after clkEvt_moves (.comp (put_moves rfl) (pllUnlock_moves.sub rfl rfl)) rfl rfl) rfl rfl) fun h2 => ?_
  exact (.ite (.comp (each_moves (fun _ _ => (domForced_moves.sub rfl rfl))) h2) .refl)

theorem domRaise_moves {d g : Nat} {s : State} : Moves [idsTOCSIN, idsCLK] false s (domRaise d g s) := by
  unfold domRaise
  exact (.after clkFault_moves (clkEvt_moves.sub rfl rfl) rfl rfl)

theorem execForcedSwitch_moves {d : Fin 20} {s : State} : MovesTo [idsTOCSIN, idsCLK] false s (execForcedSwitch d s) := by
  unfold execForcedSwitch
  refine .next ?_
  extract_lets x1 n2 n3
  refine .via x1 (.comp (put_moves rfl) (put_moves rfl)) fun h4 => ?_
  exact (.ite (.after clkFault_moves (.after clkEvt_moves (.set h4) rfl rfl) rfl rfl) .refl)

theorem domForget_moves {d : Nat} {s : State} : Moves B m s (domForget d s) := by
  unfold domForget
  extract_lets n1
  exact (.set .refl)

theorem domNew_moves {d : Nat} {forced : Bool} {g : Nat} {s : State} : Moves [idsTOCSIN, idsCLK] false s (domNew d forced g s) := by
  unfold domNew
  extract_lets x1 x2 x3
  refine .via x1 ?_ fun h4 => ?_
  · unfold x1
    exact (.ite (domRaise_moves.sub rfl rfl) .refl)
  refine .via x2 (.comp (incSat_moves rfl) (.comp (put_moves rfl) (.comp (put_moves rfl) h4))) fun h5 => ?_
  refine .via x3 (.comp (when_moves (fun _ => (put_moves rfl))) (.comp domForget_moves h5)) fun h6 => ?_
  exact (.after clkEvt_moves (.ite (.comp timePass_moves h6) h6) rfl rfl)

theorem execDomainSwitchDone_moves {d : Fin 20} {gap : Nat} {s : State} : MovesTo [idsTOCSIN, idsCLK] false s (execDomainSwitchDone d gap s) := by
  unfold execDomainSwitchDone
  refine .next ?_
  exact (.ite (domNew_moves.sub rfl rfl) .refl)

theorem clkDomWrite_moves {d : Nat} {v : Word} {s : State} : Moves [idsCLK] false s (clkDomWrite d v s) := by
  unfold clkDomWrite
  extract_lets x1
  refine .via x1 (.ite (put_moves rfl) .refl) fun h2 => ?_
  exact (.ite (.comp (put_moves rfl) (.comp (put_moves rfl) h2)) h2)

theorem execClkDomDiv_moves {d : Fin 20} {init : Init} {value : Word} {s : State} : MovesTo [idsLATE, idsLATE_E, idsTOCSIN, idsCLK, idsDENY] false s (execClkDomDiv d init value s) := by
  unfold execClkDomDiv
  extract_lets n1
  refine .next ?_
  exact (busWrite_moves rfl (fun _ => (.ite (clkDomWrite_moves.sub rfl rfl) (denyWrite_moves.sub rfl rfl))))

theorem haltHold_moves {s : State} : Moves [idsLATE, idsSPINE, idsLATE_E, idsTOCSIN, idsKNELL, idsPWR, idsFEED, idsIOX, idsSENT, idsCAN, idsIOMMU, idsCSR, idsVE, idsDENY] true s (haltHold s) := by
  unfold haltHold
  extract_lets n1
  exact (.ite (.after linkDown_moves (.set .refl) rfl rfl) .refl)

theorem execHeartbeatLoss_moves {s : State} : MovesTo [idsLATE, idsSPINE, idsLATE_E, idsTOCSIN, idsKNELL, idsPWR, idsFEED, idsIOX, idsSENT, idsCAN, idsIOMMU, idsCSR, idsVE, idsDENY] true s (execHeartbeatLoss s) := by
  unfold execHeartbeatLoss
  refine .next ?_
  exact (.after haltHold_moves (heartbeatLost_moves.sub rfl rfl) rfl rfl)

theorem execIrc100OutOfRange_moves {count : Nat} {s : State} : MovesTo [idsLATE, idsSPINE, idsLATE_E, idsTOCSIN, idsKNELL, idsPWR, idsFEED, idsIOX, idsSENT, idsCAN, idsIOMMU, idsCSR, idsVE, idsDENY] true s (execIrc100OutOfRange count s) := by
  unfold execIrc100OutOfRange
  refine .next ?_
  exact (.ite (.after haltHold_moves (heartbeatLost_moves.sub rfl rfl) rfl rfl) .refl)

theorem pmicDrop_moves {outst : List Req} {s : State} : Moves [idsLATE, idsSPINE, idsLATE_E, idsTOCSIN, idsKNELL, idsPWR, idsFEED, idsIOX, idsSENT, idsCAN, idsIOMMU, idsCSR, idsVE, idsDENY] true s (pmicDrop outst s) := by
  unfold pmicDrop
  extract_lets n1 x2
  refine .via x2 (.set .refl) fun h3 => ?_
  exact (.comp emit_moves (.after linkDown_moves h3 rfl rfl))

theorem execHaltSafePowerDown_moves {outst : List Req} {s : State} : MovesTo [idsLATE, idsSPINE, idsLATE_E, idsTOCSIN, idsKNELL, idsPWR, idsFEED, idsIOX, idsSENT, idsCAN, idsIOMMU, idsCSR, idsVE, idsDENY] true s (execHaltSafePowerDown outst s) := by
  unfold execHaltSafePowerDown
  refine .next ?_
  exact (.ite (pmicDrop_moves.sub rfl rfl) .refl)

/-! ### Fabric -/

theorem execTargetTimeout_moves {port : Nat} {req : Req} {others : List Req} {s : State} : MovesTo [idsLATE, idsLATE_E, idsTOCSIN, idsSWITCH, idsEPORT, idsIOMMU, idsCSR, idsVE, idsVE_ETH, idsVE_CAN, idsVE_CRY, idsDENY] true s (execTargetTimeout port req others s) := by
  unfold execTargetTimeout
  extract_lets x1 x2
  refine .via x1 (reqFails_moves.sub rfl rfl) fun h3 => ?_
  refine .via x2 (.after fenceSw_moves h3 rfl rfl) fun h4 => ?_
  refine .ite ?_ ?_
  · refine .next ?_
    exact .refl
  · refine .next ?_
    exact (.after raiseFab_moves h4 rfl rfl)

theorem execPortOpen_moves {port : Nat} {s : State} : MovesTo [idsSWITCH, idsEPORT] false s (execPortOpen port s) := by
  unfold execPortOpen
  refine .next ?_
  exact (openSw_moves.sub rfl rfl)

theorem execFenceStuck_moves {port : Nat} {s : State} : MovesTo [idsTOCSIN] false s (execFenceStuck port s) := by
  unfold execFenceStuck
  extract_lets x1
  refine .via x1 updPort_moves fun h2 => ?_
  refine .ite ?_ ?_
  · refine .next ?_
    exact (.after raiseFab_moves h2 rfl rfl)
  · refine .next ?_
    exact .refl

theorem lateErrRd_moves {v : Word} {s : State} : Moves [idsLATE, idsLATE_E] false s (lateErrRd v s) := by
  unfold lateErrRd
  extract_lets x1 n2 n3 n4 x5
  refine .via x1 (.ite (wr_moves rfl) .refl) fun h6 => ?_
  refine .via x5 (.comp (each_moves (fun _ _ => (put_moves rfl))) h6) fun h7 => ?_
  exact (.ite (.comp (put_moves rfl) (.comp (put_moves rfl) h7)) h6)

theorem execLateErrRd_moves {init : Init} {value : Word} {s : State} : MovesTo [idsLATE, idsLATE_E, idsTOCSIN, idsDENY] false s (execLateErrRd init value s) := by
  unfold execLateErrRd
  refine .next ?_
  exact (busWrite_moves rfl (fun _ => (lateErrRd_moves.sub rfl rfl)))

theorem carwin_moves {n : Nat} {v : Word} {s : State} : Moves [idsCARWIN] false s (carwin n v s) := by
  unfold carwin
  exact (.ite .refl (.comp (put_moves rfl) (put_moves rfl)))

theorem carwinWrite_moves {n init : Nat} {v : Word} {s : State} : Moves [idsCARWIN, idsLATE, idsLATE_E, idsTOCSIN] false s (carwinWrite n init v s) := by
  unfold carwinWrite
  exact (.ite (carwin_moves.sub rfl rfl) (denyWrite_moves.sub rfl rfl))

theorem execFabricCarwin_moves {n : Fin 2} {init : Init} {value : Word} {s : State} : MovesTo [idsCARWIN, idsLATE, idsLATE_E, idsTOCSIN, idsDENY] false s (execFabricCarwin n init value s) := by
  unfold execFabricCarwin
  refine .next ?_
  exact (busWrite_moves rfl (fun _ => (carwinWrite_moves.sub rfl rfl)))

/-! ### Pm -/

theorem pmWrite_moves {init a : Nat} {f : State → State} {s : State} (hB : subBlocks [idsLATE, idsLATE_E, idsTOCSIN, idsDENY] B = true) (h_f : ∀ y0, Moves B m y0 (f y0)) : Moves B m s (pmWrite init a f s) := by
  unfold pmWrite
  exact (busWrite_moves (subTrans rfl hB) (fun _ => (.ite (h_f _) (denyWrite_moves.sub (subTrans rfl hB) rfl))))

theorem aclLose_moves {s : State} : Moves [idsIOMMU, idsCSR] false s (aclLose s) := by
  unfold aclLose
  extract_lets x1
  refine .via x1 (.set .refl) fun h2 => ?_
  exact (.after clearBlock_moves (.after clearBlock_moves h2 rfl rfl) rfl rfl)

theorem latchMfi_moves {s : State} : Moves B m s (latchMfi s) := by
  unfold latchMfi
  extract_lets n1 n2
  exact (.set .refl)

theorem sleepSteps_moves {outst : List Req} {s : State} : Moves [idsLATE, idsLATE_E, idsTOCSIN, idsPMODE, idsSWITCH, idsEPORT, idsIOMMU, idsCSR, idsVE, idsVE_ETH, idsVE_CAN, idsVE_CRY, idsDENY] true s (sleepSteps outst s) := by
  unfold sleepSteps
  extract_lets x1 x2 x3 n4
  refine .via x1 (.after fenceSw_moves (fenceSw_moves.sub rfl rfl) rfl rfl) fun h5 => ?_
  refine .via x2 (.after applyGates_moves (.comp (put_moves rfl) h5) rfl rfl) fun h6 => ?_
  refine .via x3 (.after aclLose_moves h6 rfl rfl) fun h7 => ?_
  exact (.comp latchMfi_moves (.set h7))

theorem armWake_moves {s : State} : Moves [idsPMODE, idsCAN] false s (armWake s) := by
  unfold armWake
  extract_lets x1 x2 x3 n4
  refine .via x1 (put_moves rfl) fun h5 => ?_
  refine .via x2 (.comp (each_moves (fun _ _ => (put_moves rfl))) h5) fun h6 => ?_
  refine .via x3 (.comp latchMfi_moves h6) fun h7 => ?_
  exact (.set h7)

theorem pmRefuse_moves {s : State} : Moves [idsPMODE] false s (pmRefuse s) := by
  unfold pmRefuse
  exact (pmResult_moves.sub rfl rfl)

theorem sleepEnter_moves {deep : Bool} {outst : List Req} {s : State} : Moves [idsLATE, idsLATE_E, idsTOCSIN, idsPMODE, idsSWITCH, idsEPORT, idsCAN, idsIOMMU, idsCSR, idsVE, idsVE_ETH, idsVE_CAN, idsVE_CRY, idsDENY] true s (sleepEnter deep outst s) := by
  unfold sleepEnter
  extract_lets x1
  refine .via x1 ?_ fun h2 => ?_
  · unfold x1
    exact (.ite .refl (sleepSteps_moves.sub rfl rfl))
  exact (.ite (.after armWake_moves (.comp (put_moves rfl) h2) rfl rfl) (.after pmEnter_moves h2 rfl rfl))

theorem pmRequest_moves {t : Nat} {flash : Bool} {outst : List Req} {s : State} : Moves [idsLATE, idsLATE_E, idsTOCSIN, idsPMODE, idsSWITCH, idsEPORT, idsCAN, idsIOMMU, idsCSR, idsVE, idsVE_ETH, idsVE_CAN, idsVE_CRY, idsDENY] true s (pmRequest t flash outst s) := by
  unfold pmRequest
  extract_lets n1 n2
  refine .ite ?_ ?_
  · exact (.ite (.after pmAbort_moves (.set .refl) rfl rfl) (put_moves rfl))
  · refine .ite ?_ ?_
    · exact (.ite (pmLeave_moves.sub rfl rfl) (pmRefuse_moves.sub rfl rfl))
    · refine .ite ?_ ?_
      · exact (.ite (put_moves rfl) (pmRefuse_moves.sub rfl rfl))
      · refine .ite ?_ ?_
        · split
          · exact (pmResult_moves.sub rfl rfl)
          · exact (sleepEnter_moves.sub rfl rfl)
        · exact (pmRefuse_moves.sub rfl rfl)

theorem pmReqWrite_moves {v : Word} {flash : Bool} {outst : List Req} {s : State} : Moves [idsLATE, idsLATE_E, idsTOCSIN, idsPMODE, idsSWITCH, idsEPORT, idsCAN, idsIOMMU, idsCSR, idsVE, idsVE_ETH, idsVE_CAN, idsVE_CRY, idsDENY] true s (pmReqWrite v flash outst s) := by
  unfold pmReqWrite
  extract_lets x1
  refine .via x1 (put_moves rfl) fun h2 => ?_
  exact (.ite (.after pmRequest_moves h2 rfl rfl) h2)

theorem pmReqRow_moves {init : Nat} {v : Word} {flash : Bool} {outst : List Req} {s : State} : MovesTo [idsLATE, idsLATE_E, idsTOCSIN, idsPMODE, idsSWITCH, idsEPORT, idsCAN, idsIOMMU, idsCSR, idsVE, idsVE_ETH, idsVE_CAN, idsVE_CRY, idsDENY] true s (pmReqRow init v flash outst s) := by
  unfold pmReqRow
  refine .next ?_
  exact (pmWrite_moves rfl (fun _ => (pmReqWrite_moves.sub rfl rfl)))

theorem execPmReqRun_moves {init : Init} {value : Word} {s : State} : MovesTo [idsLATE, idsLATE_E, idsTOCSIN, idsPMODE, idsSWITCH, idsEPORT, idsCAN, idsIOMMU, idsCSR, idsVE, idsVE_ETH, idsVE_CAN, idsVE_CRY, idsDENY] true s (execPmReqRun init value s) := by
  unfold execPmReqRun
  exact (pmReqRow_moves.subTo rfl rfl)

theorem execPmReqDoze_moves {init : Init} {value : Word} {flash : Bool} {outst : List Req} {s : State} : MovesTo [idsLATE, idsLATE_E, idsTOCSIN, idsPMODE, idsSWITCH, idsEPORT, idsCAN, idsIOMMU, idsCSR, idsVE, idsVE_ETH, idsVE_CAN, idsVE_CRY, idsDENY] true s (execPmReqDoze init value flash outst s) := by
  unfold execPmReqDoze
  exact (pmReqRow_moves.subTo rfl rfl)

theorem execPmReqSleep_moves {init : Init} {value : Word} {flash : Bool} {outst : List Req} {s : State} : MovesTo [idsLATE, idsLATE_E, idsTOCSIN, idsPMODE, idsSWITCH, idsEPORT, idsCAN, idsIOMMU, idsCSR, idsVE, idsVE_ETH, idsVE_CAN, idsVE_CRY, idsDENY] true s (execPmReqSleep init value flash outst s) := by
  unfold execPmReqSleep
  exact (pmReqRow_moves.subTo rfl rfl)

theorem execPmReqDeepSleep_moves {init : Init} {value : Word} {flash : Bool} {outst : List Req} {s : State} : MovesTo [idsLATE, idsLATE_E, idsTOCSIN, idsPMODE, idsSWITCH, idsEPORT, idsCAN, idsIOMMU, idsCSR, idsVE, idsVE_ETH, idsVE_CAN, idsVE_CRY, idsDENY] true s (execPmReqDeepSleep init value flash outst s) := by
  unfold execPmReqDeepSleep
  exact (pmReqRow_moves.subTo rfl rfl)

theorem execDozeEntry_moves {outst : List Req} {s : State} : MovesTo [idsLATE, idsLATE_E, idsTOCSIN, idsPMODE, idsSWITCH, idsEPORT, idsIOMMU, idsCSR, idsVE, idsVE_ETH, idsVE_CAN, idsVE_CRY, idsDENY] true s (execDozeEntry outst s) := by
  unfold execDozeEntry
  refine .next ?_
  exact (.ite (.after applyGates_moves (pmEnter_moves.sub rfl rfl) rfl rfl) .refl)

theorem execDozeExit_moves {s : State} : MovesTo [idsLATE, idsLATE_E, idsTOCSIN, idsPMODE, idsSWITCH, idsEPORT, idsIOMMU, idsCSR, idsVE, idsVE_ETH, idsVE_CAN, idsVE_CRY, idsDENY] true s (execDozeExit s) := by
  unfold execDozeExit
  refine .next ?_
  exact (.ite (pmAbort_moves.sub rfl rfl) (.ite (pmToRun_moves.sub rfl rfl) .refl))

theorem pmGateWrite_moves {b : Nat} {v : Word} {outst : List Req} {s : State} : Moves [idsLATE, idsLATE_E, idsTOCSIN, idsPMODE, idsSWITCH, idsEPORT, idsIOMMU, idsCSR, idsVE, idsVE_ETH, idsVE_CAN, idsVE_CRY, idsDENY] true s (pmGateWrite b v outst s) := by
  unfold pmGateWrite
  extract_lets x1 x2
  refine .via x1 ?_ fun h3 => ?_
  · unfold x1
    exact (.ite (put_moves rfl) .refl)
  refine .via x2 ?_ fun h4 => ?_
  · unfold x2
    exact (.ite (.comp (put_moves rfl) h3) h3)
  exact (.after applyGates_moves h4 rfl rfl)

theorem execPmGate_moves {b : Fin 17} {init : Init} {value : Word} {outst : List Req} {s : State} : MovesTo [idsLATE, idsLATE_E, idsTOCSIN, idsPMODE, idsSWITCH, idsEPORT, idsIOMMU, idsCSR, idsVE, idsVE_ETH, idsVE_CAN, idsVE_CRY, idsDENY] true s (execPmGate b init value outst s) := by
  unfold execPmGate
  refine .next ?_
  exact (pmWrite_moves rfl (fun _ => (pmGateWrite_moves.sub rfl rfl)))

theorem sleepCh_moves {ch : Nat} {s : State} : Moves B m s (sleepCh ch s) := by
  unfold sleepCh
  extract_lets n1
  exact (.ite .refl setCh_moves)

theorem sleepOutputs_moves {s : State} : Moves [idsTOCSIN, idsIOX] false s (sleepOutputs s) := by
  unfold sleepOutputs
  extract_lets x1 x2 x3
  refine .via x1 (each_moves (fun _ _ => sleepCh_moves)) fun h4 => ?_
  refine .via x2 (.comp (each_moves (fun _ _ => (.ite .refl (quietLso_moves.sub rfl rfl)))) h4) fun h5 => ?_
  refine .via x3 (.comp (each_moves (fun _ _ => (.ite .refl (quietBr_moves.sub rfl rfl)))) h5) fun h6 => ?_
  exact (.comp (each_moves (fun _ _ => (.ite .refl (quietSsup_moves.sub rfl rfl)))) h6)

theorem deepDrop_moves {s : State} : Moves [idsSPINE, idsTOCSIN, idsPMODE, idsBEATCTL, idsIOX, idsTIME] true s (deepDrop s) := by
  unfold deepDrop
  extract_lets x1 x2 n3 n4 n5 x6 x7 x8 n9 x10
  refine .via x1 (sleepOutputs_moves.sub rfl rfl) fun h11 => ?_
  refine .via x2 (.comp (put_moves rfl) (.comp (put_moves rfl) h11)) fun h12 => ?_
  refine .via x6 (.set h12) fun h13 => ?_
  refine .via x7 (.after clearBlock_moves h13 rfl rfl) fun h14 => ?_
  refine .via x8 (.after beatState_moves (.set h14) rfl rfl) fun h15 => ?_
  refine .via x10 (.set h15) fun h16 => ?_
  exact (.comp emit_moves (.comp (put_moves rfl) (.comp (put_moves rfl) (.comp memKeep_moves h16))))

theorem execPmicEnDrop_moves {s : State} : MovesTo [idsSPINE, idsTOCSIN, idsPMODE, idsBEATCTL, idsIOX, idsTIME] true s (execPmicEnDrop s) := by
  unfold execPmicEnDrop
  refine .next ?_
  extract_lets x1 n2
  refine .via x1 (deepDrop_moves.sub rfl rfl) fun h3 => ?_
  exact (.ite (.set h3) .refl)

theorem execWakeLine_moves {n : Fin 8} {level : Bool} {ticks : Nat} {s : State} : MovesTo [idsLATE, idsLATE_E, idsTOCSIN, idsPMODE, idsSWITCH, idsEPORT, idsIOMMU, idsCSR, idsVE, idsVE_ETH, idsVE_CAN, idsVE_CRY, idsDENY] true s (execWakeLine n level ticks s) := by
  unfold execWakeLine
  extract_lets n1 n2 x3
  refine .via x3 (put_moves rfl) fun h4 => ?_
  refine .next ?_
  exact (.ite (.after wakeEvent_moves h4 rfl rfl) h4)

theorem execKeepTrip_moves {ch : Fin 72} {ticks : Nat} {s : State} : MovesTo [idsLATE, idsLATE_E, idsTOCSIN, idsPMODE, idsSWITCH, idsEPORT, idsIOMMU, idsCSR, idsVE, idsVE_ETH, idsVE_CAN, idsVE_CRY, idsDENY] true s (execKeepTrip ch ticks s) := by
  unfold execKeepTrip
  refine .next ?_
  extract_lets x1 n2
  refine .via x1 setCh_moves fun h3 => ?_
  exact (.ite (.after wakeEvent_moves (.set h3) rfl rfl) .refl)

theorem mfiPolled_moves {ticks : Nat} {x : Nat × Nat} {s : State} : Moves [idsLATE, idsLATE_E, idsTOCSIN, idsPMODE, idsSWITCH, idsEPORT, idsIOMMU, idsCSR, idsVE, idsVE_ETH, idsVE_CAN, idsVE_CRY, idsDENY] true s (mfiPolled ticks x s) := by
  unfold mfiPolled
  extract_lets n1 n2 n3
  split
  · exact .refl
  · extract_lets n4 x5 n6 r7 x8 n9 n10 n11 x12
    refine .via x5 setMfi_moves fun h13 => ?_
    refine .via r7.2 ?_ fun h14 => ?_
    · unfold r7
      refine .ite1 ?_ ?_
      · exact (.comp draw_moves h13)
      · exact h13
    refine .via x8 h14 fun h15 => ?_
    refine .via x12 (.set h15) fun h16 => ?_
    exact (.ite (.after wakeEvent_moves h16 rfl rfl) h16)

theorem execGongMfiPoll_moves {samples : List (Nat × Nat)} {ticks : Nat} {s : State} : MovesTo [idsLATE, idsLATE_E, idsTOCSIN, idsPMODE, idsSWITCH, idsEPORT, idsIOMMU, idsCSR, idsVE, idsVE_ETH, idsVE_CAN, idsVE_CRY, idsDENY] true s (execGongMfiPoll samples ticks s) := by
  unfold execGongMfiPoll
  refine .next ?_
  exact (.ite (each_moves (fun _ _ => (mfiPolled_moves.sub rfl rfl))) .refl)

theorem execWakeTimer_moves {s : State} : MovesTo [idsLATE, idsLATE_E, idsTOCSIN, idsPMODE, idsSWITCH, idsEPORT, idsIOMMU, idsCSR, idsVE, idsVE_ETH, idsVE_CAN, idsVE_CRY, idsDENY] true s (execWakeTimer s) := by
  unfold execWakeTimer
  refine .next ?_
  exact (wakeEvent_moves.sub rfl rfl)

theorem execGongLrcCal_moves {count : Nat} {s : State} : MovesTo [idsPMODE] false s (execGongLrcCal count s) := by
  unfold execGongLrcCal
  refine .next ?_
  exact (.ite (put_moves rfl) .refl)

theorem gongCtrl_moves {v : Word} {s : State} : Moves [idsPMODE] false s (gongCtrl v s) := by
  unfold gongCtrl
  extract_lets x1 n2 x3 n4
  refine .via x1 (put_moves rfl) fun h5 => ?_
  refine .via x3 (.ite (.set h5) .refl) fun h6 => ?_
  exact (.ite (.set h6) h6)

theorem execBootDone_moves {init : Init} {value : Word} {s : State} : MovesTo [idsLATE, idsLATE_E, idsTOCSIN, idsPMODE, idsDENY] false s (execBootDone init value s) := by
  unfold execBootDone
  refine .next ?_
  exact (pmWrite_moves rfl (fun _ => (gongCtrl_moves.sub rfl rfl)))

theorem execStay_moves {init : Init} {value : Word} {s : State} : MovesTo [idsLATE, idsLATE_E, idsTOCSIN, idsPMODE, idsDENY] false s (execStay init value s) := by
  unfold execStay
  refine .next ?_
  exact (pmWrite_moves rfl (fun _ => (gongCtrl_moves.sub rfl rfl)))

theorem wakeBootFail_moves {s : State} : Moves [idsPMODE] false s (wakeBootFail s) := by
  unfold wakeBootFail
  extract_lets n1 x2 x3 x4 n5
  refine .via x2 (.set .refl) fun h6 => ?_
  refine .via x3 (.comp (incSat_moves rfl) (.comp (incSat_moves rfl) h6)) fun h7 => ?_
  refine .via x4 (.comp (incSat_moves rfl) h7) fun h8 => ?_
  exact (.ite (.set h8) h7)

theorem trxSleepOn_moves {s : State} : Moves [idsCAN] false s (trxSleepOn s) := by
  unfold trxSleepOn
  exact (each_moves (fun _ _ => (put_moves rfl)))

theorem wakeOver_moves {s : State} : Moves B m s (wakeOver s) := by
  unfold wakeOver
  extract_lets n1 n2
  exact (.set .refl)

theorem execBootTimeout_moves {s : State} : MovesTo [idsSPINE, idsTOCSIN, idsPMODE, idsBEATCTL, idsIOX, idsTIME, idsCAN] true s (execBootTimeout s) := by
  unfold execBootTimeout
  refine .next ?_
  exact (.ite (.after trxSleepOn_moves (.after wakeBootFail_moves (.comp wakeOver_moves (deepDrop_moves.sub rfl rfl)) rfl rfl) rfl rfl) .refl)

theorem execWakeLockoutEnd_moves {s : State} : MovesTo [idsPMODE] false s (execWakeLockoutEnd s) := by
  unfold execWakeLockoutEnd
  refine .next ?_
  extract_lets x1 n2
  refine .via x1 (put_moves rfl) fun h3 => ?_
  exact (.ite (.set h3) .refl)

theorem execFalseWake_moves {s : State} : MovesTo [idsTOCSIN] false s (execFalseWake s) := by
  unfold execFalseWake
  refine .next ?_
  extract_lets n1
  exact (.ite (.comp raiseIrq_moves (.after pmFault_moves (.set .refl) rfl rfl)) .refl)

theorem forcedReturn_moves {outst : List Req} {s : State} : Moves [idsLATE, idsLATE_E, idsTOCSIN, idsPMODE, idsSWITCH, idsEPORT, idsCAN, idsIOMMU, idsCSR, idsVE, idsVE_ETH, idsVE_CAN, idsVE_CRY, idsDENY] true s (forcedReturn outst s) := by
  unfold forcedReturn
  extract_lets n1 x2 n3 x4 x5 x6
  refine .via x2 (incSat_moves rfl) fun h7 => ?_
  refine .via x4 (.set h7) fun h8 => ?_
  refine .via x5 (.after pmAbort_moves h8 rfl rfl) fun h9 => ?_
  refine .via x6 (.comp raiseIrq_moves (.ite h9 (.after sleepSteps_moves h9 rfl rfl))) fun h10 => ?_
  exact (.ite (.ite (.after armWake_moves h10 rfl rfl) h10) (.after sleepEnter_moves h8 rfl rfl))

theorem execGraceEnd_moves {outst : List Req} {s : State} : MovesTo [idsLATE, idsLATE_E, idsTOCSIN, idsPMODE, idsSWITCH, idsEPORT, idsCAN, idsIOMMU, idsCSR, idsVE, idsVE_ETH, idsVE_CAN, idsVE_CRY, idsDENY] true s (execGraceEnd outst s) := by
  unfold execGraceEnd
  refine .next ?_
  exact (.ite (forcedReturn_moves.sub rfl rfl) .refl)

end Sys2Proof.Machine
end

