-- ==== Sys2Proof/Laws/MovesDict.lean ====
section
/-! SUPPORT.  What each operation of the dictionary can change at most (`Moves` of Laws/Moves.lean): one lemma per definition,
named after it, so that a proof cites it and never unfolds the definition. -/

namespace Sys2Proof.Machine

variable {B A : List (Nat × Nat)} {m k : Bool}

/-! ### ObjBase -/

theorem layPut_moves {l : List Part} {i v : Nat} {s : State} (h : l.all (fun p => inBlocks B p.fld.reg.id) = true) :
    Moves B m s (layPut l i v s) := by
  unfold layPut
  exact each_moves_of fun p hp s => put_moves (List.all_eq_true.1 h p hp)

/-! ### ObjA -/

theorem putSpineHold_moves {u0 v : Nat} {s : State} : Moves [idsSPINE] false s (putSpineHold u0 v s) := by
  unfold putSpineHold
  extract_lets n1
  exact (.ite (put_moves rfl) (.set .refl))

theorem putSel_moves {n v : Nat} {s : State} : Moves [idsTABLA] false s (putSel n v s) := by
  unfold putSel
  exact (.after followSel_moves updEng_moves rfl rfl)

theorem putLib_moves {i v : Nat} {s : State} : Moves B m s (putLib i v s) := by
  unfold putLib
  extract_lets n1 n2 n3 n4 n5 n6
  exact (.set .refl)

/-! ### ObjB -/

theorem swHdrm_moves {p : Nat} {s : State} : Moves [idsSWITCH] false s (swHdrm p s) := by
  unfold swHdrm
  exact (put_moves rfl)

theorem fsInsert_moves {v : Nat} {s : State} : Moves [idsSWITCH] false s (fsInsert v s) := by
  unfold fsInsert
  extract_lets n1 n2
  split
  · exact (setFdb_moves.sub rfl rfl)
  · exact .refl

theorem gateListPut_moves {g v : Nat} {s : State} : Moves B m s (gateListPut g v s) := by
  unfold gateListPut
  exact (each_moves (fun _ _ => tblWrite_moves))

theorem polPut_moves {i v : Nat} {s : State} : Moves [idsEPORT] false s (polPut i v s) :=
  .comp (layPut_moves (by decide)) polSettle_moves

theorem clkIdPut_moves {u0 v : Nat} {s : State} : Moves [idsTIME] false s (clkIdPut u0 v s) := by
  unfold clkIdPut
  exact (put64_moves rfl rfl)

theorem bindPut_moves {n v : Nat} {s : State} : Moves [idsLATE, idsLATE_E, idsTOCSIN, idsCAN, idsIOMMU, idsVE, idsDENY] true s (bindPut n v s) := by
  unfold bindPut
  refine .comp (each_moves (fun a1 s2 => ?_)) ?_
  · extract_lets n3 n4
    exact (slotCfgWrite_moves.sub rfl rfl)
  · exact .refl

theorem canProtoPut_moves {n v : Nat} {s : State} : Moves [idsCAN] false s (canProtoPut n v s) :=
  .ite (.comp (put_moves rfl) (layPut_moves (by decide))) (layPut_moves (by decide))

/-! ### ObjC -/

theorem keyPolicy_moves {h v : Nat} {s : State} : Moves B m s (keyPolicy h v s) := by
  unfold keyPolicy
  extract_lets n1
  exact (.ite .refl setKey_moves)

theorem secAdvance_moves {v : Nat} {s : State} : Moves B m s (secAdvance v s) := by
  unfold secAdvance
  extract_lets n1 n2
  exact (.set .refl)

theorem reactClamp_moves {n : Nat} {s : State} : Moves [idsTOCSIN] false s (reactClamp n s) := by
  unfold reactClamp
  exact (put_moves rfl)

theorem putPrbs_moves {u0 v : Nat} {s : State} : Moves [idsLATE, idsSPINE, idsLATE_E, idsTOCSIN, idsKNELL, idsBIST, idsPWR, idsFEED, idsIOX, idsSENT, idsSWITCH, idsEPORT, idsCAN, idsIOMMU, idsCSR, idsVE, idsVE_ETH, idsVE_CAN, idsVE_CRY, idsDENY] true s (putPrbs u0 v s) := by
  unfold putPrbs
  extract_lets r1 r2
  refine .via r1.2 draw_moves fun h3 => ?_
  refine .via r2.2 (.comp draw_moves h3) fun h4 => ?_
  exact (.after prbsWrite_moves h4 rfl rfl)

/-! ### Dict -/

theorem winData_moves {w : Nat} {l : List Nat} {s : State} : Moves [idsDICT] false s (winData w l s) := by
  unfold winData
  refine .comp (each_moves (fun a1 s2 => ?_)) ?_
  · extract_lets n3 n4
    exact (wr_moves rfl)
  · exact .refl

theorem winDone_moves {w status : Nat} {data : List Nat} {s : State} : Moves [idsDICT] false s (winDone w status data s) := by
  unfold winDone
  extract_lets x1 x2 x3
  refine .via x1 (winData_moves.sub rfl rfl) fun h4 => ?_
  refine .via x2 (.comp (put_moves rfl) (.comp (put_moves rfl) h4)) fun h5 => ?_
  refine .via x3 (.comp (put_moves rfl) (.comp (put_moves rfl) (.comp (put_moves rfl) h5))) fun h6 => ?_
  exact (.ite (.comp raiseIrq_moves h6) h6)

theorem canOwnFrame_moves {k : Nat} {f : List Nat} {s : State} : Moves B m s (canOwnFrame k f s) := by
  unfold canOwnFrame
  extract_lets n1 n2
  exact (.ite .refl updCan_moves)

theorem usestSend_moves {src : DSrc} {msg : List Nat} {s : State} : Moves [idsLATE, idsLATE_E, idsTOCSIN, idsSWITCH, idsEPORT, idsTIME, idsIOMMU, idsVE, idsVE_ETH, idsVE_CAN, idsVE_CRY, idsDENY] true s (usestSend src msg s) := by
  unfold usestSend
  split
  · extract_lets n1 n2
    exact (.comp emit_moves (swInject_moves.sub rfl rfl))
  · exact (each_moves (fun _ _ => canOwnFrame_moves))
  · exact .refl

theorem replyParam_moves {p : Nat} {s : State} : Moves B m s ((replyParam p s).2) := by
  unfold replyParam
  extract_lets r1
  refine .via r1.2 draw_moves fun h2 => ?_
  split
  · exact .refl
  · exact h2

theorem dictReply_moves {r : DReq} {status : Nat} {data : List Nat} {s : State} : Moves [idsLATE, idsLATE_E, idsTOCSIN, idsSWITCH, idsEPORT, idsTIME, idsIOMMU, idsVE, idsVE_ETH, idsVE_CAN, idsVE_CRY, idsDENY, idsDICT] true s (dictReply r status data s) := by
  unfold dictReply
  split
  · exact (winDone_moves.sub rfl rfl)
  · extract_lets r1 n2
    refine .via r1.2 replyParam_moves fun h3 => ?_
    exact (.after usestSend_moves h3 rfl rfl)

theorem dictFinish_moves {x : DOpen} {s : State} : Moves [idsLATE, idsLATE_E, idsTOCSIN, idsSWITCH, idsEPORT, idsTIME, idsIOMMU, idsVE, idsVE_ETH, idsVE_CAN, idsVE_CRY, idsDENY, idsDICT] true s (dictFinish x s) := by
  unfold dictFinish
  extract_lets n1 n2 x3
  refine .via x3 (.set .refl) fun h4 => ?_
  exact (.ite (.ite (.after dictReply_moves h4 rfl rfl) (.after dictReply_moves h4 rfl rfl)) .refl)

theorem dictStatus_moves {id pos st : Nat} {s : State} : Moves [idsLATE, idsLATE_E, idsTOCSIN, idsSWITCH, idsEPORT, idsTIME, idsIOMMU, idsVE, idsVE_ETH, idsVE_CAN, idsVE_CRY, idsDENY, idsDICT] true s (dictStatus id pos st s) := by
  unfold dictStatus
  split
  · exact .refl
  · extract_lets n1 n2
    exact (.after dictFinish_moves (.set .refl) rfl rfl)

theorem dictOpen_moves {r : DReq} {objs : List Nat} {s : State} : Moves B m s ((dictOpen r objs s).2) := by
  unfold dictOpen
  extract_lets n1 n2
  exact (.set .refl)

/-- Putting a value of an object keeps memory's form, the queue and what has left the device. -/
def ObjDef.Tame (o : ObjDef) : Prop := ∀ i v s, Moves objBlocks true s (o.put i v s)

theorem objR_tame {base : Nat} {dims : List (Nat × Nat)} {ty len rights : Nat} {res : Nat → ObjRes} {read : State → Nat → Nat} :
    (objR base dims ty len rights res read).Tame := fun _ _ _ => .refl

theorem objV_tame {base : Nat} {dims : List (Nat × Nat)} {ty len : Nat} {acc : ObjAcc} {rights : Nat} {res : Nat → ObjRes}
    {d : Nat} : (objV base dims ty len acc rights res d).Tame := fun _ _ _ => .set .refl

theorem objL_tame {base : Nat} {dims : List (Nat × Nat)} {ty len : Nat} {acc : ObjAcc} {rights : Nat} {res : Nat → ObjRes}
    {l : List Part} (h : l.all (fun p => inBlocks objBlocks p.fld.reg.id) = true) : (objL base dims ty len acc rights res l).Tame :=
  fun _ _ _ => layPut_moves h

theorem ObjDef.range_tame {o : ObjDef} {p : Nat → Bool} (h : o.Tame) : (o.range p).Tame := h
theorem ObjDef.checks_tame {o : ObjDef} {f : State → Nat → Nat → Bool} (h : o.Tame) : (o.checks f).Tame := h
theorem ObjDef.reads_tame {o : ObjDef} {f : State → Nat → Nat} (h : o.Tame) : (o.reads f).Tame := h
theorem ObjDef.now_tame {o : ObjDef} (h : o.Tame) : o.now.Tame := h
theorem ObjDef.default_tame {o : ObjDef} {d : Nat → Nat} (h : o.Tame) : (o.default d).Tame := h
theorem ObjDef.by_tame {o : ObjDef} {f : Nat → Nat → State → State} (h : ∀ i v s, Moves objBlocks true s (f i v s)) :
    (o.by f).Tame := h
theorem ObjDef.after_tame {o : ObjDef} {f : Nat → State → State} (h : o.Tame) (g : ∀ i s, Moves objBlocks true s (f i s)) :
    (o.after f).Tame := fun _ _ _ => (h _ _ _).trans (g _ _)

theorem p0_all {f : Fld} (h : inBlocks objBlocks f.reg.id = true) : (p0 f).all (fun p => inBlocks objBlocks p.fld.reg.id) = true := by
  simp [p0, h]

theorem bitParts_all {f : Fld} {n : Nat} (h : inBlocks objBlocks f.reg.id = true) :
    (bitParts f n).all (fun p => inBlocks objBlocks p.fld.reg.id) = true := by
  simp [bitParts, h]

theorem objF_tame {base : Nat} {dims : List (Nat × Nat)} {ty rights : Nat} {res : Nat → ObjRes} {f : Fld} :
    (objF base dims ty rights res f).Tame := objR_tame
theorem chB_tame {ii ty : Nat} {f : Fld} (h : inBlocks objBlocks f.reg.id = true) : (chB ii ty f).Tame := objL_tame (p0_all h)
theorem chM_tame {ii ty : Nat} {f : Fld} (h : inBlocks objBlocks f.reg.id = true) : (chM ii ty f).Tame := objL_tame (p0_all h)
theorem chR_tame {ii ty : Nat} {r : State → Nat → Nat} : (chR ii ty r).Tame := objR_tame
theorem feedB_tame {ii ty : Nat} {f : Fld} (h : inBlocks objBlocks f.reg.id = true) : (feedB ii ty f).Tame := objL_tame (p0_all h)
theorem feedM_tame {ii ty : Nat} {f : Fld} (h : inBlocks objBlocks f.reg.id = true) : (feedM ii ty f).Tame := objL_tame (p0_all h)
theorem feedR_tame {ii ty : Nat} {r : State → Nat → Nat} : (feedR ii ty r).Tame := objR_tame
theorem swBits_tame {num : Nat} {acc : ObjAcc} {rights : Nat} {f : Fld} (h : inBlocks objBlocks f.reg.id = true) :
    (swBits num acc rights f).Tame := objL_tame (bitParts_all h)
theorem tblObj_tame {base n t len : Nat} : (tblObj base n t len).Tame := fun _ _ _ => tblWrite_moves
theorem pmObj_tame {num ty : Nat} {acc : ObjAcc} {f : Fld} (h : inBlocks objBlocks f.reg.id = true) :
    (pmObj num ty acc f).Tame := objL_tame (p0_all h)
theorem divObj_tame {num : Nat} {dims : List (Nat × Nat)} {dom : Nat → Nat} : (divObj num dims dom).Tame :=
  ObjDef.by_tame fun _ _ _ => clkDomWrite_moves.sub rfl rfl

theorem mfiMode_moves {i v : Nat} {s : State} :
    Moves objBlocks true s (mfiCfgAfter i (s.get F.IOX_MFI_CFG_MODE i) (s.put F.IOX_MFI_CFG_MODE i v)) :=
  .comp (mfiCfgAfter_moves.sub rfl rfl) (put_moves rfl)

theorem pwmPer_moves {i v : Nat} {s : State} :
    Moves objBlocks true s (pwmAfter i (s.get F.IOX_LSO_PWM_PER i) (s.put F.IOX_LSO_PWM_PER i v)) :=
  .comp (pwmAfter_moves.sub rfl rfl) (put_moves rfl)

theorem objects_tame : ∀ o ∈ objects, o.Tame := by
  unfold objects objs01 objs03 objs04 objs05 objs06 objs07in objs07out objs08 objs09 objs10 objs11 objs12 objs13 objs14 objs15
    objs16 objs17 objs18 objs19
  repeat' first
    | with_reducible exact List.forall_mem_nil _
    | with_reducible refine List.forall_mem_cons.2 ⟨?_, ?_⟩
    | with_reducible refine List.forall_mem_append.2 ⟨?_, ?_⟩
  all_goals repeat' first
    | with_reducible exact objR_tame
    | with_reducible refine objL_tame ?_
    | with_reducible exact objV_tame
    | with_reducible exact objF_tame
    | with_reducible refine chB_tame ?_
    | with_reducible refine chM_tame ?_
    | with_reducible exact chR_tame
    | with_reducible refine feedB_tame ?_
    | with_reducible refine feedM_tame ?_
    | with_reducible exact feedR_tame
    | with_reducible refine swBits_tame ?_
    | with_reducible exact tblObj_tame
    | with_reducible refine pmObj_tame ?_
    | with_reducible exact divObj_tame
    | with_reducible refine ObjDef.range_tame ?_
    | with_reducible refine ObjDef.checks_tame ?_
    | with_reducible refine ObjDef.reads_tame ?_
    | with_reducible refine ObjDef.now_tame ?_
    | with_reducible refine ObjDef.default_tame ?_
    | with_reducible refine ObjDef.after_tame ?_ fun _ _ => ?_
    | with_reducible refine ObjDef.by_tame fun _ _ _ => ?_
  all_goals try first
    | ((with_reducible show inBlocks _ _ = true); rfl)
    | ((with_reducible show List.all _ _ = true); decide +kernel)
  all_goals repeat' first
    | with_reducible exact raiCfgAfter_moves.sub rfl rfl
    | with_reducible exact tempAfter_moves.sub rfl rfl
    | with_reducible exact followLso_moves.sub rfl rfl
    | with_reducible exact followBr_moves.sub rfl rfl
    | with_reducible exact followSsup_moves.sub rfl rfl
    | with_reducible exact mfiMode_moves
    | with_reducible exact pwmPer_moves
    | with_reducible refine Moves.ite ?_ .refl
    | with_reducible exact putSpineHold_moves.sub rfl rfl
    | with_reducible exact putLib_moves
    | with_reducible exact driveLso_moves.sub rfl rfl
    | with_reducible exact driveBr_moves.sub rfl rfl
    | with_reducible exact driveSsup_moves.sub rfl rfl
    | with_reducible exact sentCfgWrite_moves.sub rfl rfl
    | with_reducible exact gclCtrlWrite_moves.sub rfl rfl
    | with_reducible exact cbsSlopeWrite_moves.sub rfl rfl
    | with_reducible exact cbsMaxIntWrite_moves.sub rfl rfl
    | with_reducible exact clkIdPut_moves.sub rfl rfl
    | with_reducible exact bindPut_moves.sub rfl rfl
    | with_reducible exact swHdrm_moves.sub rfl rfl
    | with_reducible exact keyPolicy_moves
    | with_reducible exact reactClamp_moves.sub rfl rfl
    | with_reducible exact fsInsert_moves.sub rfl rfl
    | with_reducible refine layPut_moves ?_
    | with_reducible exact putSel_moves.sub rfl rfl
    | with_reducible exact publish_moves
    | with_reducible exact setTestAs_moves.sub rfl rfl
    | with_reducible exact canProtoPut_moves.sub rfl rfl
    | with_reducible exact polPut_moves.sub rfl rfl
    | with_reducible exact gateListPut_moves
    | with_reducible exact pmRequest_moves.sub rfl rfl
    | with_reducible exact secAdvance_moves
    | with_reducible exact putPrbs_moves.sub rfl rfl
    | with_reducible exact canRecover_moves.sub rfl rfl
    | with_reducible exact clkRestore_moves.sub rfl rfl
    | with_reducible refine Moves.trans ?_ (trxWrite_moves.sub rfl rfl)
    | with_reducible exact put_moves rfl
    | with_reducible exact rfl
    | ((with_reducible show inBlocks _ _ = true); rfl)
    | ((with_reducible show List.all _ _ = true); decide +kernel)

theorem findIn_mem {l : List ObjDef} {n : Nat} {x : ObjDef × Nat} (h : findIn l n = some x) : x.1 ∈ l := by
  induction l with
  | nil => cases h
  | cons o t ih =>
    unfold findIn at h
    split at h
    · cases h
      exact List.mem_cons_self ..
    · exact List.mem_cons_of_mem _ (ih h)

theorem findObj_tame {n i : Nat} {o : ObjDef} (h : findObj n = some (o, i)) : o.Tame := objects_tame _ (findIn_mem h)

/-- A verdict that carries something did not come from a branch that carries nothing. -/
theorem ite_carries {α β : Type} {c : Prop} [Decidable c] {a p : α} {e : α × Option β} {x : β}
    (h : (if c then (a, none) else e) = (p, some x)) : e = (p, some x) := by
  split at h
  · cases h
  · exact h

theorem judgeObj_tame {s : State} {w : DWho} {n : Nat} {wr : Bool} {st i : Nat} {o : ObjDef}
    (h : judgeObj s w n wr = (st, some (o, i))) : o.Tame := by
  unfold judgeObj at h
  replace h := ite_carries h
  split at h
  · cases h
  · rename_i ho
    replace h := ite_carries (ite_carries (ite_carries h))
    cases h
    exact findObj_tame ho

theorem judgeWrite_tame {s : State} {w : DWho} {net : Bool} {n : Nat} {data : List Nat} {skip more st i v : Nat} {o : ObjDef}
    (h : judgeWrite s w net n data skip more = (st, some (o, i, v))) : o.Tame := by
  unfold judgeWrite at h
  split at h
  · cases h
  · rename_i hj
    replace h := ite_carries (ite_carries h)
    replace h := ite_carries (ite_carries h)
    cases h
    exact judgeObj_tame hj

theorem acceptWrite_moves {id skip pos n : Nat} {o : ObjDef} {i v : Nat} {s : State} (h : o.Tame) :
    Moves objBlocks true s (acceptWrite id skip pos n o i v s) := by
  unfold acceptWrite
  refine .ite ?_ (.after dictStatus_moves (h _ _ _) rfl rfl)
  extract_lets
  exact .comp (each_moves fun _ _ => dictStatus_moves.sub rfl rfl) (.set .refl)

theorem acceptWrites_moves {r : DReq} {skip : Nat} {l : List (Nat × ObjDef × Nat × Nat)} {s : State}
    (h : ∀ e ∈ l, e.2.1.Tame) : Moves objBlocks true s (acceptWrites r skip l s) := by
  unfold acceptWrites
  extract_lets x
  refine .via x.2 dictOpen_moves fun hx => ?_
  clear_value x
  refine .ite ?_ ?_
  · split
    · exact .after dictFinish_moves hx rfl rfl
    · exact hx
  unfold State.each
  have hz : ∀ e ∈ l.zipIdx, e.1.2.1.Tame := fun e he => h e.1 (List.fst_mem_of_mem_zipIdx he)
  generalize l.zipIdx = z at hz
  revert hx
  generalize x.2 = u
  intro hx
  induction z generalizing u with
  | nil => exact hx
  | cons e z ih =>
    exact ih (fun f hf => hz f (List.mem_cons_of_mem _ hf)) _ (.comp (acceptWrite_moves (hz e (List.mem_cons_self ..))) hx)

theorem serveFront_moves {p : DReq → Bool} {f : DReq → State → State} {s : State} (h_f : ∀ y0 y1, Moves B m y1 (f y0 y1)) : Moves B m s (serveFront p f s) := by
  unfold serveFront
  split
  · exact .refl
  · extract_lets n1
    exact (.ite (.comp (h_f _ _) (.set .refl)) .refl)

theorem execDictRead_moves {s : State} : MovesTo [idsLATE, idsLATE_E, idsTOCSIN, idsSWITCH, idsEPORT, idsTIME, idsIOMMU, idsVE, idsVE_ETH, idsVE_CAN, idsVE_CRY, idsDENY, idsDICT] true s (execDictRead s) := by
  unfold execDictRead
  refine .next ?_
  refine .comp (serveFront_moves (fun a1 s2 => ?_)) ?_
  · split
    · exact (dictReply_moves.sub rfl rfl)
    · exact (dictReply_moves.sub rfl rfl)
  · exact .refl

theorem execDictWrite_moves {late : Bool} {s : State} : MovesTo objBlocks true s (execDictWrite late s) := by
  unfold execDictWrite
  refine .next (serveFront_moves fun r u => ?_)
  split
  · rename_i h
    refine acceptWrites_moves fun e he => ?_
    rw [List.mem_singleton] at he
    rw [he]
    exact judgeWrite_tame h
  · exact dictReply_moves.sub rfl rfl

theorem readMulti_moves {r : DReq} {s : State} : Moves [idsLATE, idsLATE_E, idsTOCSIN, idsSWITCH, idsEPORT, idsTIME, idsIOMMU, idsVE, idsVE_ETH, idsVE_CAN, idsVE_CRY, idsDENY, idsDICT] true s (readMulti r s) := by
  unfold readMulti
  exact (.ite (dictReply_moves.sub rfl rfl) (.ite (dictReply_moves.sub rfl rfl) (dictReply_moves.sub rfl rfl)))

theorem execDictReadMulti_moves {s : State} : MovesTo [idsLATE, idsLATE_E, idsTOCSIN, idsSWITCH, idsEPORT, idsTIME, idsIOMMU, idsVE, idsVE_ETH, idsVE_CAN, idsVE_CRY, idsDENY, idsDICT] true s (execDictReadMulti s) := by
  unfold execDictReadMulti
  refine .next ?_
  exact (serveFront_moves (fun _ _ => (readMulti_moves.sub rfl rfl)))

theorem judgeAll_tame {s : State} {w : DWho} {net : Bool} {skip : Nat} {l : List (Nat × List Nat)} :
    ∀ more, ∀ e ∈ judgeAll s w net skip more l, ∀ x, e.2.2 = some x → x.1.Tame := by
  induction l with
  | nil => intro _ e he; cases he
  | cons a l ih =>
    intro more e he x hx
    unfold judgeAll at he
    dsimp only at he
    rcases List.mem_cons.1 he with rfl | he
    · generalize hj : judgeWrite s w net a.1 a.2 skip more = j at hx
      obtain ⟨st, o⟩ := j
      obtain ⟨o, i, v⟩ := x
      cases hx
      exact judgeWrite_tame hj
    · exact ih _ e he x hx

theorem writeMulti_moves {late : Bool} {r : DReq} {s : State} : Moves objBlocks true s (writeMulti late r s) := by
  unfold writeMulti
  split
  · exact dictReply_moves.sub rfl rfl
  · extract_lets js
    split
    · exact .ite (dictReply_moves.sub rfl rfl) (dictReply_moves.sub rfl rfl)
    · refine .ite (dictReply_moves.sub rfl rfl) (acceptWrites_moves fun e he => ?_)
      obtain ⟨j, hj, hm⟩ := List.mem_filterMap.1 he
      cases hx : j.2.2 with
      | none => rw [hx] at hm; cases hm
      | some x =>
        rw [hx] at hm
        cases hm
        exact judgeAll_tame _ _ hj _ hx

theorem execDictWriteMulti_moves {late : Bool} {s : State} : MovesTo everything true s (execDictWriteMulti late s) := by
  unfold execDictWriteMulti
  refine .next ?_
  exact (serveFront_moves (fun _ _ => (writeMulti_moves.sub rfl rfl)))

theorem cancelHeld_moves {n : Nat} {s : State} : Moves [idsTABLA] false s (cancelHeld n s) := by
  unfold cancelHeld
  extract_lets x1
  refine .via x1 updEng_moves fun h2 => ?_
  exact (.ite (.comp (put_moves rfl) (.comp (put_moves rfl) (.comp (put_moves rfl) h2))) .refl)

theorem modeLoads_moves {t : Nat} {s : State} : Moves [idsTABLA] false s (modeLoads t s) := by
  unfold modeLoads
  refine .comp (each_moves (fun a1 s2 => ?_)) ?_
  · extract_lets n3 n4 x5
    refine .via x5 (cancelHeld_moves.sub rfl rfl) fun h6 => ?_
    exact (.ite h6 (.after startLoad_moves h6 rfl rfl))
  · exact .refl

theorem modeReq_moves {late : Bool} {r : DReq} {s : State} : Moves [idsLATE, idsLATE_E, idsTOCSIN, idsTABLA, idsSWITCH, idsEPORT, idsTIME, idsIOMMU, idsVE, idsVE_ETH, idsVE_CAN, idsVE_CRY, idsDENY, idsDICT] true s (modeReq late r s) := by
  unfold modeReq
  extract_lets n1 n2 n3 n4 x5 r6 x7 n8 x9
  refine .via x5 ?_ fun h10 => ?_
  · unfold x5
    split
    · exact (.after dictStatus_moves (.set .refl) rfl rfl)
    · exact .refl
  refine .via r6.2 (.comp dictOpen_moves h10) fun h11 => ?_
  refine .via x7 h11 fun h12 => ?_
  refine .via x9 (.set h12) fun h13 => ?_
  refine .ite ?_ ?_
  · exact (dictReply_moves.sub rfl rfl)
  · refine .ite ?_ ?_
    · exact (dictReply_moves.sub rfl rfl)
    · refine .ite ?_ ?_
      · exact (dictReply_moves.sub rfl rfl)
      · exact (.ite (dictReply_moves.sub rfl rfl) (.ite (dictReply_moves.sub rfl rfl) (.after modeLoads_moves (.comp (put_moves rfl) (.comp (put_moves rfl) h13)) rfl rfl)))

theorem execModeReq_moves {late : Bool} {s : State} : MovesTo [idsLATE, idsLATE_E, idsTOCSIN, idsTABLA, idsSWITCH, idsEPORT, idsTIME, idsIOMMU, idsVE, idsVE_ETH, idsVE_CAN, idsVE_CRY, idsDENY, idsDICT] true s (execModeReq late s) := by
  unfold execModeReq
  refine .next ?_
  exact (serveFront_moves (fun _ _ => (modeReq_moves.sub rfl rfl)))

theorem subscribe_moves {r : DReq} {s : State} : Moves [idsLATE, idsLATE_E, idsTOCSIN, idsSWITCH, idsEPORT, idsTIME, idsIOMMU, idsVE, idsVE_ETH, idsVE_CAN, idsVE_CRY, idsDENY, idsDICT] true s (subscribe r s) := by
  unfold subscribe
  extract_lets n1 n2 n3
  split
  · exact (dictReply_moves.sub rfl rfl)
  · exact (.ite (.after dictReply_moves (.set .refl) rfl rfl) (.ite (dictReply_moves.sub rfl rfl) (.ite (dictReply_moves.sub rfl rfl) (.after dictReply_moves (.set .refl) rfl rfl))))

theorem execSubscribe_moves {s : State} : MovesTo [idsLATE, idsLATE_E, idsTOCSIN, idsSWITCH, idsEPORT, idsTIME, idsIOMMU, idsVE, idsVE_ETH, idsVE_CAN, idsVE_CRY, idsDENY, idsDICT] true s (execSubscribe s) := by
  unfold execSubscribe
  refine .next ?_
  exact (serveFront_moves (fun _ _ => (subscribe_moves.sub rfl rfl)))

theorem notify_moves {x : DSub} {s : State} : Moves [idsLATE, idsLATE_E, idsTOCSIN, idsSWITCH, idsEPORT, idsTIME, idsIOMMU, idsVE, idsVE_ETH, idsVE_CAN, idsVE_CRY, idsDENY] true s (notify x s) := by
  unfold notify
  split
  · exact .refl
  · extract_lets n1 n2 n3 n4 n5
    exact (.after usestSend_moves (.set .refl) rfl rfl)

theorem notifyAll_moves {s : State} : Moves [idsLATE, idsLATE_E, idsTOCSIN, idsSWITCH, idsEPORT, idsTIME, idsIOMMU, idsVE, idsVE_ETH, idsVE_CAN, idsVE_CRY, idsDENY] true s (notifyAll s) := by
  unfold notifyAll
  extract_lets n1 n2 x3
  refine .via x3 (.set .refl) fun h4 => ?_
  exact (.comp (each_moves (fun _ _ => (notify_moves.sub rfl rfl))) h4)

theorem commitSel_moves {n v : Nat} {s : State} : Moves [idsTABLA] false s (commitSel n v s) := by
  unfold commitSel
  exact (.after followSel_moves updEng_moves rfl rfl)

theorem commitList_moves {mode : Bool} {l : List (Nat × Nat)} {s : State} :
    Moves objBlocks true s (commitList mode l s).2 := by
  induction l generalizing s with
  | nil => exact .refl
  | cons e l ih =>
    unfold commitList
    split
    · exact ih
    · rename_i h
      refine .ite1 ih ?_
      extract_lets c x r
      refine .via x (.ite (commitSel_moves.sub rfl rfl) (findObj_tame h _ _ _)) fun hx => ?_
      exact .pair (.comp ih hx)

theorem enterMode_moves {t : Nat} {s : State} : Moves [idsDICT] false s (enterMode t s) := by
  unfold enterMode
  extract_lets x1 x2 n3
  refine .via x1 (.comp (put_moves rfl) (.comp (put_moves rfl) (put_moves rfl))) fun h4 => ?_
  refine .via x2 (.comp (incWrap_moves rfl) h4) fun h5 => ?_
  exact (.set h5)

theorem dictCommit_moves {s : State} : Moves objBlocks true s (dictCommit s) := by
  unfold dictCommit
  extract_lets n1 n2 n3 n4 x5 r6 r7 n8 x9 x10 x11 x12 x13
  refine .via x5 (.set .refl) fun h14 => ?_
  refine .via r6.2 (.after commitList_moves h14 rfl rfl) fun h15 => ?_
  refine .via r7.2 ?_ fun h16 => ?_
  · unfold r7
    clear_value n2 r6
    split
    · extract_lets r17
      refine .via r17.2 (.after commitList_moves h15 rfl rfl) fun h18 => ?_
      exact (.comp (each_moves (fun _ _ => updEng_moves)) h18)
    · exact h15
  refine .via x9 (.comp (each_moves (fun _ _ => (gclChange_moves.sub rfl rfl))) h16) fun h19 => ?_
  refine .via x10 ?_ fun h20 => ?_
  · unfold x10
    clear_value n2 x9
    split
    · exact (.after enterMode_moves h19 rfl rfl)
    · exact h19
  refine .via x11 ?_ fun h21 => ?_
  · unfold x11
    split
    · extract_lets x22 n23
      refine .via x22 (.comp (put_moves rfl) h20) fun h24 => ?_
      exact (.set h24)
    · exact h20
  refine .via x12 (.comp (each_moves (fun _ _ => (dictStatus_moves.sub rfl rfl))) h21) fun h25 => ?_
  refine .via x13 ?_ fun h26 => ?_
  · unfold x13
    clear_value n2 x12
    split
    · exact (.after dictStatus_moves h25 rfl rfl)
    · exact h25
  exact (.after notifyAll_moves h26 rfl rfl)

theorem windowGo_moves {w : Nat} {belfry : Bool} {s : State} : Moves [idsDICT] false s (windowGo w belfry s) := by
  unfold windowGo
  extract_lets n1 n2 x3 n4 n5
  refine .via x3 (.comp (put_moves rfl) (put_moves rfl)) fun h6 => ?_
  exact (.ite (.after winDone_moves h6 rfl rfl) (.ite (.after winDone_moves h6 rfl rfl) (.set h6)))

theorem winCmd_moves {w init : Nat} {v : Word} {s : State} : Moves [idsDICT] false s (winCmd w init v s) := by
  unfold winCmd
  extract_lets n1 x2
  refine .via x2 (.comp (put_moves rfl) (put_moves rfl)) fun h3 => ?_
  exact (.ite (.after windowGo_moves h3 rfl rfl) h3)

/-! ### Image -/

theorem flashErase_moves {a n : Nat} {s : State} : Moves B true s (flashErase a n s) := by
  unfold flashErase
  exact memKeep_moves

theorem slotKnow_moves {k st gen : Nat} {s : State} : Moves everything false s (slotKnow k st gen s) := by
  unfold slotKnow
  extract_lets n1 x2 x3
  refine .via x2 (.set .refl) fun h4 => ?_
  refine .via x3 (.comp (put_moves rfl) h4) fun h5 => ?_
  exact (.ite (.comp (put_moves rfl) h5) h5)

theorem slotPut_moves {k st gen : Nat} {s : State} : Moves everything true s (slotPut k st gen s) := by
  unfold slotPut
  exact (.after slotKnow_moves memWrite_moves rfl rfl)

theorem slotsLoad_moves {s : State} : Moves everything false s (slotsLoad s) := by
  unfold slotsLoad
  refine .comp (each_moves (fun a1 s2 => ?_)) ?_
  · extract_lets n3
    exact (slotKnow_moves.sub rfl rfl)
  · exact .refl

theorem dictFault_moves {n kind code index w1 w3 : Nat} {s : State} : Moves [idsTOCSIN] false s (dictFault n kind code index w1 w3 s) := by
  unfold dictFault
  exact (raise_moves.sub rfl rfl)

theorem imgScratch_moves {recs : List (Nat × Nat)} {s : State} : Moves everything true s (imgScratch recs s) := by
  unfold imgScratch
  extract_lets _ x
  refine .via x (.set .refl) fun hx => ?_
  refine .comp (each_moves fun e u => ?_) hx
  split
  · rename_i h
    exact .ite .refl ((findObj_tame h _ _ _).sub rfl rfl)
  · exact .refl

theorem loadDrop_moves {s : State} : Moves B m s (loadDrop s) := by
  unfold loadDrop
  extract_lets n1
  exact (.set .refl)

theorem loadChunk_moves {r : DReq} {s : State} : Moves everything true s ((loadChunk r s).2) := by
  unfold loadChunk
  extract_lets n1 n2 n3 n4 x5 x6 n7
  refine .via x5 ?_ fun h8 => ?_
  · unfold x5
    exact (.ite (.ite (.after slotPut_moves flashErase_moves rfl rfl) flashErase_moves) .refl)
  refine .via x6 (.comp memWrite_moves h8) fun h9 => ?_
  refine .ite1 ?_ ?_
  · exact loadDrop_moves
  · refine .ite1 ?_ ?_
    · exact loadDrop_moves
    · refine .ite1 ?_ ?_
      · exact loadDrop_moves
      · refine .ite1 ?_ ?_
        · exact loadDrop_moves
        · exact (.set h9)

theorem execImageLoad_moves {s : State} : MovesTo everything true s (execImageLoad s) := by
  unfold execImageLoad
  refine .next ?_
  refine .comp (serveFront_moves (fun a1 s2 => ?_)) ?_
  · extract_lets r3
    refine .via r3.2 (loadChunk_moves.sub rfl rfl) fun h4 => ?_
    exact (.after dictReply_moves h4 rfl rfl)
  · exact .refl

theorem commitFail_moves {r : DReq} {kind num : Nat} {e : Nat × Nat} {s : State} : Moves [idsLATE, idsLATE_E, idsTOCSIN, idsSWITCH, idsEPORT, idsTIME, idsIOMMU, idsVE, idsVE_ETH, idsVE_CAN, idsVE_CRY, idsDENY, idsDICT] true s (commitFail r kind num e s) := by
  unfold commitFail
  exact (.after dictReply_moves (dictFault_moves.sub rfl rfl) rfl rfl)

theorem imageCommit_moves {r : DReq} {s : State} : Moves everything true s (imageCommit r s) := by
  unfold imageCommit
  extract_lets r1 n2 n3 n4 x5 n6
  refine .via r1.2 (loadChunk_moves.sub rfl rfl) fun h7 => ?_
  refine .via x5 (.comp loadDrop_moves h7) fun h8 => ?_
  refine .ite ?_ ?_
  · exact (.after dictReply_moves h7 rfl rfl)
  · split
    · exact (.after dictReply_moves (.after slotPut_moves h8 rfl rfl) rfl rfl)
    · exact (.after commitFail_moves (.after slotPut_moves h8 rfl rfl) rfl rfl)
    · exact (.after commitFail_moves h8 rfl rfl)
    · split
      · refine .after commitFail_moves ?_ rfl rfl
        · refine .comp (when_moves (fun s9 => ?_)) ?_
          · extract_lets n10 x11
            refine .via x11 (.set .refl) fun h12 => ?_
            exact (.comp (put_moves rfl) h12)
          · exact h8
      · refine .after dictReply_moves ?_ rfl rfl
        · refine .comp (when_moves (fun s13 => ?_)) ?_
          · extract_lets n14 x15
            refine .via x15 (.set .refl) fun h16 => ?_
            exact (.comp (put_moves rfl) h16)
          · exact h8

theorem execImageCommit_moves {s : State} : MovesTo everything true s (execImageCommit s) := by
  unfold execImageCommit
  refine .next ?_
  exact (serveFront_moves (fun _ _ => (imageCommit_moves.sub rfl rfl)))

theorem slotConfirm_moves {s : State} : Moves everything true s (slotConfirm s) := by
  unfold slotConfirm
  extract_lets n1
  exact (.ite (slotPut_moves.sub rfl rfl) .refl)

theorem slotWrite'_moves {init : Nat} {v : Word} {s : State} : Moves everything true s (slotWrite' init v s) := by
  unfold slotWrite'
  exact (.ite (.ite (slotConfirm_moves.sub rfl rfl) .refl) (denyWrite_moves.sub rfl rfl))

theorem execSlotConfirm_moves {init : Init} {value : Word} {s : State} : MovesTo everything true s (execSlotConfirm init value s) := by
  unfold execSlotConfirm
  refine .next ?_
  exact (busWrite_moves rfl (fun _ => (slotWrite'_moves.sub rfl rfl)))

/-! ### Usest -/

theorem usestDrop_moves {s : State} : Moves [idsDICT] false s (usestDrop s) := by
  unfold usestDrop
  exact (incSat_moves rfl)

theorem usestAuth_moves {src : DSrc} {sess seq : Nat} {s : State} : Moves [idsTOCSIN, idsDICT] false s (usestAuth src sess seq s) := by
  unfold usestAuth
  exact (.after dictFault_moves (incSat_moves rfl) rfl rfl)

theorem usestReplay_moves {src : DSrc} {sess seq : Nat} {s : State} : Moves [idsTOCSIN, idsDICT] false s (usestReplay src sess seq s) := by
  unfold usestReplay
  exact (.after dictFault_moves (incSat_moves rfl) rfl rfl)

theorem usestErr_moves {src : DSrc} {sess seq obj st : Nat} {s : State} : Moves [idsLATE, idsLATE_E, idsTOCSIN, idsSWITCH, idsEPORT, idsTIME, idsIOMMU, idsVE, idsVE_ETH, idsVE_CAN, idsVE_CRY, idsDENY, idsDICT] true s (usestErr src sess seq obj st s) := by
  unfold usestErr
  exact (dictReply_moves.sub rfl rfl)

theorem usestMsg_moves {src : DSrc} {msg : List Nat} {s : State} : Moves [idsLATE, idsLATE_E, idsTOCSIN, idsSWITCH, idsEPORT, idsTIME, idsIOMMU, idsVE, idsVE_ETH, idsVE_CAN, idsVE_CRY, idsDENY, idsDICT] true s (usestMsg src msg s) := by
  unfold usestMsg
  extract_lets n1 n2 n3 n4 n5 x6 n7 n8
  refine .via x6 ?_ fun h9 => ?_
  · unfold x6
    exact (.ite .refl (.set .refl))
  refine .ite ?_ ?_
  · exact (usestDrop_moves.sub rfl rfl)
  · split
    · exact (usestAuth_moves.sub rfl rfl)
    · refine .ite ?_ ?_
      · exact (usestReplay_moves.sub rfl rfl)
      · split
        · exact (.after usestErr_moves h9 rfl rfl)
        · exact (.set h9)

theorem usestDatagram_moves {s : State} :
    Moves [idsLATE, idsLATE_E, idsTOCSIN, idsSWITCH, idsEPORT, idsTIME, idsIOMMU, idsVE, idsVE_ETH, idsVE_CAN, idsVE_CRY, idsDENY,
      idsDICT] true s (usestDatagram s) := by
  unfold usestDatagram
  split
  · exact .refl
  · next x u h =>
    have hu := (rxTake_moves h).sub (B := [idsLATE, idsLATE_E, idsTOCSIN, idsSWITCH, idsEPORT, idsTIME, idsIOMMU, idsVE, idsVE_ETH,
      idsVE_CAN, idsVE_CRY, idsDENY, idsDICT]) (m := true) rfl rfl
    extract_lets ip udp src own
    exact .ite hu (.ite hu (.ite (.after usestDrop_moves hu rfl rfl) (.comp usestMsg_moves hu)))

theorem execUsestDatagram_moves {s : State} : MovesTo [idsLATE, idsLATE_E, idsTOCSIN, idsSWITCH, idsEPORT, idsTIME, idsIOMMU, idsVE, idsVE_ETH, idsVE_CAN, idsVE_CRY, idsDENY, idsDICT] true s (execUsestDatagram s) := by
  unfold execUsestDatagram
  refine .next ?_
  exact (.ite (usestDatagram_moves.sub rfl rfl) .refl)

theorem setPart_moves {k : Nat} {x : Nat × List Nat} {s : State} : Moves B m s (setPart k x s) := by
  unfold setPart
  extract_lets n1
  exact (.set .refl)

theorem partDrop_moves {k : Nat} {s : State} : Moves [idsDICT] false s (partDrop k s) := by
  unfold partDrop
  exact (.ite .refl (.after usestDrop_moves setPart_moves rfl rfl))

theorem usestSegment_moves {k : Nat} {octets : List Nat} {s : State} : Moves [idsLATE, idsLATE_E, idsTOCSIN, idsSWITCH, idsEPORT, idsTIME, idsIOMMU, idsVE, idsVE_ETH, idsVE_CAN, idsVE_CRY, idsDENY, idsDICT] true s (usestSegment k octets s) := by
  unfold usestSegment
  split
  · exact .refl
  · extract_lets n1 x2 n3
    refine .via x2 ?_ fun h4 => ?_
    · unfold x2
      exact (.ite (partDrop_moves.sub rfl rfl) .refl)
    exact (.ite h4 (.ite (.after usestMsg_moves (.comp setPart_moves h4) rfl rfl) (.comp setPart_moves h4)))

theorem usestHears_moves {k : Nat} {octets : List Nat} {s : State} : Moves [idsLATE, idsLATE_E, idsTOCSIN, idsSWITCH, idsEPORT, idsTIME, idsIOMMU, idsVE, idsVE_ETH, idsVE_CAN, idsVE_CRY, idsDENY, idsDICT] true s (usestHears k octets s) := by
  unfold usestHears
  exact (.ite (usestSegment_moves.sub rfl rfl) .refl)

theorem execUsestCanSegment_moves {k : Fin 16} {octets : List Nat} {s : State} : MovesTo [idsLATE, idsLATE_E, idsTOCSIN, idsSWITCH, idsEPORT, idsTIME, idsIOMMU, idsVE, idsVE_ETH, idsVE_CAN, idsVE_CRY, idsDENY, idsDICT] true s (execUsestCanSegment k octets s) := by
  unfold execUsestCanSegment
  extract_lets n1
  refine .next ?_
  exact (.ite (usestHears_moves.sub rfl rfl) .refl)

theorem execCanFrameRx_moves {n : Fin 16} {frame : CanFrame} {sof : Word} {s : State} : MovesTo [idsLATE, idsLATE_E, idsTOCSIN, idsSWITCH, idsEPORT, idsTIME, idsCAN, idsIOMMU, idsVE, idsVE_ETH, idsVE_CAN, idsVE_CRY, idsDENY, idsDICT] true s (execCanFrameRx n frame sof s) := by
  unfold execCanFrameRx
  refine .next ?_
  extract_lets n1 x2
  refine .via x2 (canRx_moves.sub rfl rfl) fun h3 => ?_
  exact (.ite updCan_moves (.ite .refl (.ite (canForeign_moves.sub rfl rfl) (.ite (.after usestHears_moves h3 rfl rfl) h3))))

theorem execUsestSegmentTimeout_moves {k : Fin 16} {s : State} : MovesTo [idsDICT] false s (execUsestSegmentTimeout k s) := by
  unfold execUsestSegmentTimeout
  refine .next ?_
  exact (.ite (partDrop_moves.sub rfl rfl) .refl)

theorem drawNonce_moves {s : State} : Moves B m s (drawNonce s) := by
  unfold drawNonce
  extract_lets r1 x2 n3
  refine .via r1.2 random_moves fun h4 => ?_
  refine .via x2 h4 fun h5 => ?_
  exact (.set h5)

theorem startSessions_moves {s : State} : Moves B m s (startSessions s) := by
  unfold startSessions
  refine .comp (each_moves (fun a1 s2 => ?_)) ?_
  · extract_lets n3 n4
    exact (.set .refl)
  · exact .refl

end Sys2Proof.Machine
end

