-- ==== Sys2Proof/Laws/MovesBoot.lean ====
section
/-! SUPPORT.  What each operation of resets, boot, the beat boundary and register access can change at most (`Moves` of Laws/Moves.lean): one lemma per definition,
named after it, so that a proof cites it and never unfolds the definition. -/

namespace Sys2Proof.Machine

variable {B A : List (Nat × Nat)} {m k : Bool}

/-! ### Reset -/

theorem otpRegs_moves {ty : Nat} {s : State} : Moves [idsBSEC, idsBCTL] false s (otpRegs ty s) := by
  unfold otpRegs
  extract_lets x1 x2
  refine .via x1 ?_ fun h3 => ?_
  · unfold x1
    exact (.ite (.comp (put_moves rfl) (.comp (put_moves rfl) (put_moves rfl))) .refl)
  refine .via x2 (.comp (put_moves rfl) h3) fun h4 => ?_
  exact (.after bwdgRestart_moves (.comp (put_moves rfl) h4) rfl rfl)

theorem kdieReset_moves {ty : Nat} {s : State} : Moves everything true s (kdieReset ty s) := by
  unfold kdieReset
  extract_lets rng chip lock x1 _ _ _ _ x2 x3 x4
  refine .via x1 (.comp memKeep_moves (resetWords_moves fun _ _ => ?_)) fun h1 => ?_
  · simp [everything, inBlocks, Nat.ble_eq]
  refine .via x2 (.set h1) fun h2 => ?_
  refine .via x3 (.ite (.comp (put_moves rfl) h2) h2) fun h3 => ?_
  refine .via x4 (.comp (each_moves fun _ _ => .ite (.comp (put_moves rfl) (put_moves rfl)) .refl) h3) fun h4 => ?_
  exact .after tocRefresh_moves (.after otpRegs_moves h4 rfl rfl) rfl rfl

theorem causeWrite_moves {ty origin src : Nat} {s : State} : Moves [idsISLAND] false s (causeWrite ty origin src s) := by
  unfold causeWrite
  extract_lets x1 n2
  refine .via x1 (wr_moves rfl) fun h3 => ?_
  exact (.set h3)

theorem powerOn_moves {brown : Bool} {s : State} : Moves everything true s (powerOn brown s) := by
  unfold powerOn
  extract_lets z _ _ _ x
  refine .via x ?_ fun h => ?_
  · exact .whole (wf_filter _) rfl (Nat.le_refl _) (List.prefix_refl _)
  exact .after tocRefresh_moves (.after otpRegs_moves (.after causeWrite_moves h rfl rfl) rfl rfl) rfl rfl

theorem execPowerOnReset_moves {brown : Bool} {s : State} : MovesTo everything true s (execPowerOnReset brown s) := by
  unfold execPowerOnReset
  refine .next ?_
  exact (powerOn_moves.sub rfl rfl)

theorem aonOff_moves {s : State} : Moves everything true s (aonOff s) := by
  unfold aonOff
  extract_lets n1 x2 n3
  refine .via x2 (.after powerOn_moves (.set .refl) rfl rfl) fun h4 => ?_
  exact (.set h4)

theorem execAonOff_moves {s : State} : MovesTo everything true s (execAonOff s) := by
  unfold execAonOff
  refine .next ?_
  exact (aonOff_moves.sub rfl rfl)

theorem pmicOn_moves {s : State} : Moves B m s (pmicOn s) := by
  unfold pmicOn
  extract_lets x1 n2 n3
  refine .via x1 emit_moves fun h4 => ?_
  exact (.set h4)

theorem execAonUpDone_moves {s : State} : MovesTo B m s (execAonUpDone s) := by
  unfold execAonUpDone
  refine .next ?_
  exact (.ite pmicOn_moves .refl)

theorem execPmicEnRise_moves {s : State} : MovesTo everything true s (execPmicEnRise s) := by
  unfold execPmicEnRise
  refine .next ?_
  extract_lets x1 n2 x3 n4 x5
  refine .via x1 (.comp pmicOn_moves (.after causeWrite_moves (kdieReset_moves.sub rfl rfl) rfl rfl)) fun h6 => ?_
  refine .via x3 (.comp pmicOn_moves (.after causeWrite_moves (kdieReset_moves.sub rfl rfl) rfl rfl)) fun h7 => ?_
  refine .via x5 (.set h7) fun h8 => ?_
  exact (.ite .refl (.ite (.set h6) (.ite (.comp fwStart_moves h8) .refl)))

theorem execPgoodRise_moves {s : State} : MovesTo B m s (execPgoodRise s) := by
  unfold execPgoodRise
  refine .next ?_
  extract_lets n1
  exact (.ite (.set .refl) .refl)

theorem strapRegs_moves {straps : Nat} {s : State} : Moves [idsCARILLON] false s (strapRegs straps s) := by
  unfold strapRegs
  extract_lets x1 n2
  refine .via x1 (.comp (put_moves rfl) (put_moves rfl)) fun h3 => ?_
  exact (.set h3)

theorem showDown_moves {s : State} : Moves [idsPWR, idsFEED, idsIOX] false s (showDown s) := by
  unfold showDown
  extract_lets x1
  refine .via x1 (each_moves (fun _ _ => (put_moves rfl))) fun h2 => ?_
  exact (.comp (put_moves rfl) (.comp (each_moves (fun _ _ => (put_moves rfl))) h2))

theorem release_moves {straps : Nat} {s : State} : Moves [idsCLK, idsPWR, idsFEED, idsIOX, idsCARILLON] false s (release straps s) := by
  unfold release
  extract_lets x1 n2 x3 n4 n5 n6
  refine .via x1 (showDown_moves.sub rfl rfl) fun h7 => ?_
  refine .via x3 (.after strapRegs_moves (.comp (put_moves rfl) (.comp (put_moves rfl) h7)) rfl rfl) fun h8 => ?_
  exact (.set h8)

theorem execResetRelease_moves {straps : Fin 16} {us : Nat} {s : State} : MovesTo [idsCLK, idsPWR, idsFEED, idsIOX, idsCARILLON] false s (execResetRelease straps us s) := by
  unfold execResetRelease
  refine .next ?_
  exact (.ite (.comp milestone_moves (release_moves.sub rfl rfl)) .refl)

theorem supplyFail_moves {s : State} : Moves [idsPMODE] false s (supplyFail s) := by
  unfold supplyFail
  extract_lets n1
  exact (.ite (.after wakeBootFail_moves (.set .refl) rfl rfl) .refl)

theorem execSupplyReset_moves {outst : List Req} {s : State} : MovesTo [idsLATE, idsSPINE, idsLATE_E, idsTOCSIN, idsKNELL, idsPMODE, idsPWR, idsFEED, idsIOX, idsSENT, idsCAN, idsIOMMU, idsCSR, idsVE, idsDENY] true s (execSupplyReset outst s) := by
  unfold execSupplyReset
  refine .next ?_
  extract_lets x1 n2 n3 x4
  refine .via x1 (.after supplyFail_moves (hdieResetNow_moves.sub rfl rfl) rfl rfl) fun h5 => ?_
  refine .via x4 (.set h5) fun h6 => ?_
  exact (.ite .refl (.comp emit_moves h6))

theorem chipReset_moves {outst : List Req} {s : State} : Moves everything true s (chipReset outst s) := by
  unfold chipReset
  extract_lets n1 n2 x3 n4 n5 x6
  refine .via x3 (.after showDown_moves (.after causeWrite_moves (.after kdieReset_moves (hdieResetNow_moves.sub rfl rfl) rfl rfl) rfl rfl) rfl rfl) fun h7 => ?_
  refine .via x6 (.set h7) fun h8 => ?_
  exact (.after strapRegs_moves (.comp (when_moves (fun _ => (ddrTrain_moves.sub rfl rfl))) h8) rfl rfl)

theorem execResetChip_moves {outst : List Req} {s : State} : MovesTo everything true s (execResetChip outst s) := by
  unfold execResetChip
  refine .next ?_
  exact (.ite (chipReset_moves.sub rfl rfl) .refl)

theorem execBwdgExpired_moves {s : State} : MovesTo B m s (execBwdgExpired s) := by
  unfold execBwdgExpired
  refine .next ?_
  extract_lets n1 n2
  exact (.ite .refl (.set .refl))

theorem partReset_moves {p : Nat} {s : State} : Moves everything true s (partReset p s) := by
  unfold partReset
  extract_lets x1 x2 x3 x4 x5 x6 x7 x8
  refine .via x1 (each_moves (fun _ _ => endCause_moves)) fun h9 => ?_
  refine .via x2 (.comp restartPartTabla_moves (.after resetPartTabla_moves h9 rfl rfl)) fun h10 => ?_
  refine .via x3 (.after resetPartOutputs_moves h10 rfl rfl) fun h11 => ?_
  refine .via x4 (.comp (each_moves (fun _ _ => (when_moves (fun _ => (canDisable_moves.sub rfl rfl))))) h11) fun h12 => ?_
  refine .via x5 (.comp (each_moves (fun _ _ => (when_moves (fun _ => (linReset_moves.sub rfl rfl))))) h12) fun h13 => ?_
  refine .via x6 (.comp (when_moves (fun _ => resetIommu_moves)) h13) fun h14 => ?_
  refine .via x7 (.after veResetPart_moves h14 rfl rfl) fun h15 => ?_
  refine .via x8 (.comp (each_moves (fun _ _ => (when_moves (fun _ => (carReset_moves.sub rfl rfl))))) h15) fun h16 => ?_
  exact (.after wdgResetPart_moves (.comp belResetPart_moves h16) rfl rfl)

theorem execResetPart_moves {part : Fin 16} {s : State} : MovesTo everything true s (execResetPart part s) := by
  unfold execResetPart
  extract_lets x1 n2
  refine .via x1 (partReset_moves.sub rfl rfl) fun h3 => ?_
  refine .next ?_
  exact (.set h3)

theorem execTapReset_moves {s : State} : MovesTo B m s (execTapReset s) := by
  unfold execTapReset
  refine .next ?_
  exact .refl

theorem bootFault_moves {n kind value w1 : Nat} {s : State} : Moves [idsTOCSIN] false s (bootFault n kind value w1 s) := by
  unfold bootFault
  exact (raise_moves.sub rfl rfl)

theorem execDdrTrainingDone_moves {ok : Bool} {s : State} : MovesTo [idsTOCSIN] false s (execDdrTrainingDone ok s) := by
  unfold execDdrTrainingDone
  refine .next ?_
  extract_lets n1
  exact (.ite (.ite (.comp openPort_moves (.comp endCause_moves (.set .refl))) (.after bootFault_moves (.set .refl) rfl rfl)) .refl)

/-! ### Boot -/

theorem asgShow_moves {s : State} : Moves [idsBSEC] false s (asgShow s) := by
  unfold asgShow
  exact (wr_moves rfl)

theorem asgPut_moves {v : Nat} {s : State} : Moves [idsBSEC] false s (asgPut v s) := by
  unfold asgPut
  extract_lets n1 n2
  exact (.after asgShow_moves (.set .refl) rfl rfl)

theorem asgWrite_moves {r : Reg} {i : Nat} {v : Word} {s : State} (hB : subBlocks [idsBSEC] B = true) (h_r : inBlocks B r.id = true) : Moves B m s (asgWrite r i v s) := by
  unfold asgWrite
  extract_lets x1
  refine .via x1 (swWrite_moves h_r) fun h2 => ?_
  exact (.ite (asgPut_moves.sub (subTrans rfl hB) rfl) (.ite (.after asgShow_moves h2 (subTrans rfl hB) rfl) h2))

theorem applyManifest_moves {l : List (Nat × Nat)} {s : State} : Moves everything false s (applyManifest l s) := by
  unfold applyManifest
  refine .comp (each_moves (fun a1 s2 => ?_)) ?_
  · split
    · exact (asgWrite_moves rfl rfl)
    · exact .refl
  · exact .refl

theorem bunBoot_moves {b : List Nat} {s : State} : Moves everything true s (bunBoot b s) := by
  unfold bunBoot
  extract_lets x1 x2 x3 x4 x5 n6 n7 x8
  refine .via x1 (.after showModuleId_moves deriveIdent_moves rfl rfl) fun h9 => ?_
  refine .via x2 (.after applyManifest_moves h9 rfl rfl) fun h10 => ?_
  refine .via x3 (.comp (each_moves (fun _ _ => (put_moves rfl))) h10) fun h11 => ?_
  refine .via x4 (.comp memWrite_moves (.comp memWrite_moves h11)) fun h12 => ?_
  refine .via x5 ?_ fun h13 => ?_
  · unfold x5
    exact (.ite (.comp memWrite_moves h12) h12)
  refine .via x8 (.set h13) fun h14 => ?_
  exact (.after tocRefresh_moves (.comp (put_moves rfl) h14) rfl rfl)

theorem otpBoot_moves {bad : List OtpField} {s : State} : Moves [idsCLK, idsCARILLON, idsBCTL, idsISLAND] false s (otpBoot bad s) := by
  unfold otpBoot
  extract_lets n1 n2 n3 x4 x5 x6
  refine .via x4 (.comp (put_moves rfl) (put_moves rfl)) fun h7 => ?_
  refine .via x5 (.comp (put_moves rfl) (.comp (put_moves rfl) h7)) fun h8 => ?_
  refine .via x6 (.comp (put_moves rfl) h8) fun h9 => ?_
  exact (.ite .refl (.ite (.after bwdgRestart_moves (.comp (put_moves rfl) h9) rfl rfl) h9))

theorem otpFault_moves {n : Nat} {s : State} : Moves [idsTOCSIN] false s (otpFault n s) := by
  unfold otpFault
  extract_lets r1
  refine .via r1.2 draw_moves fun h2 => ?_
  exact (.after raiseSec_moves h2 rfl rfl)

theorem otpScan_moves {x : RomIn} {s : State} : Moves [idsTOCSIN, idsCLK, idsCARILLON, idsBCTL, idsISLAND] false s (otpScan x s) := by
  unfold otpScan
  extract_lets x1
  refine .via x1 ?_ fun h2 => ?_
  · unfold x1
    exact (.ite (otpFault_moves.sub rfl rfl) .refl)
  exact (.after otpBoot_moves (.ite h2 (.after otpFault_moves h2 rfl rfl)) rfl rfl)

theorem romBoot_moves {us : Nat} {octal : Bool} {s : State} : Moves everything true s (romBoot us octal s) := by
  unfold romBoot
  extract_lets n1 n2 n3 n4
  refine .ite ?_ ?_
  · exact (.comp milestone_moves (bunBoot_moves.sub rfl rfl))
  · refine .ite ?_ ?_
    · exact (.comp milestone_moves (.after bunBoot_moves (.set .refl) rfl rfl))
    · exact (.ite (.comp milestone_moves (.after bunBoot_moves (.set .refl) rfl rfl)) (.ite (.set .refl) (.set .refl)))

theorem execRomBoot_moves {us : Nat} {rom : RomIn} {s : State} : MovesTo everything true s (execRomBoot us rom s) := by
  unfold execRomBoot
  refine .next ?_
  extract_lets x1 n2
  refine .via x1 (otpScan_moves.sub rfl rfl) fun h3 => ?_
  exact (.ite (.ite (.set h3) (.after romBoot_moves h3 rfl rfl)) .refl)

theorem dbgDone_moves {result : Nat} {s : State} : Moves [idsBCTL] false s (dbgDone result s) := by
  unfold dbgDone
  exact (.comp (put_moves rfl) (put_moves rfl))

theorem bunChunk_moves {c : Nat} {s : State} : Moves [idsBCTL] false s (bunChunk c s) := by
  unfold bunChunk
  extract_lets n1 n2 n3 n4 x5 n6 n7
  refine .via x5 (.after dbgDone_moves (.set .refl) rfl rfl) fun h8 => ?_
  exact (.ite (.ite (.after dbgDone_moves (.set .refl) rfl rfl) (dbgDone_moves.sub rfl rfl)) (.ite (dbgDone_moves.sub rfl rfl) (.ite (.set h8) h8)))

theorem dbgCert_moves {init : Nat} {s : State} : Moves [idsTOCSIN, idsKNELL, idsPWR, idsFEED, idsIOX, idsBSEC, idsBCTL] false s (dbgCert init s) := by
  unfold dbgCert
  extract_lets r1
  refine .via r1.2 (certSubmit_moves.sub rfl rfl) fun h2 => ?_
  exact (.after dbgDone_moves h2 rfl rfl)

theorem dbgSubmit_moves {init : Nat} {v : Word} {s : State} : Moves [idsTOCSIN, idsKNELL, idsPWR, idsFEED, idsIOX, idsBSEC, idsBCTL] false s (dbgSubmit init v s) := by
  unfold dbgSubmit
  extract_lets x1
  refine .via x1 (.after dbgShut_moves (put_moves rfl) rfl rfl) fun h2 => ?_
  exact (.ite h2 (.ite (.after bunChunk_moves h2 rfl rfl) (.after dbgCert_moves h2 rfl rfl)))

theorem dbgRow_moves {init : Nat} {v : Word} {s : State} : Moves [idsLATE, idsLATE_E, idsTOCSIN, idsKNELL, idsPWR, idsFEED, idsIOX, idsBSEC, idsDENY, idsBCTL] false s (dbgRow init v s) := by
  unfold dbgRow
  exact (busWrite_moves rfl (fun _ => (.ite (dbgSubmit_moves.sub rfl rfl) (denyWrite_moves.sub rfl rfl))))

theorem execBdbgSubmit_moves {init : Init} {value : Word} {s : State} : MovesTo [idsLATE, idsLATE_E, idsTOCSIN, idsKNELL, idsPWR, idsFEED, idsIOX, idsBSEC, idsDENY, idsBCTL] false s (execBdbgSubmit init value s) := by
  unfold execBdbgSubmit
  refine .next ?_
  exact (dbgRow_moves.sub rfl rfl)

theorem execBundleChunk_moves {init : Init} {value : Word} {s : State} : MovesTo [idsLATE, idsLATE_E, idsTOCSIN, idsKNELL, idsPWR, idsFEED, idsIOX, idsBSEC, idsDENY, idsBCTL] false s (execBundleChunk init value s) := by
  unfold execBundleChunk
  refine .next ?_
  exact (dbgRow_moves.sub rfl rfl)

theorem execTrioRelease_moves {us : Nat} {s : State} : MovesTo [idsTOCSIN, idsCARILLON] false s (execTrioRelease us s) := by
  unfold execTrioRelease
  refine .next ?_
  extract_lets x1 n2
  refine .via x1 (each_moves (fun _ _ => (carRelease_moves.sub rfl rfl))) fun h3 => ?_
  exact (.ite .refl (.ite (.comp milestone_moves (.set h3)) h3))

theorem slotBad_moves {k code : Nat} {s : State} : Moves everything true s (slotBad k code s) := by
  unfold slotBad
  extract_lets n1
  exact (.after dictFault_moves (slotPut_moves.sub rfl rfl) rfl rfl)

theorem failTrials_moves {s : State} : Moves everything true s (failTrials s) := by
  unfold failTrials
  exact (.ite .refl (each_moves (fun _ _ => (.ite (slotBad_moves.sub rfl rfl) .refl))))

theorem slotTake_moves {k : Nat} {s : State} : Moves everything true s (slotTake k s) := by
  unfold slotTake
  extract_lets x1
  refine .via x1 (put_moves rfl) fun h2 => ?_
  exact (.after slotPut_moves h2 rfl rfl)

theorem slotFail_moves {k : Nat} {e : Nat × Nat} {s : State} : Moves everything true s (slotFail k e s) := by
  unfold slotFail
  exact (.after slotBad_moves (dictFault_moves.sub rfl rfl) rfl rfl)

theorem slotVerdict_moves {k : Nat} {rest : State → Option (Nat × ImgOk) × State} {e : Except (Nat × Nat) ImgOk} {s : State}
    (h : ∀ u, Moves everything true u (rest u).2) : Moves everything true s (slotVerdict k s rest e).2 := by
  cases e with
  | ok b => exact slotTake_moves.sub rfl rfl
  | error e => exact .comp (h _) (slotFail_moves.sub rfl rfl)

theorem pickSlot_moves {l : List Nat} {s : State} : Moves everything true s (pickSlot l s).2 := by
  induction l generalizing s with
  | nil => exact .refl
  | cons k l ih => exact slotVerdict_moves fun _ => ih

theorem applyObject_moves {t : Nat} {o : ObjDef} {s : State} (h : o.Tame) : Moves everything true s (applyObject t o s) := by
  unfold applyObject
  exact each_moves fun i u => .ite .refl (.ite updEng_moves ((h _ _ _).sub rfl rfl))

theorem startVolatile_moves {e : Nat × Option Nat} {s : State} : Moves objBlocks true s (startVolatile e s) := by
  unfold startVolatile
  split
  · next h => exact .ite (findObj_tame h _ _ _) .refl
  · exact .refl

theorem applyObjects_moves {t : Nat} {s : State} : Moves everything true s (applyObjects t s) := by
  unfold applyObjects
  exact .comp (each_moves fun _ _ => startVolatile_moves.sub rfl rfl)
    (each_moves_of fun o ho s => applyObject_moves (objects_tame o (List.mem_filter.1 ho).1))

theorem bootOverlays_moves {k : Nat} {b : ImgOk} {s : State} : Moves [idsTOCSIN, idsDICT] false s (bootOverlays k b s) := by
  unfold bootOverlays
  refine .comp (each_moves (fun a1 s2 => ?_)) ?_
  · refine .ite ?_ ?_
    · exact .refl
    · split
      · extract_lets n3 x4
        refine .via x4 (.set .refl) fun h5 => ?_
        exact (.comp (put_moves rfl) h5)
      · exact (dictFault_moves.sub rfl rfl)
  · exact .refl

theorem enterBoot_moves {t : Nat} {s : State} : Moves [idsTOCSIN] false s ((enterBoot t s).2) := by
  unfold enterBoot
  extract_lets n1
  split
  · exact .refl
  · exact (dictFault_moves.sub rfl rfl)

theorem applyPreset_moves {bind : Nat → Nat → Nat → State → State} {n : Nat} {s : State} (hB : subBlocks [idsLATE, idsLATE_E, idsTOCSIN, idsCAN, idsIOMMU, idsVEMGR, idsVE, idsVE_IOG, idsDENY] B = true) (h_bind : ∀ y0 y1 y2 y3, Moves B true y3 (bind y0 y1 y2 y3)) : Moves B true s (applyPreset bind n s) := by
  unfold applyPreset
  extract_lets n1 n2 n3 x4 x5
  refine .via x4 (veAssign_moves.sub (subTrans rfl hB) rfl) fun h6 => ?_
  refine .via x5 (.comp (each_moves (fun _ _ => (h_bind _ _ _ _))) h6) fun h7 => ?_
  exact (.ite .refl (.ite (veFault_moves.sub (subTrans rfl hB) rfl) (.ite h7 (.ite (.after veActivate_moves h7 (subTrans rfl hB) rfl) (.after veFault_moves h7 (subTrans rfl hB) rfl)))))

theorem milestoneMax_moves {k ms us : Nat} {s : State} : Moves [idsTOCSIN] false s (milestoneMax k ms us s) := by
  unfold milestoneMax
  extract_lets n1 x2 n3
  refine .via x2 milestone_moves fun h4 => ?_
  exact (.ite (.ite (.after bootFault_moves h4 rfl rfl) (.set h4)) h4)

theorem configPick_moves {s : State} : Moves everything true s ((configPick s).2) := by
  unfold configPick
  extract_lets x1
  refine .via x1 (.after failTrials_moves (slotsLoad_moves.sub rfl rfl) rfl rfl) fun h2 => ?_
  exact (.after pickSlot_moves h2 rfl rfl)

theorem configTake_moves {r : Option (Nat × ImgOk)} {s : State} : Moves [idsTOCSIN, idsDICT] false s (configTake r s) := by
  unfold configTake
  split
  · extract_lets n1 n2 x3
    refine .via x3 (.set .refl) fun h4 => ?_
    exact (.after bootOverlays_moves (.comp (put_moves rfl) h4) rfl rfl)
  · exact (.ite .refl (dictFault_moves.sub rfl rfl))

theorem configStart_moves {t : Nat} {s : State} : Moves everything true s (configStart t s) := by
  unfold configStart
  exact (.comp startSessions_moves (.comp (put_moves rfl) (.comp (put_moves rfl) (.comp (put_moves rfl) (applyObjects_moves.sub rfl rfl)))))

theorem lockBoot_moves {s : State} : Moves [idsTOCSIN, idsBSEC] false s (lockBoot s) := by
  unfold lockBoot
  extract_lets x1 n2
  refine .via x1 (.after wdgBootLock_moves (put_moves rfl) rfl rfl) fun h3 => ?_
  exact (.set h3)

theorem configApply_moves {bind : Nat → Nat → Nat → State → State} {us : Nat} {s : State}
    (h_bind : ∀ y0 y1 y2 y3, Moves everything true y3 (bind y0 y1 y2 y3)) : Moves everything true s (configApply bind us s) := by
  have hr : Moves everything true s (configPick (s.when (rngState s = rngReady) drawNonce)).2 :=
    .after configPick_moves (when_moves fun _ => drawNonce_moves) rfl rfl
  unfold configApply
  generalize configPick (s.when (rngState s = rngReady) drawNonce) = r at hr
  have hm : Moves everything true s (enterBoot (bootMode (configTake r.1 r.2) r.1) (configTake r.1 r.2)).2 :=
    .after enterBoot_moves (.after configTake_moves hr rfl rfl) rfl rfl
  dsimp only
  generalize enterBoot (bootMode (configTake r.1 r.2) r.1) (configTake r.1 r.2) = m at hm
  refine .comp (each_moves fun _ _ => loadActive_moves.sub rfl rfl) (.after milestoneMax_moves (.comp (put_moves rfl) ?_) rfl rfl)
  refine .after swEnable_moves (.after swBootLock_moves (.after lockBoot_moves ?_ rfl rfl) rfl rfl) rfl rfl
  exact .after mgrLevels_moves (.comp (each_moves fun _ _ => applyPreset_moves rfl h_bind) (.comp configStart_moves hm)) rfl rfl

theorem execAClusterRelease_moves {us : Nat} {s : State} : MovesTo [idsTOCSIN, idsCSR] false s (execAClusterRelease us s) := by
  unfold execAClusterRelease
  refine .next ?_
  extract_lets x1 n2
  refine .via x1 (aclRelease_moves.sub rfl rfl) fun h3 => ?_
  exact (.ite (.after milestoneMax_moves (.set h3) rfl rfl) .refl)

/-! ### VePage -/

theorem regWrite_moves {sec : Bool} {r : Reg} {i : Nat} {v : Word} {s : State} (hB : subBlocks everything B = true) (h_r : inBlocks B r.id = true) : Moves B m s (regWrite sec r i v s) := by
  unfold regWrite
  refine .ite ?_ ?_
  · exact setStaged_moves
  · split
    · exact (.comp (swWrite_moves h_r) (swWrite_moves (inTrans rfl hB)))
    · exact (swWrite_moves h_r)

theorem legalWrite_moves {ok : Bool} {r : Reg} {i : Nat} {v : Word} {s : State} (hB : subBlocks everything B = true) (h_r : inBlocks B r.id = true) : Moves B m s (legalWrite ok r i v s) := by
  unfold legalWrite
  exact (.ite (regWrite_moves (subTrans rfl hB) h_r) .refl)

theorem bindWord_moves {n k v : Nat} {s : State} : Moves everything false s (bindWord n k v s) := by
  unfold bindWord
  split
  · exact (regWrite_moves rfl rfl)
  · exact .refl

theorem can1Ack_moves {n size : Nat} {wi ai full : Fld} {v : Nat} {s : State} (hB : subBlocks [idsTOCSIN, idsVE] B = true) (h_ai : inBlocks B ai.reg.id = true) (h_full : inBlocks B full.reg.id = true) : Moves B m s (can1Ack n size wi ai full v s) := by
  unfold can1Ack
  extract_lets n1 n2 n3
  exact (.ite (idxErr_moves.sub (subTrans rfl hB) rfl) (.ite .refl (.comp (put_moves h_full) (put_moves h_ai))))

theorem can1Cqai_moves {n v : Nat} {s : State} : Moves [idsTOCSIN, idsVE, idsVE_CAN] false s (can1Cqai n v s) := by
  unfold can1Cqai
  extract_lets n1 x2
  refine .via x2 (can1Ack_moves rfl rfl rfl) fun h3 => ?_
  exact (.ite (.comp updVe_moves h3) h3)

theorem operEff_moves {n : Nat} {r : Reg} {i : Nat} {v : Word} {s : State} (hB : subBlocks everything B = true) (h_r : inBlocks B r.id = true) : Moves B true s (operEff n r i v s) := by
  unfold operEff
  extract_lets n1
  refine .ite ?_ ?_
  · exact (legalWrite_moves (subTrans rfl hB) h_r)
  · refine .ite ?_ ?_
    · exact (legalWrite_moves (subTrans rfl hB) h_r)
    · refine .ite ?_ ?_
      · exact (can1Ack_moves (subTrans rfl hB) (inTrans rfl hB) (inTrans rfl hB))
      · refine .ite ?_ ?_
        · exact (can1Cqai_moves.sub (subTrans rfl hB) rfl)
        · refine .ite ?_ ?_
          · exact (can1Submit_moves.sub (subTrans rfl hB) rfl)
          · refine .ite ?_ ?_
            · exact (can1Abort_moves.sub (subTrans rfl hB) rfl)
            · exact (.ite (.after iogForward_moves (regWrite_moves (subTrans rfl hB) h_r) (subTrans rfl hB) rfl) (.ite (pwgCmd_moves.sub (subTrans rfl hB) rfl) (.ite (.ite pwgKick_moves .refl) (regWrite_moves (subTrans rfl hB) h_r))))

theorem pageWord_moves {n init a : Nat} {v : Word} {s : State} : Moves everything true s (pageWord n init a v s) := by
  unfold pageWord
  split
  · exact (ringWrite_moves.sub rfl rfl)
  · split
    · exact (pageWrite_moves rfl (fun _ => (vecCtrl_moves.sub rfl rfl)))
    · split
      · exact (pageWrite_moves rfl (fun _ => (regWrite_moves rfl rfl)))
      · split
        · extract_lets n1
          exact (pageWrite_moves rfl (fun _ => (legalWrite_moves rfl rfl)))
        · split
          · exact (pageWrite_moves rfl (fun _ => (regWrite_moves rfl rfl)))
          · split
            · exact (pageWrite_moves rfl (fun _ => (operEff_moves rfl rfl)))
            · exact (pageWrite_moves rfl (fun _ => .refl))

theorem veAssignWrite_moves {n : Nat} {v : Word} {s : State} : Moves [idsVEMGR, idsVE] false s (veAssignWrite n v s) := by
  unfold veAssignWrite
  extract_lets x1
  refine .via x1 (swWrite_moves rfl) fun h2 => ?_
  exact (.comp (put_moves rfl) (.comp (put_moves rfl) h2))

theorem winWrite_moves {m_ : Nat} {r : Reg} {i : Nat} {v : Word} {s : State} (hB : subBlocks [idsLATE, idsLATE_E, idsTOCSIN, idsCAN, idsIOMMU, idsVEMGR, idsVE, idsVE_ETH, idsVE_CAN, idsVE_LIN, idsVE_IOG, idsVE_PWG, idsVE_TMR, idsVE_CRY, idsDENY] B = true) (h_r : inBlocks B r.id = true) : Moves B true s (winWrite m_ r i v s) := by
  unfold winWrite
  exact (.ite (.ite (mgrGo_moves.sub (subTrans rfl hB) rfl) (.comp (put_moves (inTrans rfl hB)) (put_moves (inTrans rfl hB)))) (.after mgrLevels_moves (swWrite_moves h_r) (subTrans rfl hB) rfl))

theorem vemgrWord_moves {init a : Nat} {v : Word} {s : State} : Moves everything true s (vemgrWord init a v s) := by
  unfold vemgrWord
  refine .comp (busWrite_moves rfl (fun s1 => ?_)) ?_
  · extract_lets n2 n3
    refine .ite ?_ ?_
    · refine .ite ?_ ?_
      · exact (denyWrite_moves.sub rfl rfl)
      · split
        · exact (winWrite_moves rfl rfl)
        · exact .refl
    · split
      · exact (.ite (veAssignWrite_moves.sub rfl rfl) .refl)
      · exact (.ite (swWrite_moves rfl) .refl)
      · exact .refl
  · exact .refl

theorem execConfigurationApply_moves {us : Nat} {s : State} : MovesTo everything true s (execConfigurationApply us s) := by
  unfold execConfigurationApply
  refine .next ?_
  exact (.ite ((configApply_moves (fun _ _ _ _ => (bindWord_moves.sub rfl rfl))).sub rfl rfl) .refl)

/-! ### Monitor -/

theorem execRailOutOfRange_moves {rail : Fin 8} {mv : Nat} {s : State} : MovesTo [idsTOCSIN] false s (execRailOutOfRange rail mv s) := by
  unfold execRailOutOfRange
  refine .next ?_
  exact (.ite .refl (bootFault_moves.sub rfl rfl))

theorem vbatRead_moves {b48 : Bool} {mv : Nat} {s : State} : Moves [idsTOCSIN, idsPWR, idsFEED] false s (vbatRead b48 mv s) := by
  unfold vbatRead
  extract_lets n1 n2 n3 x4
  refine .via x4 (.set .refl) fun h5 => ?_
  exact (.ite .refl (.ite h5 (.ite (.after kdo_moves h5 rfl rfl) (.after kdo_moves h5 rfl rfl))))

theorem execVbatOutOfRange_moves {b48 : Bool} {mv : Nat} {s : State} : MovesTo [idsTOCSIN, idsPWR, idsFEED] false s (execVbatOutOfRange b48 mv s) := by
  unfold execVbatOutOfRange
  refine .next ?_
  exact (vbatRead_moves.sub rfl rfl)

theorem execVbatInRange_moves {b48 : Bool} {mv : Nat} {s : State} : MovesTo [idsTOCSIN, idsPWR, idsFEED] false s (execVbatInRange b48 mv s) := by
  unfold execVbatInRange
  refine .next ?_
  exact (vbatRead_moves.sub rfl rfl)

theorem tempReadK_moves {t : Int} {s : State} : Moves [idsTOCSIN] false s (tempReadK t s) := by
  unfold tempReadK
  extract_lets n1 n2 n3 x4 n5 x6
  refine .via x4 (.set .refl) fun h7 => ?_
  refine .via x6 (.ite (.after bootFault_moves h7 rfl rfl) (.ite (.comp raiseIrq_moves h7) h7)) fun h8 => ?_
  exact (.ite (.after bootFault_moves h8 rfl rfl) h8)

theorem tempReadH_moves {t : Int} {s : State} : Moves [idsTOCSIN, idsPWR, idsFEED, idsCAN] false s (tempReadH t s) := by
  unfold tempReadH
  extract_lets n1 n2 n3 x4 n5 x6 x7
  refine .via x4 (.set .refl) fun h8 => ?_
  refine .via x6 (.ite (.after kdo_moves h8 rfl rfl) (.ite (.after kdo_moves h8 rfl rfl) h8)) fun h9 => ?_
  refine .via x7 (.ite (.after kdo_moves h9 rfl rfl) h9) fun h10 => ?_
  exact (.ite (.comp (each_moves (fun _ _ => (canTrxFault_moves.sub rfl rfl))) h10) h10)

theorem tempRead_moves {hdie : Bool} {t : Int} {s : State} : Moves [idsTOCSIN, idsPWR, idsFEED, idsCAN] false s (tempRead hdie t s) := by
  unfold tempRead
  exact (.ite (.ite (tempReadH_moves.sub rfl rfl) .refl) (.ite .refl (tempReadK_moves.sub rfl rfl)))

theorem execTempThreshold_moves {hdie : Bool} {t : Int} {s : State} : MovesTo [idsTOCSIN, idsPWR, idsFEED, idsCAN] false s (execTempThreshold hdie t s) := by
  unfold execTempThreshold
  refine .next ?_
  exact (tempRead_moves.sub rfl rfl)

theorem execTempSensorFault_moves {hdie : Bool} {t : Int} {s : State} : MovesTo [idsTOCSIN, idsPWR, idsFEED, idsCAN] false s (execTempSensorFault hdie t s) := by
  unfold execTempSensorFault
  refine .next ?_
  exact (tempRead_moves.sub rfl rfl)

/-! ### Boundary -/

theorem beatCtrlWrite_moves {v : Word} {s : State} : Moves [idsBEATCTL] false s (beatCtrlWrite v s) := by
  unfold beatCtrlWrite
  extract_lets n1 x2 n3
  refine .via x2 (swWrite_moves rfl) fun h4 => ?_
  exact (.ite (.after beatState_moves (.set h4) rfl rfl) h4)

theorem execBeatEn_moves {init : Init} {value : Word} {s : State} : MovesTo [idsLATE, idsLATE_E, idsTOCSIN, idsBEATCTL, idsDENY] false s (execBeatEn init value s) := by
  unfold execBeatEn
  refine .next ?_
  exact (busWrite_moves rfl (fun _ => (.ite (beatCtrlWrite_moves.sub rfl rfl) (denyWrite_moves.sub rfl rfl))))

theorem beatCut_moves {s : State} : Moves [idsTOCSIN, idsBEATCTL, idsTABLA] false s (beatCut s) := by
  unfold beatCut
  extract_lets n1 n2 n3 n4 x5 x6
  refine .via x5 (each_moves (fun _ _ => (cutEngine_moves.sub rfl rfl))) fun h7 => ?_
  refine .via x6 (.comp (incSat_moves rfl) (.comp (put_moves rfl) (.comp (put_moves rfl) h7))) fun h8 => ?_
  exact (.ite (.after raise_moves (.comp (put_moves rfl) h7) rfl rfl) (.ite h7 (.after raise_moves h8 rfl rfl)))

theorem beatNumbers_moves {t : Nat} {s : State} : Moves [idsBEATNUM, idsBEATLAST, idsPWR, idsFEED, idsTIME] false s (beatNumbers t s) := by
  unfold beatNumbers
  extract_lets n1 x2 x3 x4
  refine .via x2 (put64_moves rfl rfl) fun h5 => ?_
  refine .via x3 (.comp (put64_moves rfl rfl) h5) fun h6 => ?_
  refine .via x4 (.comp (put64_moves rfl rfl) h6) fun h7 => ?_
  exact (.after latchCharges_moves (.after latchCan_moves h7 rfl rfl) rfl rfl)

theorem beatCommit_moves {s : State} : Moves objBlocks true s (beatCommit s) := by
  unfold beatCommit
  extract_lets n1 x2 x3
  refine .via x2 (dictCommit_moves.sub rfl rfl) fun h4 => ?_
  refine .via x3 (.comp (each_moves (fun _ _ => (.after swapEngine_moves (reloadEngine_moves.sub rfl rfl) rfl rfl))) h4) fun h5 => ?_
  exact (.comp (each_moves (fun _ _ => startEngine_moves)) h5)

theorem fabAudit_moves {bad : List Nat} {s : State} : Moves [idsCARWIN, idsTOCSIN] false s (fabAudit bad s) := by
  unfold fabAudit
  extract_lets x1
  refine .via x1 (incWrap_moves rfl) fun h2 => ?_
  split
  · exact h2
  · extract_lets x3
    refine .via x3 ?_ fun h4 => ?_
    · unfold x3
      exact (.ite h2 (.comp (put_moves rfl) h2))
    exact (.after raiseFab_moves (.comp (put_moves rfl) h4) rfl rfl)

theorem beatDeferred_moves {s : State} : Moves [idsTOCSIN] false s (beatDeferred s) := by
  unfold beatDeferred
  extract_lets n1 n2 n3 n4 x5 x6 x7 x8 r9 x10 r11 x12 x13 x14
  refine .via x5 (.set .refl) fun h15 => ?_
  refine .via x6 (.ite (.after pmFault_moves h15 rfl rfl) h15) fun h16 => ?_
  refine .via x7 (.ite (.after pmFault_moves h16 rfl rfl) h16) fun h17 => ?_
  refine .via x8 (.ite (.after pmFault_moves h17 rfl rfl) h17) fun h18 => ?_
  refine .via r9.2 (.comp draw_moves h18) fun h19 => ?_
  refine .via x10 (.ite (.after pmFault_moves h19 rfl rfl) h18) fun h20 => ?_
  refine .via r11.2 (.comp draw_moves h20) fun h21 => ?_
  refine .via x12 (.ite (.after raiseSec_moves h21 rfl rfl) h20) fun h22 => ?_
  refine .via x13 (.ite (.after raiseSec_moves h22 rfl rfl) h22) fun h23 => ?_
  refine .via x14 (.comp (each_moves (fun _ _ => (bootFault_moves.sub rfl rfl))) h23) fun h24 => ?_
  exact (.ite (.comp raiseIrq_moves h24) h24)

theorem beatFirst_moves {us : Nat} {s : State} : Moves [idsTOCSIN] false s (beatFirst us s) := by
  unfold beatFirst
  extract_lets x1 n2
  refine .via x1 (milestoneMax_moves.sub rfl rfl) fun h3 => ?_
  exact (.ite .refl (.after beatDeferred_moves (.set h3) rfl rfl))

theorem beatFresh_moves {s : State} : Moves B m s (beatFresh s) := by
  unfold beatFresh
  extract_lets n1 n2 n3 n4 n5
  exact (.set .refl)

theorem beatSchedules_moves {s : State} : Moves [idsLATE, idsLATE_E, idsTOCSIN, idsSWITCH, idsEPORT, idsTIME, idsCAN, idsIOMMU, idsVE, idsVE_ETH, idsVE_CAN, idsVE_TMR, idsVE_CRY, idsDENY] true s (beatSchedules s) := by
  unfold beatSchedules
  extract_lets n1 x2 x3 x4
  refine .via x2 (each_moves (fun _ _ => (gclBoundary_moves.sub rfl rfl))) fun h5 => ?_
  refine .via x3 (.comp sgBoundary_moves h5) fun h6 => ?_
  refine .via x4 (.comp (each_moves (fun _ _ => linBeat_moves)) (.comp (each_moves (fun _ _ => (canBeat_moves.sub rfl rfl))) h6)) fun h7 => ?_
  exact (.after veBeat_moves (.comp swBeat_moves h7) rfl rfl)

theorem boundary_moves {us t : Nat} {lanes credit : List Nat} {s : State} : Moves everything true s (boundary us t lanes credit s) := by
  unfold boundary
  extract_lets x1 x2 x3 x4 x5 x6 x7 x8 x9
  refine .via x1 (.after beatCut_moves (vePublish_moves.sub rfl rfl) rfl rfl) fun h10 => ?_
  refine .via x2 (.comp beatFresh_moves (.after beatFirst_moves (.after beatNumbers_moves h10 rfl rfl) rfl rfl)) fun h11 => ?_
  refine .via x3 (.after beatCommit_moves (.comp advanceSlots_moves h11) rfl rfl) fun h12 => ?_
  refine .via x4 ?_ fun h13 => ?_
  · unfold x4
    exact (.ite (.comp deliverSlots_moves h12) h12)
  refine .via x5 (.comp (each_moves (fun _ _ => (stepSeven_moves.sub rfl rfl))) h13) fun h14 => ?_
  refine .via x6 (.comp (each_moves (fun _ _ => (.after carRotate_moves (carInject_moves.sub rfl rfl) rfl rfl))) h14) fun h15 => ?_
  refine .via x7 (.after swAudit_moves (.after fabAudit_moves h15 rfl rfl) rfl rfl) fun h16 => ?_
  refine .via x8 (.after evalPower_moves (.after knCheckAll_moves (.after checkChannels_moves h16 rfl rfl) rfl rfl) rfl rfl) fun h17 => ?_
  refine .via x9 (.after beatSchedules_moves h17 rfl rfl) fun h18 => ?_
  exact (.ite (.comp raiseIrq_moves h18) h18)

theorem execBeatBoundary_moves {us ticks : Nat} {lanes credit : List Nat} {s : State} : MovesTo everything true s (execBeatBoundary us ticks lanes credit s) := by
  unfold execBeatBoundary
  refine .next ?_
  extract_lets x1
  refine .via x1 ?_ fun h2 => ?_
  · unfold x1
    exact (.ite .refl (timeRun_moves.sub rfl rfl))
  split
  · exact (.ite (.after nextStep_moves (.after boundary_moves h2 rfl rfl) rfl rfl) h2)
  · exact h2

/-! ### RegWrite -/

theorem fieldWrite_moves {r : Reg} {i : Nat} {v : Word} {s : State} (hB : subBlocks everything B = true) (h_r : inBlocks B r.id = true) : Moves B m s (fieldWrite r i v s) := by
  unfold fieldWrite
  exact (regWrite_moves (subTrans rfl hB) h_r)

theorem plainWrite_moves {l : List Reg} {a : Nat} {v : Word} {s : State} : Moves everything false s (plainWrite l a v s) := by
  unfold plainWrite
  split
  · exact (fieldWrite_moves rfl rfl)
  · exact .refl

theorem fabricEff_moves {init a : Nat} {v : Word} {s : State} : Moves everything true s (fabricEff init a v s) := by
  unfold fabricEff
  split
  · exact .refl
  · exact (.ite (carwinWrite_moves.sub rfl rfl) (.ite (lateErrRd_moves.sub rfl rfl) (.ite (spineCtrl_moves.sub rfl rfl) (fieldWrite_moves rfl rfl))))

theorem tocsinEff_moves {init a : Nat} {v : Word} {s : State} : Moves everything false s (tocsinEff init a v s) := by
  unfold tocsinEff
  split
  · exact .refl
  · extract_lets x1
    refine .via x1 (fieldWrite_moves rfl rfl) fun h2 => ?_
    refine .ite ?_ ?_
    · exact (tocClear_moves.sub rfl rfl)
    · refine .ite ?_ ?_
      · exact (swintClear_moves.sub rfl rfl)
      · refine .ite ?_ ?_
        · exact (logSel_moves.sub rfl rfl)
        · refine .ite ?_ ?_
          · exact (swRaise_moves.sub rfl rfl)
          · refine .ite ?_ ?_
            · exact (swInt_moves.sub rfl rfl)
            · exact (.ite (errnRelease_moves.sub rfl rfl) (.ite .refl (.ite (.after tocRefresh_moves (.ite (.after reactClamp_moves h2 rfl rfl) h2) rfl rfl) (denyWrite_moves.sub rfl rfl))))

theorem ownedEff_moves {may : Bool} {init a : Nat} {eff : State → State} {s : State} (hB : subBlocks [idsLATE, idsLATE_E, idsTOCSIN] B = true) (h_eff : ∀ y0, Moves B m y0 (eff y0)) : Moves B m s (ownedEff may init a eff s) := by
  unfold ownedEff
  exact (.ite (h_eff _) (denyWrite_moves.sub (subTrans rfl hB) rfl))

theorem clkEff_moves {a : Nat} {v : Word} {s : State} : Moves everything false s (clkEff a v s) := by
  unfold clkEff
  split
  · exact .refl
  · exact (.ite (clkCtrl_moves.sub rfl rfl) (.ite (clkDomWrite_moves.sub rfl rfl) (fieldWrite_moves rfl rfl)))

theorem pmodeEff_moves {a : Nat} {v : Word} {s : State} : Moves everything true s (pmodeEff a v s) := by
  unfold pmodeEff
  split
  · exact .refl
  · exact (.ite (pmReqWrite_moves.sub rfl rfl) (.ite (pmGateWrite_moves.sub rfl rfl) (.ite (gongCtrl_moves.sub rfl rfl) (fieldWrite_moves rfl rfl))))

theorem beatEff_moves {init a : Nat} {v : Word} {s : State} : Moves everything false s (beatEff init a v s) := by
  unfold beatEff
  split
  · exact (.ite .refl (denyWrite_moves.sub rfl rfl))
  · exact (.ite (beatPub_moves.sub rfl rfl) (.ite (denyWrite_moves.sub rfl rfl) (.ite (beatCtrlWrite_moves.sub rfl rfl) (fieldWrite_moves rfl rfl))))

theorem tablaEff_moves {a : Nat} {v : Word} {s : State} : Moves everything false s (tablaEff a v s) := by
  unfold tablaEff
  split
  · exact .refl
  · exact (.ite (tablaCtrl_moves.sub rfl rfl) (.ite (ldHi_moves.sub rfl rfl) (.ite (.ite .refl (fieldWrite_moves rfl rfl)) (fieldWrite_moves rfl rfl))))

theorem pwrEff_moves {init a : Nat} {v : Word} {s : State} : Moves everything false s (pwrEff init a v s) := by
  unfold pwrEff
  split
  · exact .refl
  · exact (.ite (pubWrite_moves.sub rfl rfl) (.ite (pubWrite_moves.sub rfl rfl) (fieldWrite_moves rfl rfl)))

theorem ioxEff_moves {init a : Nat} {v : Word} {s : State} : Moves everything false s (ioxEff init a v s) := by
  unfold ioxEff
  split
  · exact .refl
  · extract_lets n1
    refine .ite ?_ ?_
    · exact (ssupWrite_moves.sub rfl rfl)
    · refine .ite ?_ ?_
      · exact (lsoWrite_moves.sub rfl rfl)
      · refine .ite ?_ ?_
        · exact (lsoStatWrite_moves.sub rfl rfl)
        · refine .ite ?_ ?_
          · exact (brWrite_moves.sub rfl rfl)
          · refine .ite ?_ ?_
            · exact (brStatWrite_moves.sub rfl rfl)
            · refine .ite ?_ ?_
              · exact (fieldWrite_moves rfl rfl)
              · refine .ite ?_ ?_
                · exact (fieldWrite_moves rfl rfl)
                · refine .ite ?_ ?_
                  · exact (.after mfiCfgAfter_moves (fieldWrite_moves rfl rfl) rfl rfl)
                  · refine .ite ?_ ?_
                    · exact (.after raiCfgAfter_moves (fieldWrite_moves rfl rfl) rfl rfl)
                    · refine .ite ?_ ?_
                      · exact (.after tempAfter_moves (fieldWrite_moves rfl rfl) rfl rfl)
                      · refine .ite ?_ ?_
                        · exact (.after tempAfter_moves (fieldWrite_moves rfl rfl) rfl rfl)
                        · refine .ite ?_ ?_
                          · exact (.after followLso_moves (fieldWrite_moves rfl rfl) rfl rfl)
                          · exact (.ite (.after followBr_moves (fieldWrite_moves rfl rfl) rfl rfl) (.ite (.after pwmAfter_moves (fieldWrite_moves rfl rfl) rfl rfl) (fieldWrite_moves rfl rfl)))

theorem sentEff_moves {a : Nat} {v : Word} {s : State} : Moves everything false s (sentEff a v s) := by
  unfold sentEff
  split
  · exact .refl
  · exact (.ite (sentCfgWrite_moves.sub rfl rfl) (fieldWrite_moves rfl rfl))

theorem switchEff_moves {a : Nat} {v : Word} {s : State} : Moves everything false s (switchEff a v s) := by
  unfold switchEff
  split
  · exact .refl
  · refine .ite ?_ ?_
    · exact (.ite (clrPeak_moves.sub rfl rfl) .refl)
    · exact (.ite (fdbGo_moves.sub rfl rfl) (.ite (.after swHdrm_moves (fieldWrite_moves rfl rfl) rfl rfl) (fieldWrite_moves rfl rfl)))

theorem eportEff_moves {p init a : Nat} {v : Word} {s : State} : Moves everything true s (eportEff p init a v s) := by
  unfold eportEff
  split
  · exact .refl
  · refine .ite ?_ ?_
    · exact .refl
    · refine .ite ?_ ?_
      · exact (fieldWrite_moves rfl rfl)
      · refine .ite ?_ ?_
        · exact (gclCtrlWrite_moves.sub rfl rfl)
        · refine .ite ?_ ?_
          · exact (cbsSlopeWrite_moves.sub rfl rfl)
          · refine .ite ?_ ?_
            · exact (polWrite_moves rfl)
            · refine .ite ?_ ?_
              · exact (cbsMaxIntWrite_moves.sub rfl rfl)
              · refine .ite ?_ ?_
                · exact (tc10Write_moves.sub rfl rfl)
                · exact (.ite (testWrite_moves.sub rfl rfl) (.ite (saKeyWrite_moves.sub rfl rfl) (.ite (saKeyWrite_moves.sub rfl rfl) (.ite (tblGo_moves.sub rfl rfl) (fieldWrite_moves rfl rfl)))))

theorem timeEff_moves {a : Nat} {v : Word} {s : State} : Moves everything false s (timeEff a v s) := by
  unfold timeEff
  split
  · exact .refl
  · refine .ite ?_ ?_
    · exact (.comp (put_moves rfl) (timeCtrlWrite_moves.sub rfl rfl))
    · exact (.ite (timeIncWrite_moves.sub rfl rfl) (.ite timeStepWrite_moves (.ite setStaged_moves (.ite (hoCtrlWrite_moves.sub rfl rfl) (fieldWrite_moves rfl rfl)))))

theorem canEff_moves {n init a : Nat} {v : Word} {s : State} : Moves everything true s (canEff n init a v s) := by
  unfold canEff
  split
  · exact .refl
  · extract_lets n1
    refine .ite ?_ ?_
    · exact (canCtrlWrite_moves.sub rfl rfl)
    · refine .ite ?_ ?_
      · exact (.ite (canRecover_moves.sub rfl rfl) .refl)
      · refine .ite ?_ ?_
        · exact (trxWrite_moves.sub rfl rfl)
        · refine .ite ?_ ?_
          · exact (slotCfgWrite_moves.sub rfl rfl)
          · refine .ite ?_ ?_
            · exact (fieldWrite_moves rfl rfl)
            · refine .ite ?_ ?_
              · exact (denyWrite_moves.sub rfl rfl)
              · refine .ite ?_ ?_
                · exact (canRxai_moves.sub rfl rfl)
                · exact (.ite (canCqai_moves.sub rfl rfl) (.ite (canSubmit_moves.sub rfl rfl) (.ite (canAbortAll_moves.sub rfl rfl) (.ite .refl (fieldWrite_moves rfl rfl)))))

theorem linEff_moves {a : Nat} {v : Word} {s : State} : Moves everything false s (linEff a v s) := by
  unfold linEff
  split
  · exact .refl
  · exact (.ite (linCtrlWrite_moves.sub rfl rfl) (.ite setStaged_moves (.ite (linDataHi_moves.sub rfl rfl) (fieldWrite_moves rfl rfl))))

theorem carEff_moves {a : Nat} {v : Word} {s : State} : Moves everything false s (carEff a v s) := by
  unfold carEff
  extract_lets n1
  split
  · exact .refl
  · refine .ite ?_ ?_
    · exact (.ite carComplete_moves .refl)
    · exact (.ite (.ite (fieldWrite_moves rfl rfl) .refl) (.ite (.ite (fieldWrite_moves rfl rfl) .refl) (.ite (fieldWrite_moves rfl rfl) (fieldWrite_moves rfl rfl))))

theorem iommuEff_moves {a : Nat} {v : Word} {s : State} : Moves [idsLATE, idsLATE_E, idsTOCSIN, idsIOMMU, idsDENY] true s (iommuEff a v s) := by
  unfold iommuEff
  extract_lets n1
  exact (.ite (iommuWrite_moves.sub rfl rfl) (.ite (vxLogai_moves.sub rfl rfl) .refl))

theorem lockWrite_moves {v : Word} {s : State} : Moves [idsTOCSIN, idsBSEC] false s (lockWrite v s) := by
  unfold lockWrite
  extract_lets x1
  refine .via x1 ?_ fun h2 => ?_
  · unfold x1
    exact (.ite (.after tocRefresh_moves (put_moves rfl) rfl rfl) .refl)
  exact (.ite (.after lockBoot_moves h2 rfl rfl) h2)

theorem belfryEff_moves {init a : Nat} {v : Word} {s : State} : Moves everything true s (belfryEff init a v s) := by
  unfold belfryEff
  split
  · exact .refl
  · extract_lets n1
    refine .ite ?_ ?_
    · exact (.ite (denyWrite_moves.sub rfl rfl) (.ite (mbxCtrl_moves.sub rfl rfl) (.ite .refl (fieldWrite_moves rfl rfl))))
    · refine .ite ?_ ?_
      · exact (.ite (denyWrite_moves.sub rfl rfl) (.ite (dbgSubmit_moves.sub rfl rfl) (fieldWrite_moves rfl rfl)))
      · refine .ite ?_ ?_
        · exact (denyWrite_moves.sub rfl rfl)
        · refine .ite ?_ ?_
          · exact (.ite .refl (asgWrite_moves rfl rfl))
          · exact (.ite (lockWrite_moves.sub rfl rfl) (.ite (bwdgRestart_moves.sub rfl rfl) (.ite (.after bwdgRestart_moves (regWrite_moves rfl rfl) rfl rfl) (regWrite_moves rfl rfl))))

theorem dictEff_moves {init a : Nat} {v : Word} {s : State} : Moves everything true s (dictEff init a v s) := by
  unfold dictEff
  split
  · exact .refl
  · extract_lets n1
    exact (.ite (slotWrite'_moves.sub rfl rfl) (.ite .refl (.ite (denyWrite_moves.sub rfl rfl) (.ite (winCmd_moves.sub rfl rfl) (fieldWrite_moves rfl rfl)))))

theorem bistEff_moves {a : Nat} {v : Word} {s : State} : Moves everything true s (bistEff a v s) := by
  unfold bistEff
  split
  · exact .refl
  · exact (.ite (prbsWrite_moves.sub rfl rfl) (fieldWrite_moves rfl rfl))

theorem slotEff_moves {n init a : Nat} {v : Word} {s : State} : Moves everything true s (slotEff n init a v s) := by
  unfold slotEff
  refine .ite ?_ ?_
  · exact (fabricEff_moves.sub rfl rfl)
  · refine .ite ?_ ?_
    · exact (tocsinEff_moves.sub rfl rfl)
    · refine .ite ?_ ?_
      · exact (ownedEff_moves rfl (fun _ => (plainWrite_moves.sub rfl rfl)))
      · refine .ite ?_ ?_
        · exact (ownedEff_moves rfl (fun _ => (clkEff_moves.sub rfl rfl)))
        · refine .ite ?_ ?_
          · exact (ownedEff_moves rfl (fun _ => (pmodeEff_moves.sub rfl rfl)))
          · refine .ite ?_ ?_
            · exact (beatEff_moves.sub rfl rfl)
            · refine .ite ?_ ?_
              · exact (tablaEff_moves.sub rfl rfl)
              · refine .ite ?_ ?_
                · exact (pwrEff_moves.sub rfl rfl)
                · refine .ite ?_ ?_
                  · exact (plainWrite_moves.sub rfl rfl)
                  · refine .ite ?_ ?_
                    · exact (ioxEff_moves.sub rfl rfl)
                    · refine .ite ?_ ?_
                      · exact (switchEff_moves.sub rfl rfl)
                      · refine .ite ?_ ?_
                        · exact (eportEff_moves.sub rfl rfl)
                        · refine .ite ?_ ?_
                          · exact (ownedEff_moves rfl (fun _ => (timeEff_moves.sub rfl rfl)))
                          · refine .ite ?_ ?_
                            · exact (canEff_moves.sub rfl rfl)
                            · refine .ite ?_ ?_
                              · exact (linEff_moves.sub rfl rfl)
                              · refine .ite ?_ ?_
                                · exact (sentEff_moves.sub rfl rfl)
                                · refine .ite ?_ ?_
                                  · exact (ownedEff_moves rfl (fun _ => (carEff_moves.sub rfl rfl)))
                                  · refine .ite ?_ ?_
                                    · exact (iommuEff_moves.sub rfl rfl)
                                    · refine .ite ?_ ?_
                                      · exact aplicWrite_moves
                                      · refine .ite ?_ ?_
                                        · exact (belfryEff_moves.sub rfl rfl)
                                        · exact (.ite (dictEff_moves.sub rfl rfl) (.ite (ownedEff_moves rfl (fun _ => (bistEff_moves.sub rfl rfl))) (.ite (.ite imsicWrite_moves (denyWrite_moves.sub rfl rfl)) .refl)))

theorem memUe_moves {init a : Nat} {s : State} : Moves [idsTOCSIN] false s (memUe init a s) := by
  unfold memUe
  exact (.ite (memFault_moves.sub rfl rfl) (memFault_moves.sub rfl rfl))

theorem memStore_moves {init a bytes v : Nat} {s : State} : Moves [idsLATE, idsLATE_E, idsTOCSIN, idsDENY] true s (memStore init a bytes v s) := by
  unfold memStore
  extract_lets n1
  refine .ite ?_ ?_
  · exact .refl
  · refine .ite ?_ ?_
    · exact (refuseReq_moves.sub rfl rfl)
    · split
      · exact (.after lateErr_moves (memUe_moves.sub rfl rfl) rfl rfl)
      · exact (.comp memWrite_moves unpoison_moves)

theorem ownTcm_moves {init a bytes v : Nat} {s : State} : Moves B true s (ownTcm init a bytes v s) := by
  unfold ownTcm
  exact (.ite .refl memWrite_moves)

theorem csrStore_moves {init a v : Nat} {s : State} : Moves everything false s (csrStore init a v s) := by
  unfold csrStore
  exact (.ite .refl (plainWrite_moves.sub rfl rfl))

theorem xspiStore_moves {init a bytes : Nat} {s : State} : Moves [idsLATE, idsLATE_E, idsTOCSIN, idsDENY] false s (xspiStore init a bytes s) := by
  unfold xspiStore
  exact (.ite .refl (.ite emit_moves (.ite (refuseReq_moves.sub rfl rfl) (lateErr_moves.sub rfl rfl))))

theorem busStore_moves {init a bytes v : Nat} {s : State} : Moves everything true s (busStore init a bytes v s) := by
  unfold busStore
  refine .ite ?_ ?_
  · exact (csrStore_moves.sub rfl rfl)
  · split
    · exact (memStore_moves.sub rfl rfl)
    · exact (memStore_moves.sub rfl rfl)
    · exact (.ite ownTcm_moves (memStore_moves.sub rfl rfl))
    · exact (.ite (pageWord_moves.sub rfl rfl) (busWrite_moves rfl (fun _ => .refl)))
    · exact (xspiStore_moves.sub rfl rfl)
    · exact (.ite (vemgrWord_moves.sub rfl rfl) (busWrite_moves rfl (fun _ => (slotEff_moves.sub rfl rfl))))
    · exact (busWrite_moves rfl (fun _ => .refl))

theorem execRegisterWrite_moves {init : Init} {addr bytes value : Nat} {s : State} : MovesTo everything true s (execRegisterWrite init addr bytes value s) := by
  unfold execRegisterWrite
  extract_lets n1
  refine .ite ?_ ?_
  · exact .refused
  · refine .next ?_
    exact (busStore_moves.sub rfl rfl)

/-! ### RegRead -/

theorem readWord_moves {init : Nat} {r : Reg} {i : Nat} {s : State} : Moves [idsTIME] false s ((readWord init r i s).2) := by
  unfold readWord
  extract_lets x1
  refine .via x1 (latchNow_moves.sub rfl rfl) fun h2 => ?_
  split
  · exact h2
  · split
    · exact .refl
    · split
      · exact (.set .refl)
      · exact .refl

theorem blockRead_moves {init a : Nat} {l : List Reg} {s : State} : Moves [idsTIME] false s ((blockRead init a l s).2) := by
  unfold blockRead
  refine .ite1 ?_ ?_
  · exact .refl
  · refine .ite1 ?_ ?_
    · exact ioRead_moves
    · refine .ite1 ?_ ?_
      · exact .refl
      · split
        · exact (readWord_moves.sub rfl rfl)
        · exact .refl

theorem readRefused_moves {code : Nat} {s : State} : Moves B m s ((readRefused code s).2.2) := by
  unfold readRefused
  exact .refl

theorem memAnswer_moves {init a bytes : Nat} {s : State} : Moves [idsTOCSIN] false s ((memAnswer init a bytes s).2.2) := by
  unfold memAnswer
  refine .ite2 ?_ ?_
  · exact (.ite (memFault_moves.sub rfl rfl) (memFault_moves.sub rfl rfl))
  · exact .refl

theorem busRead_moves {init a bytes : Nat} {s : State} : Moves [idsLATE, idsLATE_E, idsTOCSIN, idsTIME, idsDENY] false s ((busRead init a bytes s).2.2) := by
  unfold busRead
  refine .ite2 ?_ ?_
  · refine .pair ?_
    exact (refuseReq_moves.sub rfl rfl)
  · split
    · extract_lets r1
      refine .via r1.2 (blockRead_moves.sub rfl rfl) fun h2 => ?_
      refine .ite2 ?_ ?_
      · exact readRefused_moves
      · refine .ite2 ?_ ?_
        · exact readRefused_moves
        · exact h2
    · extract_lets r3
      refine .via r3.2 (blockRead_moves.sub rfl rfl) fun h4 => ?_
      refine .ite2 ?_ ?_
      · exact readRefused_moves
      · refine .ite2 ?_ ?_
        · exact readRefused_moves
        · exact h4
    · exact (memAnswer_moves.sub rfl rfl)

end Sys2Proof.Machine
end

