-- ==== Sys2Proof/Laws/MovesExec.lean ====
section
/-! SUPPORT.  What any command can change at most. -/

namespace Sys2Proof.Machine

theorem exec_moves (c : Instr) (s : State) : MovesTo everything true s (exec c s) := by
  cases c with
  | registerWrite _ _ _ _ => exact execRegisterWrite_moves.subTo rfl rfl
  | beatBoundary _ _ _ _ => exact execBeatBoundary_moves.subTo rfl rfl
  | targetTimeout _ _ _ => exact execTargetTimeout_moves.subTo rfl rfl
  | portOpen _ => exact execPortOpen_moves.subTo rfl rfl
  | fenceStuck _ => exact execFenceStuck_moves.subTo rfl rfl
  | lateErrRd _ _ => exact execLateErrRd_moves.subTo rfl rfl
  | fabricCarwin _ _ _ => exact execFabricCarwin_moves.subTo rfl rfl
  | spineCrcFail _ _ => exact execSpineCrcFail_moves.subTo rfl rfl
  | retrainComplete => exact execRetrainComplete_moves.subTo rfl rfl
  | retrainTimeout _ => exact execRetrainTimeout_moves.subTo rfl rfl
  | hdieSupplyLoss _ => exact execHdieSupplyLoss_moves.subTo rfl rfl
  | spineHreset _ _ _ => exact execSpineHreset_moves.subTo rfl rfl
  | hdieResetRelease => exact execHdieResetRelease_moves.subTo rfl rfl
  | spineLinkUp => exact execSpineLinkUp_moves.subTo rfl rfl
  | trainingTimeout => exact execTrainingTimeout_moves.subTo rfl rfl
  | knellHoldExpire => exact execKnellHoldExpire_moves.subTo rfl rfl
  | beatPub _ _ => exact execBeatPub_moves.subTo rfl rfl
  | pwrCmdPub _ _ _ => exact execPwrCmdPub_moves.subTo rfl rfl
  | pwrLimPub _ _ _ => exact execPwrLimPub_moves.subTo rfl rfl
  | dictRead => exact execDictRead_moves.subTo rfl rfl
  | dictWrite _ => exact execDictWrite_moves.subTo rfl rfl
  | dictReadMulti => exact execDictReadMulti_moves.subTo rfl rfl
  | dictWriteMulti _ => exact execDictWriteMulti_moves.subTo rfl rfl
  | modeReq _ => exact execModeReq_moves.subTo rfl rfl
  | subscribe => exact execSubscribe_moves.subTo rfl rfl
  | imageLoad => exact execImageLoad_moves.subTo rfl rfl
  | imageCommit => exact execImageCommit_moves.subTo rfl rfl
  | usestDatagram => exact execUsestDatagram_moves.subTo rfl rfl
  | usestCanSegment _ _ => exact execUsestCanSegment_moves.subTo rfl rfl
  | usestSegmentTimeout _ => exact execUsestSegmentTimeout_moves.subTo rfl rfl
  | slotConfirm _ _ => exact execSlotConfirm_moves.subTo rfl rfl
  | beatEn _ _ => exact execBeatEn_moves.subTo rfl rfl
  | strokeEnd _ _ => exact execStrokeEnd_moves.subTo rfl rfl
  | strokeWait _ _ => exact execStrokeWait_moves.subTo rfl rfl
  | strokeRds _ _ => exact execStrokeRds_moves.subTo rfl rfl
  | strokeRdt _ _ => exact execStrokeRdt_moves.subTo rfl rfl
  | strokeLdi _ _ => exact execStrokeLdi_moves.subTo rfl rfl
  | strokeMov _ _ => exact execStrokeMov_moves.subTo rfl rfl
  | strokeClt _ _ => exact execStrokeClt_moves.subTo rfl rfl
  | strokeCle _ _ => exact execStrokeCle_moves.subTo rfl rfl
  | strokeCeq _ _ => exact execStrokeCeq_moves.subTo rfl rfl
  | strokeClti _ _ => exact execStrokeClti_moves.subTo rfl rfl
  | strokeCgei _ _ => exact execStrokeCgei_moves.subTo rfl rfl
  | strokeCadd _ _ => exact execStrokeCadd_moves.subTo rfl rfl
  | strokeCsub _ _ => exact execStrokeCsub_moves.subTo rfl rfl
  | strokeCmul _ _ => exact execStrokeCmul_moves.subTo rfl rfl
  | strokeCmin _ _ => exact execStrokeCmin_moves.subTo rfl rfl
  | strokeCmax _ _ => exact execStrokeCmax_moves.subTo rfl rfl
  | strokeAdd _ _ => exact execStrokeAdd_moves.subTo rfl rfl
  | strokeSub _ _ => exact execStrokeSub_moves.subTo rfl rfl
  | strokeAnd _ _ => exact execStrokeAnd_moves.subTo rfl rfl
  | strokeOr _ _ => exact execStrokeOr_moves.subTo rfl rfl
  | strokeXor _ _ => exact execStrokeXor_moves.subTo rfl rfl
  | strokeAddi _ _ => exact execStrokeAddi_moves.subTo rfl rfl
  | strokeSubi _ _ => exact execStrokeSubi_moves.subTo rfl rfl
  | strokeAndi _ _ => exact execStrokeAndi_moves.subTo rfl rfl
  | strokeShr _ _ => exact execStrokeShr_moves.subTo rfl rfl
  | strokeShl _ _ => exact execStrokeShl_moves.subTo rfl rfl
  | strokeSkc _ _ => exact execStrokeSkc_moves.subTo rfl rfl
  | strokeSkf _ _ => exact execStrokeSkf_moves.subTo rfl rfl
  | strokeWro _ _ => exact execStrokeWro_moves.subTo rfl rfl
  | strokeWroApply _ => exact execStrokeWroApply_moves.subTo rfl rfl
  | strokeWrp _ _ => exact execStrokeWrp_moves.subTo rfl rfl
  | strokePub _ _ => exact execStrokePub_moves.subTo rfl rfl
  | strokeLreq _ _ => exact execStrokeLreq_moves.subTo rfl rfl
  | strokeSreq _ _ => exact execStrokeSreq_moves.subTo rfl rfl
  | tablaLdHi _ _ _ => exact execTablaLdHi_moves.subTo rfl rfl
  | tablaArm _ _ _ => exact execTablaArm_moves.subTo rfl rfl
  | tablaValidationDone _ => exact execTablaValidationDone_moves.subTo rfl rfl
  | tablaLibraryLoadDone _ => exact execTablaLibraryLoadDone_moves.subTo rfl rfl
  | conversion _ _ => exact execConversion_moves.subTo rfl rfl
  | shortTrip _ _ _ _ _ _ _ => exact execShortTrip_moves.subTo rfl rfl
  | gateUv _ _ _ _ => exact execGateUv_moves.subTo rfl rfl
  | prechargeDone _ _ => exact execPrechargeDone_moves.subTo rfl rfl
  | preTimeout _ _ _ _ => exact execPreTimeout_moves.subTo rfl rfl
  | fetFault _ _ => exact execFetFault_moves.subTo rfl rfl
  | outHigh _ _ => exact execOutHigh_moves.subTo rfl rfl
  | currentSenseFault _ _ => exact execCurrentSenseFault_moves.subTo rfl rfl
  | fastPathShed _ _ => exact execFastPathShed_moves.subTo rfl rfl
  | feedSenseFault _ _ => exact execFeedSenseFault_moves.subTo rfl rfl
  | mfiSample _ _ _ => exact execMfiSample_moves.subTo rfl rfl
  | raiConversion _ _ _ _ _ _ => exact execRaiConversion_moves.subTo rfl rfl
  | ssupLimit _ _ _ => exact execSsupLimit_moves.subTo rfl rfl
  | ssupOverload _ _ _ _ => exact execSsupOverload_moves.subTo rfl rfl
  | ssupBackfeed _ _ _ _ => exact execSsupBackfeed_moves.subTo rfl rfl
  | ioxSsupCtrl _ _ _ => exact execIoxSsupCtrl_moves.subTo rfl rfl
  | ioxLsoDuty _ _ _ => exact execIoxLsoDuty_moves.subTo rfl rfl
  | ioxBrCmd _ _ _ => exact execIoxBrCmd_moves.subTo rfl rfl
  | lsoOvercurrent _ _ _ => exact execLsoOvercurrent_moves.subTo rfl rfl
  | lsoOcClear _ _ _ => exact execLsoOcClear_moves.subTo rfl rfl
  | lsoOvertemp _ _ _ => exact execLsoOvertemp_moves.subTo rfl rfl
  | lsoOvertempRecover _ => exact execLsoOvertempRecover_moves
  | lsoOpenLoad _ _ _ _ => exact execLsoOpenLoad_moves.subTo rfl rfl
  | bridgeGapEnd _ => exact execBridgeGapEnd_moves.subTo rfl rfl
  | bridgeCurrentLimit _ _ _ _ _ => exact execBridgeCurrentLimit_moves.subTo rfl rfl
  | bridgeShort _ _ => exact execBridgeShort_moves.subTo rfl rfl
  | bridgeClr _ _ _ => exact execBridgeClr_moves.subTo rfl rfl
  | bridgeUv _ _ _ => exact execBridgeUv_moves.subTo rfl rfl
  | bridgeUvRecover _ _ => exact execBridgeUvRecover_moves.subTo rfl rfl
  | sentFrame _ _ _ => exact execSentFrame_moves.subTo rfl rfl
  | sentTimeout _ _ => exact execSentTimeout_moves.subTo rfl rfl
  | sentTrig _ _ _ => exact execSentTrig_moves.subTo rfl rfl
  | frameFirstCell _ _ _ _ => exact execFrameFirstCell_moves.subTo rfl rfl
  | continuationCell _ _ => exact execContinuationCell_moves.subTo rfl rfl
  | frameEnd _ _ _ _ => exact execFrameEnd_moves.subTo rfl rfl
  | cellSlot => exact execCellSlot_moves.subTo rfl rfl
  | copyAged _ _ _ => exact execCopyAged_moves.subTo rfl rfl
  | transmitSelection _ => exact execTransmitSelection_moves.subTo rfl rfl
  | copyTransmitDone _ => exact execCopyTransmitDone_moves.subTo rfl rfl
  | bufferEccError _ _ _ => exact execBufferEccError_moves.subTo rfl rfl
  | fdbAgeScan => exact execFdbAgeScan_moves.subTo rfl rfl
  | fdbLookup _ _ => exact execFdbLookup_moves.subTo rfl rfl
  | fdbInsertStatic _ _ => exact execFdbInsertStatic_moves.subTo rfl rfl
  | fdbInsertDynamic _ _ => exact execFdbInsertDynamic_moves.subTo rfl rfl
  | fdbDelete _ _ => exact execFdbDelete_moves.subTo rfl rfl
  | fdbFlushFid _ _ => exact execFdbFlushFid_moves.subTo rfl rfl
  | fdbFlushPort _ _ => exact execFdbFlushPort_moves.subTo rfl rfl
  | fdbReadIndex _ _ => exact execFdbReadIndex_moves.subTo rfl rfl
  | clrPeak _ _ => exact execClrPeak_moves.subTo rfl rfl
  | linkUp _ _ _ _ => exact execLinkUp_moves.subTo rfl rfl
  | linkDown _ => exact execLinkDown_moves.subTo rfl rfl
  | plcaLost _ => exact execPlcaLost_moves.subTo rfl rfl
  | plcaBeacon _ => exact execPlcaBeacon_moves
  | gateEntrySwitch _ _ => exact execGateEntrySwitch_moves.subTo rfl rfl
  | gclChange _ _ _ => exact execGclChange_moves.subTo rfl rfl
  | cbsSlope _ _ _ _ => exact execCbsSlope_moves.subTo rfl rfl
  | streamGateEntrySwitch _ _ => exact execStreamGateEntrySwitch_moves
  | frerReset _ => exact execFrerReset_moves.subTo rfl rfl
  | saKey _ _ _ _ => exact execSaKey_moves.subTo rfl rfl
  | tc10SleepReq _ _ _ => exact execTc10SleepReq_moves.subTo rfl rfl
  | tc10SleepAck _ => exact execTc10SleepAck_moves.subTo rfl rfl
  | tc10DrainTimeout _ => exact execTc10DrainTimeout_moves.subTo rfl rfl
  | tc10WakeRx _ _ => exact execTc10WakeRx_moves.subTo rfl rfl
  | tc10WakeReq _ _ _ => exact execTc10WakeReq_moves.subTo rfl rfl
  | epTest _ _ _ => exact execEpTest_moves.subTo rfl rfl
  | tableRead _ _ _ => exact execTableRead_moves.subTo rfl rfl
  | tableWrite _ _ _ => exact execTableWrite_moves.subTo rfl rfl
  | timeInc _ _ => exact execTimeInc_moves.subTo rfl rfl
  | timeStep _ _ => exact execTimeStep_moves.subTo rfl rfl
  | timeNowFrac i => exact (execTimeNowFrac_moves (u0 := i)).subTo rfl rfl
  | timeLock _ _ => exact execTimeLock_moves.subTo rfl rfl
  | timeUnlock _ _ => exact execTimeUnlock_moves.subTo rfl rfl
  | timeKeep _ _ => exact execTimeKeep_moves.subTo rfl rfl
  | keepaliveTimeout => exact execKeepaliveTimeout_moves.subTo rfl rfl
  | handoverReq _ _ _ => exact execHandoverReq_moves.subTo rfl rfl
  | handoverGrant _ _ _ => exact execHandoverGrant_moves.subTo rfl rfl
  | handoverRefuse _ _ _ => exact execHandoverRefuse_moves.subTo rfl rfl
  | handoverFrameRx _ _ _ _ => exact execHandoverFrameRx_moves.subTo rfl rfl
  | handoverTimeout _ => exact execHandoverTimeout_moves.subTo rfl rfl
  | canEnable _ _ _ => exact execCanEnable_moves.subTo rfl rfl
  | canIntegrationDone _ => exact execCanIntegrationDone_moves.subTo rfl rfl
  | canFrameRx _ _ _ => exact execCanFrameRx_moves.subTo rfl rfl
  | canTxsub _ _ _ _ => exact execCanTxsub_moves.subTo rfl rfl
  | canTxSelection _ _ => exact execCanTxSelection_moves.subTo rfl rfl
  | canArbitrationLost _ => exact execCanArbitrationLost_moves.subTo rfl rfl
  | canTxEnd _ => exact execCanTxEnd_moves.subTo rfl rfl
  | canBusError _ _ _ => exact execCanBusError_moves.subTo rfl rfl
  | canTxabort _ _ _ _ => exact execCanTxabort_moves.subTo rfl rfl
  | busoffRecover _ _ _ => exact execBusoffRecover_moves.subTo rfl rfl
  | canRecoveryComplete _ => exact execCanRecoveryComplete_moves.subTo rfl rfl
  | canRxai _ _ _ _ => exact execCanRxai_moves.subTo rfl rfl
  | canCqai _ _ _ _ => exact execCanCqai_moves.subTo rfl rfl
  | canSlotCfg _ _ _ _ => exact execCanSlotCfg_moves.subTo rfl rfl
  | canTrxMode _ _ _ => exact execCanTrxMode_moves.subTo rfl rfl
  | canTrxWake _ _ => exact execCanTrxWake_moves.subTo rfl rfl
  | trxConfirmTimeout _ => exact execTrxConfirmTimeout_moves.subTo rfl rfl
  | canTxdTimeout _ => exact execCanTxdTimeout_moves.subTo rfl rfl
  | linEntryStart _ => exact execLinEntryStart_moves.subTo rfl rfl
  | linFrameComplete _ _ _ => exact execLinFrameComplete_moves.subTo rfl rfl
  | linSleepTx _ _ _ => exact execLinSleepTx_moves.subTo rfl rfl
  | linWakeTx _ _ _ => exact execLinWakeTx_moves.subTo rfl rfl
  | linWakeGapEnd _ => exact execLinWakeGapEnd_moves.subTo rfl rfl
  | linWakeRx _ => exact execLinWakeRx_moves.subTo rfl rfl
  | linTxdTimeout _ => exact execLinTxdTimeout_moves.subTo rfl rfl
  | linDataHi _ _ _ _ => exact execLinDataHi_moves.subTo rfl rfl
  | linDataLoRead _ _ _ => exact execLinDataLoRead_moves.subTo rfl rfl
  | pmReqRun _ _ => exact execPmReqRun_moves.subTo rfl rfl
  | pmReqDoze _ _ _ _ => exact execPmReqDoze_moves.subTo rfl rfl
  | pmReqSleep _ _ _ _ => exact execPmReqSleep_moves.subTo rfl rfl
  | pmReqDeepSleep _ _ _ _ => exact execPmReqDeepSleep_moves.subTo rfl rfl
  | dozeEntry _ => exact execDozeEntry_moves.subTo rfl rfl
  | dozeExit => exact execDozeExit_moves.subTo rfl rfl
  | pmGate _ _ _ _ => exact execPmGate_moves.subTo rfl rfl
  | pmicEnDrop => exact execPmicEnDrop_moves.subTo rfl rfl
  | wakeLine _ _ _ => exact execWakeLine_moves.subTo rfl rfl
  | keepTrip _ _ => exact execKeepTrip_moves.subTo rfl rfl
  | gongMfiPoll _ _ => exact execGongMfiPoll_moves.subTo rfl rfl
  | wakeTimer => exact execWakeTimer_moves.subTo rfl rfl
  | gongLrcCal _ => exact execGongLrcCal_moves.subTo rfl rfl
  | pmicEnRise => exact execPmicEnRise_moves.subTo rfl rfl
  | bootDone _ _ => exact execBootDone_moves.subTo rfl rfl
  | bootTimeout => exact execBootTimeout_moves.subTo rfl rfl
  | wakeLockoutEnd => exact execWakeLockoutEnd_moves.subTo rfl rfl
  | falseWake => exact execFalseWake_moves.subTo rfl rfl
  | graceEnd _ => exact execGraceEnd_moves.subTo rfl rfl
  | stay _ _ => exact execStay_moves.subTo rfl rfl
  | voteMismatch _ _ _ _ _ => exact execVoteMismatch_moves.subTo rfl rfl
  | resyncCopyStart _ => exact execResyncCopyStart_moves.subTo rfl rfl
  | resyncComplete _ _ => exact execResyncComplete_moves.subTo rfl rfl
  | lbistComplete _ _ => exact execLbistComplete_moves.subTo rfl rfl
  | checkerLaneFault _ _ _ => exact execCheckerLaneFault_moves.subTo rfl rfl
  | tcmEccError _ _ _ => exact execTcmEccError_moves.subTo rfl rfl
  | carIcClaim _ _ _ => exact execCarIcClaim_moves.subTo rfl rfl
  | carIcComplete _ _ _ _ => exact execCarIcComplete_moves.subTo rfl rfl
  | spflush _ _ _ => exact execSpflush_moves
  | hgatpWrite _ _ _ _ => exact execHgatpWrite_moves
  | cacheEccError _ _ _ => exact execCacheEccError_moves.subTo rfl rfl
  | imsicSeteipnum _ _ _ => exact execImsicSeteipnum_moves.subTo rfl rfl
  | iommuWalk _ _ _ _ => exact execIommuWalk_moves.subTo rfl rfl
  | iommuVxLogai _ _ => exact execIommuVxLogai_moves.subTo rfl rfl
  | assign _ _ _ => exact execAssign_moves.subTo rfl rfl
  | activate _ _ _ => exact execActivate_moves.subTo rfl rfl
  | quiesce _ _ _ => exact execQuiesce_moves.subTo rfl rfl
  | quiesceDrainDone _ => exact execQuiesceDrainDone_moves.subTo rfl rfl
  | quiesceDrainLimit _ => exact execQuiesceDrainLimit_moves.subTo rfl rfl
  | freeze _ _ _ => exact execFreeze_moves.subTo rfl rfl
  | thaw _ _ _ => exact execThaw_moves.subTo rfl rfl
  | save _ _ _ => exact execSave_moves.subTo rfl rfl
  | saveComplete _ => exact execSaveComplete_moves.subTo rfl rfl
  | restore _ _ _ => exact execRestore_moves.subTo rfl rfl
  | restoreComplete _ => exact execRestoreComplete_moves.subTo rfl rfl
  | veReset _ _ _ => exact execVeReset_moves.subTo rfl rfl
  | veResetComplete _ => exact execVeResetComplete_moves.subTo rfl rfl
  | unassign _ _ _ => exact execUnassign_moves.subTo rfl rfl
  | veRingIndexWrite _ _ _ _ => exact execVeRingIndexWrite_moves.subTo rfl rfl
  | vecUnmask _ _ _ _ => exact execVecUnmask_moves.subTo rfl rfl
  | ethRxFrame _ => exact execEthRxFrame_moves.subTo rfl rfl
  | ethTxFrameFetch _ => exact execEthTxFrameFetch_moves.subTo rfl rfl
  | pwgKick _ _ _ => exact execPwgKick_moves.subTo rfl rfl
  | mailboxRing _ _ _ => exact execMailboxRing_moves.subTo rfl rfl
  | info _ => exact execInfo_moves.subTo rfl rfl
  | rngGet _ => exact execRngGet_moves.subTo rfl rfl
  | keyInfo _ => exact execKeyInfo_moves.subTo rfl rfl
  | keyGenerate _ => exact execKeyGenerate_moves.subTo rfl rfl
  | keyImport _ => exact execKeyImport_moves.subTo rfl rfl
  | keyDestroy _ => exact execKeyDestroy_moves.subTo rfl rfl
  | gcmSeal _ => exact execGcmSeal_moves.subTo rfl rfl
  | gcmOpen _ => exact execGcmOpen_moves.subTo rfl rfl
  | cmac _ => exact execCmac_moves.subTo rfl rfl
  | sha384 _ => exact execSha384_moves.subTo rfl rfl
  | ecdsaSign _ => exact execEcdsaSign_moves.subTo rfl rfl
  | ecdsaVerify _ => exact execEcdsaVerify_moves.subTo rfl rfl
  | kdf _ => exact execKdf_moves.subTo rfl rfl
  | identSign _ => exact execIdentSign_moves.subTo rfl rfl
  | authSubmit _ => exact execAuthSubmit_moves.subTo rfl rfl
  | debugClose _ => exact execDebugClose_moves.subTo rfl rfl
  | lcAdvance _ => exact execLcAdvance_moves.subTo rfl rfl
  | rngStartupDone => exact execRngStartupDone_moves.subTo rfl rfl
  | rngHealthFail => exact execRngHealthFail_moves.subTo rfl rfl
  | bwdgKick i v => exact (execBwdgKick_moves (init := i) (_value := v)).subTo rfl rfl
  | bwdgExpired => exact execBwdgExpired_moves
  | bdbgSubmit _ _ => exact execBdbgSubmit_moves.subTo rfl rfl
  | scanClearDone _ => exact execScanClearDone_moves.subTo rfl rfl
  | bdbgClose _ _ => exact execBdbgClose_moves.subTo rfl rfl
  | bundleChunk _ _ => exact execBundleChunk_moves.subTo rfl rfl
  | tocPend _ _ _ => exact execTocPend_moves.subTo rfl rfl
  | tocLogSel _ _ => exact execTocLogSel_moves.subTo rfl rfl
  | tocSwraise _ _ => exact execTocSwraise_moves.subTo rfl rfl
  | tocSwint _ _ => exact execTocSwint_moves.subTo rfl rfl
  | errnRelease _ _ => exact execErrnRelease_moves.subTo rfl rfl
  | knellRequest _ _ => exact execKnellRequest_moves.subTo rfl rfl
  | knellRailFault _ => exact execKnellRailFault_moves.subTo rfl rfl
  | heartbeatLoss => exact execHeartbeatLoss_moves.subTo rfl rfl
  | ksupLoss => exact execKsupLoss_moves.subTo rfl rfl
  | hoscStop => exact execHoscStop_moves.subTo rfl rfl
  | wdgKick _ _ _ _ => exact execWdgKick_moves.subTo rfl rfl
  | wdgExpired _ => exact execWdgExpired_moves.subTo rfl rfl
  | wdgPreWarning _ => exact execWdgPreWarning_moves.subTo rfl rfl
  | bistSlice _ _ _ _ => exact execBistSlice_moves.subTo rfl rfl
  | bistCoverageLate _ _ => exact execBistCoverageLate_moves.subTo rfl rfl
  | prbsGo _ _ _ => exact execPrbsGo_moves.subTo rfl rfl
  | prbsStop _ _ _ _ => exact execPrbsStop_moves.subTo rfl rfl
  | prbsDurationEnd _ _ => exact execPrbsDurationEnd_moves.subTo rfl rfl
  | oscDlyEnd => exact execOscDlyEnd_moves
  | clkinQualified _ => exact execClkinQualified_moves.subTo rfl rfl
  | monitorWindow _ => exact execMonitorWindow_moves.subTo rfl rfl
  | clkinFail => exact execClkinFail_moves.subTo rfl rfl
  | clkinOk => exact execClkinOk_moves.subTo rfl rfl
  | clkRestore _ _ => exact execClkRestore_moves.subTo rfl rfl
  | pllLock _ _ => exact execPllLock_moves.subTo rfl rfl
  | pllDead _ _ => exact execPllDead_moves.subTo rfl rfl
  | forcedSwitch _ => exact execForcedSwitch_moves.subTo rfl rfl
  | domainSwitchDone _ _ => exact execDomainSwitchDone_moves.subTo rfl rfl
  | clkDomDiv _ _ _ => exact execClkDomDiv_moves.subTo rfl rfl
  | irc100OutOfRange _ => exact execIrc100OutOfRange_moves.subTo rfl rfl
  | haltSafePowerDown _ => exact execHaltSafePowerDown_moves.subTo rfl rfl
  | powerOnReset _ => exact execPowerOnReset_moves.subTo rfl rfl
  | aonOff => exact execAonOff_moves.subTo rfl rfl
  | aonUpDone => exact execAonUpDone_moves
  | pgoodRise => exact execPgoodRise_moves
  | resetRelease _ _ => exact execResetRelease_moves.subTo rfl rfl
  | supplyReset _ => exact execSupplyReset_moves.subTo rfl rfl
  | resetChip _ => exact execResetChip_moves.subTo rfl rfl
  | resetPart _ => exact execResetPart_moves.subTo rfl rfl
  | tapReset => exact execTapReset_moves
  | ddrTrainingDone _ => exact execDdrTrainingDone_moves.subTo rfl rfl
  | romBoot _ _ => exact execRomBoot_moves.subTo rfl rfl
  | trioRelease _ => exact execTrioRelease_moves.subTo rfl rfl
  | configurationApply _ => exact execConfigurationApply_moves.subTo rfl rfl
  | aClusterRelease _ => exact execAClusterRelease_moves.subTo rfl rfl
  | railOutOfRange _ _ => exact execRailOutOfRange_moves.subTo rfl rfl
  | vbatOutOfRange _ _ => exact execVbatOutOfRange_moves.subTo rfl rfl
  | vbatInRange _ _ => exact execVbatInRange_moves.subTo rfl rfl
  | tempThreshold _ _ => exact execTempThreshold_moves.subTo rfl rfl
  | pllLossOfLock _ => exact execPllLossOfLock_moves.subTo rfl rfl
  | wakeFrameDecode _ _ _ _ _ => exact execWakeFrameDecode_moves.subTo rfl rfl
  | linHeaderRx _ _ _ => exact execLinHeaderRx_moves.subTo rfl rfl
  | linResponseTimeout _ => exact execLinResponseTimeout_moves.subTo rfl rfl
  | ssupLimitEnd _ _ _ => exact execSsupLimitEnd_moves.subTo rfl rfl
  | ssupBackfeedEnd _ _ _ => exact execSsupBackfeedEnd_moves.subTo rfl rfl
  | prbsLock => exact execPrbsLock_moves.subTo rfl rfl
  | prbsLockLoss _ _ => exact execPrbsLockLoss_moves.subTo rfl rfl
  | ssramEccError _ _ _ => exact execSsramEccError_moves.subTo rfl rfl
  | dramEccError _ _ _ => exact execDramEccError_moves.subTo rfl rfl
  | belfrySramEccUe => exact execBelfrySramEccUe_moves.subTo rfl rfl
  | rngStartupFail => exact execRngStartupFail_moves.subTo rfl rfl
  | senseFaultEnd _ => exact execSenseFaultEnd_moves.subTo rfl rfl
  | tempSensorFault _ _ => exact execTempSensorFault_moves.subTo rfl rfl

end Sys2Proof.Machine
end

