-- ==== Sys2Proof/Laws/State.lean ====
section
/-! SUPPORT.  Field by field: what an update of the state leaves as it was, and what the component it writes then holds, so that no
proof unfolds a record update. -/

namespace Sys2Proof.Machine

variable {s t : State}

/-! ### A register written -/

@[simp] theorem wr_stage (s : State) (r : Reg) (i : Nat) (w : Word) : (s.wr r i w).stage = s.stage := rfl
@[simp] theorem wr_latch (s : State) (r : Reg) (i : Nat) (w : Word) : (s.wr r i w).latch = s.latch := rfl
@[simp] theorem wr_mem (s : State) (r : Reg) (i : Nat) (w : Word) : (s.wr r i w).mem = s.mem := rfl
@[simp] theorem wr_fab (s : State) (r : Reg) (i : Nat) (w : Word) : (s.wr r i w).fab = s.fab := rfl
@[simp] theorem wr_twin (s : State) (r : Reg) (i : Nat) (w : Word) : (s.wr r i w).twin = s.twin := rfl
@[simp] theorem wr_ch (s : State) (r : Reg) (i : Nat) (w : Word) : (s.wr r i w).ch = s.ch := rfl
@[simp] theorem wr_feed (s : State) (r : Reg) (i : Nat) (w : Word) : (s.wr r i w).feed = s.feed := rfl
@[simp] theorem wr_tab (s : State) (r : Reg) (i : Nat) (w : Word) : (s.wr r i w).tab = s.tab := rfl
@[simp] theorem wr_io (s : State) (r : Reg) (i : Nat) (w : Word) : (s.wr r i w).io = s.io := rfl
@[simp] theorem wr_sw (s : State) (r : Reg) (i : Nat) (w : Word) : (s.wr r i w).sw = s.sw := rfl
@[simp] theorem wr_ports (s : State) (r : Reg) (i : Nat) (w : Word) : (s.wr r i w).ports = s.ports := rfl
@[simp] theorem wr_time (s : State) (r : Reg) (i : Nat) (w : Word) : (s.wr r i w).time = s.time := rfl
@[simp] theorem wr_bus (s : State) (r : Reg) (i : Nat) (w : Word) : (s.wr r i w).bus = s.bus := rfl
@[simp] theorem wr_car (s : State) (r : Reg) (i : Nat) (w : Word) : (s.wr r i w).car = s.car := rfl
@[simp] theorem wr_dict (s : State) (r : Reg) (i : Nat) (w : Word) : (s.wr r i w).dict = s.dict := rfl
@[simp] theorem wr_pm (s : State) (r : Reg) (i : Nat) (w : Word) : (s.wr r i w).pm = s.pm := rfl
@[simp] theorem wr_late (s : State) (r : Reg) (i : Nat) (w : Word) : (s.wr r i w).late = s.late := rfl
@[simp] theorem wr_temp (s : State) (r : Reg) (i : Nat) (w : Word) : (s.wr r i w).temp = s.temp := rfl
@[simp] theorem wr_toc (s : State) (r : Reg) (i : Nat) (w : Word) : (s.wr r i w).toc = s.toc := rfl
@[simp] theorem wr_kn (s : State) (r : Reg) (i : Nat) (w : Word) : (s.wr r i w).kn = s.kn := rfl
@[simp] theorem wr_wdg (s : State) (r : Reg) (i : Nat) (w : Word) : (s.wr r i w).wdg = s.wdg := rfl
@[simp] theorem wr_bist (s : State) (r : Reg) (i : Nat) (w : Word) : (s.wr r i w).bist = s.bist := rfl
@[simp] theorem wr_clk (s : State) (r : Reg) (i : Nat) (w : Word) : (s.wr r i w).clk = s.clk := rfl
@[simp] theorem wr_boot (s : State) (r : Reg) (i : Nat) (w : Word) : (s.wr r i w).boot = s.boot := rfl
@[simp] theorem wr_harts (s : State) (r : Reg) (i : Nat) (w : Word) : (s.wr r i w).harts = s.harts := rfl
@[simp] theorem wr_acl (s : State) (r : Reg) (i : Nat) (w : Word) : (s.wr r i w).acl = s.acl := rfl
@[simp] theorem wr_ve (s : State) (r : Reg) (i : Nat) (w : Word) : (s.wr r i w).ve = s.ve := rfl
@[simp] theorem wr_bel (s : State) (r : Reg) (i : Nat) (w : Word) : (s.wr r i w).bel = s.bel := rfl
@[simp] theorem wr_irqLine (s : State) (r : Reg) (i : Nat) (w : Word) : (s.wr r i w).irqLine = s.irqLine := rfl
@[simp] theorem wr_irqCnt (s : State) (r : Reg) (i : Nat) (w : Word) : (s.wr r i w).irqCnt = s.irqCnt := rfl
@[simp] theorem wr_out (s : State) (r : Reg) (i : Nat) (w : Word) : (s.wr r i w).out = s.out := rfl
@[simp] theorem wr_free (s : State) (r : Reg) (i : Nat) (w : Word) : (s.wr r i w).free = s.free := rfl
@[simp] theorem wr_pending (s : State) (r : Reg) (i : Nat) (w : Word) : (s.wr r i w).pending = s.pending := rfl

@[simp] theorem put_stage (s : State) (f : Fld) (i v : Nat) : (s.put f i v).stage = s.stage := rfl
@[simp] theorem put_latch (s : State) (f : Fld) (i v : Nat) : (s.put f i v).latch = s.latch := rfl
@[simp] theorem put_mem (s : State) (f : Fld) (i v : Nat) : (s.put f i v).mem = s.mem := rfl
@[simp] theorem put_fab (s : State) (f : Fld) (i v : Nat) : (s.put f i v).fab = s.fab := rfl
@[simp] theorem put_twin (s : State) (f : Fld) (i v : Nat) : (s.put f i v).twin = s.twin := rfl
@[simp] theorem put_ch (s : State) (f : Fld) (i v : Nat) : (s.put f i v).ch = s.ch := rfl
@[simp] theorem put_feed (s : State) (f : Fld) (i v : Nat) : (s.put f i v).feed = s.feed := rfl
@[simp] theorem put_tab (s : State) (f : Fld) (i v : Nat) : (s.put f i v).tab = s.tab := rfl
@[simp] theorem put_io (s : State) (f : Fld) (i v : Nat) : (s.put f i v).io = s.io := rfl
@[simp] theorem put_sw (s : State) (f : Fld) (i v : Nat) : (s.put f i v).sw = s.sw := rfl
@[simp] theorem put_ports (s : State) (f : Fld) (i v : Nat) : (s.put f i v).ports = s.ports := rfl
@[simp] theorem put_time (s : State) (f : Fld) (i v : Nat) : (s.put f i v).time = s.time := rfl
@[simp] theorem put_bus (s : State) (f : Fld) (i v : Nat) : (s.put f i v).bus = s.bus := rfl
@[simp] theorem put_car (s : State) (f : Fld) (i v : Nat) : (s.put f i v).car = s.car := rfl
@[simp] theorem put_dict (s : State) (f : Fld) (i v : Nat) : (s.put f i v).dict = s.dict := rfl
@[simp] theorem put_pm (s : State) (f : Fld) (i v : Nat) : (s.put f i v).pm = s.pm := rfl
@[simp] theorem put_late (s : State) (f : Fld) (i v : Nat) : (s.put f i v).late = s.late := rfl
@[simp] theorem put_temp (s : State) (f : Fld) (i v : Nat) : (s.put f i v).temp = s.temp := rfl
@[simp] theorem put_toc (s : State) (f : Fld) (i v : Nat) : (s.put f i v).toc = s.toc := rfl
@[simp] theorem put_kn (s : State) (f : Fld) (i v : Nat) : (s.put f i v).kn = s.kn := rfl
@[simp] theorem put_wdg (s : State) (f : Fld) (i v : Nat) : (s.put f i v).wdg = s.wdg := rfl
@[simp] theorem put_bist (s : State) (f : Fld) (i v : Nat) : (s.put f i v).bist = s.bist := rfl
@[simp] theorem put_clk (s : State) (f : Fld) (i v : Nat) : (s.put f i v).clk = s.clk := rfl
@[simp] theorem put_boot (s : State) (f : Fld) (i v : Nat) : (s.put f i v).boot = s.boot := rfl
@[simp] theorem put_harts (s : State) (f : Fld) (i v : Nat) : (s.put f i v).harts = s.harts := rfl
@[simp] theorem put_acl (s : State) (f : Fld) (i v : Nat) : (s.put f i v).acl = s.acl := rfl
@[simp] theorem put_ve (s : State) (f : Fld) (i v : Nat) : (s.put f i v).ve = s.ve := rfl
@[simp] theorem put_bel (s : State) (f : Fld) (i v : Nat) : (s.put f i v).bel = s.bel := rfl
@[simp] theorem put_irqLine (s : State) (f : Fld) (i v : Nat) : (s.put f i v).irqLine = s.irqLine := rfl
@[simp] theorem put_irqCnt (s : State) (f : Fld) (i v : Nat) : (s.put f i v).irqCnt = s.irqCnt := rfl
@[simp] theorem put_out (s : State) (f : Fld) (i v : Nat) : (s.put f i v).out = s.out := rfl
@[simp] theorem put_free (s : State) (f : Fld) (i v : Nat) : (s.put f i v).free = s.free := rfl
@[simp] theorem put_pending (s : State) (f : Fld) (i v : Nat) : (s.put f i v).pending = s.pending := rfl

/-! ### Something leaves the device; a free value is drawn -/

@[simp] theorem emit_regs (s : State) (x : Out) : (s.emit x).regs = s.regs := rfl
@[simp] theorem emit_stage (s : State) (x : Out) : (s.emit x).stage = s.stage := rfl
@[simp] theorem emit_latch (s : State) (x : Out) : (s.emit x).latch = s.latch := rfl
@[simp] theorem emit_mem (s : State) (x : Out) : (s.emit x).mem = s.mem := rfl
@[simp] theorem emit_fab (s : State) (x : Out) : (s.emit x).fab = s.fab := rfl
@[simp] theorem emit_twin (s : State) (x : Out) : (s.emit x).twin = s.twin := rfl
@[simp] theorem emit_ch (s : State) (x : Out) : (s.emit x).ch = s.ch := rfl
@[simp] theorem emit_feed (s : State) (x : Out) : (s.emit x).feed = s.feed := rfl
@[simp] theorem emit_tab (s : State) (x : Out) : (s.emit x).tab = s.tab := rfl
@[simp] theorem emit_io (s : State) (x : Out) : (s.emit x).io = s.io := rfl
@[simp] theorem emit_sw (s : State) (x : Out) : (s.emit x).sw = s.sw := rfl
@[simp] theorem emit_ports (s : State) (x : Out) : (s.emit x).ports = s.ports := rfl
@[simp] theorem emit_time (s : State) (x : Out) : (s.emit x).time = s.time := rfl
@[simp] theorem emit_bus (s : State) (x : Out) : (s.emit x).bus = s.bus := rfl
@[simp] theorem emit_car (s : State) (x : Out) : (s.emit x).car = s.car := rfl
@[simp] theorem emit_dict (s : State) (x : Out) : (s.emit x).dict = s.dict := rfl
@[simp] theorem emit_pm (s : State) (x : Out) : (s.emit x).pm = s.pm := rfl
@[simp] theorem emit_late (s : State) (x : Out) : (s.emit x).late = s.late := rfl
@[simp] theorem emit_temp (s : State) (x : Out) : (s.emit x).temp = s.temp := rfl
@[simp] theorem emit_toc (s : State) (x : Out) : (s.emit x).toc = s.toc := rfl
@[simp] theorem emit_kn (s : State) (x : Out) : (s.emit x).kn = s.kn := rfl
@[simp] theorem emit_wdg (s : State) (x : Out) : (s.emit x).wdg = s.wdg := rfl
@[simp] theorem emit_bist (s : State) (x : Out) : (s.emit x).bist = s.bist := rfl
@[simp] theorem emit_clk (s : State) (x : Out) : (s.emit x).clk = s.clk := rfl
@[simp] theorem emit_boot (s : State) (x : Out) : (s.emit x).boot = s.boot := rfl
@[simp] theorem emit_harts (s : State) (x : Out) : (s.emit x).harts = s.harts := rfl
@[simp] theorem emit_acl (s : State) (x : Out) : (s.emit x).acl = s.acl := rfl
@[simp] theorem emit_ve (s : State) (x : Out) : (s.emit x).ve = s.ve := rfl
@[simp] theorem emit_bel (s : State) (x : Out) : (s.emit x).bel = s.bel := rfl
@[simp] theorem emit_irqLine (s : State) (x : Out) : (s.emit x).irqLine = s.irqLine := rfl
@[simp] theorem emit_irqCnt (s : State) (x : Out) : (s.emit x).irqCnt = s.irqCnt := rfl
@[simp] theorem emit_free (s : State) (x : Out) : (s.emit x).free = s.free := rfl
@[simp] theorem emit_pending (s : State) (x : Out) : (s.emit x).pending = s.pending := rfl
@[simp] theorem emit_out (s : State) (x : Out) : (s.emit x).out = s.out ++ [x] := rfl
@[simp] theorem rd_emit (s : State) (x : Out) (r : Reg) (i : Nat) : (s.emit x).rd r i = s.rd r i := rfl
@[simp] theorem get_emit (s : State) (x : Out) (f : Fld) (i : Nat) : (s.emit x).get f i = s.get f i := rfl

/-! ### A counter field -/

@[simp] theorem incSat_stage (s : State) (f : Fld) (i : Nat) : (s.incSat f i).stage = s.stage := rfl
@[simp] theorem incSat_latch (s : State) (f : Fld) (i : Nat) : (s.incSat f i).latch = s.latch := rfl
@[simp] theorem incSat_mem (s : State) (f : Fld) (i : Nat) : (s.incSat f i).mem = s.mem := rfl
@[simp] theorem incSat_fab (s : State) (f : Fld) (i : Nat) : (s.incSat f i).fab = s.fab := rfl
@[simp] theorem incSat_twin (s : State) (f : Fld) (i : Nat) : (s.incSat f i).twin = s.twin := rfl
@[simp] theorem incSat_ch (s : State) (f : Fld) (i : Nat) : (s.incSat f i).ch = s.ch := rfl
@[simp] theorem incSat_feed (s : State) (f : Fld) (i : Nat) : (s.incSat f i).feed = s.feed := rfl
@[simp] theorem incSat_tab (s : State) (f : Fld) (i : Nat) : (s.incSat f i).tab = s.tab := rfl
@[simp] theorem incSat_io (s : State) (f : Fld) (i : Nat) : (s.incSat f i).io = s.io := rfl
@[simp] theorem incSat_sw (s : State) (f : Fld) (i : Nat) : (s.incSat f i).sw = s.sw := rfl
@[simp] theorem incSat_ports (s : State) (f : Fld) (i : Nat) : (s.incSat f i).ports = s.ports := rfl
@[simp] theorem incSat_time (s : State) (f : Fld) (i : Nat) : (s.incSat f i).time = s.time := rfl
@[simp] theorem incSat_bus (s : State) (f : Fld) (i : Nat) : (s.incSat f i).bus = s.bus := rfl
@[simp] theorem incSat_car (s : State) (f : Fld) (i : Nat) : (s.incSat f i).car = s.car := rfl
@[simp] theorem incSat_dict (s : State) (f : Fld) (i : Nat) : (s.incSat f i).dict = s.dict := rfl
@[simp] theorem incSat_pm (s : State) (f : Fld) (i : Nat) : (s.incSat f i).pm = s.pm := rfl
@[simp] theorem incSat_late (s : State) (f : Fld) (i : Nat) : (s.incSat f i).late = s.late := rfl
@[simp] theorem incSat_temp (s : State) (f : Fld) (i : Nat) : (s.incSat f i).temp = s.temp := rfl
@[simp] theorem incSat_toc (s : State) (f : Fld) (i : Nat) : (s.incSat f i).toc = s.toc := rfl
@[simp] theorem incSat_kn (s : State) (f : Fld) (i : Nat) : (s.incSat f i).kn = s.kn := rfl
@[simp] theorem incSat_wdg (s : State) (f : Fld) (i : Nat) : (s.incSat f i).wdg = s.wdg := rfl
@[simp] theorem incSat_bist (s : State) (f : Fld) (i : Nat) : (s.incSat f i).bist = s.bist := rfl
@[simp] theorem incSat_clk (s : State) (f : Fld) (i : Nat) : (s.incSat f i).clk = s.clk := rfl
@[simp] theorem incSat_boot (s : State) (f : Fld) (i : Nat) : (s.incSat f i).boot = s.boot := rfl
@[simp] theorem incSat_harts (s : State) (f : Fld) (i : Nat) : (s.incSat f i).harts = s.harts := rfl
@[simp] theorem incSat_acl (s : State) (f : Fld) (i : Nat) : (s.incSat f i).acl = s.acl := rfl
@[simp] theorem incSat_ve (s : State) (f : Fld) (i : Nat) : (s.incSat f i).ve = s.ve := rfl
@[simp] theorem incSat_bel (s : State) (f : Fld) (i : Nat) : (s.incSat f i).bel = s.bel := rfl
@[simp] theorem incSat_irqLine (s : State) (f : Fld) (i : Nat) : (s.incSat f i).irqLine = s.irqLine := rfl
@[simp] theorem incSat_irqCnt (s : State) (f : Fld) (i : Nat) : (s.incSat f i).irqCnt = s.irqCnt := rfl
@[simp] theorem incSat_out (s : State) (f : Fld) (i : Nat) : (s.incSat f i).out = s.out := rfl
@[simp] theorem incSat_free (s : State) (f : Fld) (i : Nat) : (s.incSat f i).free = s.free := rfl
@[simp] theorem incSat_pending (s : State) (f : Fld) (i : Nat) : (s.incSat f i).pending = s.pending := rfl

/-- A counter field one higher, and no other register touched. -/
theorem get_incSat_same (s : State) (f : Fld) (i : Nat) (h : f.ok) :
    (s.incSat f i).get f i = satInc (s.get f i) f.top % 2 ^ (f.hi + 1 - f.lo) := get_put_same s f i _ h

theorem get_incSat_id (s : State) {f g : Fld} (h : g.reg.id ≠ f.reg.id) (i j : Nat) : (s.incSat f i).get g j = s.get g j :=
  get_put_id s h i j _

theorem get_incSat_index (s : State) {f g : Fld} (hr : g.reg = f.reg) {i j : Nat} (h : j ≠ i) : (s.incSat f i).get g j = s.get g j :=
  get_put_index s hr h _

theorem get_incSat_field (s : State) {f g : Fld} (hr : g.reg = f.reg) (hf : f.ok) (hg : g.ok) (d : g.hi < f.lo ∨ f.hi < g.lo)
    (i j : Nat) : (s.incSat f i).get g j = s.get g j := get_put_field s hr hf hg d i j _

/-! ### Raising a source, an interrupt or a late error -/

theorem Quiet.stage (h : Quiet s t) : t.stage = s.stage := by rw [h]
theorem Quiet.latch (h : Quiet s t) : t.latch = s.latch := by rw [h]
theorem Quiet.mem (h : Quiet s t) : t.mem = s.mem := by rw [h]
theorem Quiet.fab (h : Quiet s t) : t.fab = s.fab := by rw [h]
theorem Quiet.twin (h : Quiet s t) : t.twin = s.twin := by rw [h]
theorem Quiet.ch (h : Quiet s t) : t.ch = s.ch := by rw [h]
theorem Quiet.feed (h : Quiet s t) : t.feed = s.feed := by rw [h]
theorem Quiet.tab (h : Quiet s t) : t.tab = s.tab := by rw [h]
theorem Quiet.io (h : Quiet s t) : t.io = s.io := by rw [h]
theorem Quiet.sw (h : Quiet s t) : t.sw = s.sw := by rw [h]
theorem Quiet.ports (h : Quiet s t) : t.ports = s.ports := by rw [h]
theorem Quiet.time (h : Quiet s t) : t.time = s.time := by rw [h]
theorem Quiet.bus (h : Quiet s t) : t.bus = s.bus := by rw [h]
theorem Quiet.car (h : Quiet s t) : t.car = s.car := by rw [h]
theorem Quiet.dict (h : Quiet s t) : t.dict = s.dict := by rw [h]
theorem Quiet.pm (h : Quiet s t) : t.pm = s.pm := by rw [h]
theorem Quiet.late (h : Quiet s t) : t.late = s.late := by rw [h]
theorem Quiet.temp (h : Quiet s t) : t.temp = s.temp := by rw [h]
theorem Quiet.kn (h : Quiet s t) : t.kn = s.kn := by rw [h]
theorem Quiet.wdg (h : Quiet s t) : t.wdg = s.wdg := by rw [h]
theorem Quiet.bist (h : Quiet s t) : t.bist = s.bist := by rw [h]
theorem Quiet.clk (h : Quiet s t) : t.clk = s.clk := by rw [h]
theorem Quiet.boot (h : Quiet s t) : t.boot = s.boot := by rw [h]
theorem Quiet.harts (h : Quiet s t) : t.harts = s.harts := by rw [h]
theorem Quiet.ve (h : Quiet s t) : t.ve = s.ve := by rw [h]
theorem Quiet.bel (h : Quiet s t) : t.bel = s.bel := by rw [h]
theorem Quiet.out (h : Quiet s t) : t.out = s.out := by rw [h]
theorem Quiet.free (h : Quiet s t) : t.free = s.free := by rw [h]
theorem Quiet.pending (h : Quiet s t) : t.pending = s.pending := by rw [h]

/-! ### One entry of a table -/

@[simp] theorem portSt_put (s : State) (f : Fld) (i v k : Nat) : portSt (s.put f i v) k = portSt s k := rfl
@[simp] theorem portSt_incSat (s : State) (f : Fld) (i k : Nat) : portSt (s.incSat f i) k = portSt s k := rfl
@[simp] theorem portSt_wr (s : State) (r : Reg) (i : Nat) (w : Word) (k : Nat) : portSt (s.wr r i w) k = portSt s k := rfl
theorem Quiet.portSt (h : Quiet s t) (k : Nat) : portSt t k = portSt s k := by rw [h]; rfl
@[simp] theorem portSt_updPort_same (s : State) (k : Nat) (f : PortSt → PortSt) : portSt (s.updPort k f) k = f (portSt s k) := by
  unfold portSt State.updPort
  exact tget_tupd_same
theorem portSt_updPort_other (s : State) {j k : Nat} (f : PortSt → PortSt) (h : portCanon j ≠ portCanon k) : portSt (s.updPort k f) j = portSt s j := by
  unfold portSt State.updPort
  exact tget_tupd_other h
@[simp] theorem rd_updPort (s : State) (k : Nat) (f : PortSt → PortSt) (r : Reg) (i : Nat) : (s.updPort k f).rd r i = s.rd r i := rfl
@[simp] theorem get_updPort (s : State) (k : Nat) (f : PortSt → PortSt) (g : Fld) (i : Nat) : (s.updPort k f).get g i = s.get g i := rfl
@[simp] theorem mem_updPort (s : State) (k : Nat) (f : PortSt → PortSt) : (s.updPort k f).mem = s.mem := rfl

@[simp] theorem slotSt_put (s : State) (f : Fld) (i v k : Nat) : slotSt (s.put f i v) k = slotSt s k := rfl
@[simp] theorem slotSt_incSat (s : State) (f : Fld) (i k : Nat) : slotSt (s.incSat f i) k = slotSt s k := rfl
@[simp] theorem slotSt_wr (s : State) (r : Reg) (i : Nat) (w : Word) (k : Nat) : slotSt (s.wr r i w) k = slotSt s k := rfl
theorem Quiet.slotSt (h : Quiet s t) (k : Nat) : slotSt t k = slotSt s k := by rw [h]; rfl
@[simp] theorem slotSt_updSlot_same (s : State) (k : Nat) (f : SlotSt → SlotSt) : slotSt (s.updSlot k f) k = f (slotSt s k) := by
  unfold slotSt State.updSlot
  exact tget_tupd_same
theorem slotSt_updSlot_other (s : State) {j k : Nat} (f : SlotSt → SlotSt) (h : j ≠ k) : slotSt (s.updSlot k f) j = slotSt s j := by
  unfold slotSt State.updSlot
  exact tget_tupd_other h
@[simp] theorem rd_updSlot (s : State) (k : Nat) (f : SlotSt → SlotSt) (r : Reg) (i : Nat) : (s.updSlot k f).rd r i = s.rd r i := rfl
@[simp] theorem get_updSlot (s : State) (k : Nat) (f : SlotSt → SlotSt) (g : Fld) (i : Nat) : (s.updSlot k f).get g i = s.get g i := rfl
@[simp] theorem mem_updSlot (s : State) (k : Nat) (f : SlotSt → SlotSt) : (s.updSlot k f).mem = s.mem := rfl

@[simp] theorem consSt_put (s : State) (f : Fld) (i v k : Nat) : consSt (s.put f i v) k = consSt s k := rfl
@[simp] theorem consSt_incSat (s : State) (f : Fld) (i k : Nat) : consSt (s.incSat f i) k = consSt s k := rfl
@[simp] theorem consSt_wr (s : State) (r : Reg) (i : Nat) (w : Word) (k : Nat) : consSt (s.wr r i w) k = consSt s k := rfl
theorem Quiet.consSt (h : Quiet s t) (k : Nat) : consSt t k = consSt s k := by rw [h]; rfl
@[simp] theorem consSt_setCons_same (s : State) (k : Nat) (x : ConsSt) : consSt (s.setCons k x) k = x := by
  unfold consSt State.setCons
  exact tget_tset_same
theorem consSt_setCons_other (s : State) {j k : Nat} (x : ConsSt) (h : j ≠ k) : consSt (s.setCons k x) j = consSt s j := by
  unfold consSt State.setCons
  exact tget_tset_other h
@[simp] theorem rd_setCons (s : State) (k : Nat) (x : ConsSt) (r : Reg) (i : Nat) : (s.setCons k x).rd r i = s.rd r i := rfl
@[simp] theorem get_setCons (s : State) (k : Nat) (x : ConsSt) (g : Fld) (i : Nat) : (s.setCons k x).get g i = s.get g i := rfl
@[simp] theorem mem_setCons (s : State) (k : Nat) (x : ConsSt) : (s.setCons k x).mem = s.mem := rfl

@[simp] theorem chSt_put (s : State) (f : Fld) (i v k : Nat) : chSt (s.put f i v) k = chSt s k := rfl
@[simp] theorem chSt_incSat (s : State) (f : Fld) (i k : Nat) : chSt (s.incSat f i) k = chSt s k := rfl
@[simp] theorem chSt_wr (s : State) (r : Reg) (i : Nat) (w : Word) (k : Nat) : chSt (s.wr r i w) k = chSt s k := rfl
theorem Quiet.chSt (h : Quiet s t) (k : Nat) : chSt t k = chSt s k := by rw [h]; rfl
@[simp] theorem chSt_setCh_same (s : State) (k : Nat) (x : ChSt) : chSt (s.setCh k x) k = x := by
  unfold chSt State.setCh
  exact tget_tset_same
theorem chSt_setCh_other (s : State) {j k : Nat} (x : ChSt) (h : j ≠ k) : chSt (s.setCh k x) j = chSt s j := by
  unfold chSt State.setCh
  exact tget_tset_other h
@[simp] theorem rd_setCh (s : State) (k : Nat) (x : ChSt) (r : Reg) (i : Nat) : (s.setCh k x).rd r i = s.rd r i := rfl
@[simp] theorem get_setCh (s : State) (k : Nat) (x : ChSt) (g : Fld) (i : Nat) : (s.setCh k x).get g i = s.get g i := rfl
@[simp] theorem mem_setCh (s : State) (k : Nat) (x : ChSt) : (s.setCh k x).mem = s.mem := rfl

@[simp] theorem feedSt_put (s : State) (f : Fld) (i v k : Nat) : feedSt (s.put f i v) k = feedSt s k := rfl
@[simp] theorem feedSt_incSat (s : State) (f : Fld) (i k : Nat) : feedSt (s.incSat f i) k = feedSt s k := rfl
@[simp] theorem feedSt_wr (s : State) (r : Reg) (i : Nat) (w : Word) (k : Nat) : feedSt (s.wr r i w) k = feedSt s k := rfl
theorem Quiet.feedSt (h : Quiet s t) (k : Nat) : feedSt t k = feedSt s k := by rw [h]; rfl
@[simp] theorem feedSt_updFeed_same (s : State) (k : Nat) (f : FeedSt → FeedSt) : feedSt (s.updFeed k f) k = f (feedSt s k) := by
  unfold feedSt State.updFeed
  exact tget_tupd_same
theorem feedSt_updFeed_other (s : State) {j k : Nat} (f : FeedSt → FeedSt) (h : j ≠ k) : feedSt (s.updFeed k f) j = feedSt s j := by
  unfold feedSt State.updFeed
  exact tget_tupd_other h
@[simp] theorem rd_updFeed (s : State) (k : Nat) (f : FeedSt → FeedSt) (r : Reg) (i : Nat) : (s.updFeed k f).rd r i = s.rd r i := rfl
@[simp] theorem get_updFeed (s : State) (k : Nat) (f : FeedSt → FeedSt) (g : Fld) (i : Nat) : (s.updFeed k f).get g i = s.get g i := rfl
@[simp] theorem mem_updFeed (s : State) (k : Nat) (f : FeedSt → FeedSt) : (s.updFeed k f).mem = s.mem := rfl

@[simp] theorem engSt_put (s : State) (f : Fld) (i v k : Nat) : engSt (s.put f i v) k = engSt s k := rfl
@[simp] theorem engSt_incSat (s : State) (f : Fld) (i k : Nat) : engSt (s.incSat f i) k = engSt s k := rfl
@[simp] theorem engSt_wr (s : State) (r : Reg) (i : Nat) (w : Word) (k : Nat) : engSt (s.wr r i w) k = engSt s k := rfl
theorem Quiet.engSt (h : Quiet s t) (k : Nat) : engSt t k = engSt s k := by rw [h]; rfl
@[simp] theorem engSt_setEng_same (s : State) (k : Nat) (x : EngSt) : engSt (s.setEng k x) k = x := by
  unfold engSt State.setEng
  exact tget_tset_same
theorem engSt_setEng_other (s : State) {j k : Nat} (x : EngSt) (h : j ≠ k) : engSt (s.setEng k x) j = engSt s j := by
  unfold engSt State.setEng
  exact tget_tset_other h
@[simp] theorem rd_setEng (s : State) (k : Nat) (x : EngSt) (r : Reg) (i : Nat) : (s.setEng k x).rd r i = s.rd r i := rfl
@[simp] theorem get_setEng (s : State) (k : Nat) (x : EngSt) (g : Fld) (i : Nat) : (s.setEng k x).get g i = s.get g i := rfl
@[simp] theorem mem_setEng (s : State) (k : Nat) (x : EngSt) : (s.setEng k x).mem = s.mem := rfl

@[simp] theorem engSt_updEng_same (s : State) (k : Nat) (f : EngSt → EngSt) : engSt (s.updEng k f) k = f (engSt s k) := by
  unfold engSt State.updEng State.setEng
  exact tget_tset_same
theorem engSt_updEng_other (s : State) {j k : Nat} (f : EngSt → EngSt) (h : j ≠ k) : engSt (s.updEng k f) j = engSt s j := by
  unfold engSt State.updEng State.setEng
  exact tget_tset_other h
@[simp] theorem rd_updEng (s : State) (k : Nat) (f : EngSt → EngSt) (r : Reg) (i : Nat) : (s.updEng k f).rd r i = s.rd r i := rfl
@[simp] theorem get_updEng (s : State) (k : Nat) (f : EngSt → EngSt) (g : Fld) (i : Nat) : (s.updEng k f).get g i = s.get g i := rfl
@[simp] theorem mem_updEng (s : State) (k : Nat) (f : EngSt → EngSt) : (s.updEng k f).mem = s.mem := rfl

@[simp] theorem mfiSt_put (s : State) (f : Fld) (i v k : Nat) : mfiSt (s.put f i v) k = mfiSt s k := rfl
@[simp] theorem mfiSt_incSat (s : State) (f : Fld) (i k : Nat) : mfiSt (s.incSat f i) k = mfiSt s k := rfl
@[simp] theorem mfiSt_wr (s : State) (r : Reg) (i : Nat) (w : Word) (k : Nat) : mfiSt (s.wr r i w) k = mfiSt s k := rfl
theorem Quiet.mfiSt (h : Quiet s t) (k : Nat) : mfiSt t k = mfiSt s k := by rw [h]; rfl
@[simp] theorem mfiSt_setMfi_same (s : State) (k : Nat) (x : MfiSt) : mfiSt (s.setMfi k x) k = x := by
  unfold mfiSt State.setMfi
  exact tget_tset_same
theorem mfiSt_setMfi_other (s : State) {j k : Nat} (x : MfiSt) (h : j ≠ k) : mfiSt (s.setMfi k x) j = mfiSt s j := by
  unfold mfiSt State.setMfi
  exact tget_tset_other h
@[simp] theorem rd_setMfi (s : State) (k : Nat) (x : MfiSt) (r : Reg) (i : Nat) : (s.setMfi k x).rd r i = s.rd r i := rfl
@[simp] theorem get_setMfi (s : State) (k : Nat) (x : MfiSt) (g : Fld) (i : Nat) : (s.setMfi k x).get g i = s.get g i := rfl
@[simp] theorem mem_setMfi (s : State) (k : Nat) (x : MfiSt) : (s.setMfi k x).mem = s.mem := rfl

@[simp] theorem lsoSt_put (s : State) (f : Fld) (i v k : Nat) : lsoSt (s.put f i v) k = lsoSt s k := rfl
@[simp] theorem lsoSt_incSat (s : State) (f : Fld) (i k : Nat) : lsoSt (s.incSat f i) k = lsoSt s k := rfl
@[simp] theorem lsoSt_wr (s : State) (r : Reg) (i : Nat) (w : Word) (k : Nat) : lsoSt (s.wr r i w) k = lsoSt s k := rfl
theorem Quiet.lsoSt (h : Quiet s t) (k : Nat) : lsoSt t k = lsoSt s k := by rw [h]; rfl
@[simp] theorem lsoSt_setLso_same (s : State) (k : Nat) (x : LsoSt) : lsoSt (s.setLso k x) k = x := by
  unfold lsoSt State.setLso
  exact tget_tset_same
theorem lsoSt_setLso_other (s : State) {j k : Nat} (x : LsoSt) (h : j ≠ k) : lsoSt (s.setLso k x) j = lsoSt s j := by
  unfold lsoSt State.setLso
  exact tget_tset_other h
@[simp] theorem rd_setLso (s : State) (k : Nat) (x : LsoSt) (r : Reg) (i : Nat) : (s.setLso k x).rd r i = s.rd r i := rfl
@[simp] theorem get_setLso (s : State) (k : Nat) (x : LsoSt) (g : Fld) (i : Nat) : (s.setLso k x).get g i = s.get g i := rfl
@[simp] theorem mem_setLso (s : State) (k : Nat) (x : LsoSt) : (s.setLso k x).mem = s.mem := rfl

@[simp] theorem brSt_put (s : State) (f : Fld) (i v k : Nat) : brSt (s.put f i v) k = brSt s k := rfl
@[simp] theorem brSt_incSat (s : State) (f : Fld) (i k : Nat) : brSt (s.incSat f i) k = brSt s k := rfl
@[simp] theorem brSt_wr (s : State) (r : Reg) (i : Nat) (w : Word) (k : Nat) : brSt (s.wr r i w) k = brSt s k := rfl
theorem Quiet.brSt (h : Quiet s t) (k : Nat) : brSt t k = brSt s k := by rw [h]; rfl
@[simp] theorem brSt_setBr_same (s : State) (k : Nat) (x : BrSt) : brSt (s.setBr k x) k = x := by
  unfold brSt State.setBr
  exact tget_tset_same
theorem brSt_setBr_other (s : State) {j k : Nat} (x : BrSt) (h : j ≠ k) : brSt (s.setBr k x) j = brSt s j := by
  unfold brSt State.setBr
  exact tget_tset_other h
@[simp] theorem rd_setBr (s : State) (k : Nat) (x : BrSt) (r : Reg) (i : Nat) : (s.setBr k x).rd r i = s.rd r i := rfl
@[simp] theorem get_setBr (s : State) (k : Nat) (x : BrSt) (g : Fld) (i : Nat) : (s.setBr k x).get g i = s.get g i := rfl
@[simp] theorem mem_setBr (s : State) (k : Nat) (x : BrSt) : (s.setBr k x).mem = s.mem := rfl

@[simp] theorem sentSt_put (s : State) (f : Fld) (i v k : Nat) : sentSt (s.put f i v) k = sentSt s k := rfl
@[simp] theorem sentSt_incSat (s : State) (f : Fld) (i k : Nat) : sentSt (s.incSat f i) k = sentSt s k := rfl
@[simp] theorem sentSt_wr (s : State) (r : Reg) (i : Nat) (w : Word) (k : Nat) : sentSt (s.wr r i w) k = sentSt s k := rfl
theorem Quiet.sentSt (h : Quiet s t) (k : Nat) : sentSt t k = sentSt s k := by rw [h]; rfl
@[simp] theorem sentSt_setSent_same (s : State) (k : Nat) (x : SentSt) : sentSt (s.setSent k x) k = x := by
  unfold sentSt State.setSent
  exact tget_tset_same
theorem sentSt_setSent_other (s : State) {j k : Nat} (x : SentSt) (h : j ≠ k) : sentSt (s.setSent k x) j = sentSt s j := by
  unfold sentSt State.setSent
  exact tget_tset_other h
@[simp] theorem rd_setSent (s : State) (k : Nat) (x : SentSt) (r : Reg) (i : Nat) : (s.setSent k x).rd r i = s.rd r i := rfl
@[simp] theorem get_setSent (s : State) (k : Nat) (x : SentSt) (g : Fld) (i : Nat) : (s.setSent k x).get g i = s.get g i := rfl
@[simp] theorem mem_setSent (s : State) (k : Nat) (x : SentSt) : (s.setSent k x).mem = s.mem := rfl

@[simp] theorem frameSt_put (s : State) (f : Fld) (i v k : Nat) : frameSt (s.put f i v) k = frameSt s k := rfl
@[simp] theorem frameSt_incSat (s : State) (f : Fld) (i k : Nat) : frameSt (s.incSat f i) k = frameSt s k := rfl
@[simp] theorem frameSt_wr (s : State) (r : Reg) (i : Nat) (w : Word) (k : Nat) : frameSt (s.wr r i w) k = frameSt s k := rfl
theorem Quiet.frameSt (h : Quiet s t) (k : Nat) : frameSt t k = frameSt s k := by rw [h]; rfl
@[simp] theorem frameSt_setFrame_same (s : State) (k : Nat) (x : SwFrame) : frameSt (s.setFrame k x) k = x := by
  unfold frameSt State.setFrame
  exact tget_tset_same
theorem frameSt_setFrame_other (s : State) {j k : Nat} (x : SwFrame) (h : j ≠ k) : frameSt (s.setFrame k x) j = frameSt s j := by
  unfold frameSt State.setFrame
  exact tget_tset_other h
@[simp] theorem rd_setFrame (s : State) (k : Nat) (x : SwFrame) (r : Reg) (i : Nat) : (s.setFrame k x).rd r i = s.rd r i := rfl
@[simp] theorem get_setFrame (s : State) (k : Nat) (x : SwFrame) (g : Fld) (i : Nat) : (s.setFrame k x).get g i = s.get g i := rfl
@[simp] theorem mem_setFrame (s : State) (k : Nat) (x : SwFrame) : (s.setFrame k x).mem = s.mem := rfl

@[simp] theorem frameSt_updFrame_same (s : State) (k : Nat) (f : SwFrame → SwFrame) : frameSt (s.updFrame k f) k = f (frameSt s k) := by
  unfold frameSt State.updFrame State.setFrame
  exact tget_tset_same
theorem frameSt_updFrame_other (s : State) {j k : Nat} (f : SwFrame → SwFrame) (h : j ≠ k) : frameSt (s.updFrame k f) j = frameSt s j := by
  unfold frameSt State.updFrame State.setFrame
  exact tget_tset_other h
@[simp] theorem rd_updFrame (s : State) (k : Nat) (f : SwFrame → SwFrame) (r : Reg) (i : Nat) : (s.updFrame k f).rd r i = s.rd r i := rfl
@[simp] theorem get_updFrame (s : State) (k : Nat) (f : SwFrame → SwFrame) (g : Fld) (i : Nat) : (s.updFrame k f).get g i = s.get g i := rfl
@[simp] theorem mem_updFrame (s : State) (k : Nat) (f : SwFrame → SwFrame) : (s.updFrame k f).mem = s.mem := rfl

@[simp] theorem epSt_put (s : State) (f : Fld) (i v k : Nat) : epSt (s.put f i v) k = epSt s k := rfl
@[simp] theorem epSt_incSat (s : State) (f : Fld) (i k : Nat) : epSt (s.incSat f i) k = epSt s k := rfl
@[simp] theorem epSt_wr (s : State) (r : Reg) (i : Nat) (w : Word) (k : Nat) : epSt (s.wr r i w) k = epSt s k := rfl
theorem Quiet.epSt (h : Quiet s t) (k : Nat) : epSt t k = epSt s k := by rw [h]; rfl
@[simp] theorem epSt_updEp_same (s : State) (k : Nat) (f : EpSt → EpSt) : epSt (s.updEp k f) k = f (epSt s k) := by
  unfold epSt State.updEp
  exact tget_tupd_same
theorem epSt_updEp_other (s : State) {j k : Nat} (f : EpSt → EpSt) (h : j ≠ k) : epSt (s.updEp k f) j = epSt s j := by
  unfold epSt State.updEp
  exact tget_tupd_other h
@[simp] theorem rd_updEp (s : State) (k : Nat) (f : EpSt → EpSt) (r : Reg) (i : Nat) : (s.updEp k f).rd r i = s.rd r i := rfl
@[simp] theorem get_updEp (s : State) (k : Nat) (f : EpSt → EpSt) (g : Fld) (i : Nat) : (s.updEp k f).get g i = s.get g i := rfl
@[simp] theorem mem_updEp (s : State) (k : Nat) (f : EpSt → EpSt) : (s.updEp k f).mem = s.mem := rfl

@[simp] theorem frerSt_put (s : State) (f : Fld) (i v k : Nat) : frerSt (s.put f i v) k = frerSt s k := rfl
@[simp] theorem frerSt_incSat (s : State) (f : Fld) (i k : Nat) : frerSt (s.incSat f i) k = frerSt s k := rfl
@[simp] theorem frerSt_wr (s : State) (r : Reg) (i : Nat) (w : Word) (k : Nat) : frerSt (s.wr r i w) k = frerSt s k := rfl
theorem Quiet.frerSt (h : Quiet s t) (k : Nat) : frerSt t k = frerSt s k := by rw [h]; rfl
@[simp] theorem frerSt_updFrer_same (s : State) (k : Nat) (f : FrerSt → FrerSt) : frerSt (s.updFrer k f) k = f (frerSt s k) := by
  unfold frerSt State.updFrer
  exact tget_tupd_same
theorem frerSt_updFrer_other (s : State) {j k : Nat} (f : FrerSt → FrerSt) (h : j ≠ k) : frerSt (s.updFrer k f) j = frerSt s j := by
  unfold frerSt State.updFrer
  exact tget_tupd_other h
@[simp] theorem rd_updFrer (s : State) (k : Nat) (f : FrerSt → FrerSt) (r : Reg) (i : Nat) : (s.updFrer k f).rd r i = s.rd r i := rfl
@[simp] theorem get_updFrer (s : State) (k : Nat) (f : FrerSt → FrerSt) (g : Fld) (i : Nat) : (s.updFrer k f).get g i = s.get g i := rfl
@[simp] theorem mem_updFrer (s : State) (k : Nat) (f : FrerSt → FrerSt) : (s.updFrer k f).mem = s.mem := rfl

@[simp] theorem hoSt_put (s : State) (f : Fld) (i v k : Nat) : hoSt (s.put f i v) k = hoSt s k := rfl
@[simp] theorem hoSt_incSat (s : State) (f : Fld) (i k : Nat) : hoSt (s.incSat f i) k = hoSt s k := rfl
@[simp] theorem hoSt_wr (s : State) (r : Reg) (i : Nat) (w : Word) (k : Nat) : hoSt (s.wr r i w) k = hoSt s k := rfl
theorem Quiet.hoSt (h : Quiet s t) (k : Nat) : hoSt t k = hoSt s k := by rw [h]; rfl
@[simp] theorem hoSt_updHo_same (s : State) (k : Nat) (f : HoSt → HoSt) : hoSt (s.updHo k f) k = f (hoSt s k) := by
  unfold hoSt State.updHo
  exact tget_tupd_same
theorem hoSt_updHo_other (s : State) {j k : Nat} (f : HoSt → HoSt) (h : j ≠ k) : hoSt (s.updHo k f) j = hoSt s j := by
  unfold hoSt State.updHo
  exact tget_tupd_other h
@[simp] theorem rd_updHo (s : State) (k : Nat) (f : HoSt → HoSt) (r : Reg) (i : Nat) : (s.updHo k f).rd r i = s.rd r i := rfl
@[simp] theorem get_updHo (s : State) (k : Nat) (f : HoSt → HoSt) (g : Fld) (i : Nat) : (s.updHo k f).get g i = s.get g i := rfl
@[simp] theorem mem_updHo (s : State) (k : Nat) (f : HoSt → HoSt) : (s.updHo k f).mem = s.mem := rfl

@[simp] theorem canSt_put (s : State) (f : Fld) (i v k : Nat) : canSt (s.put f i v) k = canSt s k := rfl
@[simp] theorem canSt_incSat (s : State) (f : Fld) (i k : Nat) : canSt (s.incSat f i) k = canSt s k := rfl
@[simp] theorem canSt_wr (s : State) (r : Reg) (i : Nat) (w : Word) (k : Nat) : canSt (s.wr r i w) k = canSt s k := rfl
theorem Quiet.canSt (h : Quiet s t) (k : Nat) : canSt t k = canSt s k := by rw [h]; rfl
@[simp] theorem canSt_updCan_same (s : State) (k : Nat) (f : CanSt → CanSt) : canSt (s.updCan k f) k = f (canSt s k) := by
  unfold canSt State.updCan
  exact tget_tupd_same
theorem canSt_updCan_other (s : State) {j k : Nat} (f : CanSt → CanSt) (h : j ≠ k) : canSt (s.updCan k f) j = canSt s j := by
  unfold canSt State.updCan
  exact tget_tupd_other h
@[simp] theorem rd_updCan (s : State) (k : Nat) (f : CanSt → CanSt) (r : Reg) (i : Nat) : (s.updCan k f).rd r i = s.rd r i := rfl
@[simp] theorem get_updCan (s : State) (k : Nat) (f : CanSt → CanSt) (g : Fld) (i : Nat) : (s.updCan k f).get g i = s.get g i := rfl
@[simp] theorem mem_updCan (s : State) (k : Nat) (f : CanSt → CanSt) : (s.updCan k f).mem = s.mem := rfl

@[simp] theorem linSt_put (s : State) (f : Fld) (i v k : Nat) : linSt (s.put f i v) k = linSt s k := rfl
@[simp] theorem linSt_incSat (s : State) (f : Fld) (i k : Nat) : linSt (s.incSat f i) k = linSt s k := rfl
@[simp] theorem linSt_wr (s : State) (r : Reg) (i : Nat) (w : Word) (k : Nat) : linSt (s.wr r i w) k = linSt s k := rfl
theorem Quiet.linSt (h : Quiet s t) (k : Nat) : linSt t k = linSt s k := by rw [h]; rfl
@[simp] theorem linSt_updLin_same (s : State) (k : Nat) (f : LinSt → LinSt) : linSt (s.updLin k f) k = f (linSt s k) := by
  unfold linSt State.updLin
  exact tget_tupd_same
theorem linSt_updLin_other (s : State) {j k : Nat} (f : LinSt → LinSt) (h : j ≠ k) : linSt (s.updLin k f) j = linSt s j := by
  unfold linSt State.updLin
  exact tget_tupd_other h
@[simp] theorem rd_updLin (s : State) (k : Nat) (f : LinSt → LinSt) (r : Reg) (i : Nat) : (s.updLin k f).rd r i = s.rd r i := rfl
@[simp] theorem get_updLin (s : State) (k : Nat) (f : LinSt → LinSt) (g : Fld) (i : Nat) : (s.updLin k f).get g i = s.get g i := rfl
@[simp] theorem mem_updLin (s : State) (k : Nat) (f : LinSt → LinSt) : (s.updLin k f).mem = s.mem := rfl

@[simp] theorem carSt_put (s : State) (f : Fld) (i v k : Nat) : carSt (s.put f i v) k = carSt s k := rfl
@[simp] theorem carSt_incSat (s : State) (f : Fld) (i k : Nat) : carSt (s.incSat f i) k = carSt s k := rfl
@[simp] theorem carSt_wr (s : State) (r : Reg) (i : Nat) (w : Word) (k : Nat) : carSt (s.wr r i w) k = carSt s k := rfl
theorem Quiet.carSt (h : Quiet s t) (k : Nat) : carSt t k = carSt s k := by rw [h]; rfl
@[simp] theorem carSt_updCar_same (s : State) (k : Nat) (f : CarSt → CarSt) : carSt (s.updCar k f) k = f (carSt s k) := by
  unfold carSt State.updCar
  exact tget_tupd_same
theorem carSt_updCar_other (s : State) {j k : Nat} (f : CarSt → CarSt) (h : j ≠ k) : carSt (s.updCar k f) j = carSt s j := by
  unfold carSt State.updCar
  exact tget_tupd_other h
@[simp] theorem rd_updCar (s : State) (k : Nat) (f : CarSt → CarSt) (r : Reg) (i : Nat) : (s.updCar k f).rd r i = s.rd r i := rfl
@[simp] theorem get_updCar (s : State) (k : Nat) (f : CarSt → CarSt) (g : Fld) (i : Nat) : (s.updCar k f).get g i = s.get g i := rfl
@[simp] theorem mem_updCar (s : State) (k : Nat) (f : CarSt → CarSt) : (s.updCar k f).mem = s.mem := rfl

@[simp] theorem hartSt_put (s : State) (f : Fld) (i v k : Nat) : hartSt (s.put f i v) k = hartSt s k := rfl
@[simp] theorem hartSt_incSat (s : State) (f : Fld) (i k : Nat) : hartSt (s.incSat f i) k = hartSt s k := rfl
@[simp] theorem hartSt_wr (s : State) (r : Reg) (i : Nat) (w : Word) (k : Nat) : hartSt (s.wr r i w) k = hartSt s k := rfl
theorem Quiet.hartSt (h : Quiet s t) (k : Nat) : hartSt t k = hartSt s k := by rw [h]; rfl
@[simp] theorem hartSt_updHart_same (s : State) (k : Nat) (f : HartSt → HartSt) : hartSt (s.updHart k f) k = f (hartSt s k) := by
  unfold hartSt State.updHart
  exact tget_tupd_same
theorem hartSt_updHart_other (s : State) {j k : Nat} (f : HartSt → HartSt) (h : j ≠ k) : hartSt (s.updHart k f) j = hartSt s j := by
  unfold hartSt State.updHart
  exact tget_tupd_other h
@[simp] theorem rd_updHart (s : State) (k : Nat) (f : HartSt → HartSt) (r : Reg) (i : Nat) : (s.updHart k f).rd r i = s.rd r i := rfl
@[simp] theorem get_updHart (s : State) (k : Nat) (f : HartSt → HartSt) (g : Fld) (i : Nat) : (s.updHart k f).get g i = s.get g i := rfl
@[simp] theorem mem_updHart (s : State) (k : Nat) (f : HartSt → HartSt) : (s.updHart k f).mem = s.mem := rfl

@[simp] theorem wdgSt_put (s : State) (f : Fld) (i v k : Nat) : wdgSt (s.put f i v) k = wdgSt s k := rfl
@[simp] theorem wdgSt_incSat (s : State) (f : Fld) (i k : Nat) : wdgSt (s.incSat f i) k = wdgSt s k := rfl
@[simp] theorem wdgSt_wr (s : State) (r : Reg) (i : Nat) (w : Word) (k : Nat) : wdgSt (s.wr r i w) k = wdgSt s k := rfl
theorem Quiet.wdgSt (h : Quiet s t) (k : Nat) : wdgSt t k = wdgSt s k := by rw [h]; rfl
@[simp] theorem wdgSt_setWdg_same (s : State) (k : Nat) (x : WdgSt) : wdgSt (s.setWdg k x) k = x := by
  unfold wdgSt State.setWdg
  exact tget_tset_same
theorem wdgSt_setWdg_other (s : State) {j k : Nat} (x : WdgSt) (h : j ≠ k) : wdgSt (s.setWdg k x) j = wdgSt s j := by
  unfold wdgSt State.setWdg
  exact tget_tset_other h
@[simp] theorem rd_setWdg (s : State) (k : Nat) (x : WdgSt) (r : Reg) (i : Nat) : (s.setWdg k x).rd r i = s.rd r i := rfl
@[simp] theorem get_setWdg (s : State) (k : Nat) (x : WdgSt) (g : Fld) (i : Nat) : (s.setWdg k x).get g i = s.get g i := rfl
@[simp] theorem mem_setWdg (s : State) (k : Nat) (x : WdgSt) : (s.setWdg k x).mem = s.mem := rfl

@[simp] theorem veSt_put (s : State) (f : Fld) (i v k : Nat) : veSt (s.put f i v) k = veSt s k := rfl
@[simp] theorem veSt_incSat (s : State) (f : Fld) (i k : Nat) : veSt (s.incSat f i) k = veSt s k := rfl
@[simp] theorem veSt_wr (s : State) (r : Reg) (i : Nat) (w : Word) (k : Nat) : veSt (s.wr r i w) k = veSt s k := rfl
theorem Quiet.veSt (h : Quiet s t) (k : Nat) : veSt t k = veSt s k := by rw [h]; rfl
@[simp] theorem veSt_updVe_same (s : State) (k : Nat) (f : VeSt → VeSt) : veSt (s.updVe k f) k = f (veSt s k) := by
  unfold veSt State.updVe
  exact tget_tupd_same
theorem veSt_updVe_other (s : State) {j k : Nat} (f : VeSt → VeSt) (h : j ≠ k) : veSt (s.updVe k f) j = veSt s j := by
  unfold veSt State.updVe
  exact tget_tupd_other h
@[simp] theorem rd_updVe (s : State) (k : Nat) (f : VeSt → VeSt) (r : Reg) (i : Nat) : (s.updVe k f).rd r i = s.rd r i := rfl
@[simp] theorem get_updVe (s : State) (k : Nat) (f : VeSt → VeSt) (g : Fld) (i : Nat) : (s.updVe k f).get g i = s.get g i := rfl
@[simp] theorem mem_updVe (s : State) (k : Nat) (f : VeSt → VeSt) : (s.updVe k f).mem = s.mem := rfl

@[simp] theorem keySlot_put (s : State) (f : Fld) (i v k : Nat) : keySlot (s.put f i v) k = keySlot s k := rfl
@[simp] theorem keySlot_incSat (s : State) (f : Fld) (i k : Nat) : keySlot (s.incSat f i) k = keySlot s k := rfl
@[simp] theorem keySlot_wr (s : State) (r : Reg) (i : Nat) (w : Word) (k : Nat) : keySlot (s.wr r i w) k = keySlot s k := rfl
theorem Quiet.keySlot (h : Quiet s t) (k : Nat) : keySlot t k = keySlot s k := by rw [h]; rfl
@[simp] theorem keySlot_setKey_same (s : State) (k : Nat) (x : KeySlot) : keySlot (s.setKey k x) k = x := by
  unfold keySlot State.setKey
  exact tget_tset_same
theorem keySlot_setKey_other (s : State) {j k : Nat} (x : KeySlot) (h : j ≠ k) : keySlot (s.setKey k x) j = keySlot s j := by
  unfold keySlot State.setKey
  exact tget_tset_other h
@[simp] theorem rd_setKey (s : State) (k : Nat) (x : KeySlot) (r : Reg) (i : Nat) : (s.setKey k x).rd r i = s.rd r i := rfl
@[simp] theorem get_setKey (s : State) (k : Nat) (x : KeySlot) (g : Fld) (i : Nat) : (s.setKey k x).get g i = s.get g i := rfl
@[simp] theorem mem_setKey (s : State) (k : Nat) (x : KeySlot) : (s.setKey k x).mem = s.mem := rfl

/-! ### Fences -/

theorem Quiet.fenced (h : Quiet s t) (p : Nat) : fenced t p = fenced s p := congrArg PortSt.shut (h.portSt p)

theorem fenced_updPort_same (s : State) (p : Nat) (f : PortSt → PortSt) : fenced (s.updPort p f) p = (f (portSt s p)).shut :=
  congrArg PortSt.shut (portSt_updPort_same s p f)

/-! ### Interrupts -/

theorem irqCnt_aplicSend {d i : Nat} : (s.aplicSend d i).irqCnt = s.irqCnt := by
  unfold State.aplicSend State.imsicSet State.setAplic
  dsimp only
  repeat' (first | rfl | split)

theorem irqCnt_aplicEdge {i : Nat} {rise : Bool} : (s.aplicEdge i rise).irqCnt = s.irqCnt := by
  unfold State.aplicEdge
  extract_lets d x m
  generalize (aplicOwned s i && if rise = true then m == 4 || m == 6 else m == 5 || m == 7) = b
  cases b with
  | true => exact irqCnt_aplicSend
  | false => rfl

/-- A raised interrupt counts (R38). -/
theorem irqCnt_raiseIrq {n : Nat} (h : n ≠ 0) (h' : n ≠ 512) : tget 0 (s.raiseIrq n).irqCnt n = tget 0 s.irqCnt n + 1 := by
  unfold State.raiseIrq
  rw [if_neg (by simp [h, h']), irqCnt_aplicEdge]
  exact tget_tupd_same (d := 0) (t := s.irqCnt) (f := fun x => x + 1)

end Sys2Proof.Machine
end

