-- ==== Sys2Proof/Tests/Slice0.lean ====
section
/-!
SUPPORT. Tests of the model: for each statement with hypotheses a witness that they can be met, clause by clause; the refusals
of `WellFormed`; and single steps whose results stand in the spec's own tables and examples.
-/

namespace Sys2Proof.Tests

open Sys2Proof Sys2Proof.Machine

set_option Elab.async false

/-! ### Small states -/

/-- A powered device: the spine link is up, every port is open, the A-cluster has started and the dictionary engine is ready. -/
def up : State :=
  let s := State.reset
  let s := { s with pm := { s.pm with phase := 0 }, fab := { s.fab with ports := [], hdieReset := false },
                    boot := { s.boot with step := 9, started := true } }
  (s.put F.SPINE_STAT_STATE 0 2).put F.DICT_STAT_READY 0 1

def inFab (f : FabSt → FabSt) (s : State) : State := { s with fab := f s.fab }
def inDict (f : DictSt → DictSt) (s : State) : State := { s with dict := f s.dict }
def inPm (f : PmSt → PmSt) (s : State) : State := { s with pm := f s.pm }
def inTime (f : TimeSt → TimeSt) (s : State) : State := { s with time := f s.time }
def inClk (f : ClkSt → ClkSt) (s : State) : State := { s with clk := f s.clk }
def inBel (f : BelSt → BelSt) (s : State) : State := { s with bel := f s.bel }
def inEp (f : EpSt → EpSt) (s : State) : State := { s with ports := { s.ports with ep := [(0, f EpSt.init)] } }

/-- Port `p` is fenced. -/
def shutAt (p : Nat) (causes : List Nat) (stuck : Bool) (s : State) : State :=
  inFab (fun x => { x with ports := [(p, ⟨true, causes, 0, 0, stuck⟩)] }) s

/-- A request of Belfry's window 0, and the state in which it is the only accepted one. -/
def rq (svc obj param : Nat) (data : List Nat) : DReq := ⟨.win 0 true, 0, svc, 0, obj, param, data⟩
def asked (r : DReq) (s : State) : State := inDict (fun d => { d with queue := [r] }) s
/-- A request of the manager's window 0, and a state in which that window is the manager's and overlay 3 is valid. -/
def mq (svc obj param : Nat) (data : List Nat) : DReq := ⟨.win 0 false, 0, svc, 0, obj, param, data⟩
def withOvl : State := inDict (fun d => { d with ovl := [(3, some ⟨[], 0, 0⟩)] }) (up.put F.BSEC_PARTCFG_MANAGER 0 1)

/-- A boundary is due: the beat runs and one period has passed. -/
def ticking : State :=
  let s := inTime (fun x => { x with run := true, now := 250000 * 2 ^ 32 }) (up.put F.BEAT_CTRL_EN 0 1)
  { s with tab := { s.tab with started := true } }

/-- Engine 0 stands at stroke `w`; it has values to write; its inactive buffer holds an END. -/
def stroking (w : Nat) (s : State) : State :=
  { s with tab := { s.tab with eng := [(0, { EngSt.init with buf0 := [(0, some w)], live := true })] } }
def posting (x : Nat × Nat × Nat) (s : State) : State :=
  { s with tab := { s.tab with eng := [(0, { EngSt.init with posts := [x] })] } }
def loaded (w : Nat) (s : State) : State :=
  { s with tab := { s.tab with eng := [(0, { EngSt.init with buf1 := [(0, some w)] })] } }

/-- Channel `n` is in state `st`. -/
def inCh (n st : Nat) (s : State) : State := { s with ch := [(n, ChSt.init.put F.PWR_STATE_STATE st)] }

/-- The switch runs and port 0 is up; a frame arrives at it. -/
def swUp : State := (((up.put F.SW_CTRL_EN 0 1).put F.SW_PORT_CFG_EN 0 1).put F.SW_PORT_STAT_LINK_UP 0 1).put F.SW_PORT_CFG_EN 23 1
def arriving (len : Nat) : State :=
  { swUp with sw := { swUp.sw with arriving := [(0, 1)], frames := [(0, { SwFrame.none with ended := false, len := len })] } }

/-- A frame of class 7 with one copy in state `st` for port 0. -/
def oneCopy (st : Nat) : SwCopy := ⟨0, st, false, 0, 0, 0, 0, true, 0, 0, 0, 0, 0, none, 0⟩
def oneFrame (c : SwCopy) : SwFrame := { SwFrame.none with cls := 7, len := 64, cells := 1, copies := [c] }
def holding (c : SwCopy) (s : State) : State := { s with sw := { s.sw with frames := [(0, oneFrame c)] } }

/-- A queued copy older than its port's age limit. -/
def aged : State :=
  inTime (fun x => { x with mono := 1001 * 2 ^ 32 }) (holding (oneCopy 1) ((swUp.put F.SW_PORT_AGE_DISCARD_AGE 0 1).put F.SW_PORT_AGE_AGE_LIMIT 0 1))

def ent : FdbEnt := ⟨0, 0, false, false, 1, 0⟩
def withEnt (i : Nat) : State := { up with sw := { up.sw with fdb := [(i, some ent)] } }

/-- Entry 0 of a stream table holds `v`. -/
def withTbl (t v : Nat) (s : State) : State := { s with ports := { s.ports with tbl := [(8192 * t, v)] } }

/-- A key slot holds a key that every partition may use. -/
def keyed (h kind usage : Nat) (s : State) : State :=
  inBel (fun b => { b with keys := [(h, ⟨kind, usage, 0xFFFF, false, 0, 0⟩)] }) s

/-- C0 belongs to partition 3, which is not secure. -/
def foreign : State :=
  ((inBel (fun b => { b with asg := [(4096 * 14, 3)] }) up).put F.BSEC_PARTCFG_VALID 3 1).put F.CAR_STAT_STATE 0 carTmr

def oneTx (tx : Bool) : CanTx := ⟨0, 0, 0, 0, 0, [], 0, 0, false, tx⟩
def canQueued (tx : Bool) : State :=
  let s := ((up.put F.CAN_STAT_STATE 0 canActive).put F.CAN_TRX_STAT_MODE_ACT 0 1).put F.CAN_SLOT_CFG_RETRY_LIMIT 0 1
  { s with bus := { s.bus with can := [(0, { CanSt.init with sub := [oneTx tx] })] } }
def asleep (fec : Nat) : State :=
  ((up.put F.CAN_TRX_STAT_MODE_ACT 0 4).put F.CAN_TRX_CTRL_WAKE_MODE 0 1).put F.CAN_TRX_STAT_FEC 0 fec

def linReady : State :=
  (((up.put F.LIN_CFG_MODE 0 1).put F.LIN_CFG_SCHED_SRC 0 0).put F.LIN_CTRL_RUN 0 1).put F.LIN_STAT_STATE 0 1
def linBusy (b : LinBus) (s : State) : State :=
  { s with bus := { s.bus with lin := [(0, { LinSt.init with bus := some b })] } }

/-- Virtual endpoint 0 is assigned to manager 0, in state `st` and of type `ty`. -/
def veIn (st ty : Nat) : State := ((up.put F.VEMGR_VEASSIGN_VALID 0 1).put F.VE_STAT_STATE 0 st).put F.VE_ID_TYPE 0 ty
def veBusyIs (op : Nat) (s : State) : State := { s with ve := [(0, { VeSt.init with busy := some op })] }

/-- Mailbox `c` holds a call, which has been rung or not; partition 15 owns the memory from 0. -/
def callOctets (f : Nat) (d : List Nat) : List Nat :=
  [d.length, 0, f % 256, f / 256] ++ d ++ List.replicate (60 - d.length) 0
def calling (c f : Nat) (d : List Nat) (rung : Bool) : State :=
  let s := (List.range 16).foldl (fun s w => s.put F.BMBX_REQ_DATA (16 * c + w) (leNat (((callOctets f d).drop (4 * w)).take 4))) up
  let s := ((s.put F.BSEC_PMEM0_BASE 60 0).put F.BSEC_PMEM1_SIZE 60 1).put F.BSEC_PMEM1_VALID 60 1
  if rung then inBel (fun b => { b with rung := [c] }) s else s
/-- A buffer of `n` octets at address 0, as a call describes it. -/
def buf (n : Nat) : List Nat := [0, 0, 0, 0, 0, n, 0, 0, 0]
/-- The mailboxes' partition is partition 3, which is not secure. -/
def assigned16 (s : State) : State := (inBel (fun b => { b with asg := [(4096 * 16, 3)] }) s).put F.BSEC_PARTCFG_VALID 3 1

/-- The head of a bundle without sections, in the flash from `a`, and in the debug buffer. -/
def bundleAt (a : Nat) (s : State) : State :=
  { s with mem := [(a, 0x4B), (a + 1, 0x5A), (a + 2, 0x46), (a + 3, 0x53), (a + 4, 1), (a + 8, 0x01), (a + 9, 0x0B), (a + 10, 0x40),
                   (a + 11, 0x09), (a + 12, 0x60), (a + 13, 0x01)] }
def romWaiting : State :=
  let s := (((up.put F.BDBG_BUF_DATA 0 0x53465A4B).put F.BDBG_BUF_DATA 1 1).put F.BDBG_BUF_DATA 2 0x09400B01).put F.BDBG_BUF_DATA 3 0x160
  { s with boot := { s.boot with romWait := true } }

/-- The watchdog of partition 15 runs, in its first-kick phase or after it. -/
def dog (first : Bool) (s : State) : State :=
  { (s.put F.WDG_FIRST_FIRST 15 100).put F.WDG_CFG_TMO 15 100 with wdg := [(15, ⟨first, false, true, 0⟩)] }

def bisting : State :=
  { (up.put F.BIST_CTRL_EN 0 1).put F.BIST_CTRL_TASK_EN 0 1 with tab := { up.tab with started := true } }
def prbsOn : State :=
  { up.put F.BIST_PRBS_STAT_RUNNING 0 1 with bist := { up.bist with prbs := some (0, 0) } }

def stepIs (n : Nat) : State := { up with boot := { up.boot with step := n, started := false } }
def locked (s : State) : State := [0, 1, 2, 3].foldl (fun s p => s.put F.CLK_PLL_LOCK p 1) s

/-- The IOMMU's directory is in mode `m` with its root at address 0. -/
def withDdtp (m : Nat) : State := { up with acl := { up.acl with iommu := [(4, m)] } }

/-! ### What the witnesses use -/

theorem called_of {s : State} {c : Nat} {f : Nat} {d : List Nat} (q : List Nat) (h : s.bel.rung = [c] ∧ s.bel.aborted = [])
    (h1 : (callReq (.mbx c) s).1 = some q) (h2 : reqFunc q = f ∧ reqData q = d ∧ reqLen q = d.length ∧ belRuns s = true) :
    Called s c f d :=
  ⟨q, [], h.1, by simp, by simp [h.2], h1, h2⟩

/-- A judgement that yields something with property `f` is that judgement with that thing. -/
theorem picked {α β : Type} {p : α × Option β} {f : β → Bool} (h : p.2.map f = some true) :
    ∃ st x, p = (st, some x) ∧ f x = true := by
  obtain ⟨st, o⟩ := p
  cases o with
  | none => cases h
  | some x => exact ⟨st, x, rfl, by simpa using h⟩

theorem none_of {α β : Type} {p : α × Option β} {a : α} (h : p.1 = a) (g : p.2.isNone = true) : p = (a, none) := by
  obtain ⟨x, o⟩ := p
  cases o with
  | none => exact congrArg (·, none) h
  | some x => cases g

theorem split_triple {α β γ : Type} {p : α × β × γ} {b : β} (h : p.2.1 = b) : p = (p.1, b, p.2.2) := by
  subst h; rfl

/-! ### Witnesses -/

/-- One WRITE_MULTI record of one octet for object 0x100010. -/
def multiReq : DReq := mq svWriteMulti 0 0 [0x10, 0x00, 0x10, 1, 0, 0]

/-- A READ_MULTI of the base image's hash, twenty times. -/
def bigMulti : List Nat := (List.replicate 20 [0x11, 0x00, 0x00]).flatten

theorem passed {ε α : Type} {p : Except ε α} (h : (match p with | .ok _ => true | _ => false) = true) : ∃ b, p = .ok b := by
  cases p with
  | ok b => exact ⟨b, rfl⟩
  | error _ => cases h

theorem failed {ε α : Type} {p : Except ε α} (h : (match p with | .error _ => true | _ => false) = true) : ∃ e, p = .error e := by
  cases p with
  | error e => exact ⟨e, rfl⟩
  | ok _ => cases h

def imageSig : List Nat :=
  [170, 135, 202, 34, 190, 139, 5, 55, 142, 177, 199, 30, 243, 32, 173, 116, 110, 29, 59, 98, 139, 167, 155, 152, 89,
   247, 65, 224, 130, 84, 42, 56, 85, 2, 242, 93, 191, 85, 41, 108, 58, 84, 94, 56, 114, 118, 10, 183, 220, 43, 130,
   84, 32, 6, 88, 39, 63, 37, 161, 35, 158, 13, 178, 242, 224, 50, 144, 191, 114, 108, 27, 181, 70, 148, 149, 170, 11,
   11, 19, 123, 120, 225, 226, 251, 102, 223, 82, 19, 252, 142, 165, 150, 24, 241, 173, 33]

/-- A frame of 0xFFFF_FFFF_FFFF, and a frame with a READ of 0x010001 from fe80::1 to fe80::2. -/
def bcastFrame : SwRx := ⟨List.replicate 6 0xFF ++ List.replicate 54 0, 1, 0, 0, 0, 0, false, []⟩
def datagram : SwRx :=
  ⟨[2, 0, 0, 0, 0, 2, 2, 0, 0, 0, 0, 1, 134, 221, 96, 0, 0, 0, 0, 40, 17, 255, 254, 128, 0, 0, 0, 0, 0, 0, 0, 0, 0, 0,
   0, 0, 0, 1, 254, 128, 0, 0, 0, 0, 0, 0, 0, 0, 0, 0, 0, 0, 0, 2, 16, 0, 184, 106, 0, 40, 0, 0, 1, 1, 0, 0, 0, 0, 0,
   0, 1, 0, 1, 0, 0, 0, 0, 0, 138, 166, 80, 222, 131, 42, 100, 105, 118, 134, 157, 218, 213, 205, 121, 45], 2, 0, 0, 0, 0, false, []⟩

/-- The octets of a base image of a header and a signature. -/
def image : List Nat :=
  [0x4B, 0x5A, 0x49, 0x4D, 1, 0, 0, 0xFF, 1, 0x0B, 0x40, 0x09, 192] ++ List.replicate 83 0 ++ imageSig

/-- A base image without records, signed with the key 1 (whose public key is the curve's generator) and the nonce 1. -/
def imageReq : DReq := rq svImageLoad 3 0 image
def owned : State := inBel (fun b => { b with ownerKey := some (4 :: beOct g384.1 48 ++ beOct g384.2 48) }) up

/-- Port `p` holds the frame `x`, and the state in which it is taken. -/
def arrived (p : Nat) (x : SwRx) (s : State) : State := { s with sw := { s.sw with rxq := [(p, [x])] } }
def rxNext (p : Nat) (s : State) : State := ((rxTake p s).map (·.2)).getD s
theorem rx_next {p : Nat} {s : State} {x : SwRx} (h : (rxTake p s).map (·.1) = some x) : rxTake p s = some (x, rxNext p s) := by
  unfold rxNext
  cases g : rxTake p s with
  | none => rw [g] at h; cases h
  | some y => rw [g] at h; simp at h; simp [← h]

/-- ETH endpoint 0 with a whole frame of one descriptor posted. -/
def txReady : State :=
  { (((veIn veActive tyEth).put F.ETH_TX_TAIL_TAIL 0 1).put F.SW_CTRL_EN 0 1).put F.SW_PORT_CFG_EN 20 1 with
    mem := [(15, 0xC0)], acl := { up.acl with iommu := [(4, 1)] } }

theorem witness_FabricCommandsComplete :
    (∃ (s : State) (port : Nat), fenced s port = true ∧ (portSt s port).causes = []) ∧
    (∃ (s : State) (port : Nat), (fenced s port = false ∨ (portSt s port).causes ≠ [])) ∧
    (∃ (s : State) (port : Nat), fenced s port = true ∧ (portSt s port).stuck = false) ∧
    (∃ (s : State) (port : Nat), (fenced s port = false ∨ (portSt s port).stuck = true)) ∧
    (∃ (s : State) (port : Nat) (req : Req), reqsAt port [req] ≠ [] ∧ fenced s port = false) ∧
    (∃ (s : State) (port : Nat) (req : Req), (reqsAt port [req] = [] ∨ fenced s port = true)) ∧
    (∃ (s : State) (init : Init) (v : Word), Admitted init (R.LATE_ERR_RD.addr 0) s ∧ 0 < lateReleased s (bitsOf v.toNat 5 0) ∧ lateReleased s (bitsOf v.toNat 5 0) ≤ lateOwned s) ∧
    (∃ (s : State) (init : Init) (v : Word), Admitted init (R.LATE_ERR_RD.addr 0) s ∧ bitOf v.toNat 31 = false ∧ (lateReleased s (bitsOf v.toNat 5 0) = 0 ∨ lateOwned s < lateReleased s (bitsOf v.toNat 5 0))) ∧
    (∃ (s : State) (n : Fin 2), Admitted (0x10 + n) (R.FABRIC_CARWIN.addr n) s ∧ s.flag F.FABRIC_CARWIN_LOCK n = false) ∧
    (∃ (s : State) (n : Fin 2), Admitted (0x10 + n) (R.FABRIC_CARWIN.addr n) s ∧ s.flag F.FABRIC_CARWIN_LOCK n = true) :=
  ⟨⟨(shutAt 0x30 [] false up), 0x30, by decide +kernel⟩,
   ⟨up, 0x30, by decide +kernel⟩,
   ⟨(shutAt 0x30 [4] false up), 0x30, by decide +kernel⟩,
   ⟨up, 0x30, by decide +kernel⟩,
   ⟨up, 0x1000, ⟨0x30, 0, true, .load, 0, false⟩, by decide +kernel⟩,
   ⟨up, 0x30, ⟨0x30, 0, true, .load, 0, false⟩, by decide +kernel⟩,
   ⟨(up.put F.LATE_ERR_WR_WR_IDX 0 63), 0x30, 63, by unfold Admitted; decide +kernel, by decide +kernel⟩,
   ⟨up, 0x30, 0, by unfold Admitted; decide +kernel, by decide +kernel⟩,
   ⟨(up.put F.CAR_STAT_STATE 1 carTmr), 1, by unfold Admitted; decide +kernel, by decide +kernel⟩,
   ⟨((up.put F.CAR_STAT_STATE 0 carTmr).put F.FABRIC_CARWIN_LOCK 0 1), 0, by unfold Admitted; decide +kernel, by decide +kernel⟩⟩

theorem witness_SpineEventsComplete :
    (∃ (s : State), s.get F.SPINE_STAT_STATE 0 = 2 ∧ s.fab.crcFails < 3) ∧
    (∃ (s : State), s.get F.SPINE_STAT_STATE 0 = 2 ∧ 3 ≤ s.fab.crcFails ∧ s.fab.goodSince = true) ∧
    (∃ (s : State), s.get F.SPINE_STAT_STATE 0 = 2) ∧
    (∃ (s : State), s.get F.SPINE_STAT_STATE 0 = 3) ∧
    (∃ (s : State), s.get F.SPINE_STAT_STATE 0 = 3 ∧ s.fab.retrainFails < 2) ∧
    (∃ (s : State), s.get F.SPINE_STAT_STATE 0 = 3 ∧ 2 ≤ s.fab.retrainFails) ∧
    (∃ (s : State) (init : Init) (v : Word), Admitted init (R.SPINE_CTRL.addr 0) s ∧ bitOf v.toNat 31 = true) ∧
    (∃ (s : State), s.fab.hdieReset = true ∧ s.fab.released = false) ∧
    (∃ (s : State), s.get F.SPINE_STAT_STATE 0 = 1) ∧
    (∃ (s : State), s.get F.SPINE_STAT_STATE 0 = 1 ∧ s.get F.CLK_DOM_SRC 15 ≠ 2 ∧ s.bist.prbs = none) ∧
    (∃ (s : State), s.fab.holding = true ∧ s.kn.hosc = true) ∧
    (∃ (s : State), s.fab.holding = false) ∧
    (∃ (s : State), s.get F.SPINE_STAT_STATE 0 ≠ 2) ∧
    (∃ (s : State), s.get F.SPINE_STAT_STATE 0 ≠ 3) ∧
    (∃ (s : State), s.get F.SPINE_STAT_STATE 0 ≠ 1) ∧
    (∃ (s : State), (s.fab.hdieReset = false ∨ s.fab.released = true)) :=
  ⟨⟨up, by decide +kernel⟩,
   ⟨(inFab (fun x => { x with crcFails := 3 }) up), by decide +kernel⟩,
   ⟨up, by decide +kernel⟩,
   ⟨(up.put F.SPINE_STAT_STATE 0 3), by decide +kernel⟩,
   ⟨(up.put F.SPINE_STAT_STATE 0 3), by decide +kernel⟩,
   ⟨(inFab (fun x => { x with retrainFails := 2 }) (up.put F.SPINE_STAT_STATE 0 3)), by decide +kernel⟩,
   ⟨up, 0x30, 0x80000000, by unfold Admitted; decide +kernel, by decide +kernel⟩,
   ⟨State.reset, by decide +kernel⟩,
   ⟨(up.put F.SPINE_STAT_STATE 0 1), by decide +kernel⟩,
   ⟨(up.put F.SPINE_STAT_STATE 0 1), by decide +kernel⟩,
   ⟨inFab (fun x => { x with holding := true }) up, by decide +kernel⟩,
   ⟨up, by decide +kernel⟩,
   ⟨State.reset, by decide +kernel⟩,
   ⟨up, by decide +kernel⟩,
   ⟨up, by decide +kernel⟩,
   ⟨up, by decide +kernel⟩⟩

theorem witness_PublicationsComplete :
    (∃ (s : State) (init : Init) (v : Word), Admitted init (R.BEAT_PUB.addr 0) s ∧ bitsOf v.toNat 15 10 = 0 ∧ slotProducer s (bitsOf v.toNat 31 16) = some init ∧ init ≠ noProducer ∧ (¬ (0x20 ≤ init ∧ init < 0x30))) ∧
    (∃ (s : State) (ch : Fin 72) (init : Init), Admitted init (R.PWR_CMD_PUB.addr ch) s ∧ s.get F.PWR_CH_PROD_CMD_PROD ch = init ∧ init ≠ noProducer ∧ (¬ (0x20 ≤ init ∧ init < 0x30))) ∧
    (∃ (s : State) (ch : Fin 72) (init : Init), Admitted init (R.PWR_LIM_PUB.addr ch) s ∧ s.get F.PWR_CH_PROD_LIM_PROD ch = init ∧ init ≠ noProducer ∧ (¬ (0x20 ≤ init ∧ init < 0x30))) :=
  ⟨⟨(up.put F.BEAT_SLOT_PROD_PROD 0 0x30), 0x30, 0x0C0003FF, by unfold Admitted; decide +kernel, by decide +kernel⟩,
   ⟨(up.put F.PWR_CH_PROD_CMD_PROD 71 0x30), 71, 0x30, by unfold Admitted; decide +kernel, by decide +kernel⟩,
   ⟨(up.put F.PWR_CH_PROD_LIM_PROD 0 0x30), 0, 0x30, by unfold Admitted; decide +kernel, by decide +kernel⟩⟩

theorem witness_DictionaryServesItsService :
    (∃ (s : State) (late : Bool), ∃ c : Instr, c ∈ [Instr.dictRead, .dictWrite late, .dictReadMulti, .dictWriteMulti late, .modeReq late,
      .subscribe, .imageLoad, .imageCommit] ∧ (s.dict.queue = [] ∨ dictRuns s = false)) ∧
    (∃ (s : State), ∃ r l, s.dict.queue = r :: l ∧ r.svc ≠ svRead) ∧
    (∃ (s : State), ∃ r l, s.dict.queue = r :: l ∧ r.svc ≠ svWrite) ∧
    (∃ (s : State), ∃ r l, s.dict.queue = r :: l ∧ r.svc ≠ svReadMulti) ∧
    (∃ (s : State), ∃ r l, s.dict.queue = r :: l ∧ r.svc ≠ svWriteMulti) ∧
    (∃ (s : State), ∃ r l, s.dict.queue = r :: l ∧ r.svc ≠ svModeReq) ∧
    (∃ (s : State), ∃ r l, s.dict.queue = r :: l ∧ r.svc ≠ svSubscribe) ∧
    (∃ (s : State), ∃ r l, s.dict.queue = r :: l ∧ (r.svc ≠ svImageLoad ∨ loadCommit r = true)) ∧
    (∃ (s : State), ∃ r l, s.dict.queue = r :: l ∧ (r.svc ≠ svImageLoad ∨ loadCommit r = false)) :=
  ⟨⟨up, false, Instr.dictRead, by simp, by decide +kernel⟩,
   ⟨(asked (rq svWrite 0 0 []) up), rq svWrite 0 0 [], [], by decide +kernel⟩,
   ⟨(asked (rq svRead 0 0 []) up), rq svRead 0 0 [], [], by decide +kernel⟩,
   ⟨(asked (rq svRead 0 0 []) up), rq svRead 0 0 [], [], by decide +kernel⟩,
   ⟨(asked (rq svRead 0 0 []) up), rq svRead 0 0 [], [], by decide +kernel⟩,
   ⟨(asked (rq svRead 0 0 []) up), rq svRead 0 0 [], [], by decide +kernel⟩,
   ⟨(asked (rq svRead 0 0 []) up), rq svRead 0 0 [], [], by decide +kernel⟩,
   ⟨(asked (rq svImageLoad 2 0 []) up), rq svImageLoad 2 0 [], [], by decide +kernel⟩,
   ⟨(asked (rq svImageLoad 0 0 []) up), rq svImageLoad 0 0 [], [], by decide +kernel⟩⟩

theorem witness_DictionaryDataComplete :
    (∃ (s u : State) (r : DReq) (w : Nat) (b : Bool) (st : Nat), Serves s r u ∧ r.svc = svRead ∧ r.src = .win w b ∧ judgeObj u (reqWho u r) r.obj false = (st, none)) ∧
    (∃ (s u : State) (r : DReq) (w : Nat) (b : Bool) (st : Nat) (o : ObjDef) (i : Nat), Serves s r u ∧ r.svc = svRead ∧ r.src = .win w b ∧ judgeObj u (reqWho u r) r.obj false = (st, some (o, i))) ∧
    (∃ (s u : State) (r : DReq) (a p st : Nat) (path : List Nat), Serves s r u ∧ r.svc = svRead ∧ r.src = .udp a p path ∧ judgeObj u (reqWho u r) r.obj false = (st, none)) ∧
    (∃ (s u : State) (r : DReq) (w : Nat) (b : Bool), Serves s r u ∧ r.svc = svReadMulti ∧ r.src = .win w b ∧ (r.data.length % 3 ≠ 0 ∨ 192 < r.data.length)) ∧
    (∃ (s u : State) (r : DReq) (w : Nat) (b : Bool), Serves s r u ∧ r.svc = svReadMulti ∧ r.src = .win w b ∧ r.data.length % 3 = 0 ∧ r.data.length ≤ 192 ∧ (readOut r u).length ≤ 1024) ∧
    (∃ (s u : State) (r : DReq) (w : Nat) (b : Bool), Serves s r u ∧ r.svc = svReadMulti ∧ r.src = .win w b ∧ r.data.length % 3 = 0 ∧ r.data.length ≤ 192 ∧ 1024 < (readOut r u).length) ∧
    (∃ (s u : State) (r : DReq) (st : Nat), Serves s r u ∧ r.svc = svRead ∧ judgeObj u (reqWho u r) r.obj false = (st, none)) ∧
    (∃ (s u : State) (r : DReq) (st : Nat) (o : ObjDef) (i : Nat), Serves s r u ∧ r.svc = svRead ∧ judgeObj u (reqWho u r) r.obj false = (st, some (o, i))) ∧
    (∃ (s u : State) (r : DReq), Serves s r u ∧ r.svc = svReadMulti ∧ r.data.length % 3 = 0 ∧ r.data.length ≤ 192 ∧ (readOut r u).length ≤ 1024) ∧
    (∃ (s u : State) (r : DReq) (w : Nat) (b late : Bool) (st : Nat), Serves s r u ∧ r.svc = svWrite ∧ r.src = .win w b ∧ judgeWrite u (reqWho u r) r.net r.obj r.data (b2n late) 0 = (st, none)) ∧
    (∃ (s u : State) (r : DReq) (late : Bool) (st : Nat) (o : ObjDef) (i v : Nat), Serves s r u ∧ r.svc = svWrite ∧ judgeWrite u (reqWho u r) r.net r.obj r.data (b2n late) 0 = (st, some (o, i, v)) ∧ o.stages = true ∧ (∀ y ∈ s.dict.open_, ∃ w b, y.req.src = .win w b)) ∧
    (∃ (s u : State) (r : DReq) (w : Nat) (b : Bool), Serves s r u ∧ r.svc = svWriteMulti ∧ r.src = .win w b ∧ multiRecs r.net r.data.length r.data = none) ∧
    (∃ (s u : State) (r : DReq) (late : Bool) (n : Nat) (d : List Nat) (o : ObjDef) (i v : Nat), Serves s r u ∧ r.svc = svWriteMulti ∧ multiRecs r.net r.data.length r.data = some [(n, d)] ∧ judgeWrite u (reqWho u r) r.net n d (b2n late) 0 = (dOkay, some (o, i, v)) ∧ o.stages = true ∧ (∀ y ∈ s.dict.open_, ∃ w b, y.req.src = .win w b)) ∧
    (∃ (s u : State) (r : DReq) (late : Bool) (st : Nat) (o : ObjDef) (i v : Nat), Serves s r u ∧ r.svc = svWrite ∧ judgeWrite u (reqWho u r) r.net r.obj r.data (b2n late) 0 = (st, some (o, i, v))) :=
  ⟨⟨asked (rq svRead 0 0 []) up, up, rq svRead 0 0 [], 0, true, dNoObject, ⟨by decide +kernel, [], rfl, rfl⟩, rfl, rfl, none_of (p := judgeObj up (reqWho up (rq svRead 0 0 [])) 0 false) (by decide +kernel) (by decide +kernel)⟩,
   by
    obtain ⟨st, x, h, g⟩ := picked (p := judgeObj up (reqWho up (rq svRead 0x010001 0 [])) 0x010001 false) (f := fun _ => true) (by decide +kernel)
    exact ⟨asked (rq svRead 0x010001 0 []) up, up, rq svRead 0x010001 0 [], 0, true, st, x.1, x.2, ⟨by decide +kernel, [], rfl, rfl⟩, rfl, rfl, h⟩,
   ⟨asked { rq svRead 0 0 [] with src := .udp 1 2 [] } up, up, { rq svRead 0 0 [] with src := .udp 1 2 [] }, 1, 2, dNoObject, [], ⟨by decide +kernel, [], rfl, rfl⟩, rfl, rfl, none_of (p := judgeObj up (reqWho up { rq svRead 0 0 [] with src := .udp 1 2 [] }) 0 false) (by decide +kernel) (by decide +kernel)⟩,
   ⟨asked (rq svReadMulti 0 0 [1]) up, up, rq svReadMulti 0 0 [1], 0, true, by exact ⟨by decide +kernel, [], rfl, rfl⟩, by decide +kernel⟩,
   ⟨asked (rq svReadMulti 0 0 []) up, up, rq svReadMulti 0 0 [], 0, true, by exact ⟨by decide +kernel, [], rfl, rfl⟩, by decide +kernel⟩,
   ⟨asked (rq svReadMulti 0 0 bigMulti) up, up, (rq svReadMulti 0 0 bigMulti), 0, true, ⟨by decide +kernel, [], rfl, rfl⟩, rfl, rfl, by decide +kernel⟩,
   ⟨asked (rq svRead 0 0 []) up, up, rq svRead 0 0 [], dNoObject, ⟨by decide +kernel, [], rfl, rfl⟩, rfl, none_of (p := judgeObj up (reqWho up (rq svRead 0 0 [])) 0 false) (by decide +kernel) (by decide +kernel)⟩,
   by
    obtain ⟨st, x, h, g⟩ := picked (p := judgeObj up (reqWho up (rq svRead 0x010001 0 [])) 0x010001 false) (f := fun _ => true) (by decide +kernel)
    exact ⟨asked (rq svRead 0x010001 0 []) up, up, rq svRead 0x010001 0 [], st, x.1, x.2, ⟨by decide +kernel, [], rfl, rfl⟩, rfl, h⟩,
   ⟨asked (rq svReadMulti 0 0 []) up, up, rq svReadMulti 0 0 [], by exact ⟨by decide +kernel, [], rfl, rfl⟩, by decide +kernel⟩,
   ⟨asked (rq svWrite 0 0 []) up, up, rq svWrite 0 0 [], 0, true, false, dNoObject, ⟨by decide +kernel, [], rfl, rfl⟩, rfl, rfl, none_of (p := judgeWrite up (reqWho up (rq svWrite 0 0 [])) false 0 [] (b2n false) 0) (by decide +kernel) (by decide +kernel)⟩,
   by
    obtain ⟨st, x, h, g⟩ := picked (p := judgeWrite withOvl (reqWho withOvl (mq svWrite 0x100010 0 [0])) false 0x100010 [0] (b2n false) 0) (f := fun x => x.1.stages) (by decide +kernel)
    exact ⟨asked (mq svWrite 0x100010 0 [0]) withOvl, withOvl, (mq svWrite 0x100010 0 [0]), false, st, x.1, x.2.1, x.2.2, ⟨by decide +kernel, [], rfl, rfl⟩, rfl, h, g, fun y hy => absurd hy (List.not_mem_nil (a := y))⟩,
   ⟨asked (rq svWriteMulti 0 0 [1]) up, up, rq svWriteMulti 0 0 [1], 0, true, by exact ⟨by decide +kernel, [], rfl, rfl⟩, by decide +kernel⟩,
   by
    obtain ⟨st, x, h, g⟩ := picked (p := judgeWrite withOvl (reqWho withOvl multiReq) multiReq.net 0x100010 [0] (b2n false) 0) (f := fun x => x.1.stages) (by decide +kernel)
    have e : st = dOkay := (congrArg Prod.fst h).symm.trans (by decide +kernel)
    subst e
    exact ⟨asked multiReq withOvl, withOvl, multiReq, false, 0x100010, [0], x.1, x.2.1, x.2.2, ⟨by decide +kernel, [], rfl, rfl⟩, rfl, by decide +kernel, h, g, fun y hy => absurd hy (List.not_mem_nil (a := y))⟩,
   by
    obtain ⟨st, x, h, g⟩ := picked (p := judgeWrite withOvl (reqWho withOvl (mq svWrite 0x100010 0 [0])) false 0x100010 [0] (b2n false) 0) (f := fun x => x.1.stages) (by decide +kernel)
    exact ⟨asked (mq svWrite 0x100010 0 [0]) withOvl, withOvl, (mq svWrite 0x100010 0 [0]), false, st, x.1, x.2.1, x.2.2, ⟨by decide +kernel, [], rfl, rfl⟩, rfl, h⟩⟩

theorem witness_DictionaryModesComplete :
    (∃ (s u : State) (r : DReq), Serves s r u ∧ r.svc = svModeReq ∧ (¬ ((reqWho u r).role = roService ∧ r.param ≠ moService ∧ modeNow u ≠ moService)) ∧ (reqWho u r).role ≠ roPartition ∧ r.param ≤ 15 ∧ s.dict.pend = none ∧ r.param ≠ modeNow u ∧ modeJudge u (reqWho u r).role r.param = dOkay) ∧
    (∃ (s u : State) (r : DReq) (w : Nat) (b : Bool), Serves s r u ∧ r.svc = svModeReq ∧ r.src = .win w b ∧ (¬ ((reqWho u r).role = roService ∧ r.param ≠ moService ∧ modeNow u ≠ moService)) ∧ (reqWho u r).role ≠ roPartition ∧ r.param ≤ 15 ∧ s.dict.pend ≠ none ∧ r.param ≠ moLimp) ∧
    (∃ (s u : State) (r : DReq) (st : Nat) (x : ObjDef × Nat), Serves s r u ∧ r.svc = svSubscribe ∧ judgeObj u (reqWho u r) r.obj false = (st, some x) ∧ r.param ≠ 0 ∧ tget 4 s.dict.vals 0x010020 ≤ r.param ∧ (s.dict.subs.filter (fun y => !(y.sess == r.sess && y.obj == r.obj))).length < 64) ∧
    (∃ (s u : State) (r : DReq) (st : Nat) (x : ObjDef × Nat), Serves s r u ∧ r.svc = svSubscribe ∧ judgeObj u (reqWho u r) r.obj false = (st, some x) ∧ r.param = 0) ∧
    (∃ (s u : State) (r : DReq) (w : Nat) (b : Bool), Serves s r u ∧ r.svc = svModeReq ∧ r.src = .win w b ∧ (¬ ((reqWho u r).role = roService ∧ r.param ≠ moService ∧ modeNow u ≠ moService)) ∧ (reqWho u r).role ≠ roPartition ∧ r.param ≤ 15 ∧ s.dict.pend = none ∧ r.param = modeNow u) ∧
    (∃ (s u : State) (r : DReq) (w : Nat) (b : Bool), Serves s r u ∧ r.svc = svModeReq ∧ r.src = .win w b ∧ (¬ ((reqWho u r).role = roService ∧ r.param ≠ moService ∧ modeNow u ≠ moService)) ∧ (reqWho u r).role ≠ roPartition ∧ r.param ≤ 15 ∧ s.dict.pend = none ∧ r.param ≠ modeNow u ∧ modeJudge u (reqWho u r).role r.param ≠ dOkay) ∧
    (∃ (s u : State) (r : DReq) (w : Nat) (b : Bool) (st : Nat), Serves s r u ∧ r.svc = svSubscribe ∧ r.src = .win w b ∧ judgeObj u (reqWho u r) r.obj false = (st, none)) ∧
    (∃ (s u : State) (r : DReq) (w : Nat) (b : Bool) (st : Nat) (x : ObjDef × Nat), Serves s r u ∧ r.svc = svSubscribe ∧ r.src = .win w b ∧ judgeObj u (reqWho u r) r.obj false = (st, some x) ∧ r.param ≠ 0 ∧ r.param < tget 4 s.dict.vals 0x010020) :=
  ⟨⟨asked (mq svModeReq 0 3 []) withOvl, withOvl, mq svModeReq 0 3 [], by exact ⟨by decide +kernel, [], rfl, rfl⟩, by decide +kernel⟩,
   ⟨asked (rq svModeReq 0 15 []) (inDict (fun d => { d with pend := some (1, 0, 0) }) up), inDict (fun d => { d with pend := some (1, 0, 0) }) up, rq svModeReq 0 15 [], 0, true, by exact ⟨by decide +kernel, [], rfl, rfl⟩, by decide +kernel⟩,
   by
    obtain ⟨st, x, h, g⟩ := picked (p := judgeObj up (reqWho up (rq svSubscribe 0x010001 4 [])) 0x010001 false) (f := fun _ => true) (by decide +kernel)
    exact ⟨asked (rq svSubscribe 0x010001 4 []) up, up, (rq svSubscribe 0x010001 4 []), st, x, ⟨by decide +kernel, [], rfl, rfl⟩, rfl, h, by decide, by decide +kernel⟩,
   by
    obtain ⟨st, x, h, g⟩ := picked (p := judgeObj up (reqWho up (rq svSubscribe 0x010001 0 [])) 0x010001 false) (f := fun _ => true) (by decide +kernel)
    exact ⟨asked (rq svSubscribe 0x010001 0 []) up, up, (rq svSubscribe 0x010001 0 []), st, x, ⟨by decide +kernel, [], rfl, rfl⟩, rfl, h, rfl⟩,
   ⟨asked (mq svModeReq 0 15 []) withOvl, withOvl, mq svModeReq 0 15 [], 0, false, by exact ⟨by decide +kernel, [], rfl, rfl⟩, by decide +kernel⟩,
   ⟨asked (mq svModeReq 0 2 []) withOvl, withOvl, mq svModeReq 0 2 [], 0, false, by exact ⟨by decide +kernel, [], rfl, rfl⟩, by decide +kernel⟩,
   ⟨asked (rq svSubscribe 0 4 []) up, up, (rq svSubscribe 0 4 []), 0, true, dNoObject, ⟨by decide +kernel, [], rfl, rfl⟩, rfl, rfl, none_of (p := judgeObj up (reqWho up (rq svSubscribe 0 4 [])) 0 false) (by decide +kernel) (by decide +kernel)⟩,
   by
    obtain ⟨st, x, h, g⟩ := picked (p := judgeObj up (reqWho up (rq svSubscribe 0x010001 1 [])) 0x010001 false) (f := fun _ => true) (by decide +kernel)
    exact ⟨asked (rq svSubscribe 0x010001 1 []) up, up, (rq svSubscribe 0x010001 1 []), 0, true, st, x, ⟨by decide +kernel, [], rfl, rfl⟩, rfl, rfl, h, by decide, by decide +kernel⟩⟩

theorem witness_ImagesAndUsestComplete :
    (∃ (s u : State) (r : DReq), Serves s r u ∧ r.svc = svImageLoad ∧ loadCommit r = false ∧ (loadChunk r u).1 = dOkay) ∧
    (∃ (s u : State) (r : DReq) (l : DLoad) (b : ImgOk), Serves s r u ∧ r.svc = svImageLoad ∧ loadCommit r = true ∧ loadKind r = 0 ∧ (loadChunk r u).1 = dOkay ∧ (loadChunk r u).2.dict.load = some l ∧ baseCheck (loadDrop (loadChunk r u).2) l.slot = .ok b) ∧
    (∃ (s : State) (init : Init) (v : Word), Admitted init (R.DICT_SLOT.addr 0) s ∧ v.getLsbD 31 = true ∧ s.flag F.BSEC_PARTCFG_MANAGER (partOf s init) = true ∧ cfgState s (activeSlot s) = slTrial) ∧
    (∃ (s u : State) (r : DReq) (l : DLoad) (e : Nat × Nat), Serves s r u ∧ r.svc = svImageLoad ∧ loadCommit r = true ∧ loadKind r = 0 ∧ (loadChunk r u).1 = dOkay ∧ (loadChunk r u).2.dict.load = some l ∧ baseCheck (loadDrop (loadChunk r u).2) l.slot = .error e) ∧
    (∃ (s u : State) (r : DReq), Serves s r u ∧ r.svc = svImageLoad ∧ (loadChunk r u).1 ≠ dOkay ∧ loadCommit r = false) ∧
    (∃ (s u : State) (r : DReq), Serves s r u ∧ r.svc = svImageLoad ∧ (loadChunk r u).1 ≠ dOkay ∧ loadCommit r = true) ∧
    (∃ (s u : State) (x : SwRx), dictRuns s = true ∧ rxTake 23 s = some (x, u) ∧ x.fcsErr = true) ∧
    (∃ (s : State) (k : Fin 16) (seg : Nat), dictRuns s = true ∧ tget 1 s.dict.vals 0x010011 ≠ 0 ∧ canHears s (tget 15 s.dict.vals 0x010012) = true ∧ s.flag F.CAN_CTRL_FD_EN (tget 15 s.dict.vals 0x010012) = true ∧ seg % 128 ≠ 0 ∧ seg % 128 = (partOf' s k).1 ∧ bitOf seg 7 = false) ∧
    (∃ (s : State) (k : Fin 16), dictRuns s = true ∧ (partOf' s k).1 ≠ 0) ∧
    (∃ (s : State) (k : Fin 16), dictRuns s = true ∧ (partOf' s k).1 = 0) ∧
    (∃ (s : State), canHears s (tget 15 s.dict.vals 0x010012) = false) ∧
    (∃ (s : State), (dictRuns s = false ∨ rxTake 23 s = none)) ∧
    (∃ (s u : State) (x : SwRx) (sess seq svc obj param : Nat) (data : List Nat), dictRuns s = true ∧ rxTake 23 s = some (x, u) ∧ usestUdp u x = true ∧ sess = beNat (((udpPayload x).drop 2).take 2) ∧ seq = beNat (((udpPayload x).drop 4).take 4) ∧ obj = beNat (((udpPayload x).drop 8).take 3) ∧ svc = (udpPayload x).getD 1 0 ∧ param = beNat (((udpPayload x).drop 14).take 2) ∧ sessAllows u sess (udpSource x) = true ∧ usestOpen u sess seq (udpPayload x) = some data ∧ (sess = 0 ∨ (sessSt u sess).fresh seq = true) ∧ headerBad sess ((udpPayload x).getD 0 0) svc (beNat (((udpPayload x).drop 12).take 2)) data.length = none) :=
  ⟨⟨asked (rq svImageLoad 1 0 []) up, up, rq svImageLoad 1 0 [], by exact ⟨by decide +kernel, [], rfl, rfl⟩, by decide +kernel⟩,
   by
    obtain ⟨b, h⟩ := passed (p := baseCheck (loadDrop (loadChunk imageReq owned).2) 1) (by decide +kernel)
    exact ⟨asked imageReq owned, owned, imageReq, ⟨0, 0, 1, 1⟩, b, ⟨by decide +kernel, [], rfl, rfl⟩, rfl, by decide +kernel, by decide +kernel, by decide +kernel, by decide +kernel, h⟩,
   ⟨inDict (fun d => { d with slotSt := [(0, slTrial)] }) (up.put F.BSEC_PARTCFG_MANAGER 15 1), 0x30, 0x80000000, by unfold Admitted; decide +kernel, by decide +kernel⟩,
   by
    obtain ⟨e, h⟩ := failed (p := baseCheck (loadDrop (loadChunk (rq svImageLoad 3 0 []) up).2) 1) (by decide +kernel)
    exact ⟨asked (rq svImageLoad 3 0 []) up, up, (rq svImageLoad 3 0 []), ⟨0, 0, 1, 1⟩, e, ⟨by decide +kernel, [], rfl, rfl⟩, rfl, by decide +kernel, by decide +kernel, by decide +kernel, by decide +kernel, h⟩,
   ⟨asked (rq svImageLoad 0x20000 0 []) up, up, rq svImageLoad 0x20000 0 [], by exact ⟨by decide +kernel, [], rfl, rfl⟩, by decide +kernel⟩,
   ⟨asked (rq svImageLoad 0x20002 0 []) up, up, rq svImageLoad 0x20002 0 [], by exact ⟨by decide +kernel, [], rfl, rfl⟩, by decide +kernel⟩,
   ⟨(arrived 23 ⟨[], 0, 23, 0, 0, 0, true, []⟩ up), rxNext 23 (arrived 23 ⟨[], 0, 23, 0, 0, 0, true, []⟩ up), ⟨[], 0, 23, 0, 0, 0, true, []⟩, by decide +kernel, rx_next (by decide +kernel), rfl⟩,
   ⟨inDict (fun d => { d with part := [(0, (1, []))] }) (((up.put F.CAN_STAT_STATE 15 canActive).put F.CAN_TRX_STAT_MODE_ACT 15 1).put F.CAN_CTRL_FD_EN 15 1), 0, 1, by decide +kernel⟩,
   ⟨inDict (fun d => { d with part := [(0, (1, []))] }) up, 0, by decide +kernel⟩,
   ⟨up, 0, by decide +kernel⟩,
   ⟨up, by decide +kernel⟩,
   ⟨up, by decide +kernel⟩,
   ⟨(arrived 23 datagram up), rxNext 23 (arrived 23 datagram up), datagram, 0, 0, svRead, 0x010001, 0, [], by decide +kernel, rx_next (by decide +kernel), by decide +kernel⟩⟩

theorem witness_BeatComplete :
    (∃ (s : State) (init : Init) (v : Word), Admitted init (R.BEAT_CTRL.addr 0) s ∧ beatMay s init = true ∧ bitOf v.toNat 31 = true) ∧
    (∃ (s : State) (ticks : Nat) (b : Nat), s.pm.phase ≠ 2 ∧ dueAt (timeRun ticks s) = some b ∧ beatOn (timeRun ticks s) = true) ∧
    (∃ (s : State) (ticks : Nat), s.pm.phase ≠ 2 ∧ (dueAt (timeRun ticks s) = none ∨ beatOn (timeRun ticks s) = false)) ∧
    (∃ (s : State), s.pm.phase = 2) ∧
    (∃ (s : State) (init : Init), Admitted init (R.BEAT_CTRL.addr 0) s ∧ beatMay s init = false) :=
  ⟨⟨up, 0x30, 0x80000000, by unfold Admitted; decide +kernel, by decide +kernel⟩,
   ⟨ticking, 0, 250000, by decide +kernel⟩,
   ⟨up, 0, by decide +kernel⟩,
   ⟨State.reset, by decide +kernel⟩,
   ⟨foreign, 0x10, by unfold Admitted; decide +kernel, by decide +kernel⟩⟩

theorem witness_StrokesNeedTheirOperation :
    ∃ (s : State) (n : Fin 16) (late : Nat) (x : Instr × Nat), x ∈ ([(.strokeEnd n late, 0x00), (.strokeWait n late, 0x01), (.strokeRds n late, 0x02),
      (.strokeRdt n late, 0x03), (.strokeLdi n late, 0x04), (.strokeMov n late, 0x05), (.strokeClt n late, 0x08), (.strokeCle n late, 0x09),
      (.strokeCeq n late, 0x0A), (.strokeClti n late, 0x0B), (.strokeCgei n late, 0x0C), (.strokeCadd n late, 0x10),
      (.strokeCsub n late, 0x11), (.strokeCmul n late, 0x12), (.strokeCmin n late, 0x13), (.strokeCmax n late, 0x14),
      (.strokeAdd n late, 0x18), (.strokeSub n late, 0x19), (.strokeAnd n late, 0x1A), (.strokeOr n late, 0x1B), (.strokeXor n late, 0x1C),
      (.strokeAddi n late, 0x1D), (.strokeSubi n late, 0x1E), (.strokeAndi n late, 0x1F), (.strokeShr n late, 0x20),
      (.strokeShl n late, 0x21), (.strokeSkc n late, 0x24), (.strokeSkf n late, 0x25), (.strokeWro n late, 0x28), (.strokeWrp n late, 0x29),
      (.strokePub n late, 0x2A), (.strokeLreq n late, 0x30), (.strokeSreq n late, 0x31)] : List (Instr × Nat)) ∧ ∀ w, ¬ Issues s n x.2 w :=
  ⟨up, 0, 0, (.strokeEnd 0 0, 0), by simp, fun _ h => absurd h.2.1 (by decide +kernel)⟩

theorem witness_StrokeComputationComplete :
    (∃ (s : State) (n : Fin 16) (w : Nat), Issues s n 0x04 w) ∧
    (∃ (s : State) (n : Fin 16) (w : Nat), Issues s n 0x05 w) ∧
    (∃ (s : State) (n : Fin 16) (w : Nat), Issues s n 0x13 w) ∧
    (∃ (s : State) (n : Fin 16) (w : Nat), Issues s n 0x14 w) ∧
    (∃ (s : State) (n : Fin 16) (w : Nat), Issues s n 0x1A w) ∧
    (∃ (s : State) (n : Fin 16) (w : Nat), Issues s n 0x1B w) ∧
    (∃ (s : State) (n : Fin 16) (w : Nat), Issues s n 0x1C w) ∧
    (∃ (s : State) (n : Fin 16) (w : Nat), Issues s n 0x1F w) ∧
    (∃ (s : State) (n : Fin 16) (w : Nat), Issues s n 0x20 w) ∧
    (∃ (s : State) (n : Fin 16) (w : Nat), Issues s n 0x10 w) ∧
    (∃ (s : State) (n : Fin 16) (w : Nat), Issues s n 0x11 w) ∧
    (∃ (s : State) (n : Fin 16) (w : Nat), Issues s n 0x12 w) ∧
    (∃ (s : State) (n : Fin 16) (w : Nat), Issues s n 0x18 w) ∧
    (∃ (s : State) (n : Fin 16) (w : Nat), Issues s n 0x19 w) ∧
    (∃ (s : State) (n : Fin 16) (w : Nat), Issues s n 0x1D w) ∧
    (∃ (s : State) (n : Fin 16) (w : Nat), Issues s n 0x1E w) ∧
    (∃ (s : State) (n : Fin 16) (w : Nat), Issues s n 0x21 w) :=
  ⟨⟨(stroking (0x04 * 2 ^ 40) up), 0, (0x04 * 2 ^ 40), by unfold Issues; decide +kernel⟩,
   ⟨(stroking (0x05 * 2 ^ 40) up), 0, (0x05 * 2 ^ 40), by unfold Issues; decide +kernel⟩,
   ⟨(stroking (0x13 * 2 ^ 40) up), 0, (0x13 * 2 ^ 40), by unfold Issues; decide +kernel⟩,
   ⟨(stroking (0x14 * 2 ^ 40) up), 0, (0x14 * 2 ^ 40), by unfold Issues; decide +kernel⟩,
   ⟨(stroking (0x1A * 2 ^ 40) up), 0, (0x1A * 2 ^ 40), by unfold Issues; decide +kernel⟩,
   ⟨(stroking (0x1B * 2 ^ 40) up), 0, (0x1B * 2 ^ 40), by unfold Issues; decide +kernel⟩,
   ⟨(stroking (0x1C * 2 ^ 40) up), 0, (0x1C * 2 ^ 40), by unfold Issues; decide +kernel⟩,
   ⟨(stroking (0x1F * 2 ^ 40) up), 0, (0x1F * 2 ^ 40), by unfold Issues; decide +kernel⟩,
   ⟨(stroking (0x20 * 2 ^ 40) up), 0, (0x20 * 2 ^ 40), by unfold Issues; decide +kernel⟩,
   ⟨(stroking (0x10 * 2 ^ 40) up), 0, (0x10 * 2 ^ 40), by unfold Issues; decide +kernel⟩,
   ⟨(stroking (0x11 * 2 ^ 40) up), 0, (0x11 * 2 ^ 40), by unfold Issues; decide +kernel⟩,
   ⟨(stroking (0x12 * 2 ^ 40) up), 0, (0x12 * 2 ^ 40), by unfold Issues; decide +kernel⟩,
   ⟨(stroking (0x18 * 2 ^ 40) up), 0, (0x18 * 2 ^ 40), by unfold Issues; decide +kernel⟩,
   ⟨(stroking (0x19 * 2 ^ 40) up), 0, (0x19 * 2 ^ 40), by unfold Issues; decide +kernel⟩,
   ⟨(stroking (0x1D * 2 ^ 40) up), 0, (0x1D * 2 ^ 40), by unfold Issues; decide +kernel⟩,
   ⟨(stroking (0x1E * 2 ^ 40) up), 0, (0x1E * 2 ^ 40), by unfold Issues; decide +kernel⟩,
   ⟨(stroking (0x21 * 2 ^ 40) up), 0, (0x21 * 2 ^ 40), by unfold Issues; decide +kernel⟩⟩

theorem witness_StrokeControlComplete :
    (∃ (s : State) (n : Fin 16) (w : Nat), Issues s n 0x08 w) ∧
    (∃ (s : State) (n : Fin 16) (w : Nat), Issues s n 0x09 w) ∧
    (∃ (s : State) (n : Fin 16) (w : Nat), Issues s n 0x0A w) ∧
    (∃ (s : State) (n : Fin 16) (w : Nat), Issues s n 0x0B w) ∧
    (∃ (s : State) (n : Fin 16) (w : Nat), Issues s n 0x0C w) ∧
    (∃ (s : State) (n : Fin 16) (w : Nat), Issues s n 0x24 w) ∧
    (∃ (s : State) (n : Fin 16) (w : Nat), Issues s n 0x25 w) ∧
    (∃ (s : State) (n : Fin 16) (w : Nat), Issues s n 0x00 w) ∧
    (∃ (s : State) (n : Fin 16) (w : Nat), Issues s n 0x01 w) :=
  ⟨⟨(stroking (0x08 * 2 ^ 40) up), 0, (0x08 * 2 ^ 40), by unfold Issues; decide +kernel⟩,
   ⟨(stroking (0x09 * 2 ^ 40) up), 0, (0x09 * 2 ^ 40), by unfold Issues; decide +kernel⟩,
   ⟨(stroking (0x0A * 2 ^ 40) up), 0, (0x0A * 2 ^ 40), by unfold Issues; decide +kernel⟩,
   ⟨(stroking (0x0B * 2 ^ 40) up), 0, (0x0B * 2 ^ 40), by unfold Issues; decide +kernel⟩,
   ⟨(stroking (0x0C * 2 ^ 40) up), 0, (0x0C * 2 ^ 40), by unfold Issues; decide +kernel⟩,
   ⟨(stroking (0x24 * 2 ^ 40) up), 0, (0x24 * 2 ^ 40), by unfold Issues; decide +kernel⟩,
   ⟨(stroking (0x25 * 2 ^ 40) up), 0, (0x25 * 2 ^ 40), by unfold Issues; decide +kernel⟩,
   ⟨(stroking (0x00 * 2 ^ 40) up), 0, (0x00 * 2 ^ 40), by unfold Issues; decide +kernel⟩,
   ⟨(stroking (0x01 * 2 ^ 40) up), 0, (0x01 * 2 ^ 40), by unfold Issues; decide +kernel⟩⟩

theorem witness_StrokeAccessesComplete :
    (∃ (s : State) (n : Fin 16) (w : Nat), ∃ v, Issues s n 0x02 w ∧ sample s (skClass w) (skIndex w) (skSub w) = some v) ∧
    (∃ (s : State) (n : Fin 16) (w : Nat), Issues s n 0x02 w ∧ sample s (skClass w) (skIndex w) (skSub w) = none) ∧
    (∃ (s : State) (n : Fin 16) (w : Nat), Issues s n 0x03 w) ∧
    (∃ (s : State) (n : Fin 16) (w : Nat), Issues s n 0x28 w ∧ driverOf s (skClass w) (skIndex w) = n ∧ wreg s n (skA w) ≤ wroMax (skClass w)) ∧
    (∃ (s : State) (n : Fin 16) (w : Nat), Issues s n 0x28 w ∧ (driverOf s (skClass w) (skIndex w) ≠ n ∨ wroMax (skClass w) < wreg s n (skA w))) ∧
    (∃ (s : State) (n : Fin 16) (x : Nat × Nat × Nat) (l : List (Nat × Nat × Nat)), (engSt s n).posts = x :: l) ∧
    (∃ (s : State) (n : Fin 16) (j v : Nat) (l : List (Nat × Nat × Nat)), (engSt s n).posts = (0x20, j, v) :: l ∧ linkUp s = true ∧ s.flag F.IOX_LSO_STAT_FORCED j = false ∧ groupSafe s (s.get F.IOX_LSO_CFG_KNELL_GRP j) = false ∧ v < 1024) ∧
    (∃ (s : State) (n : Fin 16), (engSt s n).posts = []) ∧
    (∃ (s : State) (n : Fin 16) (w : Nat), Issues s n 0x29 w ∧ slotProducer s (0x100 + skChan w) = some (0x20 + n.val)) ∧
    (∃ (s : State) (n : Fin 16) (w : Nat), Issues s n 0x2A w ∧ slotProducer s (skSlot w) = some (0x20 + n.val)) ∧
    (∃ (s : State) (n : Fin 16) (w : Nat), Issues s n 0x2A w ∧ slotProducer s (skSlot w) ≠ some (0x20 + n.val)) ∧
    (∃ (s : State) (n : Fin 16) (w : Nat), Issues s n 0x31 w ∧ s.flag F.SENT_CFG_SPC (skIndex w) = true ∧ s.flag F.SENT_CFG_EN (skIndex w) = true ∧ (sentSt s (skIndex w)).busy = false ∧ ioRuns s = true) ∧
    (∃ (s : State) (n : Fin 16) (w : Nat), Issues s n 0x31 w ∧ s.flag F.SENT_CFG_SPC (skIndex w) = false) ∧
    (∃ (s : State) (n : Fin 16) (w : Nat), Issues s n 0x30 w ∧ linCommander s (skIndex w) = true ∧ s.flag F.LIN_CFG_SCHED_SRC (skIndex w) = true ∧ (linSt s (skIndex w)).bus = none ∧ linState s (skIndex w) ≠ linSleep) ∧
    (∃ (s : State) (n : Fin 16) (w : Nat), Issues s n 0x30 w ∧ (linCommander s (skIndex w) = false ∨
    s.flag F.LIN_CFG_SCHED_SRC (skIndex w) = false ∨ (linSt s (skIndex w)).bus ≠ none ∨ linState s (skIndex w) = linSleep)) ∧
    (∃ (s : State) (n : Fin 16) (w : Nat), Issues s n 0x29 w ∧ slotProducer s (0x100 + skChan w) ≠ some (0x20 + n.val)) ∧
    (∃ (s : State) (n : Fin 16) (c j v : Nat) (l : List (Nat × Nat × Nat)), (engSt s n).posts = (c, j, v) :: l ∧ linkUp s = false) ∧
    (∃ (s : State) (n : Fin 16) (j v : Nat) (l : List (Nat × Nat × Nat)), (engSt s n).posts = (0x20, j, v) :: l ∧ s.flag F.IOX_LSO_STAT_FORCED j = true) :=
  ⟨⟨stroking 0x20000007C00 up, 0, 0x20000007C00, 0, by unfold Issues; decide +kernel, by decide +kernel⟩,
   ⟨stroking 0x2000000FC00 up, 0, 0x2000000FC00, by unfold Issues; decide +kernel, by decide +kernel⟩,
   ⟨stroking 0x30000000000 up, 0, 0x30000000000, by unfold Issues; decide +kernel⟩,
   ⟨stroking 0x280000008000 (up.put F.IOX_LSO_CFG_DRV 0 0), 0, 0x280000008000, by unfold Issues; decide +kernel, by decide +kernel⟩,
   ⟨stroking 0x280000008000 (up.put F.IOX_LSO_CFG_DRV 0 1), 0, 0x280000008000, by unfold Issues; decide +kernel, by decide +kernel⟩,
   ⟨posting (0x20, 0, 1023) up, 0, (0x20, 0, 1023), [], by decide +kernel⟩,
   ⟨posting (0x20, 31, 1023) up, 0, 31, 1023, [], by decide +kernel⟩,
   ⟨up, 0, by decide +kernel⟩,
   ⟨stroking 0x290000000000 (up.put F.PWR_CH_PROD_CMD_PROD 0 0x20), 0, 0x290000000000, by unfold Issues; decide +kernel, by decide +kernel⟩,
   ⟨stroking 0x2A0000000800 up, 0, 0x2A0000000800, by unfold Issues; decide +kernel, by decide +kernel⟩,
   ⟨stroking 0x2A0000000820 up, 0, 0x2A0000000820, by unfold Issues; decide +kernel, by decide +kernel⟩,
   ⟨stroking 0x310000000000 ((up.put F.SENT_CFG_SPC 0 1).put F.SENT_CFG_EN 0 1), 0, 0x310000000000, by unfold Issues; decide +kernel, by decide +kernel⟩,
   ⟨stroking 0x310000000000 up, 0, 0x310000000000, by unfold Issues; decide +kernel, by decide +kernel⟩,
   ⟨stroking 0x300000000000 (((up.put F.LIN_CFG_MODE 0 1).put F.LIN_CFG_SCHED_SRC 0 1).put F.LIN_STAT_STATE 0 1), 0, 0x300000000000, by unfold Issues; decide +kernel, by decide +kernel⟩,
   ⟨stroking 0x300000000000 up, 0, 0x300000000000, by unfold Issues; decide +kernel, by decide +kernel⟩,
   ⟨stroking 0x290000000000 up, 0, 0x290000000000, by unfold Issues; decide +kernel, by decide +kernel⟩,
   ⟨posting (0x20, 0, 1023) State.reset, 0, 0x20, 0, 1023, [], by decide +kernel⟩,
   ⟨posting (0x20, 0, 1023) (up.put F.IOX_LSO_STAT_FORCED 0 1), 0, 0, 1023, [], by decide +kernel⟩⟩

theorem witness_TableLoadsComplete :
    (∃ (s : State) (n : Fin 16) (init : Init), Admitted init (R.TABLA_LD_HI.addr n) s ∧ s.flag F.TABLA_STAT_LD_BUSY n = false) ∧
    (∃ (s : State) (n : Fin 16) (init : Init), Admitted init (R.TABLA_LD_HI.addr n) s ∧ s.flag F.TABLA_STAT_LD_BUSY n = true) ∧
    (∃ (s : State) (n : Fin 16) (init : Init) (v : Word), Admitted init (R.TABLA_CTRL.addr n) s ∧ bitOf v.toNat 30 = true ∧ s.flag F.TABLA_STAT_LD_BUSY n = false) ∧
    (∃ (s : State) (n : Fin 16), s.flag F.TABLA_CTRL_ARM n = true ∧ s.flag F.TABLA_STAT_ARMED n = false ∧ validate s n (tget none ((engSt s n).buf (inactiveBuf s n))) = none) ∧
    (∃ (s : State) (n : Fin 16) (e : Nat × Nat), s.flag F.TABLA_CTRL_ARM n = true ∧ s.flag F.TABLA_STAT_ARMED n = false ∧ validate s n (tget none ((engSt s n).buf (inactiveBuf s n))) = some e) ∧
    (∃ (s : State) (n : Fin 16) (l : Nat), (engSt s n).load = some l) ∧
    (∃ (s : State) (n : Fin 16) (init : Init) (v : Word), Admitted init (R.TABLA_CTRL.addr n) s ∧ bitOf v.toNat 30 = true ∧ s.flag F.TABLA_STAT_LD_BUSY n = true ∧ s.flag F.TABLA_CTRL_ARM n = false) :=
  ⟨⟨up, 15, 0x30, by unfold Admitted; decide +kernel, by decide +kernel⟩,
   ⟨(up.put F.TABLA_STAT_LD_BUSY 0 1), 0, 0x30, by unfold Admitted; decide +kernel, by decide +kernel⟩,
   ⟨up, 0, 0x30, 0x40000000, by unfold Admitted; decide +kernel, by decide +kernel⟩,
   ⟨loaded (250 * 2 ^ 46) (up.put F.TABLA_CTRL_ARM 0 1), 0, by decide +kernel⟩,
   ⟨(up.put F.TABLA_CTRL_ARM 0 1), 0, (7, 0), by decide +kernel⟩,
   ⟨{ up with tab := { up.tab with eng := [(0, { EngSt.init with load := some 3 })] } }, 0, 3, by decide +kernel⟩,
   ⟨(up.put F.TABLA_STAT_LD_BUSY 0 1), 0, 0x30, 0x40000000, by unfold Admitted; decide +kernel, by decide +kernel⟩⟩

theorem witness_ChannelEventsComplete :
    (∃ (s : State), hRuns s = true ∧ s.kn.hosc = true ∧ linkUp s = true) ∧
    (∃ (s : State), (hRuns s = false ∨ s.kn.hosc = false)) ∧
    (∃ (s : State) (ch : Fin 72) (vds cur : Bool), hRuns s = true ∧ (chSt s ch).state ≠ chFet ∧ (cur = true ∨ (vds = true ∧ (chSt s ch).state ≠ chPre))) ∧
    (∃ (s : State) (ch : Fin 72) (vds cur vgs : Bool), (hRuns s = false ∨ vgs = false ∨ (chSt s ch).state = chFet ∨
    (cur = false ∧ (vds = false ∨ (chSt s ch).state = chPre)))) ∧
    (∃ (s : State) (ch : Fin 72), hRuns s = true ∧ (chSt s ch).driven = true) ∧
    (∃ (s : State) (ch : Fin 72), (hRuns s = false ∨ (chSt s ch).driven = false)) ∧
    (∃ (s : State) (ch : Fin 72), hRuns s = true ∧ (chSt s ch).state = chPre) ∧
    (∃ (s : State) (ch : Fin 72), (hRuns s = false ∨ (chSt s ch).state ≠ chPre)) ∧
    (∃ (s : State) (ch : Fin 72), hRuns s = true ∧ (chSt s ch).state = chPre) ∧
    (∃ (s : State) (ch : Fin 72), (hRuns s = false ∨ (chSt s ch).state ≠ chPre)) ∧
    (∃ (s : State) (ch : Fin 72), hRuns s = true ∧ (chSt s ch).gate = false ∧ (chSt s ch).state ≠ chFet) ∧
    (∃ (s : State) (ch : Fin 72), hRuns s = true ∧ (chSt s ch).gate = false ∧ pullUp s ch = false ∧ (chSt s ch).flag F.PWR_STATE_OUT_HIGH = false) ∧
    (∃ (s : State) (ch : Fin 72), hRuns s = true ∧ (chSt s ch).flag F.PWR_STATE_SENSE_FAULT = false) ∧
    (∃ (s : State) (f : Fin 2), hRuns s = true ∧ (feedSt s f).sense = false) ∧
    (∃ (s : State) (f : Fin 2), hRuns s = true ∧ s.flag F.FEED_FAST_EN f = true ∧ (feedSt s f).sense = false ∧ max 1 (s.get F.FEED_FAST_CNT f) ≤ (feedSt s f).run) :=
  ⟨⟨up, by decide +kernel⟩,
   ⟨State.reset, by decide +kernel⟩,
   ⟨inCh 71 5 up, 71, false, true, by decide +kernel⟩,
   ⟨State.reset, 0, false, false, false, by decide +kernel⟩,
   ⟨inCh 0 2 up, 0, by decide +kernel⟩,
   ⟨up, 0, by decide +kernel⟩,
   ⟨inCh 0 chPre up, 0, by decide +kernel⟩,
   ⟨up, 0, by decide +kernel⟩,
   ⟨inCh 0 chPre up, 0, by decide +kernel⟩,
   ⟨up, 0, by decide +kernel⟩,
   ⟨up, 0, by decide +kernel⟩,
   ⟨up, 0, by decide +kernel⟩,
   ⟨up, 0, by decide +kernel⟩,
   ⟨up, 1, by decide +kernel⟩,
   ⟨{ (up.put F.FEED_FAST_EN 0 1) with feed := [(0, { FeedSt.init with run := 65535 })] }, 0, by decide +kernel⟩⟩

theorem witness_InputsAndSentComplete :
    (∃ (s : State) (i : Fin 96), ioRuns s = true ∧ 2 ≤ s.get F.IOX_MFI_CFG_MODE i) ∧
    (∃ (s : State) (i : Fin 96), ioRuns s = true ∧ s.get F.IOX_MFI_CFG_MODE i < 2) ∧
    (∃ (s : State) (i : Fin 16), ioRuns s = true ∧ raiRef s i = none) ∧
    (∃ (s : State) (n : Fin 8), hRuns s = true ∧ s.get F.IOX_SSUP_STAT_STATE n = 1) ∧
    (∃ (s : State) (n : Fin 8), (hRuns s = false ∨ s.get F.IOX_SSUP_STAT_STATE n ≠ 1)) ∧
    (∃ (s : State) (n : Fin 8), hRuns s = true ∧ s.get F.IOX_SSUP_STAT_STATE n = 2) ∧
    (∃ (s : State) (n : Fin 8), hRuns s = true ∧ (s.get F.IOX_SSUP_STAT_STATE n = 1 ∨ s.get F.IOX_SSUP_STAT_STATE n = 2)) ∧
    (∃ (s : State) (c : Fin 8) (fr : SentFrame), ioRuns s = true ∧ s.flag F.SENT_CFG_EN c = true ∧ (s.flag F.SENT_CFG_SPC c = false ∨ (sentSt s c).busy = true) ∧ sentReject s c fr = 0) ∧
    (∃ (s : State) (c : Fin 8) (fr : SentFrame), ioRuns s = true ∧ s.flag F.SENT_CFG_EN c = true ∧ (s.flag F.SENT_CFG_SPC c = false ∨ (sentSt s c).busy = true) ∧ sentReject s c fr ≠ 0) ∧
    (∃ (s : State) (c : Fin 8), ioRuns s = true ∧ s.flag F.SENT_CFG_EN c = true) ∧
    (∃ (s : State) (c : Fin 8) (init : Init) (v : Word), Admitted init (R.SENT_CFG.addr c) s ∧ bitOf v.toNat 31 = true ∧ bitOf v.toNat 28 = true ∧ bitOf v.toNat 17 = true ∧ (sentSt s c).busy = false ∧ ioRuns s = true) ∧
    (∃ (s : State) (c : Fin 8), (ioRuns s = false ∨ s.flag F.SENT_CFG_EN c = false ∨
    (s.flag F.SENT_CFG_SPC c = true ∧ (sentSt s c).busy = false))) :=
  ⟨⟨(up.put F.IOX_MFI_CFG_MODE 95 2), 95, by decide +kernel⟩,
   ⟨(up.put F.IOX_MFI_CFG_MODE 0 1), 0, by decide +kernel⟩,
   ⟨(up.put F.IOX_RAI_CFG_REF 15 8), 15, by decide +kernel⟩,
   ⟨(up.put F.IOX_SSUP_STAT_STATE 7 1), 7, by decide +kernel⟩,
   ⟨up, 0, by decide +kernel⟩,
   ⟨(up.put F.IOX_SSUP_STAT_STATE 0 2), 0, by decide +kernel⟩,
   ⟨(up.put F.IOX_SSUP_STAT_STATE 0 2), 0, by decide +kernel⟩,
   ⟨((up.put F.SENT_CFG_EN 0 1).put F.SENT_CFG_TICK 0 12), 0, ⟨3000, 0, [0, 0, 0, 0, 0, 0, 0, 0], 5, true⟩, by decide +kernel⟩,
   ⟨(up.put F.SENT_CFG_EN 0 1), 0, ⟨3000, 0, [], 0, true⟩, by decide +kernel⟩,
   ⟨(up.put F.SENT_CFG_EN 0 1), 0, by decide +kernel⟩,
   ⟨up, 7, 0x30, 0x90020000, by unfold Admitted; decide +kernel, by decide +kernel⟩,
   ⟨up, 0, by decide +kernel⟩⟩

theorem witness_OutputsComplete :
    (∃ (s : State) (n : Fin 8) (init : Init) (v : Word), Admitted init (R.IOX_SSUP_CTRL.addr n) s ∧ swDriver s init (s.get F.IOX_SSUP_CTRL_DRV n) 11 n = true ∧ s.flag F.IOX_SSUP_STAT_FORCED n = false ∧ groupSafe s (if s.bootLocked then s.get F.IOX_SSUP_CTRL_KNELL_GRP n else bitsOf v.toNat 29 27) = false) ∧
    (∃ (s : State) (n : Fin 8) (init : Init), Admitted init (R.IOX_SSUP_CTRL.addr n) s ∧ swDriver s init (s.get F.IOX_SSUP_CTRL_DRV n) 11 n = false ∧ s.bootLocked = true) ∧
    (∃ (s : State) (j : Fin 32) (init : Init), Admitted init (R.IOX_LSO_DUTY.addr j) s ∧ swDriver s init (s.get F.IOX_LSO_CFG_DRV j) 9 j = true ∧ s.flag F.IOX_LSO_STAT_FORCED j = false ∧ groupSafe s (s.get F.IOX_LSO_CFG_KNELL_GRP j) = false) ∧
    (∃ (s : State) (j : Fin 32) (init : Init), Admitted init (R.IOX_LSO_DUTY.addr j) s ∧ swDriver s init (s.get F.IOX_LSO_CFG_DRV j) 9 j = false) ∧
    (∃ (s : State) (b : Fin 6) (init : Init), Admitted init (R.IOX_BR_CMD.addr b) s ∧ swDriver s init (s.get F.IOX_BR_CFG_DRV b) 10 b = true ∧ s.flag F.IOX_BR_STAT_FORCED b = false ∧ groupSafe s (s.get F.IOX_BR_CFG_KNELL_GRP b) = false) ∧
    (∃ (s : State) (b : Fin 6) (init : Init), Admitted init (R.IOX_BR_CMD.addr b) s ∧ swDriver s init (s.get F.IOX_BR_CFG_DRV b) 10 b = false) ∧
    (∃ (s : State) (j : Fin 32) (init : Init) (v : Word), Admitted init (R.IOX_LSO_STAT.addr j) s ∧ bitOf v.toNat 31 = true) ∧
    (∃ (s : State) (j : Fin 32), hRuns s = true ∧ s.flag F.IOX_LSO_STAT_LATCHED j = false) ∧
    (∃ (s : State) (j : Fin 32), (hRuns s = false ∨ s.flag F.IOX_LSO_STAT_LATCHED j = true)) ∧
    (∃ (s : State) (j : Fin 32), hRuns s = true ∧ (lsoSt s j).hot = false) ∧
    (∃ (s : State), hRuns s = true) ∧
    (∃ (s : State) (j : Fin 32), hRuns s = true ∧ s.flag F.IOX_LSO_CFG_OL_OFF_EN j = true) :=
  ⟨⟨(up.put F.IOX_SSUP_CTRL_DRV 7 0x10), 7, 0x30, 0, by unfold Admitted; decide +kernel, by decide +kernel⟩,
   ⟨((up.put F.IOX_SSUP_CTRL_DRV 0 0).put F.BSEC_LOCK_BOOT 0 1), 0, 0x30, by unfold Admitted; decide +kernel, by decide +kernel⟩,
   ⟨(up.put F.IOX_LSO_CFG_DRV 31 0x10), 31, 0x30, by unfold Admitted; decide +kernel, by decide +kernel⟩,
   ⟨(up.put F.IOX_LSO_CFG_DRV 0 0), 0, 0x30, by unfold Admitted; decide +kernel, by decide +kernel⟩,
   ⟨(up.put F.IOX_BR_CFG_DRV 5 0x10), 5, 0x30, by unfold Admitted; decide +kernel, by decide +kernel⟩,
   ⟨(up.put F.IOX_BR_CFG_DRV 0 0), 0, 0x30, by unfold Admitted; decide +kernel, by decide +kernel⟩,
   ⟨up, 0, 0x30, 0x80000000, by unfold Admitted; decide +kernel, by decide +kernel⟩,
   ⟨up, 0, by decide +kernel⟩,
   ⟨State.reset, 0, by decide +kernel⟩,
   ⟨up, 0, by decide +kernel⟩,
   ⟨up, by decide +kernel⟩,
   ⟨(up.put F.IOX_LSO_CFG_OL_OFF_EN 0 1), 0, by decide +kernel⟩⟩

theorem witness_BridgesComplete :
    (∃ (s : State) (b : Fin 6), s.get F.IOX_BR_STAT_STATE b = 3 ∧ s.flag F.IOX_BR_STAT_FORCED b = false) ∧
    (∃ (s : State) (b : Fin 6) (init : Init) (v : Word), Admitted init (R.IOX_BR_STAT.addr b) s ∧ bitOf v.toNat 28 = true ∧ s.get F.IOX_BR_STAT_STATE b = 4 ∧ s.flag F.IOX_BR_STAT_FORCED b = false) ∧
    (∃ (s : State) (b : Fin 6), hRuns s = true ∧ s.get F.IOX_BR_STAT_STATE b = 5 ∧ s.flag F.IOX_BR_STAT_FORCED b = false) ∧
    (∃ (s : State) (b : Fin 6) (raw : Nat), hRuns s = true ∧ brPwm s b = true ∧ s.get F.IOX_BR_STAT_DUTY_OUT b ≠ 0x3FF ∧ brLimits s b (chimeEncQ (min raw 65536 * 390625) (32 * s.get F.IOX_BR_CFG_R_EQ b)) = true) ∧
    (∃ (s : State) (b : Fin 6) (raw : Nat), hRuns s = true ∧ brPwm s b = true ∧ s.get F.IOX_BR_STAT_DUTY_OUT b ≠ 0x3FF ∧ brLimits s b (chimeEncQ (min raw 65536 * 390625) (32 * s.get F.IOX_BR_CFG_R_EQ b)) = false) ∧
    (∃ (s : State) (b : Fin 6), hRuns s = true ∧ brDriven s b = true) ∧
    (∃ (s : State) (b : Fin 6), hRuns s = true ∧ s.get F.IOX_BR_STAT_STATE b ≠ 5) ∧
    (∃ (s : State) (b : Fin 6), hRuns s = true ∧ brPwm s b = false) ∧
    (∃ (s : State) (b : Fin 6), (hRuns s = false ∨ (brDriven s b = false ∧ (brSt s b).forcedAt ≠ some s.time.elapsed))) :=
  ⟨⟨(up.put F.IOX_BR_STAT_STATE 5 3), 5, by decide +kernel⟩,
   ⟨(up.put F.IOX_BR_STAT_STATE 0 4), 0, 0x30, 0x10000000, by unfold Admitted; decide +kernel, by decide +kernel⟩,
   ⟨(up.put F.IOX_BR_STAT_STATE 0 5), 0, by decide +kernel⟩,
   ⟨((((up.put F.IOX_BR_STAT_MODE_OUT 0 1).put F.IOX_BR_STAT_DUTY_OUT 0 0x3FE).put F.IOX_BR_ILIM_ILIM 0 0).put F.IOX_BR_CFG_R_EQ 0 1), 0, 65535, by decide +kernel⟩,
   ⟨((up.put F.IOX_BR_STAT_MODE_OUT 0 1).put F.IOX_BR_ILIM_ILIM 0 0x3FF), 0, 0, by decide +kernel⟩,
   ⟨((up.put F.IOX_BR_STAT_MODE_OUT 0 1).put F.IOX_BR_STAT_DUTY_OUT 0 0x3FE), 0, by decide +kernel⟩,
   ⟨up, 0, by decide +kernel⟩,
   ⟨up, 0, by decide +kernel⟩,
   ⟨up, 0, by decide +kernel⟩⟩

theorem witness_ArrivingFramesComplete :
    (∃ (s : State) (p : Fin 24) (octets : List Nat), swGated s p = false ∧ s.flag F.SW_CTRL_EN 0 = true ∧ portEn s p = true ∧ portUp s p = true ∧ arrivingAt s p = none ∧ portConsumes s p (octets.take 64) = false) ∧
    (∃ (s : State) (p : Fin 24) (octets : List Nat) (len : Nat), swGated s p = false ∧ s.flag F.SW_CTRL_EN 0 = true ∧ portEn s p = true ∧ portUp s p = true ∧ arrivingAt s p = none ∧ portConsumes s p (octets.take 64) = false ∧ len < 64) ∧
    (∃ (s : State) (p : Fin 24), (swGated s p = true ∨
    s.flag F.SW_CTRL_EN 0 = false ∨ portEn s p = false ∨ portUp s p = false ∨ arrivingAt s p ≠ none)) ∧
    (∃ (s : State) (p : Fin 24) (f : Nat), arrivingAt s p = some f ∧ (frameSt s f).ended = false ∧ (frameSt s f).cells < cellLimit s (frameSt s f)) ∧
    (∃ (s : State) (p : Fin 24) (f : Nat), arrivingAt s p = some f ∧ (frameSt s f).ingress = p) ∧
    (∃ (s : State) (p : Fin 24), arrivingAt s p = none) ∧
    (∃ (s : State) (p : Fin 24) (f : Nat), arrivingAt s p = some f ∧ (frameSt s f).ingress = p ∧ (frameSt s f).len ≤ s.get F.SW_PORT_HDRM_MAX_FRAME p ∧ msecVerifies s p = false) :=
  ⟨⟨swUp, 23, [], by decide +kernel⟩,
   ⟨swUp, 0, [], 63, by decide +kernel⟩,
   ⟨up, 0, by decide +kernel⟩,
   ⟨arriving 1518, 0, 0, by decide +kernel⟩,
   ⟨arriving 1518, 0, 0, by decide +kernel⟩,
   ⟨up, 0, by decide +kernel⟩,
   ⟨arriving 1518, 0, 0, by decide +kernel⟩⟩

theorem witness_CopiesComplete :
    (∃ (s : State), liveCopies s = []) ∧
    (∃ (s : State) (f : Nat) (x : SwFrame) (c : SwCopy), crossing s = [(f, x, c)] ∧ lockedPairs s = [] ∧ frameSt s f = x ∧ (∀ y ∈ liveCopies s, overAge s y.2.2.port y.2.1 = false) ∧ copyOf s f c.port = some c ∧ c.crossed = 0 ∧ x.ingress < 24 ∧ c.port < 24 ∧ x.cls < 8) ∧
    (∃ (s : State) (e : Fin 24), s.flag F.SW_PORT_AGE_DISCARD_AGE e = false) ∧
    (∃ (s : State) (e : Fin 24) (c : Fin 8) (v : Option (Fin 24)) (x : Nat × SwFrame × SwCopy) (l : List (Nat × SwFrame × SwCopy)), agedHeads s e (match v with | some i => voq s i e c | none => egressQueue s e c) = x :: l ∧ (copyOf s x.1 e).isSome = true) ∧
    (∃ (s u : State) (e : Fin 24) (f : Nat), u = ageEgress e (cbsSettleAll e s) ∧ txCopy u e = none ∧ portUp u e = true ∧ swGated u e = false ∧ selectCopy u e = some f ∧ (copyOf u f e).isSome = true) ∧
    (∃ (s : State) (e : Fin 24) (f : Nat) (x : SwFrame) (c : SwCopy), txCopy s e = some (f, x, c) ∧ x.ended = true ∧ c.crossed = x.cells ∧ e.val < 20 ∧ (copyOf s f e).isSome = true) ∧
    (∃ (s : State) (e : Fin 24) (k : BufErr), k ≠ .corrected ∧ txCopy s e = none) ∧
    (∃ (s u : State) (e : Fin 24), u = ageEgress e (cbsSettleAll e s) ∧ (txCopy u e ≠ none ∨ portUp u e = false ∨ swGated u e = true ∨ selectCopy u e = none)) ∧
    (∃ (s : State) (e : Fin 24) (c : Fin 8) (v : Option (Fin 24)), agedHeads s e (match v with | some i => voq s i e c | none => egressQueue s e c) = []) ∧
    (∃ (s : State) (e : Fin 24) (k : BufErr) (f : Nat) (x : SwFrame) (c : SwCopy), k ≠ .corrected ∧ txCopy s e = some (f, x, c) ∧ (copyOf s f e).isSome = true) :=
  ⟨⟨up, by decide +kernel⟩,
   ⟨holding (oneCopy 0) up, 0, oneFrame (oneCopy 0), oneCopy 0, by decide +kernel⟩,
   ⟨(up.put F.SW_PORT_AGE_DISCARD_AGE 0 0), 0, by decide +kernel⟩,
   ⟨aged, 0, 7, none, (0, oneFrame (oneCopy 1), oneCopy 1), [], by decide +kernel⟩,
   ⟨holding (oneCopy 1) swUp, ageEgress 0 (cbsSettleAll 0 (holding (oneCopy 1) swUp)), 0, 0, rfl, by decide +kernel⟩,
   ⟨holding { oneCopy 2 with crossed := 1 } up, 0, 0, oneFrame { oneCopy 2 with crossed := 1 }, { oneCopy 2 with crossed := 1 }, by decide +kernel⟩,
   ⟨up, 0, .data, by decide +kernel⟩,
   ⟨up, ageEgress 0 (cbsSettleAll 0 up), 0, rfl, by decide +kernel⟩,
   ⟨up, 0, 0, none, by decide +kernel⟩,
   ⟨holding (oneCopy 2) up, 0, .data, 0, oneFrame (oneCopy 2), oneCopy 2, by decide +kernel⟩⟩

theorem witness_ForwardingDatabaseComplete :
    (∃ (s : State), s.get F.SW_FDB_CFG_AGE_S 0 = 0) ∧
    (∃ (s : State), s.get F.SW_FDB_CFG_AGE_S 0 ≠ 0 ∧ (s.sw.fdb.map (·.1)).Nodup) ∧
    (∃ (s : State) (init : Init), ∃ i x, Admitted init (R.SW_FDB_CMD.addr 0) s ∧ s.flag F.SW_FDB_CMD_GO 0 = false ∧ fdbFind s (fdbKey s).1 (fdbKey s).2 = some i ∧ fdbEnt s i = some x) ∧
    (∃ (s : State) (init : Init), Admitted init (R.SW_FDB_CMD.addr 0) s ∧ s.flag F.SW_FDB_CMD_GO 0 = false ∧ fdbFind s (fdbKey s).1 (fdbKey s).2 = none) ∧
    (∃ (s : State) (init : Init), ∃ i, Admitted init (R.SW_FDB_CMD.addr 0) s ∧ s.flag F.SW_FDB_CMD_GO 0 = false ∧ isBcast (fdbKey s).2 = false ∧ (if isGroup (fdbKey s).2 then s.get F.SW_FDB_DATA_PORTS 0 != 0 else oneBit (s.get F.SW_FDB_DATA_PORTS 0)) = true ∧ fdbFind s (fdbKey s).1 (fdbKey s).2 = none ∧ fdbFree s (fdbKey s).1 (fdbKey s).2 = some i) ∧
    (∃ (s : State) (init : Init), Admitted init (R.SW_FDB_CMD.addr 0) s ∧ s.flag F.SW_FDB_CMD_GO 0 = false ∧ (s.sw.fdb.map (·.1)).Nodup) ∧
    (∃ (s : State) (init : Init) (v : Word), ∃ x, Admitted init (R.SW_FDB_CMD.addr 0) s ∧ s.flag F.SW_FDB_CMD_GO 0 = false ∧ fdbEnt s (bitsOf v.toNat 13 0) = some x) ∧
    (∃ (s : State) (init : Init) (v : Word), Admitted init (R.SW_FDB_CMD.addr 0) s ∧ s.flag F.SW_FDB_CMD_GO 0 = false ∧ fdbEnt s (bitsOf v.toNat 13 0) = none) ∧
    (∃ (s : State) (init : Init) (v : Word), Admitted init (R.SW_CTRL.addr 0) s ∧ bitOf v.toNat 0 = true) :=
  ⟨⟨(up.put F.SW_FDB_CFG_AGE_S 0 0), by decide +kernel⟩,
   ⟨(up.put F.SW_FDB_CFG_AGE_S 0 1), by decide +kernel⟩,
   ⟨withEnt 0x3DA4, 0x30, 0x3DA4, ent, by unfold Admitted; decide +kernel, by decide +kernel⟩,
   ⟨up, 0x30, by unfold Admitted; decide +kernel, by decide +kernel⟩,
   ⟨(up.put F.SW_FDB_DATA_PORTS 0 1), 0x30, 0x3DA4, by unfold Admitted; decide +kernel, by decide +kernel⟩,
   ⟨up, 0x30, by unfold Admitted; decide +kernel, by decide +kernel⟩,
   ⟨withEnt 16383, 0x30, 16383, ent, by unfold Admitted; decide +kernel, by decide +kernel⟩,
   ⟨up, 0x30, 16383, by unfold Admitted; decide +kernel, by decide +kernel⟩,
   ⟨up, 0x30, 1, by unfold Admitted; decide +kernel, by decide +kernel⟩⟩

theorem witness_LinksAndGatesComplete :
    (∃ (s : State) (p : Fin 24), p.val < 20 ∧ portUp s p = false ∧ portEn s p = true ∧ s.get F.EP_TEST_MODE p = 0 ∧ s.get F.EP_STAT_TC10_STATE p ≠ 3 ∧ s.bist.prbs ≠ some (0, p.val) ∧ s.get F.CLK_DOM_SRC 14 ≠ 2) ∧
    (∃ (s : State) (p : Fin 24), (20 ≤ p.val ∨ portUp s p = true ∨ portEn s p = false)) ∧
    (∃ (s : State) (p : Fin 24), p.val < 20 ∧ portUp s p = true) ∧
    (∃ (s : State) (p : Fin 24), (20 ≤ p.val ∨ portUp s p = false)) ∧
    (∃ (s : State) (p : Fin 24), plcaOn s p = true ∧ (epSt s p).noBeacon = false) ∧
    (∃ (s : State) (p : Fin 24), (plcaOn s p = false ∨ (epSt s p).noBeacon = true)) ∧
    (∃ (s : State) (p : Fin 24) (j : Nat), (epSt s p).hold = false ∧ nextEntry (epSt s p).oper.list (s.get F.EP_GCL_STAT_IDX p + 1) = some j) ∧
    (∃ (s : State) (p : Fin 24), ((epSt s p).hold = true ∨
    nextEntry (epSt s p).oper.list (s.get F.EP_GCL_STAT_IDX p + 1) = none)) ∧
    (∃ (s : State) (p : Fin 24), (epSt s p).oper.beatLock = false) ∧
    (∃ (s : State) (p : Fin 24) (g : Gcl), (epSt s p).pend = some g ∧ g.beatLock = false ∧ g.base ≤ s.nowNs ∧ gclSetup ≤ s.time.mono - (epSt s p).pendAt) ∧
    (∃ (s : State) (p : Fin 24) (init : Init) (v : Word), Admitted init (R.EP_GCL_CTRL.addr p) s ∧ bitOf v.toNat 29 = true ∧ (bitOf v.toNat 30 = true ∨ s.get F.EP_GCL_CYCLE_CYCLE_NS p ≠ 0)) ∧
    (∃ (s : State) (p : Fin 24) (init : Init) (v : Word), Admitted init (R.EP_GCL_CTRL.addr p) s ∧ bitOf v.toNat 29 = true ∧ bitOf v.toNat 30 = false ∧ s.get F.EP_GCL_CYCLE_CYCLE_NS p = 0) ∧
    (∃ (s : State) (p : Fin 24) (c : Fin 8) (init : Init), Admitted init (R.EP_CBS_SLOPE.addr (8 * p + c)) s) ∧
    (∃ (s : State) (g : Fin 127), tblBits s 1 g 0 31 31 = 1 ∧ tblBits s 1 g 0 30 30 = 0 ∧ tblBits s 1 g 1 31 0 ≠ 0) ∧
    (∃ (s : State) (g : Fin 127) (j : Nat), tblBits s 1 g 0 31 31 = 1 ∧ nextEntry (sgSt s g).list ((sgSt s g).idx + 1) = some j) ∧
    (∃ (s : State) (k : Fin 64), tblBits s 4 k 0 31 31 = 1) ∧
    (∃ (s : State) (k : Fin 64), tblBits s 4 k 0 31 31 = 0) :=
  ⟨⟨(((up.put F.SW_PORT_CFG_EN 19 1).put F.SW_PORT_STAT_LINK_UP 19 0).put F.EP_TEST_MODE 19 0), 19, by decide +kernel⟩,
   ⟨up, 20, by decide +kernel⟩,
   ⟨(up.put F.SW_PORT_STAT_LINK_UP 0 1), 0, by decide +kernel⟩,
   ⟨up, 20, by decide +kernel⟩,
   ⟨(up.put F.EP_PLCA_EN 16 1), 16, by decide +kernel⟩,
   ⟨up, 15, by decide +kernel⟩,
   ⟨inEp (fun x => { x with oper := { Gcl.init with list := [0xFF000010, 0xFF000010] } }) up, 0, 1, by decide +kernel⟩,
   ⟨inEp (fun e => { e with hold := true }) up, 0, by decide +kernel⟩,
   ⟨inEp (fun x => { x with oper := { Gcl.init with beatLock := false } }) up, 0, by decide +kernel⟩,
   ⟨inTime (fun x => { x with mono := 2 ^ 60 }) (inEp (fun x => { x with pend := some { Gcl.init with beatLock := false } }) up), 0, { Gcl.init with beatLock := false }, by decide +kernel⟩,
   ⟨up, 23, 0x30, 0x60000000, by unfold Admitted; decide +kernel, by decide +kernel⟩,
   ⟨(up.put F.EP_GCL_CYCLE_CYCLE_NS 0 0), 0, 0x30, 0x20000000, by unfold Admitted; decide +kernel, by decide +kernel⟩,
   ⟨up, 23, 7, 0x30, by unfold Admitted; decide +kernel⟩,
   ⟨withTbl 1 (2 ^ 31 + 2 ^ 32) up, 0, by decide +kernel⟩,
   ⟨withTbl 1 (2 ^ 31) { up with ports := { up.ports with sg := [(0, { SgSt.init with list := [16, 16] })] } }, 0, 1, by decide +kernel⟩,
   ⟨withTbl 4 (2 ^ 31) up, 0, by decide +kernel⟩,
   ⟨up, 63, by decide +kernel⟩⟩

theorem witness_KeysAndTablesComplete :
    (∃ (s : State) (p : Fin 24) (sa : Fin 36) (init : Init) (v : Word), Admitted init (saAddr p sa) s ∧ p.val < 6 ∧ getBits v 5 0 ≠ 0x3F ∧ keyUse s (asgOf s 3 p) (getBits v 5 0) 5 = 0 ∧ (keySlot s (getBits v 5 0)).kind = 6) ∧
    (∃ (s : State) (p : Fin 24) (sa : Fin 36) (init : Init) (v : Word), Admitted init (saAddr p sa) s ∧ p.val < 6 ∧ getBits v 5 0 = 0x3F) ∧
    (∃ (s : State) (p : Fin 24) (sa : Fin 36) (init : Init) (v : Word), Admitted init (saAddr p sa) s ∧ p.val < 6 ∧ getBits v 5 0 ≠ 0x3F ∧ (keyUse s (asgOf s 3 p) (getBits v 5 0) 5 ≠ 0 ∨ (keySlot s (getBits v 5 0)).kind ≠ 6)) ∧
    (∃ (s : State) (p : Fin 24) (init : Init) (v : Word), Admitted init (R.EP_TEST.addr p) s ∧ s.get F.DICT_MODE_MODE 0 = 3 ∧ p.val < 20 ∧ (getBits v 31 28 = 0 ∨ (getBits v 31 28 ≤ 7 ∧ Config.testMode p (getBits v 31 28) = true))) ∧
    (∃ (s : State) (p : Fin 24) (init : Init), Admitted init (R.EP_TEST.addr p) s ∧ s.get F.DICT_MODE_MODE 0 ≠ 3) ∧
    (∃ (s : State) (p : Fin 24) (init : Init) (v : Word), Admitted init (R.EP_TEST.addr p) s ∧ (20 ≤ p.val ∨
    (getBits v 31 28 ≠ 0 ∧ (7 < getBits v 31 28 ∨ Config.testMode p (getBits v 31 28) = false)))) ∧
    (∃ (s : State) (p : Fin 24) (init : Init) (v : Word), Admitted init (R.EP_TBL_CMD.addr p) s ∧ getBits v 12 0 < tblSize (getBits v 29 27)) ∧
    (∃ (s : State) (p : Fin 24) (init : Init) (v : Word), Admitted init (R.EP_TBL_CMD.addr p) s ∧ tblSize (getBits v 29 27) ≤ getBits v 12 0) ∧
    (∃ (s : State) (p : Fin 24) (init : Init) (v : Word), Admitted init (R.EP_TBL_CMD.addr p) s ∧ getBits v 12 0 < tblSize (getBits v 29 27) ∧ tblValueOk (getBits v 29 27) (tblData s p) = true) ∧
    (∃ (s : State) (p : Fin 24) (init : Init) (v : Word), Admitted init (R.EP_TBL_CMD.addr p) s ∧ getBits v 12 0 < tblSize (getBits v 29 27) ∧ tblValueOk (getBits v 29 27) (tblData s p) = false) :=
  ⟨⟨keyed 0 6 32 up, 5, 35, 0x30, 0, by unfold Admitted; decide +kernel, by decide +kernel⟩,
   ⟨up, 0, 0, 0x30, 0x3F, by unfold Admitted; decide +kernel, by decide +kernel⟩,
   ⟨up, 0, 0, 0x30, 0x3E, by unfold Admitted; decide +kernel, by decide +kernel⟩,
   ⟨(up.put F.DICT_MODE_MODE 0 3), 19, 0x30, 0, by unfold Admitted; decide +kernel, by decide +kernel⟩,
   ⟨(up.put F.DICT_MODE_MODE 0 0), 0, 0x30, by unfold Admitted; decide +kernel, by decide +kernel⟩,
   ⟨up, 20, 0x30, 0, by unfold Admitted; decide +kernel, by decide +kernel⟩,
   ⟨up, 0, 0x30, 0x000001FF, by unfold Admitted; decide +kernel, by decide +kernel⟩,
   ⟨up, 0, 0x30, 0x00000200, by unfold Admitted; decide +kernel, by decide +kernel⟩,
   ⟨up, 0, 0x30, 0x000001FF, by unfold Admitted; decide +kernel, by decide +kernel⟩,
   ⟨up, 0, 0x30, 0x08000000, by unfold Admitted; decide +kernel, by decide +kernel⟩⟩

theorem witness_Tc10Complete :
    (∃ (s : State) (p : Fin 20) (init : Init) (v : Word), Admitted init (R.EP_TC10.addr p) s ∧ s.bootLocked = true ∧ s.flag F.EP_TC10_EN p = true ∧ bitOf v.toNat 30 = true ∧ s.get F.EP_STAT_TC10_STATE p = 0) ∧
    (∃ (s : State) (p : Fin 20) (init : Init) (v : Word), Admitted init (R.EP_TC10.addr p) s ∧ s.bootLocked = true ∧ s.flag F.EP_TC10_EN p = true ∧ bitOf v.toNat 30 = false ∧ bitOf v.toNat 29 = true) ∧
    (∃ (s : State) (p : Fin 20), s.get F.EP_STAT_TC10_STATE p = 2) ∧
    (∃ (s : State) (p : Fin 20), s.get F.EP_STAT_TC10_STATE p ≠ 2) ∧
    (∃ (s : State) (p : Fin 20), s.get F.EP_STAT_TC10_STATE p = 1) ∧
    (∃ (s : State) (p : Fin 20), s.get F.EP_STAT_TC10_STATE p ≠ 1) ∧
    (∃ (s : State) (p : Fin 20), s.pm.phase ≠ 2 ∧ s.flag F.EP_TC10_EN p = true ∧ (s.get F.EP_STAT_TC10_STATE p = 1 ∨ s.get F.EP_STAT_TC10_STATE p = 2)) ∧
    (∃ (s : State) (p : Fin 20), s.pm.phase ≠ 2 ∧ s.flag F.EP_TC10_EN p = true ∧ s.get F.EP_STAT_TC10_STATE p = 3 ∧ s.flag F.EP_TC10_WAKE_DS p = false) ∧
    (∃ (s : State) (p : Fin 20), s.pm.phase = 2 ∧ p.val ∉ s.pm.tc10) ∧
    (∃ (s : State) (p : Fin 20), s.pm.phase = 2 ∧ p.val ∈ s.pm.tc10 ∧ s.flag F.KN_STAT_HALT 0 = false ∧ wakeEnabled s 4 p = true ∧ pmMode s = modeDeep ∧ s.pm.caused = false) :=
  ⟨⟨(((up.put F.BSEC_LOCK_BOOT 0 1).put F.EP_TC10_EN 0 1).put F.EP_STAT_TC10_STATE 0 0), 0, 0x30, 0x40000000, by unfold Admitted; decide +kernel, by decide +kernel⟩,
   ⟨((up.put F.BSEC_LOCK_BOOT 0 1).put F.EP_TC10_EN 19 1), 19, 0x30, 0x20000000, by unfold Admitted; decide +kernel, by decide +kernel⟩,
   ⟨(up.put F.EP_STAT_TC10_STATE 0 2), 0, by decide +kernel⟩,
   ⟨(up.put F.EP_STAT_TC10_STATE 0 0), 0, by decide +kernel⟩,
   ⟨(up.put F.EP_STAT_TC10_STATE 0 1), 0, by decide +kernel⟩,
   ⟨(up.put F.EP_STAT_TC10_STATE 0 0), 0, by decide +kernel⟩,
   ⟨((up.put F.EP_TC10_EN 0 1).put F.EP_STAT_TC10_STATE 0 1), 0, by decide +kernel⟩,
   ⟨(((up.put F.EP_TC10_EN 0 1).put F.EP_STAT_TC10_STATE 0 3).put F.EP_TC10_WAKE_DS 0 0), 0, by decide +kernel⟩,
   ⟨State.reset, 0, by decide +kernel⟩,
   ⟨inPm (fun p => { p with phase := 2, tc10 := [0] }) ((up.put F.PM_STAT_MODE 0 3).put F.GONG_WAKE_EN_TC10 0 1), 0, by decide +kernel⟩⟩

theorem witness_TimeComplete :
    (∃ (s : State) (init : Init), Admitted init (R.TIME_INC_HI.addr 0) s ∧ timeMay s init = true) ∧
    (∃ (s : State) (init : Init), Admitted init (R.TIME_INC_HI.addr 0) s ∧ timeMay s init = false) ∧
    (∃ (s : State) (init : Init), Admitted init (R.TIME_STEP_HI.addr 0) s ∧ timeMay s init = true) ∧
    (∃ (s : State), fenced s 0x030 = false) ∧
    (∃ (s : State), fenced s 0x030 = true) ∧
    (∃ (s : State) (init : Init) (v : Word), Admitted init (R.TIME_CTRL.addr 0) s ∧ timeMay s init = true ∧ bitOf v.toNat 31 = true ∧ s.flag F.TIME_STAT_CLK_FALLBACK 0 = false) ∧
    (∃ (s : State) (init : Init) (v : Word), Admitted init (R.TIME_CTRL.addr 0) s ∧ timeMay s init = true ∧ bitOf v.toNat 31 = false ∧ bitOf v.toNat 30 = true ∧ s.get F.TIME_STAT_STATE 0 = syncSynced) ∧
    (∃ (s : State) (init : Init) (v : Word), Admitted init (R.TIME_CTRL.addr 0) s ∧ timeMay s init = true ∧ bitOf v.toNat 31 = false ∧ bitOf v.toNat 30 = false) ∧
    (∃ (s : State), s.get F.TIME_CTRL_SYNC_TMO 0 ≠ 0 ∧ s.get F.TIME_STAT_STATE 0 = syncSynced) ∧
    (∃ (s : State), (s.get F.TIME_CTRL_SYNC_TMO 0 = 0 ∨ s.get F.TIME_STAT_STATE 0 ≠ syncSynced)) ∧
    (∃ (s : State) (k : Fin 2), hoState s k = 1) ∧
    (∃ (s : State) (k : Fin 2), hoState s k ≠ 1) ∧
    (∃ (s : State) (k : Fin 2) (seq : Nat) (h : HoPeer), s.flag F.TIME_HO_CTRL_EN k = true ∧ portUp s k = true ∧ hoState s k ≠ 1 ∧ (hoVerify k 1 seq h s).1 = true) ∧
    (∃ (s : State) (k : Fin 2) (msg : Nat) (h : HoPeer), s.flag F.TIME_HO_CTRL_EN k = true ∧ portUp s k = true ∧ hoState s k = 1 ∧ (msg = 2 ∨ msg = 3) ∧ (hoVerify k msg (s.get F.TIME_HO_STAT_SEQ k) h s).1 = true) ∧
    (∃ (s : State) (k : Fin 2) (msg seq : Nat) (h : HoPeer), s.flag F.TIME_HO_CTRL_EN k = true ∧ portUp s k = true ∧ hoState s k = 1 ∧ (msg = 1 ∨ msg = 4) ∧ (hoVerify k msg seq h s).1 = true) ∧
    (∃ (s : State) (k : Fin 2) (msg seq : Nat) (h : HoPeer), s.flag F.TIME_HO_CTRL_EN k = true ∧ portUp s k = true ∧ (hoVerify k msg seq h s).1 = false) ∧
    (∃ (s : State) (k : Fin 2), (s.flag F.TIME_HO_CTRL_EN k = false ∨ portUp s k = false)) ∧
    (∃ (s : State) (k : Fin 2) (init : Init) (v : Word), Admitted init (R.TIME_HO_CTRL.addr k) s ∧ timeMay s init = true ∧ s.bootLocked = true ∧ s.flag F.TIME_HO_CTRL_EN k = true ∧ hoState s k = 7 ∧ portUp s k = true ∧ bitOf v.toNat 30 = false ∧ bitOf v.toNat 29 = true) ∧
    (∃ (s : State) (k : Fin 2) (init : Init) (v : Word), Admitted init (R.TIME_HO_CTRL.addr k) s ∧ timeMay s init = true ∧ s.bootLocked = true ∧ s.flag F.TIME_HO_CTRL_EN k = true ∧ hoState s k = 7 ∧ portUp s k = true ∧ bitOf v.toNat 30 = false ∧ bitOf v.toNat 29 = false ∧ bitOf v.toNat 28 = true) ∧
    (∃ (s : State) (k : Fin 2) (init : Init) (v : Word), Admitted init (R.TIME_HO_CTRL.addr k) s ∧ timeMay s init = true ∧ s.bootLocked = true ∧ s.flag F.TIME_HO_CTRL_EN k = true ∧ hoState s k = 0 ∧ bitOf v.toNat 30 = true) :=
  ⟨⟨up, 0x30, by unfold Admitted; decide +kernel, by decide +kernel⟩,
   ⟨foreign, 0x10, by unfold Admitted; decide +kernel, by decide +kernel⟩,
   ⟨up, 0x30, by unfold Admitted; decide +kernel, by decide +kernel⟩,
   ⟨up, by decide +kernel⟩,
   ⟨(shutAt 0x30 [4] false up), by decide +kernel⟩,
   ⟨up, 0x30, 0x80000000, by unfold Admitted; decide +kernel, by decide +kernel⟩,
   ⟨(up.put F.TIME_STAT_STATE 0 syncSynced), 0x30, 0x40000000, by unfold Admitted; decide +kernel, by decide +kernel⟩,
   ⟨up, 0x30, 0, by unfold Admitted; decide +kernel, by decide +kernel⟩,
   ⟨((up.put F.TIME_CTRL_SYNC_TMO 0 1).put F.TIME_STAT_STATE 0 syncSynced), by decide +kernel⟩,
   ⟨(up.put F.TIME_CTRL_SYNC_TMO 0 0), by decide +kernel⟩,
   ⟨(up.put F.TIME_HO_STAT_STATE 0 1), 0, by decide +kernel⟩,
   ⟨(up.put F.TIME_HO_STAT_STATE 0 0), 1, by decide +kernel⟩,
   ⟨((up.put F.TIME_HO_CTRL_EN 0 1).put F.SW_PORT_STAT_LINK_UP 0 1), 0, 65535, ⟨0, none, []⟩, by decide +kernel⟩,
   ⟨(((up.put F.TIME_HO_CTRL_EN 0 1).put F.SW_PORT_STAT_LINK_UP 0 1).put F.TIME_HO_STAT_STATE 0 1), 0, 2, ⟨0, none, []⟩, by decide +kernel⟩,
   ⟨(((up.put F.TIME_HO_CTRL_EN 0 1).put F.SW_PORT_STAT_LINK_UP 0 1).put F.TIME_HO_STAT_STATE 0 1), 0, 1, 0, ⟨0, none, []⟩, by decide +kernel⟩,
   ⟨((((up.put F.TIME_HO_CTRL_EN 0 1).put F.SW_PORT_STAT_LINK_UP 0 1).put F.EP_MSEC_CTRL_EN 0 1).put F.EP_MSEC_CTRL_VALIDATE 0 2), 0, 1, 0, ⟨0, none, []⟩, by decide +kernel⟩,
   ⟨(up.put F.TIME_HO_CTRL_EN 0 0), 0, by decide +kernel⟩,
   ⟨((((up.put F.BSEC_LOCK_BOOT 0 1).put F.TIME_HO_CTRL_EN 0 1).put F.SW_PORT_STAT_LINK_UP 0 1).put F.TIME_HO_STAT_STATE 0 7), 0, 0x30, 0x20000000, by unfold Admitted; decide +kernel, by decide +kernel⟩,
   ⟨((((up.put F.BSEC_LOCK_BOOT 0 1).put F.TIME_HO_CTRL_EN 0 1).put F.SW_PORT_STAT_LINK_UP 0 1).put F.TIME_HO_STAT_STATE 0 7), 0, 0x30, 0x10000000, by unfold Admitted; decide +kernel, by decide +kernel⟩,
   ⟨(((up.put F.BSEC_LOCK_BOOT 0 1).put F.TIME_HO_CTRL_EN 0 1).put F.TIME_HO_STAT_STATE 0 0), 0, 0x30, 0x40000000, by unfold Admitted; decide +kernel, by decide +kernel⟩⟩

theorem witness_CanNodesComplete :
    (∃ (s : State) (n : Fin 16) (init : Init) (v : Word), Admitted init (R.CAN_CTRL.addr n) s ∧ s.bootLocked = true ∧ (n.val < 8 ∨ s.get F.CAN_CTRL_XL_TMS n = 0) ∧ s.flag F.DICT_STAT_READY 0 = true ∧ bitOf v.toNat 31 = true ∧ canState s n = canDisabled ∧ canCfgOk s n = true) ∧
    (∃ (s : State) (n : Fin 16) (init : Init) (v : Word), Admitted init (R.CAN_CTRL.addr n) s ∧ s.bootLocked = true ∧ (n.val < 8 ∨ s.get F.CAN_CTRL_XL_TMS n = 0) ∧ s.flag F.DICT_STAT_READY 0 = true ∧ bitOf v.toNat 31 = true ∧ canState s n = canDisabled ∧ canCfgOk s n = false) ∧
    (∃ (s : State) (n : Fin 16) (init : Init) (v : Word), Admitted init (R.CAN_CTRL.addr n) s ∧ (s.flag F.DICT_STAT_READY 0 = false ∨ bitOf v.toNat 31 = false)) ∧
    (∃ (s : State) (n : Fin 16), canState s n = canIntegrating ∧ busGated s = false) ∧
    (∃ (s : State) (n : Fin 16), (canState s n ≠ canIntegrating ∨ busGated s = true)) ∧
    (∃ (s : State) (n : Fin 16), canState s n = canRecovering ∧ busGated s = false) ∧
    (∃ (s : State) (n : Fin 16), (canState s n ≠ canRecovering ∨ busGated s = true)) ∧
    (∃ (s : State) (n : Fin 16) (init : Init) (v : Word), Admitted init (R.CAN_CMD.addr n) s ∧ bitOf v.toNat 31 = true ∧ canState s n = canBusOff) ∧
    (∃ (s : State) (n : Fin 16) (init : Init) (v : Word), Admitted init (R.CAN_CMD.addr n) s ∧ (canState s n ≠ canBusOff ∨ bitOf v.toNat 31 = false)) ∧
    (∃ (s : State) (n : Fin 16), canState s n = canLinkHold ∧ linkUp s = false) ∧
    (∃ (s : State) (n : Fin 16) (x : CanFrame), canHears s n = true ∧ canAdmits s n x.w0 = true) ∧
    (∃ (s : State) (n : Fin 16) (e : CanErr), canRuns s n = true ∧ (e ≠ .xlData ∨ s.flag F.CAN_CTRL_XL_TMS n = false)) ∧
    (∃ (s : State) (n : Fin 16), canRuns s n = true ∧ s.flag F.CAN_CTRL_XL_TMS n = true) ∧
    (∃ (s : State) (n : Fin 16), canHears s n = false ∧ (canState s n ≠ canLinkHold ∨ linkUp s = true)) ∧
    (∃ (s : State) (n : Fin 16), canRuns s n = false) ∧
    (∃ (s : State) (n : Fin 16) (init : Init), Admitted init (R.CAN_TRX_CTRL.addr n) s) ∧
    (∃ (s : State) (n : Fin 16), trxAsleep s n = true ∧ s.flag F.CAN_TRX_CTRL_WAKE_MODE n = false ∧ bitOf (s.get F.GONG_CFG_CAN_MASK 0) n = false) ∧
    (∃ (s : State) (n : Fin 16), (trxAsleep s n = false ∨ s.flag F.CAN_TRX_CTRL_WAKE_MODE n = true)) ∧
    (∃ (s : State) (n : Fin 16), s.get F.CAN_TRX_STAT_MODE_ACT n = 3 ∧ s.get F.CAN_TRX_STAT_WAKE_CAUSE n ≠ 0) ∧
    (∃ (s : State) (n : Fin 16), (s.get F.CAN_TRX_STAT_MODE_ACT n ≠ 3 ∨ s.get F.CAN_TRX_STAT_WAKE_CAUSE n = 0)) ∧
    (∃ (s : State) (n : Fin 16), s.get F.CAN_TRX_STAT_MODE_ACT n = 1 ∧ s.flag F.CAN_TRX_STAT_TRX_FAULT n = false) ∧
    (∃ (s : State) (n : Fin 16), (s.get F.CAN_TRX_STAT_MODE_ACT n ≠ 1 ∨ s.flag F.CAN_TRX_STAT_TRX_FAULT n = true)) :=
  ⟨⟨((up.put F.BSEC_LOCK_BOOT 0 1).put F.CAN_STAT_STATE 0 canDisabled), 0, 0x30, 0x80000000, by unfold Admitted; decide +kernel, by decide +kernel⟩,
   ⟨((up.put F.BSEC_LOCK_BOOT 0 1).put F.CAN_CTRL_XL_TMS 0 1), 0, 0x30, 0x80000000, by unfold Admitted; decide +kernel, by decide +kernel⟩,
   ⟨up, 8, 0x30, 0, by unfold Admitted; decide +kernel, by decide +kernel⟩,
   ⟨(up.put F.CAN_STAT_STATE 0 canIntegrating), 0, by decide +kernel⟩,
   ⟨(up.put F.CAN_STAT_STATE 0 canDisabled), 0, by decide +kernel⟩,
   ⟨(up.put F.CAN_STAT_STATE 0 canRecovering), 0, by decide +kernel⟩,
   ⟨(up.put F.CAN_STAT_STATE 0 canDisabled), 0, by decide +kernel⟩,
   ⟨(up.put F.CAN_STAT_STATE 0 canBusOff), 0, 0x30, 0x80000000, by unfold Admitted; decide +kernel, by decide +kernel⟩,
   ⟨(up.put F.CAN_STAT_STATE 0 canActive), 0, 0x30, 0, by unfold Admitted; decide +kernel, by decide +kernel⟩,
   ⟨((up.put F.CAN_STAT_STATE 0 canLinkHold).put F.SPINE_STAT_STATE 0 0), 0, by decide +kernel⟩,
   ⟨((up.put F.CAN_STAT_STATE 0 canActive).put F.CAN_TRX_STAT_MODE_ACT 0 1), 0, ⟨0, 0, 0, []⟩, by decide +kernel⟩,
   ⟨(up.put F.CAN_STAT_STATE 0 canPassive), 0, .by1, by decide +kernel⟩,
   ⟨((up.put F.CAN_STAT_STATE 0 canActive).put F.CAN_CTRL_XL_TMS 0 1), 0, by decide +kernel⟩,
   ⟨up, 0, by decide +kernel⟩,
   ⟨up, 0, by decide +kernel⟩,
   ⟨up, 15, 0x30, by unfold Admitted; decide +kernel⟩,
   ⟨(((up.put F.CAN_TRX_STAT_MODE_ACT 0 4).put F.CAN_TRX_CTRL_WAKE_MODE 0 0).put F.GONG_CFG_CAN_MASK 0 0), 0, by decide +kernel⟩,
   ⟨(up.put F.CAN_TRX_STAT_MODE_ACT 0 0), 0, by decide +kernel⟩,
   ⟨((up.put F.CAN_TRX_STAT_MODE_ACT 0 3).put F.CAN_TRX_STAT_WAKE_CAUSE 0 1), 0, by decide +kernel⟩,
   ⟨(up.put F.CAN_TRX_STAT_MODE_ACT 0 0), 0, by decide +kernel⟩,
   ⟨((up.put F.CAN_TRX_STAT_MODE_ACT 0 1).put F.CAN_TRX_STAT_TRX_FAULT 0 0), 0, by decide +kernel⟩,
   ⟨(up.put F.CAN_TRX_STAT_MODE_ACT 0 0), 0, by decide +kernel⟩⟩

theorem witness_CanSlotsComplete :
    (∃ (s : State) (n : Fin 16) (sl : Fin 8) (init : Init) (v : Word), Admitted init (R.CAN_TXSUB.addr (8 * n + sl)) s ∧ slotMay s n sl init = true ∧ slotOn s n sl = true ∧ bitOf (canSlot s n sl).used (getBits v 5 0) = false) ∧
    (∃ (s : State) (n : Fin 16) (sl : Fin 8) (init : Init) (v : Word), Admitted init (R.CAN_TXSUB.addr (8 * n + sl)) s ∧ slotMay s n sl init = true ∧ slotOn s n sl = true ∧ bitOf (canSlot s n sl).used (getBits v 5 0) = true) ∧
    (∃ (s : State) (n : Fin 16) (w : CanTx) (d : List Nat), canRuns s n = true ∧ linkUp s = true ∧ canDrives s n = true ∧ canTxNow s n = none ∧ canWinner (canSt s n).sub = some w ∧ w.slot ≠ 8 ∧ (canRead n w.slot (s.get F.CAN_TXBASE_BASE (8 * n + w.slot) + canStride s n w.slot * w.entry + 16) (bitsOf w.w2 11 0) s).1 = some d) ∧
    (∃ (s : State) (n : Fin 16), (canRuns s n = false ∨ linkUp s = false ∨ canDrives s n = false ∨
    canTxNow s n ≠ none ∨ (canSt s n).sub = [])) ∧
    (∃ (s : State) (n : Fin 16) (x : CanTx), canTxNow s n = some x ∧ busGated s = false ∧ x.abort = false ∧ (x.slot = 8 ∨ x.att < s.get F.CAN_SLOT_CFG_RETRY_LIMIT (8 * n + x.slot))) ∧
    (∃ (s : State) (n : Fin 16) (x : CanTx), canTxNow s n = some x ∧ busGated s = false ∧ x.slot ≠ 8 ∧ (s.get F.CAN_SLOT_CFG_RETRY_LIMIT (8 * n + x.slot) ≤ x.att ∨ x.abort = true)) ∧
    (∃ (s : State) (n : Fin 16), canTxNow s n = none) ∧
    (∃ (s : State) (n : Fin 16), canDrives s n = false) ∧
    (∃ (s : State) (n : Fin 16) (x : CanTx), canTxNow s n = some x ∧ canDrives s n = true) ∧
    (∃ (s : State) (n : Fin 16) (sl : Fin 8) (init : Init), Admitted init (R.CAN_TXABORT.addr (8 * n + sl)) s ∧ slotMay s n sl init = true) ∧
    (∃ (s : State) (n : Fin 16) (sl : Fin 8) (init : Init), Admitted init (R.CAN_RXAI.addr (8 * n + sl)) s ∧ slotMay s n sl init = true) ∧
    (∃ (s : State) (n : Fin 16) (sl : Fin 8) (init : Init), Admitted init (R.CAN_CQAI.addr (8 * n + sl)) s ∧ slotMay s n sl init = true) ∧
    (∃ (s : State) (n : Fin 16) (sl : Fin 8) (init : Init) (v : Word), Admitted init (R.CAN_SLOT_CFG.addr (8 * n + sl)) s ∧ bitOf v.toNat 31 = false) ∧
    (∃ (s : State) (n : Fin 16) (sl : Fin 8) (init : Init) (v : Word), Admitted init (R.CAN_SLOT_CFG.addr (8 * n + sl)) s ∧ bitOf v.toNat 31 = true ∧ slotOn s n sl = false) :=
  ⟨⟨(up.put F.CAN_SLOT_CFG_EN 127 1), 15, 7, 0x30, 63, by unfold Admitted; decide +kernel, by decide +kernel⟩,
   ⟨{ (up.put F.CAN_SLOT_CFG_EN 0 1) with bus := { up.bus with slot := [(0, { CanSlot.init with used := 1 })] } }, 0, 0, 0x30, 0, by unfold Admitted; decide +kernel, by decide +kernel⟩,
   ⟨canQueued false, 0, oneTx false, [], by decide +kernel⟩,
   ⟨up, 0, by decide +kernel⟩,
   ⟨canQueued true, 0, oneTx true, by decide +kernel⟩,
   ⟨((canQueued true).put F.CAN_SLOT_CFG_RETRY_LIMIT 0 0), 0, oneTx true, by decide +kernel⟩,
   ⟨up, 0, by decide +kernel⟩,
   ⟨up, 0, by decide +kernel⟩,
   ⟨canQueued true, 0, oneTx true, by decide +kernel⟩,
   ⟨up, 0, 0, 0x30, by unfold Admitted; decide +kernel, by decide +kernel⟩,
   ⟨(up.put F.CAN_RXWI_FULL 0 0), 0, 0, 0x30, by unfold Admitted; decide +kernel, by decide +kernel⟩,
   ⟨(up.put F.CAN_CQWI_FULL 0 0), 0, 0, 0x30, by unfold Admitted; decide +kernel, by decide +kernel⟩,
   ⟨up, 0, 0, 0x30, 0, by unfold Admitted; decide +kernel, by decide +kernel⟩,
   ⟨(up.put F.CAN_SLOT_CFG_EN 0 0), 0, 0, 0x30, 0x80000000, by unfold Admitted; decide +kernel, by decide +kernel⟩⟩

theorem witness_LinComplete :
    (∃ (s : State) (l : Fin 12), linRuns s l = true ∧ (linSt s l).left = 0 ∧ s.flag F.LIN_CTRL_SLEEP_TX l = true ∧ (linSt s l).bus = none) ∧
    (∃ (s : State) (l : Fin 12), linTablaSleeps s l = true) ∧
    (∃ (s : State) (l : Fin 12) (e : Nat), linRuns s l = true ∧ (linSt s l).left = 0 ∧ s.flag F.LIN_CTRL_SLEEP_TX l = false ∧ (linSt s l).bus = none ∧ s.get F.LIN_TBL_LEN (4 * l + (linPlace (s.get F.LIN_CTRL_SCHED_SEL l) (linSt s l)).tbl) ≠ 0 ∧ e = (s.get F.LIN_TBL_START (4 * l + (linPlace (s.get F.LIN_CTRL_SCHED_SEL l) (linSt s l)).tbl) +
      (linPlace (s.get F.LIN_CTRL_SCHED_SEL l) (linSt s l)).pos) % 256 ∧ s.get F.LIN_SCHED_TYPE (256 * l + e) < 2) ∧
    (∃ (s : State) (l : Fin 12) (b : LinBus), linRuns s l = true ∧ (linSt s l).left = 0 ∧ (linSt s l).bus = some b ∧ s.get F.LIN_TBL_LEN (4 * l + (linPlace (s.get F.LIN_CTRL_SCHED_SEL l) (linSt s l)).tbl) ≠ 0) ∧
    (∃ (s : State) (l : Fin 12), linTablaSleeps s l = false ∧ (linRuns s l = false ∨ (linSt s l).left ≠ 0)) ∧
    (∃ (s : State) (l : Fin 12) (b : LinBus), (linSt s l).bus = some b ∧ busGated s = false ∧ b.publish = true) ∧
    (∃ (s : State) (l : Fin 12) (b : LinBus) (octets : List Nat), (linSt s l).bus = some b ∧ busGated s = false ∧ b.publish = false ∧ b.event = none ∧ s.get F.LIN_FRAME_CFG_DIR (64 * l + b.id) = 2 ∧ (octets.length < linLen s l b.id + 1 ∨
      octets.getD (linLen s l b.id) 0 ≠ linChecksum s l b.id (octets.take (linLen s l b.id)))) ∧
    (∃ (s : State) (l : Fin 12) (b : LinBus) (octets : List Nat), (linSt s l).bus = some b ∧ busGated s = false ∧ b.publish = false ∧ s.get F.LIN_FRAME_CFG_DIR (64 * l + b.id) = 2 ∧ linLen s l b.id + 1 ≤ octets.length ∧ octets.getD (linLen s l b.id) 0 = linChecksum s l b.id (octets.take (linLen s l b.id))) ∧
    (∃ (s : State) (l : Fin 12), ((linSt s l).bus = none ∨ busGated s = true)) ∧
    (∃ (s : State) (l : Fin 12) (init : Init) (v : Word), Admitted init (R.LIN_CTRL.addr l) s ∧ linCommander s l = true ∧ bitOf v.toNat 28 = true ∧ bitOf v.toNat 27 = false) ∧
    (∃ (s : State) (l : Fin 12) (init : Init) (v : Word), Admitted init (R.LIN_CTRL.addr l) s ∧ bitOf v.toNat 27 = true) ∧
    (∃ (s : State) (l : Fin 12), (linSt s l).gap = true) ∧
    (∃ (s : State) (l : Fin 12), linState s l = linSleep ∧ s.pm.phase ≠ 2) ∧
    (∃ (s : State) (l : Fin 12), (linState s l ≠ linSleep ∨ s.pm.phase = 2)) ∧
    (∃ (s : State) (l : Fin 12), s.get F.LIN_CFG_MODE l ≠ 0) ∧
    (∃ (s : State) (l : Fin 12), s.get F.LIN_CFG_MODE l = 0) ∧
    (∃ (s : State) (l : Fin 12) (id : Fin 64) (init : Init), Admitted init (R.LIN_FRAME_DATA_HI.addr (64 * l + id)) s) ∧
    (∃ (s : State) (l : Fin 12) (id : Fin 64) (init : Init), judgeReq s init (R.LIN_FRAME_DATA_LO.addr (64 * l + id)) 4 = respOkay) :=
  ⟨⟨(linReady.put F.LIN_CTRL_SLEEP_TX 0 1), 0, by decide +kernel⟩,
   ⟨((((up.put F.LIN_CFG_MODE 0 1).put F.LIN_CFG_SCHED_SRC 0 1).put F.LIN_CTRL_SLEEP_TX 0 1).put F.LIN_STAT_STATE 0 1), 0, by decide +kernel⟩,
   ⟨((((linReady.put F.LIN_CTRL_SLEEP_TX 0 0).put F.LIN_TBL_LEN 0 1).put F.LIN_TBL_START 0 255).put F.LIN_SCHED_TYPE 255 0), 0, 255, by decide +kernel⟩,
   ⟨linBusy ⟨0, true, [], none, 0⟩ (linReady.put F.LIN_TBL_LEN 0 1), 0, ⟨0, true, [], none, 0⟩, by decide +kernel⟩,
   ⟨up, 0, by decide +kernel⟩,
   ⟨linBusy ⟨0, true, [], none, 0⟩ up, 0, ⟨0, true, [], none, 0⟩, by decide +kernel⟩,
   ⟨linBusy ⟨63, false, [], none, 0⟩ (up.put F.LIN_FRAME_CFG_DIR 63 2), 0, ⟨63, false, [], none, 0⟩, [], by decide +kernel⟩,
   ⟨linBusy ⟨63, false, [], none, 0⟩ ((up.put F.LIN_FRAME_CFG_DIR 63 2).put F.LIN_FRAME_CFG_LEN 63 1), 0, ⟨63, false, [], none, 0⟩, [0, 64], by decide +kernel⟩,
   ⟨up, 0, by decide +kernel⟩,
   ⟨(up.put F.LIN_CFG_MODE 0 1), 0, 0x30, 0x10000000, by unfold Admitted; decide +kernel, by decide +kernel⟩,
   ⟨up, 0, 0x30, 0x08000000, by unfold Admitted; decide +kernel, by decide +kernel⟩,
   ⟨{ up with bus := { up.bus with lin := [(0, { LinSt.init with gap := true })] } }, 0, by decide +kernel⟩,
   ⟨(up.put F.LIN_STAT_STATE 0 linSleep), 0, by decide +kernel⟩,
   ⟨linReady, 0, by decide +kernel⟩,
   ⟨(up.put F.LIN_CFG_MODE 0 2), 0, by decide +kernel⟩,
   ⟨up, 0, by decide +kernel⟩,
   ⟨up, 11, 63, 0x30, by unfold Admitted; decide +kernel⟩,
   ⟨up, 0, 0, 0x30, by decide +kernel⟩⟩

theorem witness_ModeRequestsComplete :
    (∃ (s : State) (init : Init) (v : Word), Admitted init (R.PM_REQ.addr 0) s ∧ pmMay s init = true ∧ v.getLsbD 31 = true ∧ s.flag F.PM_STAT_PENDING 0 = false ∧ getBits v 2 0 = modeRun ∧ (pmMode s = modeDoze ∨ pmMode s = modeSleep)) ∧
    (∃ (s : State) (init : Init) (v : Word), Admitted init (R.PM_REQ.addr 0) s ∧ pmMay s init = true ∧ v.getLsbD 31 = true ∧ s.flag F.PM_STAT_PENDING 0 = false ∧ getBits v 2 0 = modeRun ∧ pmMode s = modeRun) ∧
    (∃ (s : State) (init : Init) (v : Word), Admitted init (R.PM_REQ.addr 0) s ∧ pmMay s init = true ∧ v.getLsbD 31 = true ∧ s.flag F.PM_STAT_PENDING 0 = false ∧ getBits v 2 0 = modeDoze) ∧
    (∃ (s : State) (init : Init) (v : Word) (fl : Bool), Admitted init (R.PM_REQ.addr 0) s ∧ pmMay s init = true ∧ v.getLsbD 31 = true ∧ s.flag F.PM_STAT_PENDING 0 = false ∧ getBits v 2 0 = modeSleep ∧ (pmMode s = modeRun ∨ pmMode s = modeDoze) ∧ sleepRefused s false fl = none) ∧
    (∃ (s : State) (init : Init) (v : Word) (fl : Bool), Admitted init (R.PM_REQ.addr 0) s ∧ pmMay s init = true ∧ v.getLsbD 31 = true ∧ s.flag F.PM_STAT_PENDING 0 = false ∧ getBits v 2 0 = modeDeep ∧ pmMode s ≤ modeSleep ∧ sleepRefused s true fl = none) ∧
    (∃ (s : State) (init : Init) (v : Word) (fl : Bool), ∃ r, Admitted init (R.PM_REQ.addr 0) s ∧ pmMay s init = true ∧ v.getLsbD 31 = true ∧ s.flag F.PM_STAT_PENDING 0 = false ∧ getBits v 2 0 = modeSleep ∧ (pmMode s = modeRun ∨ pmMode s = modeDoze) ∧ sleepRefused s false fl = some r ∧ r < 16) ∧
    (∃ (s : State) (init : Init) (v : Word) (fl : Bool), ∃ r, Admitted init (R.PM_REQ.addr 0) s ∧ pmMay s init = true ∧ v.getLsbD 31 = true ∧ s.flag F.PM_STAT_PENDING 0 = false ∧ getBits v 2 0 = modeDeep ∧ pmMode s ≤ modeSleep ∧ sleepRefused s true fl = some r ∧ r < 16) ∧
    (∃ (s : State) (init : Init) (v : Word), Admitted init (R.PM_REQ.addr 0) s ∧ pmMay s init = true ∧ v.getLsbD 31 = true ∧ s.flag F.PM_STAT_PENDING 0 = false ∧ getBits v 2 0 = modeSleep ∧ modeSleep ≤ pmMode s) ∧
    (∃ (s : State) (init : Init) (v : Word), Admitted init (R.PM_REQ.addr 0) s ∧ pmMay s init = true ∧ v.getLsbD 31 = true ∧ s.flag F.PM_STAT_PENDING 0 = true ∧ getBits v 2 0 = modeRun) ∧
    (∃ (s : State) (init : Init) (v : Word), Admitted init (R.PM_REQ.addr 0) s ∧ pmMay s init = true ∧ v.getLsbD 31 = true ∧ s.flag F.PM_STAT_PENDING 0 = true ∧ getBits v 2 0 = modeDoze) ∧
    (∃ (s : State) (init : Init) (v : Word), Admitted init (R.PM_REQ.addr 0) s ∧ pmMay s init = true ∧ v.getLsbD 31 = true ∧ s.flag F.PM_STAT_PENDING 0 = true ∧ getBits v 2 0 = modeSleep) ∧
    (∃ (s : State) (init : Init) (v : Word), Admitted init (R.PM_REQ.addr 0) s ∧ pmMay s init = true ∧ v.getLsbD 31 = true ∧ s.flag F.PM_STAT_PENDING 0 = true ∧ getBits v 2 0 = modeDeep) :=
  ⟨⟨(up.put F.PM_STAT_MODE 0 1), 0x30, 0x80000000, by unfold Admitted; decide +kernel, by decide +kernel⟩,
   ⟨(up.put F.PM_STAT_MODE 0 0), 0x30, 0x80000000, by unfold Admitted; decide +kernel, by decide +kernel⟩,
   ⟨up, 0x30, 0x80000001, by unfold Admitted; decide +kernel, by decide +kernel⟩,
   ⟨(up.put F.PM_STAT_MODE 0 0), 0x30, 0x80000002, false, by unfold Admitted; decide +kernel, by decide +kernel⟩,
   ⟨(up.put F.PM_STAT_MODE 0 2), 0x30, 0x80000003, false, by unfold Admitted; decide +kernel, by decide +kernel⟩,
   ⟨(up.put F.PM_STAT_MODE 0 0), 0x30, 0x80000002, true, 6, by unfold Admitted; decide +kernel, by decide +kernel⟩,
   ⟨up, 0x30, 0x80000003, true, 6, by unfold Admitted; decide +kernel, by decide +kernel⟩,
   ⟨(up.put F.PM_STAT_MODE 0 2), 0x30, 0x80000002, by unfold Admitted; decide +kernel, by decide +kernel⟩,
   ⟨(up.put F.PM_STAT_PENDING 0 1), 0x30, 0x80000000, by unfold Admitted; decide +kernel, by decide +kernel⟩,
   ⟨(up.put F.PM_STAT_PENDING 0 1), 0x30, 0x80000001, by unfold Admitted; decide +kernel, by decide +kernel⟩,
   ⟨(up.put F.PM_STAT_PENDING 0 1), 0x30, 0x80000002, by unfold Admitted; decide +kernel, by decide +kernel⟩,
   ⟨(up.put F.PM_STAT_PENDING 0 1), 0x30, 0x80000003, by unfold Admitted; decide +kernel, by decide +kernel⟩⟩

theorem witness_ModeEventsComplete :
    (∃ (s : State), dozePending s = true) ∧
    (∃ (s : State), dozePending s = false) ∧
    (∃ (s : State), dozePending s = true) ∧
    (∃ (s : State), pmMode s = modeDoze ∧ s.pm.phase ≠ 2) ∧
    (∃ (s : State) (b : Fin 17) (init : Init), Admitted init (R.PM_GATE.addr b) s ∧ pmMay s init = true) ∧
    (∃ (s : State), s.pm.phase = 1) ∧
    (∃ (s : State), s.pm.phase ≠ 1) ∧
    (∃ (s : State), s.pm.phase = 2 ∧ s.flag F.KN_STAT_HALT 0 = false ∧ s.boot.again = true) ∧
    (∃ (s : State), s.pm.phase = 2 ∧ s.flag F.KN_STAT_HALT 0 = false ∧ s.boot.again = false ∧ pmMode s = modeDeep ∧ s.pm.caused = true) ∧
    (∃ (s : State), (s.pm.phase ≠ 2 ∨ s.flag F.KN_STAT_HALT 0 = true)) ∧
    (∃ (s : State), s.pm.bootWait = true ∧ s.boot.romWait = false) ∧
    (∃ (s : State), (s.pm.bootWait = false ∨ s.boot.romWait = true)) :=
  ⟨⟨((up.put F.PM_STAT_PENDING 0 1).put F.PM_STAT_MODE 0 0), by decide +kernel⟩,
   ⟨(up.put F.PM_STAT_PENDING 0 0), by decide +kernel⟩,
   ⟨((up.put F.PM_STAT_PENDING 0 1).put F.PM_STAT_MODE 0 0), by decide +kernel⟩,
   ⟨(up.put F.PM_STAT_MODE 0 1), by decide +kernel⟩,
   ⟨up, 16, 0x30, by unfold Admitted; decide +kernel, by decide +kernel⟩,
   ⟨inPm (fun p => { p with phase := 1 }) up, by decide +kernel⟩,
   ⟨up, by decide +kernel⟩,
   ⟨{ State.reset with boot := { State.reset.boot with again := true } }, by decide +kernel⟩,
   ⟨inPm (fun p => { p with phase := 2, caused := true }) (up.put F.PM_STAT_MODE 0 3), by decide +kernel⟩,
   ⟨up, by decide +kernel⟩,
   ⟨inPm (fun p => { p with bootWait := true }) up, by decide +kernel⟩,
   ⟨up, by decide +kernel⟩⟩

theorem witness_WakesComplete :
    (∃ (s : State), s.pm.phase = 2 ∧ pmMode s = modeDeep) ∧
    (∃ (s : State), s.pm.phase = 2 ∧ pmMode s = modeDeep ∧ s.flag F.KN_STAT_HALT 0 = false ∧ wakeEnabled s 5 0 = true ∧ s.pm.caused = false) ∧
    (∃ (s : State), (wakeEnabled s 5 0 = false ∨ s.flag F.KN_STAT_HALT 0 = true ∨ (pmMode s ≠ modeSleep ∧ pmMode s ≠ modeDeep ∧
    ¬ (pmMode s = modeRun ∧ 2 ≤ s.boot.step ∧ s.boot.step < 9)))) ∧
    (∃ (s : State), wakeEnabled s 5 0 = true ∧ s.flag F.KN_STAT_HALT 0 = false ∧ pmMode s = modeRun ∧ 2 ≤ s.boot.step ∧ s.boot.step < 9) ∧
    (∃ (s : State) (ch : Fin 72), s.pm.phase = 2 ∧ pmMode s = modeDeep ∧ ch.val ∈ s.pm.kept) ∧
    (∃ (s : State) (ch : Fin 72), (s.pm.phase ≠ 2 ∨ pmMode s ≠ modeDeep ∨ ch.val ∉ s.pm.kept)) ∧
    (∃ (s : State) (i cfg th : Nat), (pmMode s = modeSleep ∨ pmMode s = modeDeep) ∧ s.pm.mfiWake.find? (fun e => e.1 == i) = some (i, cfg, th) ∧ bitsOf cfg 12 11 = 0 ∧ tget 0 s.pm.mfiRun i < bitsOf s.pm.mfiPoll 28 27) ∧
    (∃ (s : State) (i raw cfg th : Nat), s.pm.phase = 2 ∧ pmMode s = modeDeep ∧ s.flag F.KN_STAT_HALT 0 = false ∧ wakeEnabled s 2 i = true ∧ s.pm.caused = false ∧ i < 128 ∧ s.pm.mfiWake.find? (fun e => e.1 == i) = some (i, cfg, th) ∧ bitsOf cfg 12 11 = 0 ∧ bitsOf s.pm.mfiPoll 28 27 ≤ tget 0 s.pm.mfiRun i ∧ hysteresis th (mfiSt s i).samp raw ≠ tget false s.pm.mfiLatch i) ∧
    (∃ (s : State), pmMode s ≠ modeSleep ∧ pmMode s ≠ modeDeep) ∧
    (∃ (s : State), s.flag F.CLK_STAT_QUAL 0 = true) ∧
    (∃ (s : State), s.flag F.CLK_STAT_QUAL 0 = false) ∧
    (∃ (s : State) (init : Init) (v : Word), Admitted init (R.GONG_CTRL.addr 0) s ∧ pmMay s init = true ∧ v.getLsbD 30 = true) ∧
    (∃ (s : State) (init : Init) (v : Word), Admitted init (R.GONG_CTRL.addr 0) s ∧ pmMay s init = true ∧ v.getLsbD 31 = true) ∧
    (∃ (s : State), s.pm.lockout = true) ∧
    (∃ (s : State), s.pm.lockout = false) ∧
    (∃ (s : State), s.pm.fw = 1) ∧
    (∃ (s : State), s.pm.fw ≠ 1) ∧
    (∃ (s : State), s.pm.fw = 2 ∧ s.flag F.PM_STAT_PENDING 0 = false ∧ s.pm.wokeFrom ≠ modeDeep) ∧
    (∃ (s : State), s.pm.fw = 2 ∧ s.flag F.PM_STAT_PENDING 0 = false ∧ s.pm.wokeFrom = modeDeep) ∧
    (∃ (s : State), s.pm.fw ≠ 2) :=
  ⟨⟨inPm (fun p => { p with phase := 2 }) (up.put F.PM_STAT_MODE 0 3), by decide +kernel⟩,
   ⟨inPm (fun p => { p with phase := 2 }) ((up.put F.PM_STAT_MODE 0 3).put F.GONG_WAKE_EN_TIMER 0 1), by decide +kernel⟩,
   ⟨up, by decide +kernel⟩,
   ⟨((stepIs 5).put F.GONG_WAKE_EN_TIMER 0 1), by decide +kernel⟩,
   ⟨inPm (fun p => { p with phase := 2, kept := [71] }) (up.put F.PM_STAT_MODE 0 3), 71, by decide +kernel⟩,
   ⟨up, 0, by decide +kernel⟩,
   ⟨inPm (fun p => { p with mfiWake := [(0, 0, 0)], mfiPoll := 2 ^ 27 }) (up.put F.PM_STAT_MODE 0 2), 0, 0, 0, by decide +kernel⟩,
   ⟨inPm (fun p => { p with mfiWake := [(0, 0, 0)], phase := 2 }) ((up.put F.PM_STAT_MODE 0 3).put F.GONG_WAKE_EN_MFI 0 1), 0, 100, 0, 0, by decide +kernel⟩,
   ⟨(up.put F.PM_STAT_MODE 0 0), by decide +kernel⟩,
   ⟨(up.put F.CLK_STAT_QUAL 0 1), by decide +kernel⟩,
   ⟨up, by decide +kernel⟩,
   ⟨up, 0x30, 0x40000000, by unfold Admitted; decide +kernel, by decide +kernel⟩,
   ⟨up, 0x30, 0x80000000, by unfold Admitted; decide +kernel, by decide +kernel⟩,
   ⟨inPm (fun p => { p with lockout := true }) up, by decide +kernel⟩,
   ⟨up, by decide +kernel⟩,
   ⟨inPm (fun p => { p with fw := 1 }) up, by decide +kernel⟩,
   ⟨up, by decide +kernel⟩,
   ⟨inPm (fun p => { p with fw := 2, wokeFrom := 2 }) up, by decide +kernel⟩,
   ⟨inPm (fun p => { p with fw := 2, wokeFrom := modeDeep }) up, by decide +kernel⟩,
   ⟨up, by decide +kernel⟩⟩

theorem witness_TriosAndClaimsComplete :
    (∃ (s : State) (t : Fin 2) (who : Fin 4), carState s t = carTmr ∧ who.val < 3) ∧
    (∃ (s : State) (t : Fin 2) (who : Fin 4), ((carState s t = carTmr ∧ who.val = 3) ∨ carState s t = carDuplex ∨ carState s t = carLbist ∨ carState s t = carDegraded ∨
      carState s t = carResync)) ∧
    (∃ (s : State) (t : Fin 2), (carState s t = carSplit ∨ carState s t = carHeld ∨ carState s t = carFailed)) ∧
    (∃ (s : State) (t : Fin 2), carState s t = carDuplex) ∧
    (∃ (s : State) (t : Fin 2), carState s t = carResync) ∧
    (∃ (s : State) (t : Fin 2), carState s t = carLbist) ∧
    (∃ (s : State) (t : Fin 2), carState s t = carLbist) ∧
    (∃ (s : State) (t : Fin 2), carState s t ≠ carSplit ∧ carState s t ≠ carHeld ∧ carState s t ≠ carFailed) ∧
    (∃ (e : TcmErr), e ≠ .corrected) ∧
    (∃ (s : State) (t x : Fin 2) (init : Init), initSilent s init = false ∧ s.pm.phase ≠ 2 ∧ judgeReq s init (R.CAR_IC_CLAIM.addr (2 * t + x)) 4 = respOkay ∧ carMay s t init = true ∧ ctxLive s t x = true) ∧
    (∃ (s : State) (init : Init), (initSilent s init = true ∨ s.pm.phase = 2)) ∧
    (∃ (s : State) (t x : Fin 2) (init : Init), initSilent s init = false ∧ s.pm.phase ≠ 2 ∧ judgeReq s init (R.CAR_IC_CLAIM.addr (2 * t + x)) 4 ≠ respOkay) ∧
    (∃ (s : State) (t x : Fin 2) (init : Init), judgeReq s init (R.CAR_IC_CLAIM.addr (2 * t + x)) 4 = respOkay ∧ (carMay s t init = false ∨ ctxLive s t x = false)) ∧
    (∃ (s : State) (t x : Fin 2) (init : Init), Admitted init (R.CAR_IC_CLAIM.addr (2 * t + x)) s ∧ carMay s t init = true ∧ ctxLive s t x = true) :=
  ⟨⟨(up.put F.CAR_STAT_STATE 1 carTmr), 1, 2, by decide +kernel⟩,
   ⟨(up.put F.CAR_STAT_STATE 0 carTmr), 0, 3, by decide +kernel⟩,
   ⟨(up.put F.CAR_STAT_STATE 0 carHeld), 0, by decide +kernel⟩,
   ⟨(up.put F.CAR_STAT_STATE 0 carDuplex), 0, by decide +kernel⟩,
   ⟨(up.put F.CAR_STAT_STATE 0 carResync), 0, by decide +kernel⟩,
   ⟨(up.put F.CAR_STAT_STATE 0 carLbist), 0, by decide +kernel⟩,
   ⟨(up.put F.CAR_STAT_STATE 0 carLbist), 0, by decide +kernel⟩,
   ⟨(up.put F.CAR_STAT_STATE 0 carTmr), 0, by decide +kernel⟩,
   ⟨.load, by decide +kernel⟩,
   ⟨(up.put F.CAR_STAT_STATE 0 carTmr), 0, 0, 0x10, by decide +kernel⟩,
   ⟨State.reset, 0x30, by decide +kernel⟩,
   ⟨(shutAt 0x40 [4] false up), 0, 0, 0x30, by decide +kernel⟩,
   ⟨up, 0, 1, 0x30, by decide +kernel⟩,
   ⟨(up.put F.CAR_STAT_STATE 0 carTmr), 0, 0, 0x10, by unfold Admitted; decide +kernel, by decide +kernel⟩⟩

theorem witness_AclusterComplete :
    (∃ (s : State) (h : Fin 8) (p : Priv), hartRuns s h = true ∧ reachesHS p = true) ∧
    (∃ (s : State) (h : Fin 8) (p : Priv), hartRuns s h = true ∧ reachesHS p = false) ∧
    (∃ (s : State) (h : Fin 8) (p : Priv), hartRuns s h = true ∧ reachesHS p = false) ∧
    (∃ (s : State) (h : Fin 8) (p : Priv), hartRuns s h = true ∧ reachesHS p = true) ∧
    (∃ (s : State) (h : Fin 8), hartRuns s h = false) ∧
    (∃ (s : State), (s.boot.started = false ∨ s.get F.PM_STAT_MODE 0 = 2 ∨ s.pm.phase = 2)) ∧
    (∃ (s : State), clusterOn s) ∧
    (∃ (s : State), clusterOn s) ∧
    (∃ (s : State), clusterOn s) ∧
    (∃ (s : State) (init : Init) (a f : Nat) (v : Word), Admitted init a s ∧ (init < 8 ∨ init = 0x34) ∧ imsicFile a = some f ∧ a % 0x1000 = 0 ∧ 1 ≤ v.toNat ∧ v.toNat ≤ 255) ∧
    (∃ (s : State) (did iova : Nat) (acc : WalkAcc) (ecc : List Nat) (e : WalkErr), iommuXlate s ecc did iova acc = .error e ∧ e.flag ≠ 0 ∧ floorLog2 e.flag < 3 ∧ s.flag F.IOMMU_VX_LOGWI_FULL 0 = false) ∧
    (∃ (s : State) (did iova : Nat) (acc : WalkAcc) (ecc : List Nat) (r : Nat × Bool), iommuXlate s ecc did iova acc = .ok r) ∧
    (∃ (s : State) (init : Init) (v : Word), Admitted init (R.IOMMU_VX_LOGAI.addr 0) s ∧ (v.toNat % 32 + 32 - s.get F.IOMMU_VX_LOGAI_AI 0) % 32 ≠ 0 ∧ (v.toNat % 32 + 32 - s.get F.IOMMU_VX_LOGAI_AI 0) % 32 ≤ vxOwned s) :=
  ⟨⟨up, 7, .hs, by decide +kernel⟩,
   ⟨up, 0, .u, by decide +kernel⟩,
   ⟨up, 0, .vs, by decide +kernel⟩,
   ⟨up, 0, .m, by decide +kernel⟩,
   ⟨stepIs 9, 0, by decide +kernel⟩,
   ⟨stepIs 9, by decide +kernel⟩,
   ⟨up, by unfold clusterOn; decide +kernel⟩,
   ⟨up, by unfold clusterOn; decide +kernel⟩,
   ⟨up, by unfold clusterOn; decide +kernel⟩,
   ⟨up, 0, 0x18000000, 8, 255, by unfold Admitted; decide +kernel, by decide +kernel⟩,
   ⟨withDdtp 2, 0, 0, .read, [0], ⟨257, 4, 0, 0, 0⟩, by rfl, by decide +kernel⟩,
   ⟨withDdtp 1, 0, 5, .read, [], (5, false), by rfl⟩,
   ⟨((up.put F.IOMMU_VX_LOGWI_WI 0 31).put F.IOMMU_VX_LOGAI_AI 0 0), 0x30, 31, by unfold Admitted; decide +kernel, by decide +kernel⟩⟩

theorem witness_ManagerCommandsAnswered :
    (∃ (s : State) (m : Fin 4) (init : Init) (v : Word) (n : Nat), Admitted init (R.MGR_CMD.addr m) s ∧ mgrMay s m init = true ∧ n = getBits v 9 0 ∧ s.flag F.VEMGR_VEASSIGN_VALID n = true ∧ veMgr s n = m ∧ veState s n = veUnassigned ∧ typeOk (bitsOf (s.get F.MGR_ARG_ARG (3 * m)) 7 0) (bitsOf (s.get F.MGR_ARG_ARG (3 * m)) 15 8) = true) ∧
    (∃ (s : State) (m : Fin 4) (init : Init) (v : Word) (n : Nat), Admitted init (R.MGR_CMD.addr m) s ∧ mgrMay s m init = true ∧ n = getBits v 9 0 ∧ s.flag F.VEMGR_VEASSIGN_VALID n = true ∧ veMgr s n = m ∧ veState s n ≠ veUnassigned) ∧
    (∃ (s : State) (m : Fin 4) (init : Init) (v : Word) (n : Nat), Admitted init (R.MGR_CMD.addr m) s ∧ mgrMay s m init = true ∧ n = getBits v 9 0 ∧ s.flag F.VEMGR_VEASSIGN_VALID n = true ∧ veMgr s n = m ∧ (veState s n = veAssigned ∨ veState s n = veQuiesced) ∧ bindOk s n = true) ∧
    (∃ (s : State) (m : Fin 4) (init : Init) (v : Word) (n : Nat), Admitted init (R.MGR_CMD.addr m) s ∧ mgrMay s m init = true ∧ n = getBits v 9 0 ∧ s.flag F.VEMGR_VEASSIGN_VALID n = true ∧ veMgr s n = m ∧ (veState s n = veAssigned ∨ veState s n = veQuiesced) ∧ bindOk s n = false) ∧
    (∃ (s : State) (m : Fin 4) (init : Init) (v : Word) (n : Nat), Admitted init (R.MGR_CMD.addr m) s ∧ mgrMay s m init = true ∧ n = getBits v 9 0 ∧ s.flag F.VEMGR_VEASSIGN_VALID n = true ∧ veMgr s n = m ∧ veState s n = veActive ∧ (veSt s n).busy = none) ∧
    (∃ (s : State) (m : Fin 4) (init : Init) (v : Word) (n : Nat), Admitted init (R.MGR_CMD.addr m) s ∧ mgrMay s m init = true ∧ n = getBits v 9 0 ∧ s.flag F.VEMGR_VEASSIGN_VALID n = true ∧ veMgr s n = m ∧ veState s n = veQuiesced) ∧
    (∃ (s : State) (m : Fin 4) (init : Init) (v : Word) (n : Nat), Admitted init (R.MGR_CMD.addr m) s ∧ mgrMay s m init = true ∧ n = getBits v 9 0 ∧ s.flag F.VEMGR_VEASSIGN_VALID n = true ∧ veMgr s n = m ∧ veState s n = veFrozen) ∧
    (∃ (s : State) (m : Fin 4) (init : Init) (v : Word) (n : Nat), Admitted init (R.MGR_CMD.addr m) s ∧ mgrMay s m init = true ∧ n = getBits v 9 0 ∧ s.flag F.VEMGR_VEASSIGN_VALID n = true ∧ veMgr s n = m ∧ veState s n = veFrozen ∧ (veSt s n).busy = none) ∧
    (∃ (s : State) (m : Fin 4) (init : Init) (v : Word) (n : Nat), Admitted init (R.MGR_CMD.addr m) s ∧ mgrMay s m init = true ∧ n = getBits v 9 0 ∧ s.flag F.VEMGR_VEASSIGN_VALID n = true ∧ veMgr s n = m ∧ veState s n = veAssigned ∧ (veSt s n).busy = none) ∧
    (∃ (s : State) (m : Fin 4) (init : Init) (v : Word) (n : Nat), Admitted init (R.MGR_CMD.addr m) s ∧ mgrMay s m init = true ∧ n = getBits v 9 0 ∧ s.flag F.VEMGR_VEASSIGN_VALID n = true ∧ veMgr s n = m ∧ (veState s n = veAssigned ∨ veState s n = veQuiesced ∨ veState s n = veFrozen) ∧ (veSt s n).busy = none) ∧
    (∃ (s : State) (m : Fin 4) (init : Init) (v : Word) (n : Nat), Admitted init (R.MGR_CMD.addr m) s ∧ mgrMay s m init = true ∧ n = getBits v 9 0 ∧ s.flag F.VEMGR_VEASSIGN_VALID n = true ∧ veMgr s n = m ∧ (veState s n = veAssigned ∨ veState s n = veQuiesced ∨ veState s n = veFrozen)) ∧
    (∃ (s : State) (m : Fin 4) (init : Init) (v : Word), ∃ c : Instr, c ∈ ([.assign m init v, .activate m init v, .quiesce m init v, .freeze m init v, .thaw m init v, .save m init v,
      .restore m init v, .veReset m init v, .unassign m init v] : List Instr) ∧ Admitted init (R.MGR_CMD.addr m) s ∧ mgrMay s m init = true ∧ (s.flag F.VEMGR_VEASSIGN_VALID (getBits v 9 0) = false ∨ veMgr s (getBits v 9 0) ≠ m)) ∧
    (∃ (s : State) (m : Fin 4) (init : Init) (v : Word), ∃ c : Instr, c ∈ ([.veReset m init v, .unassign m init v] : List Instr) ∧ Admitted init (R.MGR_CMD.addr m) s ∧ mgrMay s m init = true ∧ s.flag F.VEMGR_VEASSIGN_VALID (getBits v 9 0) = true ∧ veMgr s (getBits v 9 0) = m ∧ (veState s (getBits v 9 0) = veActive ∨ veState s (getBits v 9 0) = veQuiescing)) ∧
    (∃ (s : State) (m : Fin 4) (init : Init) (v : Word), ∃ c : Instr, c ∈ ([.quiesce m init v, .save m init v, .restore m init v] : List Instr) ∧ Admitted init (R.MGR_CMD.addr m) s ∧ mgrMay s m init = true ∧ s.flag F.VEMGR_VEASSIGN_VALID (getBits v 9 0) = true ∧ veMgr s (getBits v 9 0) = m ∧ (veSt s (getBits v 9 0)).busy.isSome = true) ∧
    (∃ (s : State) (m : Fin 4) (init : Init) (v : Word), ∃ c : Instr, c ∈ ([.assign m init v, .activate m init v, .quiesce m init v, .freeze m init v, .thaw m init v, .save m init v,
      .restore m init v, .veReset m init v, .unassign m init v] : List Instr) ∧ Admitted init (R.MGR_CMD.addr m) s ∧ mgrMay s m init = false) :=
  ⟨⟨((veIn veUnassigned 0).put F.MGR_ARG_ARG 0 1), 0, 0x30, 0, 0, by unfold Admitted; decide +kernel, by decide +kernel⟩,
   ⟨veIn veActive 1, 0, 0x30, 0, 0, by unfold Admitted; decide +kernel, by decide +kernel⟩,
   ⟨veIn veAssigned 7, 0, 0x30, 0, 0, by unfold Admitted; decide +kernel, by decide +kernel⟩,
   ⟨veIn veAssigned 0, 0, 0x30, 0, 0, by unfold Admitted; decide +kernel, by decide +kernel⟩,
   ⟨veIn veActive 1, 0, 0x30, 0, 0, by unfold Admitted; decide +kernel, by decide +kernel⟩,
   ⟨veIn veQuiesced 1, 0, 0x30, 0, 0, by unfold Admitted; decide +kernel, by decide +kernel⟩,
   ⟨veIn veFrozen 1, 0, 0x30, 0, 0, by unfold Admitted; decide +kernel, by decide +kernel⟩,
   ⟨veIn veFrozen 1, 0, 0x30, 0, 0, by unfold Admitted; decide +kernel, by decide +kernel⟩,
   ⟨veIn veAssigned 1, 0, 0x30, 0, 0, by unfold Admitted; decide +kernel, by decide +kernel⟩,
   ⟨veIn veFrozen 1, 0, 0x30, 0, 0, by unfold Admitted; decide +kernel, by decide +kernel⟩,
   ⟨veIn veQuiesced 1, 0, 0x30, 0, 0, by unfold Admitted; decide +kernel, by decide +kernel⟩,
   ⟨up, 0, 0x30, 1023, .assign 0 0x30 1023, by simp, by unfold Admitted; decide +kernel, by decide +kernel⟩,
   ⟨veIn veActive 1, 0, 0x30, 0, .veReset 0 0x30 0, by simp, by unfold Admitted; decide +kernel, by decide +kernel⟩,
   ⟨veBusyIs 5 (veIn veAssigned 1), 0, 0x30, 0, .quiesce 0 0x30 0, by simp, by unfold Admitted; decide +kernel, by decide +kernel⟩,
   ⟨(foreign.put F.VEMGR_MGRCFG_VALID 0 1), 0, 0x10, 0, .thaw 0 0x10 0, by simp, by unfold Admitted; decide +kernel, by decide +kernel⟩⟩

theorem witness_EndpointEventsComplete :
    (∃ (s : State) (n : Fin 1024), veClocked s = true ∧ veState s n = veQuiescing ∧ veWork s n = false ∧ (veSt s n).wait = []) ∧
    (∃ (s : State) (n : Fin 1024), (veClocked s = false ∨ veState s n ≠ veQuiescing ∨ veWork s n = true ∨ (veSt s n).wait ≠ [])) ∧
    (∃ (s : State) (n : Fin 1024), veClocked s = true ∧ veState s n = veQuiescing ∧ (veWork s n = false ∨ drainEnds s n = false)) ∧
    (∃ (s : State), veClocked s = false) ∧
    (∃ (s : State) (n : Fin 1024), veClocked s = true ∧ (veState s n ≠ veQuiescing ∨ (veWork s n = true ∧ drainEnds s n = true))) ∧
    (∃ (s : State) (n : Fin 1024), veClocked s = true ∧ (veSt s n).busy = some 5 ∧ rngState s = rngReady) ∧
    (∃ (s : State) (n : Fin 1024), (veClocked s = false ∨ (veSt s n).busy ≠ some 5 ∨ rngState s ≠ rngReady)) ∧
    (∃ (s : State) (n : Fin 1024), veClocked s = true ∧ (veSt s n).busy = some 6 ∧ veState s n = veAssigned) ∧
    (∃ (s : State) (n : Fin 1024), veClocked s = true ∧ (veSt s n).busy = some 6 ∧ veState s n ≠ veAssigned) ∧
    (∃ (s : State) (n : Fin 1024), (veClocked s = false ∨ (veSt s n).busy ≠ some 6)) ∧
    (∃ (s : State) (n : Fin 1024), veClocked s = true ∧ veState s n = veResetting) ∧
    (∃ (s : State) (n : Fin 1024), (veClocked s = false ∨ veState s n ≠ veResetting)) :=
  ⟨⟨veIn veQuiescing 1, 0, by decide +kernel⟩,
   ⟨up, 1023, by decide +kernel⟩,
   ⟨veIn veQuiescing 1, 0, by decide +kernel⟩,
   ⟨inPm (fun p => { p with phase := 2 }) up, by decide +kernel⟩,
   ⟨up, 0, by decide +kernel⟩,
   ⟨veBusyIs 5 (up.put F.BRNG_STAT_STATE 0 rngReady), 0, by decide +kernel⟩,
   ⟨up, 0, by decide +kernel⟩,
   ⟨veBusyIs 6 (veIn veAssigned 1), 0, by decide +kernel⟩,
   ⟨veBusyIs 6 (veIn veActive 1), 0, by decide +kernel⟩,
   ⟨up, 0, by decide +kernel⟩,
   ⟨veIn veResetting 1, 0, by decide +kernel⟩,
   ⟨up, 0, by decide +kernel⟩⟩

theorem witness_EndpointPagesComplete :
    (∃ (s : State) (n : Fin 1024) (init : Init), Admitted init (R.ETH_TX_TAIL.addr n) s ∧ isUser s n init = true ∧ veType s n = tyEth ∧ ringOk s n = true) ∧
    (∃ (s : State) (n : Fin 1024) (init : Init), Admitted init (R.ETH_TXC_AI.addr n) s ∧ isUser s n init = true ∧ veType s n = tyEth ∧ ringOk s n = true) ∧
    (∃ (s : State) (n : Fin 1024) (init : Init), Admitted init (R.MBX_UP_AI.addr n) s ∧ isMgr s n init = true ∧ commonOk s n = true) ∧
    (∃ (s : State) (n : Fin 1024) (init : Init), Admitted init (R.ETH_TX_TAIL.addr n) s ∧ isUser s n init = true ∧ veType s n = tyEth ∧ ringOk s n = false) ∧
    (∃ (s : State) (n : Fin 1024) (k : Fin 8) (init : Init), Admitted init (R.VEC_CTRL.addr (8 * n + k)) s ∧ (isUser s n init = true ∨ isMgr s n init = true) ∧ commonOk s n = true) ∧
    (∃ (s : State) (p : Fin 3), (veClocked s = false ∨ tget [] s.sw.rxq (20 + p.val) = [])) ∧
    (∃ (s : State) (p : Fin 3) (x : SwRx) (l : List SwRx), veClocked s = true ∧ tget [] s.sw.rxq (20 + p.val) = x :: l) ∧
    (∃ (s u : State) (p : Fin 3) (x : SwRx) (n : Nat), veClocked s = true ∧ rxTake (20 + p.val) s = some (x, u) ∧ (ethVes s (20 + p.val)).filter (fun n => ethTakes s n (beAt x.octets 0 6) (rxVid s p x)) = [n] ∧ veState s n = veActive ∧ tunParse x.octets = none) ∧
    (∃ (s : State) (n : Fin 1024) (ds : List (List Nat)) (u : State), veClocked s = true ∧ veType s n = tyEth ∧ veState s n = veActive ∧ (s.get F.ETH_TX_TAIL_TAIL n + 65536 - s.get F.ETH_TX_HEAD_HEAD n) % 65536 ≠ 0 ∧ txcRoom s n = true ∧ portReady s (vePort s n) = true ∧ txDescs n (s.get F.ETH_TX_HEAD_HEAD n) true ((s.get F.ETH_TX_TAIL_TAIL n + 65536 - s.get F.ETH_TX_HEAD_HEAD n) % 65536) s =
      (ds, 0, u)) ∧
    (∃ (s : State) (n : Fin 1024), (veClocked s = false ∨ veType s n ≠ tyEth ∨
    veState s n ≠ veActive ∨ s.get F.ETH_TX_TAIL_TAIL n % 65536 = s.get F.ETH_TX_HEAD_HEAD n % 65536 ∨ txcRoom s n = false ∨ portReady s (vePort s n) = false)) ∧
    (∃ (s : State) (n : Fin 1024) (init : Init) (v : Word), Admitted init (R.PWG_KICK.addr n) s ∧ veType s n = tyPwg ∧ isUser s n init = true ∧ veState s n = veActive ∧ bitOf v.toNat 0 = true) :=
  ⟨⟨veIn veActive 1, 0, 0x30, by unfold Admitted; decide +kernel, by decide +kernel⟩,
   ⟨veIn veQuiesced 1, 0, 0x30, by unfold Admitted; decide +kernel, by decide +kernel⟩,
   ⟨veIn veAssigned 1, 0, 0x30, by unfold Admitted; decide +kernel, by decide +kernel⟩,
   ⟨veIn veAssigned 1, 0, 0x30, by unfold Admitted; decide +kernel, by decide +kernel⟩,
   ⟨veIn veAssigned 1, 0, 7, 0x30, by unfold Admitted; decide +kernel, by decide +kernel⟩,
   ⟨up, 2, by decide +kernel⟩,
   ⟨{ up with sw := { up.sw with rxq := [(20, [⟨[], 0, 20, 0, 0, 0, false, []⟩])] } }, 0, ⟨[], 0, 20, 0, 0, 0, false, []⟩, [], by decide +kernel⟩,
   ⟨(arrived 20 bcastFrame ((veIn veActive tyEth).put F.ETH_BIND_BCAST 0 1)), rxNext 20 (arrived 20 bcastFrame ((veIn veActive tyEth).put F.ETH_BIND_BCAST 0 1)), 0, bcastFrame, 0, by decide +kernel, rx_next (by decide +kernel), by decide +kernel⟩,
   ⟨txReady, 0, _, _, by decide +kernel, by decide +kernel, by decide +kernel, by decide +kernel, by decide +kernel, by decide +kernel, split_triple (by decide +kernel)⟩,
   ⟨up, 0, by decide +kernel⟩,
   ⟨veIn veActive tyPwg, 0, 0x30, 1, by unfold Admitted; decide +kernel, by decide +kernel⟩⟩

theorem witness_BelfryCommandsComplete :
    (∃ (s : State) (c : Fin 16) (init : Init) (v : Word), ∃ q, Admitted init (R.BMBX_CTRL.addr c) s ∧ mbxMay s c init = true ∧ getBits v 31 31 = 1 ∧ s.flag F.BMBX_STAT_BUSY c = false ∧ s.bel.rung = [] ∧ (callReq (.mbx c) s).1 = some q ∧ belFuncs.contains (reqFunc q) = true) ∧
    (∃ (s : State) (c : Fin 16) (init : Init) (v : Word), ∃ q, Admitted init (R.BMBX_CTRL.addr c) s ∧ mbxMay s c init = true ∧ getBits v 31 31 = 1 ∧ s.flag F.BMBX_STAT_BUSY c = false ∧ s.bel.rung = [] ∧ (callReq (.mbx c) s).1 = some q ∧ belFuncs.contains (reqFunc q) = false ∧ c.val ∉ s.bel.aborted ∧ belRuns s = true) ∧
    (∃ (s : State), (rngState s = rngStartup ∨ rngState s = rngRestart) ∧ s.pm.phase ≠ 2) ∧
    (∃ (s : State), ((rngState s ≠ rngStartup ∧ rngState s ≠ rngRestart) ∨ s.pm.phase = 2)) ∧
    (∃ (s : State), rngState s = rngReady) ∧
    (∃ (s : State) (c : Fin 16) (d : List Nat), rngState s = rngReady ∧ Called s c 0x10 d ∧ d.length = 2 ∧ 0 < leNat d ∧ leNat d ≤ 60) ∧
    (∃ (s : State), rngState s ≠ rngReady) ∧
    (∃ (s : State), Admitted 0x30 (R.BWDG_KICK.addr 0) s) ∧
    (∃ (s : State), s.pm.phase ≠ 2) ∧
    (∃ (s : State), s.pm.phase = 2) ∧
    (∃ (s : State) (init : Init) (v : Word), Admitted init (R.BDBG_CTRL.addr 0) s ∧ dbgMay init = true ∧ v.getLsbD 31 = true ∧ s.boot.romWait = false) ∧
    (∃ (s : State) (init : Init) (v : Word), Admitted init (R.BDBG_CTRL.addr 0) s ∧ dbgMay init = true ∧ v.getLsbD 31 = true ∧ s.boot.romWait = true ∧ getBits v 29 16 = 0 ∧ bunHead (dbgBuf s) = true ∧ bunFits (dbgBuf s) = true) ∧
    (∃ (s : State) (init : Init) (v : Word), Admitted init (R.BDBG_CTRL.addr 0) s ∧ dbgMay init = true ∧ v.getLsbD 31 = true ∧ s.boot.romWait = true ∧ getBits v 29 16 ≠ 0 ∧ getBits v 29 16 ≠ s.bel.bundleNext) ∧
    (∃ (s : State) (init : Init), Admitted init (R.BDBG_CTRL.addr 0) s ∧ dbgMay init = true) ∧
    (∃ (s : State), s.bel.scan = 1) ∧
    (∃ (s : State), s.bel.scan ≠ 1) :=
  ⟨⟨calling 0 0x01 [] false, 0, 0x30, 0x80000000, callOctets 0x01 [], by unfold Admitted; decide +kernel, by decide +kernel⟩,
   ⟨calling 15 0x7F [] false, 15, 0x30, 0x80000000, callOctets 0x7F [], by unfold Admitted; decide +kernel, by decide +kernel⟩,
   ⟨(up.put F.BRNG_STAT_STATE 0 rngStartup), by decide +kernel⟩,
   ⟨(up.put F.BRNG_STAT_STATE 0 rngReady), by decide +kernel⟩,
   ⟨(up.put F.BRNG_STAT_STATE 0 rngReady), by decide +kernel⟩,
   ⟨((calling 0 0x10 [1, 0] true).put F.BRNG_STAT_STATE 0 rngReady), 0, [1, 0], by decide +kernel, called_of (callOctets 0x10 ([1, 0])) (by decide +kernel) (by decide +kernel) (by decide +kernel), by decide +kernel⟩,
   ⟨(up.put F.BRNG_STAT_STATE 0 rngRestart), by decide +kernel⟩,
   ⟨up, by unfold Admitted; decide +kernel⟩,
   ⟨up, by decide +kernel⟩,
   ⟨State.reset, by decide +kernel⟩,
   ⟨up, 0x30, 0x80000000, by unfold Admitted; decide +kernel, by decide +kernel⟩,
   ⟨romWaiting, 0x30, 0x80000000, by unfold Admitted; decide +kernel, by decide +kernel⟩,
   ⟨{ up with boot := { up.boot with romWait := true } }, 0x30, 0x80010000, by unfold Admitted; decide +kernel, by decide +kernel⟩,
   ⟨up, jtagInit, by unfold Admitted; decide +kernel, by decide +kernel⟩,
   ⟨inBel (fun b => { b with scan := 1 }) up, by decide +kernel⟩,
   ⟨up, by decide +kernel⟩⟩

theorem witness_KeyCallsComplete :
    (∃ (s : State) (c : Fin 16), Called s c 0x01 []) ∧
    (∃ (s : State) (c : Fin 16) (d : List Nat), Called s c 0x10 d ∧ d.length = 2 ∧ 0 < leNat d ∧ leNat d ≤ 60 ∧ rngStatus s = 0) ∧
    (∃ (s : State) (c : Fin 16) (d : List Nat), Called s c 0x10 d ∧ d.length = 2 ∧ 0 < leNat d ∧ leNat d ≤ 60 ∧ rngStatus s ≠ 0) ∧
    (∃ (s : State) (c : Fin 16) (h : Nat), Called s c 0x20 [h] ∧ h < 63 ∧ (keySlot s h).kind ≠ 0 ∧ bitOf (keySlot s h).mask (callPart s (.mbx c)) = true) ∧
    (∃ (s : State) (c : Fin 16) (d : List Nat) (h : Nat), Called s c 0x21 d ∧ d.length = 4 ∧ d.getD 0 0 ≠ 0 ∧ d.getD 0 0 ≤ 7 ∧ rngStatus s = 0 ∧ freeSlot s = some h) ∧
    (∃ (s : State) (c : Fin 16) (d : List Nat), Called s c 0x22 d ∧ d.length = 10 ∧ mayUse s (.mbx c) (d.getD 0 0) 8 [1, 2, 3, 7] = 0 ∧ bufOk s (.mbx c) (bufDesc d 1) = true) ∧
    (∃ (s : State) (c : Fin 16) (h : Nat), Called s c 0x23 [h] ∧ h < 63 ∧ (keySlot s h).kind ≠ 0 ∧ bitOf (keySlot s h).mask (callPart s (.mbx c)) = true) ∧
    (∃ (s : State) (c : Fin 16) (d : List Nat), Called s c 0x36 d ∧ d.length = 20 ∧ mayUse s (.mbx c) (d.getD 0 0) 4 [1, 2] = 0 ∧ d.getD 19 0 < 63 ∧ (keySlot s (d.getD 19 0)).kind = 0 ∧ bufOk s (.mbx c) (bufDesc d 1) = true ∧ bufOk s (.mbx c) (bufDesc d 10) = true) :=
  ⟨⟨calling 15 0x01 [] true, 15, called_of (callOctets 0x01 []) (by decide +kernel) (by decide +kernel) (by decide +kernel)⟩,
   ⟨((calling 0 0x10 [60, 0] true).put F.BRNG_STAT_STATE 0 rngReady), 0, [60, 0], called_of (callOctets 0x10 ([60, 0])) (by decide +kernel) (by decide +kernel) (by decide +kernel), by decide +kernel⟩,
   ⟨((calling 0 0x10 [1, 0] true).put F.BRNG_STAT_STATE 0 rngRestart), 0, [1, 0], called_of (callOctets 0x10 ([1, 0])) (by decide +kernel) (by decide +kernel) (by decide +kernel), by decide +kernel⟩,
   ⟨keyed 62 2 1 (calling 0 0x20 [62] true), 0, 62, called_of (callOctets 0x20 [62]) (by decide +kernel) (by decide +kernel) (by decide +kernel), by decide +kernel⟩,
   ⟨((calling 0 0x21 [7, 0, 0, 0] true).put F.BRNG_STAT_STATE 0 rngReady), 0, [7, 0, 0, 0], 0, called_of (callOctets 0x21 ([7, 0, 0, 0])) (by decide +kernel) (by decide +kernel) (by decide +kernel), by decide +kernel⟩,
   ⟨keyed 62 1 256 (calling 0 0x22 ([62] ++ buf 32) true), 0, [62] ++ buf 32, called_of (callOctets 0x22 ([62] ++ buf 32)) (by decide +kernel) (by decide +kernel) (by decide +kernel), by decide +kernel⟩,
   ⟨keyed 62 2 1 (calling 0 0x23 [62] true), 0, 62, called_of (callOctets 0x23 [62]) (by decide +kernel) (by decide +kernel) (by decide +kernel), by decide +kernel⟩,
   ⟨keyed 62 1 16 (calling 0 0x36 ([62] ++ buf 32 ++ buf 32 ++ [0]) true), 0, [62] ++ buf 32 ++ buf 32 ++ [0], called_of (callOctets 0x36 ([62] ++ buf 32 ++ buf 32 ++ [0])) (by decide +kernel) (by decide +kernel) (by decide +kernel), by decide +kernel⟩⟩

theorem witness_CryptoCallsComplete :
    (∃ (s : State) (c : Fin 16) (d : List Nat), Called s c 0x30 d ∧ d.length = 37 ∧ mayUse s (.mbx c) (d.getD 0 0) 0 [1, 2] = 0 ∧ (∀ o ∈ [1, 10, 19], bufOk s (.mbx c) (bufDesc d o) = true) ∧ bufOut s (.mbx c) (bufDesc d 28) (bufDesc d 19).2 = true) ∧
    (∃ (s : State) (c : Fin 16) (d : List Nat), Called s c 0x31 d ∧ d.length = 53 ∧ mayUse s (.mbx c) (d.getD 0 0) 1 [1, 2] = 0 ∧ (∀ o ∈ [1, 10, 19], bufOk s (.mbx c) (bufDesc d o) = true) ∧ bufOut s (.mbx c) (bufDesc d 28) (bufDesc d 19).2 = true) ∧
    (∃ (s : State) (c : Fin 16) (d : List Nat), Called s c 0x32 d ∧ d.length = 10 ∧ mayUse s (.mbx c) (d.getD 0 0) 2 [1, 2] = 0 ∧ bufOk s (.mbx c) (bufDesc d 1) = true) ∧
    (∃ (s : State) (c : Fin 16) (d : List Nat), Called s c 0x33 d ∧ d.length = 9 ∧ bufOk s (.mbx c) (bufDesc d 0) = true) ∧
    (∃ (s : State) (c : Fin 16) (d : List Nat), Called s c 0x34 d ∧ d.length = 58 ∧ mayUse s (.mbx c) (d.getD 0 0) 3 [4] = 0 ∧ rngStatus s = 0 ∧ bufOut s (.mbx c) (bufDesc d 49) 96 = true) ∧
    (∃ (s : State) (c : Fin 16) (d : List Nat), Called s c 0x35 d ∧ d.length = 58 ∧ mayUse s (.mbx c) (d.getD 0 0) 3 [4] = 0 ∧ bufOk s (.mbx c) (bufDesc d 49) = true ∧ 96 ≤ (bufDesc d 49).2 ∧ d.getD 0 0 ≠ 0x3F) ∧
    (∃ (s : State) (c : Fin 16) (d : List Nat), Called s c 0x40 d ∧ d.length = 57 ∧ rngStatus s = 0 ∧ bufOut s (.mbx c) (bufDesc d 48) 96 = true) :=
  ⟨⟨keyed 62 1 1 (calling 0 0x30 ([62] ++ buf 12 ++ buf 0 ++ buf 16 ++ buf 16) true), 0, [62] ++ buf 12 ++ buf 0 ++ buf 16 ++ buf 16, called_of (callOctets 0x30 ([62] ++ buf 12 ++ buf 0 ++ buf 16 ++ buf 16)) (by decide +kernel) (by decide +kernel) (by decide +kernel), by decide +kernel⟩,
   ⟨keyed 62 1 2 (calling 0 0x31 ([62] ++ buf 12 ++ buf 0 ++ buf 16 ++ buf 16 ++ List.replicate 16 0) true), 0, [62] ++ buf 12 ++ buf 0 ++ buf 16 ++ buf 16 ++ List.replicate 16 0, called_of (callOctets 0x31 ([62] ++ buf 12 ++ buf 0 ++ buf 16 ++ buf 16 ++ List.replicate 16 0)) (by decide +kernel) (by decide +kernel) (by decide +kernel), by decide +kernel⟩,
   ⟨keyed 62 1 4 (calling 0 0x32 ([62] ++ buf 16) true), 0, [62] ++ buf 16, called_of (callOctets 0x32 ([62] ++ buf 16)) (by decide +kernel) (by decide +kernel) (by decide +kernel), by decide +kernel⟩,
   ⟨calling 0 0x33 (buf 16) true, 0, buf 16, called_of (callOctets 0x33 (buf 16)) (by decide +kernel) (by decide +kernel) (by decide +kernel), by decide +kernel⟩,
   ⟨((keyed 62 4 8 (calling 0 0x34 ([62] ++ List.replicate 48 0 ++ buf 96) true)).put F.BRNG_STAT_STATE 0 rngReady), 0, [62] ++ List.replicate 48 0 ++ buf 96, called_of (callOctets 0x34 ([62] ++ List.replicate 48 0 ++ buf 96)) (by decide +kernel) (by decide +kernel) (by decide +kernel), by decide +kernel⟩,
   ⟨keyed 62 4 8 (calling 0 0x35 ([62] ++ List.replicate 48 0 ++ buf 96) true), 0, [62] ++ List.replicate 48 0 ++ buf 96, called_of (callOctets 0x35 ([62] ++ List.replicate 48 0 ++ buf 96)) (by decide +kernel) (by decide +kernel) (by decide +kernel), by decide +kernel⟩,
   ⟨((calling 0 0x40 (List.replicate 48 0 ++ buf 96) true).put F.BRNG_STAT_STATE 0 rngReady), 0, List.replicate 48 0 ++ buf 96, called_of (callOctets 0x40 (List.replicate 48 0 ++ buf 96)) (by decide +kernel) (by decide +kernel) (by decide +kernel), by decide +kernel⟩⟩

theorem witness_LifecycleCallsComplete :
    (∃ (s : State) (c : Fin 16) (d : List Nat), Called s c 0x50 d ∧ d.length = 9 ∧ partSecure s (callPart s (.mbx c)) = false) ∧
    (∃ (s : State) (c : Fin 16) (d : List Nat), Called s c 0x50 d ∧ d.length = 9 ∧ partSecure s (callPart s (.mbx c)) = true ∧ bufOk s (.mbx c) (bufDesc d 0) = true) ∧
    (∃ (s : State) (c : Fin 16) (m : Nat), Called s c 0x51 [m]) ∧
    (∃ (s : State) (c : Fin 16) (d : List Nat), Called s c 0x60 d ∧ d.length = 10 ∧ d.getD 0 0 = lcProv ∧ lcState s = lcBlank ∧ s.bel.otp.lc = lcBlank ∧ partSecure s (callPart s (.mbx c)) = true ∧ rngState s = rngReady ∧ bufOk s (.mbx c) (bufDesc d 1) = true ∧ 48 ≤ (bufDesc d 1).2) ∧
    (∃ (s : State) (c : Fin 16) (d : List Nat), Called s c 0x60 d ∧ (d.length = 1 ∨ d.length = 10) ∧ (d.getD 0 0 ≠ lcProv ∨ lcState s ≠ lcBlank ∨ partSecure s (callPart s (.mbx c)) = false)) ∧
    (∃ (s : State) (c : Fin 16) (d : List Nat), d.length ≠ 0 ∧ Called s c 0x01 d) :=
  ⟨⟨assigned16 (calling 0 0x50 (buf 16) true), 0, buf 16, called_of (callOctets 0x50 (buf 16)) (by decide +kernel) (by decide +kernel) (by decide +kernel), by decide +kernel⟩,
   ⟨calling 0 0x50 (buf 16) true, 0, buf 16, called_of (callOctets 0x50 (buf 16)) (by decide +kernel) (by decide +kernel) (by decide +kernel), by decide +kernel⟩,
   ⟨calling 0 0x51 [1] true, 0, 1, called_of (callOctets 0x51 [1]) (by decide +kernel) (by decide +kernel) (by decide +kernel)⟩,
   ⟨((calling 0 0x60 ([lcProv] ++ buf 48) true).put F.BRNG_STAT_STATE 0 rngReady), 0, [lcProv] ++ buf 48, called_of (callOctets 0x60 ([lcProv] ++ buf 48)) (by decide +kernel) (by decide +kernel) (by decide +kernel), by decide +kernel⟩,
   ⟨calling 0 0x60 [0] true, 0, [0], called_of (callOctets 0x60 [0]) (by decide +kernel) (by decide +kernel) (by decide +kernel), by decide +kernel⟩,
   ⟨calling 0 0x01 [0] true, 0, [0], by decide +kernel, called_of (callOctets 0x01 [0]) (by decide +kernel) (by decide +kernel) (by decide +kernel)⟩⟩

theorem witness_TocsinWritesComplete :
    (∃ (s : State) (w : Fin 16) (init : Init), Admitted init (R.TOC_PEND.addr w) s) ∧
    (∃ (s : State) (init : Init), Admitted init (R.TOC_LOG_SEL.addr 0) s ∧ tocMayWrite s init = true) ∧
    (∃ (s : State) (init : Init) (v : Word), Admitted init (R.TOC_SWRAISE.addr 0) s ∧ 448 ≤ bitsOf v.toNat 8 0 ∧ partOf s init = asgOf s 13 (bitsOf v.toNat 8 0)) ∧
    (∃ (s : State) (init : Init) (v : Word), Admitted init (R.TOC_SWINT.addr 0) s ∧ partOf s init = asgOf s 13 (960 + bitsOf v.toNat 5 0)) ∧
    (∃ (s : State) (init : Init) (v : Word), Admitted init (R.TOC_ERRN.addr 0) s ∧ partOf s init = tocOwner s ∧ bitOf v.toNat 31 = true ∧ errnPending s = false) ∧
    (∃ (s : State) (init : Init) (v : Word), Admitted init (R.TOC_ERRN.addr 0) s ∧ partOf s init = tocOwner s ∧ (bitOf v.toNat 31 = false ∨ errnPending s = true)) :=
  ⟨⟨up, 15, 0x30, by unfold Admitted; decide +kernel⟩,
   ⟨up, 0x30, by unfold Admitted; decide +kernel, by decide +kernel⟩,
   ⟨up, 0x30, 448, by unfold Admitted; decide +kernel, by decide +kernel⟩,
   ⟨up, 0x30, 63, by unfold Admitted; decide +kernel, by decide +kernel⟩,
   ⟨up, 0x30, 0x80000000, by unfold Admitted; decide +kernel, by decide +kernel⟩,
   ⟨up, 0x30, 0, by unfold Admitted; decide +kernel, by decide +kernel⟩⟩

theorem witness_KnellComplete :
    (∃ (s : State) (g : Fin 8), s.kn.heartbeat = true ∧ linkUp s = true ∧ tocRequests s g = true ∧ s.get F.KN_GSTAT_STATE g = 0) ∧
    (∃ (s : State) (g : Fin 8), s.kn.heartbeat = true ∧ linkUp s = true ∧ tocRequests s g = false) ∧
    (∃ (s : State) (g : Fin 8), s.kn.heartbeat = true ∧ (pairSt s g).valid = false ∧ knHas s g knRail = false) ∧
    (∃ (s : State) (g : Fin 8), (s.kn.heartbeat = false ∨ (pairSt s g).valid = true ∨ knHas s g knRail = true)) ∧
    (∃ (s : State), s.kn.intended = false) ∧
    (∃ (s : State) (n : Nat), s.kn.intended = false ∧ (n < 570 ∨ 960 < n)) ∧
    (∃ (n : Nat), 570 ≤ n ∧ n ≤ 960) ∧
    (∃ (s : State), s.kn.intended = false) ∧
    (∃ (s : State), s.kn.hosc = true) ∧
    (∃ (s : State), s.kn.hosc = false) ∧
    (∃ (s : State), s.kn.intended = true) ∧
    (∃ (s : State), s.flag F.KN_STAT_HALT 0 = true ∧ s.pm.en = true) ∧
    (∃ (s : State), (s.flag F.KN_STAT_HALT 0 = false ∨ s.pm.en = false)) :=
  ⟨⟨((up.put F.TOC_SRC_REACT 0 4).put F.TOC_PEND_PEND 0 1), 7, by decide +kernel⟩,
   ⟨up, 0, by decide +kernel⟩,
   ⟨{ up with kn := { up.kn with pairs := [(0, ⟨true, true⟩)] } }, 0, by decide +kernel⟩,
   ⟨up, 0, by decide +kernel⟩,
   ⟨up, by decide +kernel⟩,
   ⟨up, 569, by decide +kernel⟩,
   ⟨570, by decide +kernel⟩,
   ⟨up, by decide +kernel⟩,
   ⟨up, by decide +kernel⟩,
   ⟨{ up with kn := { up.kn with hosc := false } }, by decide +kernel⟩,
   ⟨{ up with kn := { up.kn with intended := true } }, by decide +kernel⟩,
   ⟨inPm (fun p => { p with en := true }) (up.put F.KN_STAT_HALT 0 1), by decide +kernel⟩,
   ⟨up, by decide +kernel⟩⟩

theorem witness_WatchdogsComplete :
    (∃ (s : State) (w : Fin 16) (init : Init) (v : Word) (us : Nat), Admitted init (R.WDG_KICK.addr w) s ∧ partOf s init = w ∧ (wdgSt s w).on = true ∧ (wdgSt s w).paused = false ∧ us < wdgLimit s w ∧ ((wdgSt s w).first = true ∨ s.get F.WDG_WIN_OPEN w ≤ us) ∧ bitsOf v.toNat 7 0 = wdgToken s w) ∧
    (∃ (s : State) (w : Fin 16) (init : Init) (v : Word) (us : Nat), Admitted init (R.WDG_KICK.addr w) s ∧ partOf s init = w ∧ (wdgSt s w).on = true ∧ (wdgSt s w).paused = false ∧ us < wdgLimit s w ∧ ((wdgSt s w).first = true ∨ s.get F.WDG_WIN_OPEN w ≤ us) ∧ bitsOf v.toNat 7 0 ≠ wdgToken s w) ∧
    (∃ (s : State) (w : Fin 16) (init : Init) (us : Nat), Admitted init (R.WDG_KICK.addr w) s ∧ partOf s init = w ∧ (wdgSt s w).on = true ∧ (wdgSt s w).paused = false ∧ us < wdgLimit s w ∧ (wdgSt s w).first = false ∧ us < s.get F.WDG_WIN_OPEN w) ∧
    (∃ (s : State) (w : Fin 16) (init : Init) (us : Nat), Admitted init (R.WDG_KICK.addr w) s ∧ partOf s init = w ∧ (wdgSt s w).on = true ∧ (wdgSt s w).paused = false ∧ wdgLimit s w ≤ us) ∧
    (∃ (s : State) (w : Fin 16) (init : Init), Admitted init (R.WDG_KICK.addr w) s ∧ partOf s init = w ∧ ((wdgSt s w).on = false ∨ (wdgSt s w).paused = true)) ∧
    (∃ (s : State) (w : Fin 16), (wdgSt s w).on = true ∧ (wdgSt s w).paused = false) ∧
    (∃ (s : State) (w : Fin 16), (wdgSt s w).on = true ∧ (wdgSt s w).paused = false ∧ (wdgSt s w).first = false ∧ s.get F.WDG_PRE_PRE w ≠ 0) :=
  ⟨⟨dog true up, 15, 0x30, 0x3C, 0, by unfold Admitted; decide +kernel, by decide +kernel⟩,
   ⟨dog false up, 15, 0x30, 7, 0, by unfold Admitted; decide +kernel, by decide +kernel⟩,
   ⟨dog false (up.put F.WDG_WIN_OPEN 15 5), 15, 0x30, 4, by unfold Admitted; decide +kernel, by decide +kernel⟩,
   ⟨dog true up, 15, 0x30, 100, by unfold Admitted; decide +kernel, by decide +kernel⟩,
   ⟨up, 15, 0x30, by unfold Admitted; decide +kernel, by decide +kernel⟩,
   ⟨dog true up, 15, by decide +kernel⟩,
   ⟨dog false (up.put F.WDG_PRE_PRE 15 1), 15, by decide +kernel⟩⟩

theorem witness_SelfTestComplete :
    (∃ (s : State), s.tab.started = true ∧ bistClocked s = true ∧ s.flag F.BIST_CTRL_EN 0 = true ∧ carState s 0 ≠ carLbist ∧ carState s 1 ≠ carLbist ∧ bistChoose s = 0) ∧
    (∃ (s : State), s.tab.started = true ∧ bistClocked s = true ∧ s.flag F.BIST_CTRL_EN 0 = true ∧ carState s 0 ≠ carLbist ∧ carState s 1 ≠ carLbist ∧ bistChoose s ≠ 0) ∧
    (∃ (s : State), (s.tab.started = false ∨ bistClocked s = false ∨ s.flag F.BIST_CTRL_EN 0 = false)) ∧
    (∃ (s : State) (k : Fin 6) (u : Nat), 1 ≤ k.val ∧ u < bistUnits k ∧ s.get F.BIST_TASK_MAX_AGE (k - 1) ≠ 0 ∧ s.get F.BIST_TASK_MAX_AGE (k - 1) < s.beat - tget 0 s.bist.tested (8192 * k.val + u) ∧ 8192 * k.val + u ∉ s.bist.late) ∧
    (∃ (s : State) (k : Fin 6) (u : Nat), (k.val = 0 ∨ bistUnits k ≤ u ∨ 8192 * k.val + u ∈ s.bist.late)) ∧
    (∃ (s : State) (init : Init) (v : Word), Admitted init (R.BIST_PRBS_CTRL.addr 0) s ∧ bistMay s init = true ∧ v.getLsbD 31 = true ∧ v.getLsbD 30 = false ∧ prbsMay s (getBits v 23 21) (getBits v 20 16) = true) ∧
    (∃ (s : State) (init : Init) (v : Word), Admitted init (R.BIST_PRBS_CTRL.addr 0) s ∧ bistMay s init = true ∧ v.getLsbD 31 = true ∧ v.getLsbD 30 = false ∧ prbsMay s (getBits v 23 21) (getBits v 20 16) = false) ∧
    (∃ (s : State) (init : Init) (v : Word) (x : Nat × Nat), Admitted init (R.BIST_PRBS_CTRL.addr 0) s ∧ bistMay s init = true ∧ v.getLsbD 31 = false ∧ v.getLsbD 30 = true ∧ s.bist.prbs = some x) ∧
    (∃ (s : State) (x : Nat × Nat), s.get F.BIST_PRBS_CTRL_DUR 0 ≠ 0 ∧ s.bist.prbs = some x) ∧
    (∃ (s : State), (s.get F.BIST_PRBS_CTRL_DUR 0 = 0 ∨ s.bist.prbs = none)) :=
  ⟨⟨(bisting.put F.BIST_CTRL_TASK_EN 0 0), by decide +kernel⟩,
   ⟨bisting, by decide +kernel⟩,
   ⟨up, by decide +kernel⟩,
   ⟨((up.put F.BIST_TASK_MAX_AGE 0 1).put F.BEAT_NUM_LO_W 0 0xFFFFFFFF), 1, 4671, by decide +kernel⟩,
   ⟨up, 0, 0, by decide +kernel⟩,
   ⟨(up.put F.DICT_MODE_MODE 0 3), 0x30, 0x80130000, by unfold Admitted; decide +kernel, by decide +kernel⟩,
   ⟨(up.put F.DICT_MODE_MODE 0 3), 0x30, 0x80140000, by unfold Admitted; decide +kernel, by decide +kernel⟩,
   ⟨prbsOn, 0x30, 0x40000000, (0, 0), by unfold Admitted; decide +kernel, by decide +kernel⟩,
   ⟨(prbsOn.put F.BIST_PRBS_CTRL_DUR 0 1), (0, 0), by decide +kernel⟩,
   ⟨up, by decide +kernel⟩⟩

theorem witness_ClocksComplete :
    (∃ (s : State), s.clk.osc = true ∧ s.clk.mon = 0) ∧
    (∃ (s : State), (s.clk.osc = false ∨ s.clk.mon ≠ 0)) ∧
    (∃ (s : State), s.clk.mon = 1 ∧ s.clk.quals.length = 8) ∧
    (∃ (s : State), (s.clk.mon ≠ 1 ∨ s.clk.quals.length ≠ 8)) ∧
    (∃ (s : State), s.clk.mon = 1) ∧
    (∃ (s : State) (n : Nat), s.clk.mon = 2 ∧ goodWindow (s.get F.CLK_MON_CAL 0) n = false ∧ s.flag F.CLK_STAT_FALLBACK 0 = false) ∧
    (∃ (s : State), s.clk.mon = 0) ∧
    (∃ (s : State), s.clk.mon = 2 ∧ s.flag F.CLK_STAT_FALLBACK 0 = false ∧ max 1 (s.get F.CLK_MON_CFG_FAIL_WIN 0) ≤ s.clk.badRun ∧ s.flag F.KN_STAT_HALT 0 = false) ∧
    (∃ (s : State), (s.clk.mon ≠ 2 ∨ s.flag F.CLK_STAT_FALLBACK 0 = true ∨ s.clk.badRun = 0 ∨ s.flag F.KN_STAT_HALT 0 = true)) ∧
    (∃ (s : State), s.flag F.CLK_STAT_FALLBACK 0 = true ∧ s.flag F.CLK_STAT_CLKIN_OK 0 = false ∧ max 1 (s.get F.CLK_MON_CFG_OK_WIN 0) ≤ s.clk.okRun) ∧
    (∃ (s : State), (s.flag F.CLK_STAT_FALLBACK 0 = false ∨ s.clk.okRun = 0)) ∧
    (∃ (s : State) (init : Init) (v : Word), Admitted init (R.CLK_CTRL.addr 0) s ∧ clkMay s init = true ∧ v.getLsbD 31 = true ∧ s.flag F.CLK_STAT_CLKIN_OK 0 = true ∧ s.flag F.CLK_STAT_FALLBACK 0 = true) ∧
    (∃ (s : State) (init : Init), Admitted init (R.CLK_CTRL.addr 0) s ∧ clkMay s init = true ∧ (s.flag F.CLK_STAT_CLKIN_OK 0 = false ∨ s.flag F.CLK_STAT_FALLBACK 0 = false)) ∧
    (∃ (s : State) (p : Fin 4), s.clk.pllOn = true ∧ s.flag F.CLK_PLL_DEAD p = false) ∧
    (∃ (s : State) (p : Fin 4), s.clk.pllOn = true ∧ s.flag F.CLK_PLL_DEAD p = false) ∧
    (∃ (s : State) (p : Fin 4), (s.clk.pllOn = false ∨ s.flag F.CLK_PLL_DEAD p = true)) ∧
    (∃ (s : State) (d : Fin 20), d.val ∈ s.clk.toForced ∧ d.val ∉ s.clk.path) ∧
    (∃ (s : State) (d : Fin 20), (d.val ∉ s.clk.toForced ∨ d.val ∈ s.clk.path)) ∧
    (∃ (s : State) (d : Fin 20), s.flag F.CLK_DOM_BUSY d = true) ∧
    (∃ (s : State) (d : Fin 20), s.flag F.CLK_DOM_BUSY d = false) ∧
    (∃ (s : State) (d : Fin 20) (init : Init), Admitted init (R.CLK_DOM.addr d) s ∧ clkMay s init = true ∧ d.val ∈ [0, 1, 10, 12] ∧ s.flag F.CLK_DOM_BUSY d = false) ∧
    (∃ (s : State) (d : Fin 20) (init : Init), Admitted init (R.CLK_DOM.addr d) s ∧ clkMay s init = true ∧ (d.val ∉ [0, 1, 10, 12] ∨ s.flag F.CLK_DOM_BUSY d = true)) :=
  ⟨⟨inClk (fun c => { c with osc := true }) up, by decide +kernel⟩,
   ⟨up, by decide +kernel⟩,
   ⟨inClk (fun c => { c with mon := 1, quals := List.replicate 8 1 }) up, by decide +kernel⟩,
   ⟨up, by decide +kernel⟩,
   ⟨inClk (fun c => { c with mon := 1 }) up, by decide +kernel⟩,
   ⟨inClk (fun c => { c with mon := 2 }) (up.put F.CLK_MON_CAL 0 65535), 0, by decide +kernel⟩,
   ⟨up, by decide +kernel⟩,
   ⟨inClk (fun c => { c with mon := 2, badRun := 255 }) up, by decide +kernel⟩,
   ⟨up, by decide +kernel⟩,
   ⟨inClk (fun c => { c with okRun := 65535 }) (up.put F.CLK_STAT_FALLBACK 0 1), by decide +kernel⟩,
   ⟨up, by decide +kernel⟩,
   ⟨((up.put F.CLK_STAT_CLKIN_OK 0 1).put F.CLK_STAT_FALLBACK 0 1), 0x30, 0x80000000, by unfold Admitted; decide +kernel, by decide +kernel⟩,
   ⟨up, 0x30, by unfold Admitted; decide +kernel, by decide +kernel⟩,
   ⟨inClk (fun c => { c with pllOn := true }) up, 3, by decide +kernel⟩,
   ⟨inClk (fun c => { c with pllOn := true }) up, 0, by decide +kernel⟩,
   ⟨up, 0, by decide +kernel⟩,
   ⟨inClk (fun c => { c with toForced := [19] }) up, 19, by decide +kernel⟩,
   ⟨up, 0, by decide +kernel⟩,
   ⟨(up.put F.CLK_DOM_BUSY 19 1), 19, by decide +kernel⟩,
   ⟨up, 0, by decide +kernel⟩,
   ⟨up, 12, 0x30, by unfold Admitted; decide +kernel, by decide +kernel⟩,
   ⟨up, 19, 0x30, by unfold Admitted; decide +kernel, by decide +kernel⟩⟩

theorem witness_ResetsComplete :
    (∃ (s : State), s.boot.off = false ∧ s.boot.step = 0 ∧ pmMode s = modeRun ∧ s.boot.again = false) ∧
    (∃ (s : State), (s.boot.off = true ∨ s.boot.step ≠ 0 ∨ pmMode s ≠ modeRun ∨ s.boot.again = true)) ∧
    (∃ (s : State), s.boot.step = 2) ∧
    (∃ (s : State), s.boot.step ≠ 2) ∧
    (∃ (s : State), s.boot.pgood = true ∧ s.boot.step = 2 ∧ s.flag F.KN_STAT_HALT 0 = false) ∧
    (∃ (s : State), (s.boot.pgood = false ∨ s.boot.step ≠ 2 ∨ s.flag F.KN_STAT_HALT 0 = true)) ∧
    (∃ (s : State), s.boot.off = false ∧ 2 ≤ s.boot.step ∧ s.boot.pgood = true ∧ s.pm.en = true) ∧
    (∃ (s : State), (s.boot.off = true ∨ s.boot.step < 2 ∨ s.boot.pgood = false ∨ s.pm.en = false)) ∧
    (∃ (s : State), s.pm.phase ≠ 2 ∧ s.bel.scan ≠ 1) ∧
    (∃ (s : State), (s.pm.phase = 2 ∨ s.bel.scan = 1)) ∧
    (∃ (s : State), s.boot.ddr = 1 ∧ s.pm.phase ≠ 2) ∧
    (∃ (s : State), s.boot.ddr = 1 ∧ s.pm.phase ≠ 2) ∧
    (∃ (s : State), (s.boot.ddr ≠ 1 ∨ s.pm.phase = 2)) :=
  ⟨⟨State.reset, by decide +kernel⟩,
   ⟨stepIs 1, by decide +kernel⟩,
   ⟨stepIs 2, by decide +kernel⟩,
   ⟨up, by decide +kernel⟩,
   ⟨{ stepIs 2 with boot := { (stepIs 2).boot with pgood := true } }, by decide +kernel⟩,
   ⟨up, by decide +kernel⟩,
   ⟨inPm (fun p => { p with en := true }) { stepIs 2 with boot := { (stepIs 2).boot with pgood := true } }, by decide +kernel⟩,
   ⟨stepIs 1, by decide +kernel⟩,
   ⟨up, by decide +kernel⟩,
   ⟨State.reset, by decide +kernel⟩,
   ⟨{ up with boot := { up.boot with ddr := 1 } }, by decide +kernel⟩,
   ⟨{ up with boot := { up.boot with ddr := 1 } }, by decide +kernel⟩,
   ⟨up, by decide +kernel⟩⟩

theorem witness_BootComplete :
    (∃ (s : State) (x : RomIn), (s.boot.step = 3 ∨ s.boot.step = 5) ∧ pllsLocked s = true ∧ s.pm.phase = 0 ∧ s.boot.romWait = false ∧ s.bel.halted = false ∧ s.bel.scan = 0 ∧ s.boot.jtag = false ∧ x.bad.any OtpField.secure = false ∧ bunOk (otpScan x s) (bunCopy s 0) = true) ∧
    (∃ (s : State) (x : RomIn), (s.boot.step = 3 ∨ s.boot.step = 5) ∧ pllsLocked s = true ∧ s.pm.phase = 0 ∧ s.boot.romWait = false ∧ s.bel.halted = false ∧ s.bel.scan = 0 ∧ s.boot.jtag = false ∧ x.bad.any OtpField.secure = false ∧ bunOk (otpScan x s) (bunCopy s 0) = false ∧ bunOk (otpScan x s) (bunCopy s 1) = true) ∧
    (∃ (s : State) (x : RomIn), (s.boot.step = 3 ∨ s.boot.step = 5) ∧ pllsLocked s = true ∧ s.pm.phase = 0 ∧ s.boot.romWait = false ∧ s.bel.halted = false ∧ s.bel.scan = 0 ∧ s.boot.jtag = false ∧ x.bad.any OtpField.secure = false ∧ bunOk (otpScan x s) (bunCopy s 0) = false ∧ bunOk (otpScan x s) (bunCopy s 1) = false ∧ (lcState s ≠ lcBlank ∨ bunMagic (bunCopy s 0) = true ∨ bunMagic (bunCopy s 1) = true)) ∧
    (∃ (s : State) (x : RomIn), (s.boot.step = 3 ∨ s.boot.step = 5) ∧ pllsLocked s = true ∧ s.pm.phase = 0 ∧ s.boot.romWait = false ∧ s.bel.halted = false ∧ s.bel.scan = 0 ∧ s.boot.jtag = false ∧ x.bad.any OtpField.secure = false ∧ bunOk (otpScan x s) (bunCopy s 0) = false ∧ bunOk (otpScan x s) (bunCopy s 1) = false ∧ lcState s = lcBlank ∧ bunMagic (bunCopy s 0) = false ∧ bunMagic (bunCopy s 1) = false) ∧
    (∃ (s : State) (x : RomIn), (s.boot.step = 3 ∨ s.boot.step = 5) ∧ pllsLocked s = true ∧ s.pm.phase = 0 ∧ s.boot.romWait = false ∧ s.bel.halted = false ∧ s.bel.scan = 0 ∧ s.boot.jtag = false ∧ x.bad.any OtpField.secure = true) ∧
    (∃ (s : State), (s.boot.step ≠ 3 ∧ s.boot.step ≠ 5 ∨ pllsLocked s = false ∨ s.pm.phase ≠ 0 ∨
    s.boot.romWait = true ∨ s.bel.halted = true ∨ s.bel.scan ≠ 0)) ∧
    (∃ (s : State), s.boot.step = 6 ∧ s.pm.phase ≠ 2 ∧ s.bel.halted = false ∧ s.bel.scan = 0 ∧ (∀ n, n < 2 → carState s n = carHeld ∧ s.get F.CAR_STAT_RETIRED n = 0)) ∧
    (∃ (s : State), (s.boot.step < 6 ∨ s.pm.phase = 2 ∨ s.bel.halted = true ∨ s.bel.scan ≠ 0)) ∧
    (∃ (s : State), s.boot.step = 7 ∧ s.bootLocked = false ∧ s.pm.phase = 0 ∧ s.bel.scan = 0) ∧
    (∃ (s : State), (s.boot.step ≠ 7 ∨ s.bootLocked = true ∨ s.pm.phase ≠ 0 ∨ s.bel.scan ≠ 0)) ∧
    (∃ (s : State), s.bootLocked = true ∧ s.boot.ddr = 2 ∧ s.boot.step = 8 ∧ s.boot.started = false ∧ s.pm.phase = 0) ∧
    (∃ (s : State), (s.bootLocked = false ∨ s.boot.ddr ≠ 2 ∨ s.boot.step ≠ 8 ∨ s.boot.started = true ∨ s.pm.phase ≠ 0)) :=
  ⟨⟨bundleAt 0x20000000 (locked (stepIs 3)), ⟨true, false, []⟩, by decide +kernel⟩,
   ⟨bundleAt 0x20100000 (locked (stepIs 5)), ⟨true, false, []⟩, by decide +kernel⟩,
   ⟨((locked (stepIs 3)).put F.BSEC_LC_STATE 0 3), ⟨true, false, []⟩, by decide +kernel⟩,
   ⟨locked (stepIs 5), ⟨true, false, []⟩, by decide +kernel⟩,
   ⟨locked (stepIs 3), ⟨true, false, [.lc]⟩, by decide +kernel⟩,
   ⟨up, by decide +kernel⟩,
   ⟨(((stepIs 6).put F.CAR_STAT_STATE 0 carHeld).put F.CAR_STAT_STATE 1 carHeld), by decide +kernel⟩,
   ⟨stepIs 5, by decide +kernel⟩,
   ⟨stepIs 7, by decide +kernel⟩,
   ⟨up, by decide +kernel⟩,
   ⟨{ (stepIs 8).put F.BSEC_LOCK_BOOT 0 1 with boot := { (stepIs 8).boot with ddr := 2, started := false } }, by decide +kernel⟩,
   ⟨up, by decide +kernel⟩⟩

theorem witness_MonitorsComplete :
    (∃ (s : State) (rail : Fin 8) (mv : Nat), s.pm.phase ≠ 2 ∧ railBad rail mv = true) ∧
    (∃ (s : State) (rail : Fin 8) (mv : Nat), (s.pm.phase = 2 ∨ railBad rail mv = false)) ∧
    (∃ (s : State) (b48 : Bool) (mv : Nat) (c : Instr), (c = .vbatOutOfRange b48 mv ∨ c = .vbatInRange b48 mv) ∧ hRuns s = true) ∧
    (∃ (s : State) (b48 : Bool) (mv : Nat) (c : Instr), (c = .vbatOutOfRange b48 mv ∨ c = .vbatInRange b48 mv) ∧ hRuns s = true ∧ linkUp s = true ∧ vbatNext b48 (vbatOf b48 s) mv ≠ vbatOf b48 s ∧ vbatNext b48 (vbatOf b48 s) mv ≠ 0) ∧
    (∃ (s : State) (b48 : Bool) (mv : Nat) (c : Instr), (c = .vbatOutOfRange b48 mv ∨ c = .vbatInRange b48 mv) ∧ hRuns s = true ∧ linkUp s = true ∧ vbatOf b48 s ≠ 0 ∧ vbatNext b48 (vbatOf b48 s) mv = 0) ∧
    (∃ (s : State) (b48 : Bool) (mv : Nat) (c : Instr), (c = .vbatOutOfRange b48 mv ∨ c = .vbatInRange b48 mv) ∧ hRuns s = false) ∧
    (∃ (s : State) (t : Int) (c : Instr), (c = .tempThreshold false t ∨ c = .tempSensorFault false t) ∧ s.pm.phase ≠ 2) ∧
    (∃ (s : State) (t : Int) (c : Instr), (c = .tempThreshold true t ∨ c = .tempSensorFault true t) ∧ hRuns s = true) ∧
    (∃ (s : State) (t : Int) (c : Instr), (c = .tempThreshold false t ∨ c = .tempSensorFault false t) ∧ s.pm.phase = 2) ∧
    (∃ (s : State) (t : Int) (c : Instr), (c = .tempThreshold true t ∨ c = .tempSensorFault true t) ∧ hRuns s = false) :=
  ⟨⟨up, 0, 0, by decide +kernel⟩,
   ⟨State.reset, 0, 0, by decide +kernel⟩,
   ⟨up, true, 0, .vbatInRange true 0, by decide +kernel⟩,
   ⟨up, false, 0, .vbatOutOfRange false 0, by decide +kernel⟩,
   ⟨{ up with boot := { up.boot with vbat12 := 1 } }, false, 12000, .vbatInRange false 12000, by decide +kernel⟩,
   ⟨State.reset, true, 0, .vbatOutOfRange true 0, by decide +kernel⟩,
   ⟨up, 0, .tempThreshold false 0, by decide +kernel⟩,
   ⟨up, 0, .tempSensorFault true 0, by decide +kernel⟩,
   ⟨State.reset, 0, .tempThreshold false 0, by decide +kernel⟩,
   ⟨State.reset, 0, .tempThreshold true 0, by decide +kernel⟩⟩

theorem witness_LateEventsComplete :
    (∃ (s : State) (p : Fin 4), s.flag F.CLK_PLL_LOCK p = true) ∧
    (∃ (s : State) (p : Fin 4), s.flag F.CLK_PLL_LOCK p = false) ∧
    (∃ (s : State) (n : Fin 16) (x : CanFrame) (dlc : Fin 16), trxAsleep s n = true ∧ s.flag F.CAN_TRX_CTRL_WAKE_MODE n = true ∧ bitOf x.w0 30 = false ∧ bitOf x.w0 31 = false ∧ wufMatch s n x dlc = true) ∧
    (∃ (s : State) (n : Fin 16) (x : CanFrame) (dlc : Fin 16), trxAsleep s n = true ∧ s.flag F.CAN_TRX_CTRL_WAKE_MODE n = true ∧ bitOf x.w0 30 = false ∧ bitOf x.w0 31 = false ∧ wufMatch s n x dlc = false) ∧
    (∃ (s : State) (n : Fin 16) (x : CanFrame), trxAsleep s n = true ∧ s.flag F.CAN_TRX_CTRL_WAKE_MODE n = true ∧ bitOf x.w0 30 = false ∧ bitOf x.w0 31 = false ∧ 31 ≤ s.get F.CAN_TRX_STAT_FEC n) ∧
    (∃ (s : State) (n : Fin 16) (x : CanFrame), trxAsleep s n = true ∧ s.flag F.CAN_TRX_CTRL_WAKE_MODE n = true ∧ bitOf x.w0 30 = false ∧ bitOf x.w0 31 = false ∧ s.get F.CAN_TRX_STAT_FEC n < 31) ∧
    (∃ (s : State) (n : Fin 16) (x : CanFrame), (trxAsleep s n = false ∨
    s.flag F.CAN_TRX_CTRL_WAKE_MODE n = false ∨ bitOf x.w0 30 = true ∨ bitOf x.w0 31 = true)) ∧
    (∃ (s : State) (l : Fin 12), linResponder s l = true ∧ busGated s = false) ∧
    (∃ (s : State) (l : Fin 12), (linResponder s l = false ∨ busGated s = true)) ∧
    (∃ (s : State) (l : Fin 12) (b : LinBus), (linSt s l).bus = some b ∧ linCommander s l = true ∧ b.publish = false ∧ busGated s = false ∧ s.get F.LIN_FRAME_CFG_DIR (64 * l + b.id) = 2) ∧
    (∃ (s : State) (l : Fin 12), ((linSt s l).bus = none ∨ linCommander s l = false ∨ busGated s = true)) ∧
    (∃ (s : State) (n : Fin 8), hRuns s = true ∧ s.get F.IOX_SSUP_STAT_STATE n = 2) ∧
    (∃ (s : State) (n : Fin 8), hRuns s = true ∧ s.get F.IOX_SSUP_STAT_STATE n = 4) ∧
    (∃ (s : State) (n : Fin 8), (hRuns s = false ∨ s.get F.IOX_SSUP_STAT_STATE n ≠ 2)) ∧
    (∃ (s : State) (n : Fin 8), (hRuns s = false ∨ s.get F.IOX_SSUP_STAT_STATE n ≠ 4)) ∧
    (∃ (s : State), prbsChecks s = true ∧ s.flag F.BIST_PRBS_STAT_LOCKED 0 = false) ∧
    (∃ (s : State), (prbsChecks s = false ∨ s.flag F.BIST_PRBS_STAT_LOCKED 0 = true)) ∧
    (∃ (s : State), s.flag F.BIST_PRBS_STAT_LOCKED 0 = true ∧ prbsRuns s = true) ∧
    (∃ (s : State), (s.flag F.BIST_PRBS_STAT_LOCKED 0 = false ∨ prbsRuns s = false)) ∧
    (∃ (s : State), rngState s ≠ rngReady ∧ rngState s ≠ rngFailed ∧ s.pm.phase ≠ 2) ∧
    (∃ (s : State), (rngState s = rngReady ∨ rngState s = rngFailed ∨ s.pm.phase = 2)) ∧
    (∃ (s : State) (u : Fin 74), u.val ∉ s.bist.loopFail) ∧
    (∃ (s : State) (u : Fin 74), u.val ∈ s.bist.loopFail) :=
  ⟨⟨(up.put F.CLK_PLL_LOCK 3 1), 3, by decide +kernel⟩,
   ⟨up, 0, by decide +kernel⟩,
   ⟨asleep 0, 0, ⟨0, 0, 0, []⟩, 0, by decide +kernel⟩,
   ⟨(((asleep 0).put F.CAN_WUF_MASK_WUF_MASK 0 1).put F.CAN_WUF_ID_WUF_ID 0 1), 0, ⟨0, 0, 0, []⟩, 0, by decide +kernel⟩,
   ⟨asleep 31, 0, ⟨0, 0, 0, []⟩, by decide +kernel⟩,
   ⟨asleep 30, 0, ⟨0, 0, 0, []⟩, by decide +kernel⟩,
   ⟨up, 0, ⟨0, 0, 0, []⟩, by decide +kernel⟩,
   ⟨(up.put F.LIN_CFG_MODE 0 2), 0, by decide +kernel⟩,
   ⟨up, 0, by decide +kernel⟩,
   ⟨linBusy ⟨0, false, [], none, 0⟩ ((up.put F.LIN_CFG_MODE 0 1).put F.LIN_FRAME_CFG_DIR 0 2), 0, ⟨0, false, [], none, 0⟩, by decide +kernel⟩,
   ⟨up, 0, by decide +kernel⟩,
   ⟨(up.put F.IOX_SSUP_STAT_STATE 0 2), 0, by decide +kernel⟩,
   ⟨(up.put F.IOX_SSUP_STAT_STATE 7 4), 7, by decide +kernel⟩,
   ⟨State.reset, 0, by decide +kernel⟩,
   ⟨State.reset, 0, by decide +kernel⟩,
   ⟨((prbsOn.put F.BIST_PRBS_CTRL_DIR 0 3).put F.BIST_PRBS_STAT_LOCKED 0 0), by decide +kernel⟩,
   ⟨up, by decide +kernel⟩,
   ⟨(prbsOn.put F.BIST_PRBS_STAT_LOCKED 0 1), by decide +kernel⟩,
   ⟨up, by decide +kernel⟩,
   ⟨(up.put F.BRNG_STAT_STATE 0 rngStartup), by decide +kernel⟩,
   ⟨(up.put F.BRNG_STAT_STATE 0 rngReady), by decide +kernel⟩,
   ⟨up, 73, by decide +kernel⟩,
   ⟨{ up with bist := { up.bist with loopFail := [73] } }, 73, by decide +kernel⟩⟩

theorem witness_EveryStepAnswers :
    (∃ s : State, s.pending = []) ∧
    ∃ (s : State) (init : Init) (addr bytes : Nat), reachesDevice s init (busAddr s init addr) bytes = true :=
  ⟨⟨State.reset, rfl⟩, up, 0x30, 0x10A00000, 4, by decide +kernel⟩

theorem witness_CommandsKeepOtherBlocks :
    ∃ (c : Instr) (s t : State), exec c s = .next t :=
  ⟨.tapReset, up, up, rfl⟩

theorem witness_MemoryStaysCanonical :
    ∃ s t : State, s.memOk ∧ step s = .next t :=
  ⟨State.reset, State.reset, by unfold State.memOk; decide +kernel, by rfl⟩

theorem witness_NothingIsTakenBack :
    ∃ s t : State, step s = .next t :=
  ⟨State.reset, State.reset, by rfl⟩

theorem witness_RefusedWritesReachNothing :
    (∃ (s : State) (init : Init) (addr bytes : Nat), busAddr s init addr < csrBase ∧ (∀ k, decodeAddr (busAddr s init addr) = some (.tcm k) → init ≠ 0x10 + k) ∧ ((decodeAddr (busAddr s init addr) = some .xspi → 8 ≤ init)) ∧ s.pm.phase ≠ 2 ∧ initSilent s init = false ∧ judgeReq s init (busAddr s init addr) bytes ≠ respOkay) ∧
    (∃ (s : State) (init : Init), (s.pm.phase = 2 ∨ initSilent s init = true)) :=
  ⟨⟨up, 0x30, 0x800000, 4, by decide +kernel, by
    intro k h
    exact absurd h (by rw [show decodeAddr (busAddr up 0x30 0x800000) = none by decide +kernel]; simp), by decide +kernel⟩,
   ⟨State.reset, 0x30, by decide +kernel⟩⟩

theorem witness_RegisterWritesComplete :
    (∃ (s : State) (init : Init) (addr bytes : Nat), (decodeAddr (busAddr s init addr) = some .sram ∨ decodeAddr (busAddr s init addr) = some .dram) ∧ s.pm.phase ≠ 2 ∧ initSilent s init = false ∧ judgeReq s init (busAddr s init addr) bytes = respOkay ∧ poisonHit s ((List.range bytes).map (busAddr s init addr + ·)) = none) ∧
    (∃ (s : State) (init : Init) (addr bytes : Nat), ∃ x, (decodeAddr (busAddr s init addr) = some .sram ∨ decodeAddr (busAddr s init addr) = some .dram) ∧ s.pm.phase ≠ 2 ∧ initSilent s init = false ∧ judgeReq s init (busAddr s init addr) bytes = respOkay ∧ poisonHit s ((List.range bytes).map (busAddr s init addr + ·)) = some x) ∧
    (∃ (s : State) (init : Init) (addr bytes n : Nat), decodeAddr (busAddr s init addr) = some (.slot n) ∧ s.pm.phase ≠ 2 ∧ initSilent s init = false ∧ judgeReq s init (busAddr s init addr) bytes = respOkay ∧ (bytes ≠ 4 ∨ busAddr s init addr % 4 ≠ 0)) ∧
    (∃ (s : State) (init : Init) (addr : Nat), busAddr s init addr = R.FABRIC_PORT_SEL.addr 0 ∧ Admitted init (R.FABRIC_PORT_SEL.addr 0) s) ∧
    (∃ (s : State) (init : Init) (addr : Nat), busAddr s init addr = R.FABRIC_ID.addr 0 ∧ Admitted init (R.FABRIC_ID.addr 0) s) :=
  ⟨⟨up, 0x30, 0x1000, 2, by decide +kernel⟩,
   ⟨{ up with acl := { up.acl with poison := [0x40] } }, 0x30, 0x1000, 4, 0x1000, by decide +kernel⟩,
   ⟨up, 0x30, 0x10000001, 4, 0, by decide +kernel⟩,
   ⟨up, 0x30, R.FABRIC_PORT_SEL.addr 0, by decide +kernel, by unfold Admitted; decide +kernel⟩,
   ⟨up, 0x30, R.FABRIC_ID.addr 0, by decide +kernel, by unfold Admitted; decide +kernel⟩⟩

theorem witness_RaisesAreRecorded :
    (∃ (n : Nat), n < 512) :=
  ⟨511, by decide +kernel⟩

theorem witness_ChimeCodeValues :
    ∃ c, c < 1024 ∧ 1 ≤ bitsOf c 9 6 :=
  ⟨0x3FF, by decide, by decide⟩
/-! ### Well-formedness: each check refuses a term -/

/-- An initiator that Table 1-3 does not list is refused, in every command that names one. -/
theorem test_wf_refuses_initiator :
    ([.registerWrite 0x40 0 4 0, .lateErrRd 0x40 0, .fabricCarwin 0 0x40 0, .spineHreset 0x40 0 [], .beatPub 0x40 0,
     .pwrCmdPub 0 0x40 0, .pwrLimPub 0 0x40 0, .slotConfirm 0x40 0, .beatEn 0x40 0, .tablaLdHi 0 0x40 0, .tablaArm 0 0x40 0,
     .ioxSsupCtrl 0 0x40 0, .ioxLsoDuty 0 0x40 0, .ioxBrCmd 0 0x40 0, .lsoOcClear 0 0x40 0, .bridgeClr 0 0x40 0,
     .sentTrig 0 0x40 0, .fdbLookup 0x40 0, .fdbInsertStatic 0x40 0, .fdbInsertDynamic 0x40 0, .fdbDelete 0x40 0,
     .fdbFlushFid 0x40 0, .fdbFlushPort 0x40 0, .fdbReadIndex 0x40 0, .clrPeak 0x40 0, .gclChange 0 0x40 0,
     .cbsSlope 0 0 0x40 0, .saKey 0 0 0x40 0, .tc10SleepReq 0 0x40 0, .tc10WakeReq 0 0x40 0, .epTest 0 0x40 0,
     .tableRead 0 0x40 0, .tableWrite 0 0x40 0, .timeInc 0x40 0, .timeStep 0x40 0, .timeNowFrac 0x40, .timeLock 0x40 0,
     .timeUnlock 0x40 0, .timeKeep 0x40 0, .handoverReq 0 0x40 0] ++
     [.handoverGrant 0 0x40 0, .handoverRefuse 0 0x40 0, .canEnable 0 0x40 0, .canTxsub 0 0 0x40 0, .canTxabort 0 0 0x40 0,
     .busoffRecover 0 0x40 0, .canRxai 0 0 0x40 0, .canCqai 0 0 0x40 0, .canSlotCfg 0 0 0x40 0, .canTrxMode 0 0x40 0,
     .linSleepTx 0 0x40 0, .linWakeTx 0 0x40 0, .linDataHi 0 0 0x40 0, .linDataLoRead 0 0 0x40, .pmReqRun 0x40 0,
     .pmReqDoze 0x40 0 false [], .pmReqSleep 0x40 0 false [], .pmReqDeepSleep 0x40 0 false [], .pmGate 0 0x40 0 [],
     .bootDone 0x40 0, .stay 0x40 0, .carIcClaim 0 0 0x40, .carIcComplete 0 0 0x40 0, .imsicSeteipnum 0x40 0 0,
     .iommuVxLogai 0x40 0, .assign 0 0x40 0, .activate 0 0x40 0, .quiesce 0 0x40 0, .freeze 0 0x40 0, .thaw 0 0x40 0,
     .save 0 0x40 0, .restore 0 0x40 0, .veReset 0 0x40 0, .unassign 0 0x40 0, .veRingIndexWrite 0 .mbxUpWi 0x40 0,
     .vecUnmask 0 0 0x40 0, .pwgKick 0 0x40 0, .mailboxRing 0 0x40 0, .bwdgKick 0x40 0, .bdbgSubmit 0x40 0] ++
     [.bdbgClose 0x40 0, .bundleChunk 0x40 0, .tocPend 0 0x40 0, .tocLogSel 0x40 0, .tocSwraise 0x40 0, .tocSwint 0x40 0,
     .errnRelease 0x40 0, .wdgKick 0 0x40 0 0, .prbsGo 0x40 0 [], .prbsStop 0x40 0 0 0, .clkRestore 0x40 0,
     .clkDomDiv 0 0x40 0] : List Instr).all (fun i => !i.wf) = true := by
  decide +kernel

/-- An address of more than 40 bits (R12) is refused, in every command that names one. -/
theorem test_wf_refuses_address :
    ([.registerWrite 0x30 (2 ^ 40) 4 0, .cacheEccError 0 0 (.dirty (2 ^ 40)), .imsicSeteipnum 0x30 (2 ^ 40) 0,
     .ssramEccError false ⟨0x30, 0, true, .load, 0, false⟩ (2 ^ 40),
     .dramEccError false ⟨0x30, 0, true, .load, 0, false⟩ (2 ^ 40)] : List Instr).all (fun i => !i.wf) = true := by
  decide +kernel

/-- A transfer of no or too many bytes, or a value that does not fit them is refused, in every command that names one. -/
theorem test_wf_refuses_size :
    ([.registerWrite 0x30 0 0 0, .registerWrite 0x30 0 65 0, .registerWrite 0x30 0 4 (2 ^ 32)] : List Instr).all (fun i => !i.wf) = true := by
  decide +kernel

/-- A port, lane or unit that does not exist is refused, in every command that names one. -/
theorem test_wf_refuses_port :
    ([.beatBoundary 0 0 [2] [], .beatBoundary 0 0 [] [0x1007], .targetTimeout 0x1007 ⟨0x30, 0, true, .load, 0, false⟩ [],
     .portOpen 0x1007, .fenceStuck 0x1007, .bistCoverageLate 0 2048] : List Instr).all (fun i => !i.wf) = true := by
  decide +kernel

/-- An outstanding request of no initiator or outside the address space is refused, in every command that names one. -/
theorem test_wf_refuses_requests :
    ([.targetTimeout 0 ⟨0x40, 0, true, .load, 0, false⟩ [], .targetTimeout 0 ⟨0x30, 2 ^ 40, true, .load, 0, false⟩ [],
     .targetTimeout 0 ⟨0x30, 0, true, .load, 0, false⟩ [⟨0x40, 0, true, .load, 0, false⟩],
     .targetTimeout 0 ⟨0x30, 0, true, .load, 0, false⟩ [⟨0x30, 2 ^ 40, true, .load, 0, false⟩],
     .targetTimeout 0 ⟨0x30, 0, true, .load, 0, false⟩ [⟨0x30, 0, true, .load, 2 ^ 64, false⟩],
     .spineCrcFail false [⟨0x40, 0, true, .load, 0, false⟩], .spineCrcFail false [⟨0x30, 2 ^ 40, true, .load, 0, false⟩],
     .spineCrcFail false [⟨0x30, 0, true, .load, 2 ^ 64, false⟩], .retrainTimeout [⟨0x40, 0, true, .load, 0, false⟩],
     .retrainTimeout [⟨0x30, 2 ^ 40, true, .load, 0, false⟩], .retrainTimeout [⟨0x30, 0, true, .load, 2 ^ 64, false⟩],
     .hdieSupplyLoss [⟨0x40, 0, true, .load, 0, false⟩], .hdieSupplyLoss [⟨0x30, 2 ^ 40, true, .load, 0, false⟩],
     .hdieSupplyLoss [⟨0x30, 0, true, .load, 2 ^ 64, false⟩], .spineHreset 0x30 0 [⟨0x40, 0, true, .load, 0, false⟩],
     .spineHreset 0x30 0 [⟨0x30, 2 ^ 40, true, .load, 0, false⟩],
     .spineHreset 0x30 0 [⟨0x30, 0, true, .load, 2 ^ 64, false⟩],
     .pmReqDoze 0x30 0 false [⟨0x40, 0, true, .load, 0, false⟩],
     .pmReqDoze 0x30 0 false [⟨0x30, 2 ^ 40, true, .load, 0, false⟩],
     .pmReqDoze 0x30 0 false [⟨0x30, 0, true, .load, 2 ^ 64, false⟩],
     .pmReqSleep 0x30 0 false [⟨0x40, 0, true, .load, 0, false⟩],
     .pmReqSleep 0x30 0 false [⟨0x30, 2 ^ 40, true, .load, 0, false⟩],
     .pmReqSleep 0x30 0 false [⟨0x30, 0, true, .load, 2 ^ 64, false⟩],
     .pmReqDeepSleep 0x30 0 false [⟨0x40, 0, true, .load, 0, false⟩],
     .pmReqDeepSleep 0x30 0 false [⟨0x30, 2 ^ 40, true, .load, 0, false⟩],
     .pmReqDeepSleep 0x30 0 false [⟨0x30, 0, true, .load, 2 ^ 64, false⟩], .dozeEntry [⟨0x40, 0, true, .load, 0, false⟩],
     .dozeEntry [⟨0x30, 2 ^ 40, true, .load, 0, false⟩], .dozeEntry [⟨0x30, 0, true, .load, 2 ^ 64, false⟩],
     .pmGate 0 0x30 0 [⟨0x40, 0, true, .load, 0, false⟩], .pmGate 0 0x30 0 [⟨0x30, 2 ^ 40, true, .load, 0, false⟩],
     .pmGate 0 0x30 0 [⟨0x30, 0, true, .load, 2 ^ 64, false⟩], .graceEnd [⟨0x40, 0, true, .load, 0, false⟩],
     .graceEnd [⟨0x30, 2 ^ 40, true, .load, 0, false⟩], .graceEnd [⟨0x30, 0, true, .load, 2 ^ 64, false⟩],
     .prbsGo 0x30 0 [⟨0x40, 0, true, .load, 0, false⟩], .prbsGo 0x30 0 [⟨0x30, 2 ^ 40, true, .load, 0, false⟩],
     .prbsGo 0x30 0 [⟨0x30, 0, true, .load, 2 ^ 64, false⟩], .pllDead 0 [⟨0x40, 0, true, .load, 0, false⟩],
     .pllDead 0 [⟨0x30, 2 ^ 40, true, .load, 0, false⟩]] ++
     [.pllDead 0 [⟨0x30, 0, true, .load, 2 ^ 64, false⟩], .haltSafePowerDown [⟨0x40, 0, true, .load, 0, false⟩],
     .haltSafePowerDown [⟨0x30, 2 ^ 40, true, .load, 0, false⟩], .haltSafePowerDown [⟨0x30, 0, true, .load, 2 ^ 64, false⟩],
     .supplyReset [⟨0x40, 0, true, .load, 0, false⟩], .supplyReset [⟨0x30, 2 ^ 40, true, .load, 0, false⟩],
     .supplyReset [⟨0x30, 0, true, .load, 2 ^ 64, false⟩], .resetChip [⟨0x40, 0, true, .load, 0, false⟩],
     .resetChip [⟨0x30, 2 ^ 40, true, .load, 0, false⟩], .resetChip [⟨0x30, 0, true, .load, 2 ^ 64, false⟩],
     .ssramEccError false ⟨0x40, 0, true, .load, 0, false⟩ 0, .ssramEccError false ⟨0x30, 2 ^ 40, true, .load, 0, false⟩ 0,
     .dramEccError false ⟨0x40, 0, true, .load, 0, false⟩ 0, .dramEccError false ⟨0x30, 2 ^ 40, true, .load, 0, false⟩ 0] : List Instr).all (fun i => !i.wf) = true := by
  decide +kernel

/-- A value that is no octet is refused, in every command that names one. -/
theorem test_wf_refuses_octets :
    ([.usestCanSegment 0 [256], .frameFirstCell 0 [256] 0 none, .continuationCell 0 [256], .frameEnd 0 [256] false [],
     .frameEnd 0 [] false [256], .handoverFrameRx 0 256 0 ⟨0, none, []⟩, .linFrameComplete 0 [256] false] : List Instr).all (fun i => !i.wf) = true := by
  decide +kernel

/-- A quantity of more than 32 bits is refused, in every command that names one. -/
theorem test_wf_refuses_word :
    ([.conversion (2 ^ 32) [], .shortTrip 0 false false false 0 (2 ^ 32) 0, .shortTrip 0 false false false 0 0 (2 ^ 32),
     .gateUv 0 0 (2 ^ 32) 0, .gateUv 0 0 0 (2 ^ 32), .prechargeDone 0 (2 ^ 32), .preTimeout 0 0 (2 ^ 32) 0,
     .preTimeout 0 0 0 (2 ^ 32), .fetFault 0 (2 ^ 32), .outHigh 0 (2 ^ 32), .currentSenseFault 0 (2 ^ 32),
     .fastPathShed 0 (2 ^ 32), .feedSenseFault 0 (2 ^ 32), .mfiSample 0 0 (2 ^ 32), .raiConversion 0 0 false 0 0 (2 ^ 32),
     .ssupOverload 0 0 0 (2 ^ 32), .ssupBackfeed 0 0 0 (2 ^ 32), .lsoOvercurrent 0 0 (2 ^ 32), .lsoOvertemp 0 0 (2 ^ 32),
     .lsoOpenLoad 0 false 0 (2 ^ 32), .bridgeCurrentLimit 0 0 false 0 (2 ^ 32), .bridgeShort 0 (2 ^ 32),
     .bridgeUv 0 0 (2 ^ 32), .sentFrame 0 ⟨3000, 0, [], 0, true⟩ (2 ^ 32), .sentTimeout 0 (2 ^ 32),
     .tcmEccError 0 (2 ^ 32) .load, .bistSlice false 0 0 (2 ^ 32)] : List Instr).all (fun i => !i.wf) = true := by
  decide +kernel

/-- A code of more than 16 bits, a sample beyond its range, or a unit or input that does not exist is refused, in every command that names one. -/
theorem test_wf_refuses_code :
    ([.conversion 0 [⟨74, 0, false, 0, 0, false, 0, 0⟩], .conversion 0 [⟨0, 131072, false, 0, 0, false, 0, 0⟩],
     .conversion 0 [⟨0, 0, false, 131072, 0, false, 0, 0⟩], .conversion 0 [⟨0, 0, false, 0, 131072, false, 0, 0⟩],
     .shortTrip 0 false false false 65536 0 0, .gateUv 0 65536 0 0, .preTimeout 0 65536 0 0, .mfiSample 0 131072 0,
     .raiConversion 0 0 false 131072 0 0, .raiConversion 0 0 false 0 131072 0, .ssupLimit 0 131072 0, .ssupLimit 0 0 131072,
     .ssupOverload 0 131072 0 0, .ssupOverload 0 0 131072 0, .ssupBackfeed 0 131072 0 0, .ssupBackfeed 0 0 131072 0,
     .lsoOvercurrent 0 65536 0, .lsoOvertemp 0 65536 0, .lsoOpenLoad 0 false 65536 0,
     .bridgeCurrentLimit 0 131072 false 0 0, .bridgeCurrentLimit 0 0 false 131072 0, .bridgeUv 0 131072 0,
     .bridgeUvRecover 0 131072, .frameFirstCell 0 [] 65536 none, .handoverFrameRx 0 0 65536 ⟨0, none, []⟩,
     .gongMfiPoll [(96, 0)] 0, .gongMfiPoll [(0, 131072)] 0, .voteMismatch 0 0 0 4096 0, .bistSlice false 131072 0 0,
     .bistSlice false 0 131072 0, .ssupLimitEnd 0 131072 0, .ssupLimitEnd 0 0 131072, .ssupBackfeedEnd 0 131072 0,
     .ssupBackfeedEnd 0 0 131072] : List Instr).all (fun i => !i.wf) = true := by
  decide +kernel

/-- A frame whose words, data or tag do not fit its fields is refused, in every command that names one. -/
theorem test_wf_refuses_frame :
    ([.sentFrame 0 ⟨3000, 256, [], 0, true⟩ 0, .sentFrame 0 ⟨3000, 0, [256], 0, true⟩ 0,
     .sentFrame 0 ⟨3000, 0, [], 256, true⟩ 0, .frameFirstCell 0 [] 0 (some ⟨256, 0, 0, none⟩),
     .frameFirstCell 0 [] 0 (some ⟨0, 48, 0, none⟩), .frameFirstCell 0 [] 0 (some ⟨0, 0, 2 ^ 32, none⟩),
     .frameFirstCell 0 [] 0 (some ⟨0, 0, 0, some (2 ^ 64)⟩), .handoverFrameRx 0 0 0 ⟨2 ^ 64, none, []⟩,
     .handoverFrameRx 0 0 0 ⟨0, some ⟨256, 0, 0, none⟩, []⟩, .handoverFrameRx 0 0 0 ⟨0, none, [256]⟩,
     .canFrameRx 0 ⟨2 ^ 32, 0, 0, []⟩ 0, .canFrameRx 0 ⟨0, 2 ^ 32, 0, []⟩ 0, .canFrameRx 0 ⟨0, 0, 2 ^ 32, []⟩ 0,
     .canFrameRx 0 ⟨0, 0, 0, [256]⟩ 0, .canFrameRx 0 ⟨0, 0, 0, List.replicate 2049 0⟩ 0,
     .wakeFrameDecode 0 ⟨2 ^ 32, 0, 0, []⟩ 0 false 0, .wakeFrameDecode 0 ⟨0, 2 ^ 32, 0, []⟩ 0 false 0,
     .wakeFrameDecode 0 ⟨0, 0, 2 ^ 32, []⟩ 0 false 0, .wakeFrameDecode 0 ⟨0, 0, 0, [256]⟩ 0 false 0,
     .wakeFrameDecode 0 ⟨0, 0, 0, List.replicate 2049 0⟩ 0 false 0] : List Instr).all (fun i => !i.wf) = true := by
  decide +kernel

/-- A quantity of more than 64 bits, or a device identifier of more than 24 is refused, in every command that names one. -/
theorem test_wf_refuses_dword :
    ([.spflush 0 .m (2 ^ 64), .hgatpWrite 0 .m (2 ^ 64) false, .cacheEccError 0 0 (.consumed true (2 ^ 64) false),
     .iommuWalk (2 ^ 24) 0 .read [], .iommuWalk 0 (2 ^ 64) .read []] : List Instr).all (fun i => !i.wf) = true := by
  decide +kernel

/-- A mailbox channel or an endpoint that does not exist is refused, in every command that names one. -/
theorem test_wf_refuses_caller :
    ([.info (.mbx 16), .info (.cry 1024), .rngGet (.mbx 16), .rngGet (.cry 1024), .keyInfo (.mbx 16), .keyInfo (.cry 1024),
     .keyGenerate (.mbx 16), .keyGenerate (.cry 1024), .keyImport (.mbx 16), .keyImport (.cry 1024), .keyDestroy (.mbx 16),
     .keyDestroy (.cry 1024), .gcmSeal (.mbx 16), .gcmSeal (.cry 1024), .gcmOpen (.mbx 16), .gcmOpen (.cry 1024),
     .cmac (.mbx 16), .cmac (.cry 1024), .sha384 (.mbx 16), .sha384 (.cry 1024), .ecdsaSign (.mbx 16),
     .ecdsaSign (.cry 1024), .ecdsaVerify (.mbx 16), .ecdsaVerify (.cry 1024), .kdf (.mbx 16), .kdf (.cry 1024),
     .identSign (.mbx 16), .identSign (.cry 1024), .authSubmit (.mbx 16), .authSubmit (.cry 1024), .debugClose (.mbx 16),
     .debugClose (.cry 1024), .lcAdvance (.mbx 16), .lcAdvance (.cry 1024)] : List Instr).all (fun i => !i.wf) = true := by
  decide +kernel

/-- The same commands with operands in their ranges are accepted. -/
theorem test_wf_accepts :
    ([.registerWrite 0x30 0 4 0, .beatBoundary 0 0 [] [], .targetTimeout 0 ⟨0x30, 0, true, .load, 0, false⟩ [], .portOpen 0,
     .fenceStuck 0, .lateErrRd 0x30 0, .fabricCarwin 0 0x30 0, .spineCrcFail false [], .retrainTimeout [],
     .hdieSupplyLoss [], .spineHreset 0x30 0 [], .beatPub 0x30 0, .pwrCmdPub 0 0x30 0, .pwrLimPub 0 0x30 0,
     .usestCanSegment 0 [], .slotConfirm 0x30 0, .beatEn 0x30 0, .tablaLdHi 0 0x30 0, .tablaArm 0 0x30 0, .conversion 0 [],
     .shortTrip 0 false false false 0 0 0, .gateUv 0 0 0 0, .prechargeDone 0 0, .preTimeout 0 0 0 0, .fetFault 0 0,
     .outHigh 0 0, .currentSenseFault 0 0, .fastPathShed 0 0, .feedSenseFault 0 0, .mfiSample 0 0 0,
     .raiConversion 0 0 false 0 0 0, .ssupLimit 0 0 0, .ssupOverload 0 0 0 0, .ssupBackfeed 0 0 0 0, .ioxSsupCtrl 0 0x30 0,
     .ioxLsoDuty 0 0x30 0, .ioxBrCmd 0 0x30 0, .lsoOvercurrent 0 0 0, .lsoOcClear 0 0x30 0, .lsoOvertemp 0 0 0] ++
     [.lsoOpenLoad 0 false 0 0, .bridgeCurrentLimit 0 0 false 0 0, .bridgeShort 0 0, .bridgeClr 0 0x30 0, .bridgeUv 0 0 0,
     .bridgeUvRecover 0 0, .sentFrame 0 ⟨3000, 0, [], 0, true⟩ 0, .sentTimeout 0 0, .sentTrig 0 0x30 0,
     .frameFirstCell 0 [] 0 none, .continuationCell 0 [], .frameEnd 0 [] false [], .fdbLookup 0x30 0,
     .fdbInsertStatic 0x30 0, .fdbInsertDynamic 0x30 0, .fdbDelete 0x30 0, .fdbFlushFid 0x30 0, .fdbFlushPort 0x30 0,
     .fdbReadIndex 0x30 0, .clrPeak 0x30 0, .gclChange 0 0x30 0, .cbsSlope 0 0 0x30 0, .saKey 0 0 0x30 0,
     .tc10SleepReq 0 0x30 0, .tc10WakeReq 0 0x30 0, .epTest 0 0x30 0, .tableRead 0 0x30 0, .tableWrite 0 0x30 0,
     .timeInc 0x30 0, .timeStep 0x30 0, .timeNowFrac 0x30, .timeLock 0x30 0, .timeUnlock 0x30 0, .timeKeep 0x30 0,
     .handoverReq 0 0x30 0, .handoverGrant 0 0x30 0, .handoverRefuse 0 0x30 0, .handoverFrameRx 0 0 0 ⟨0, none, []⟩,
     .canEnable 0 0x30 0, .canFrameRx 0 ⟨0, 0, 0, []⟩ 0] ++
     [.canTxsub 0 0 0x30 0, .canTxabort 0 0 0x30 0, .busoffRecover 0 0x30 0, .canRxai 0 0 0x30 0, .canCqai 0 0 0x30 0,
     .canSlotCfg 0 0 0x30 0, .canTrxMode 0 0x30 0, .linFrameComplete 0 [] false, .linSleepTx 0 0x30 0, .linWakeTx 0 0x30 0,
     .linDataHi 0 0 0x30 0, .linDataLoRead 0 0 0x30, .pmReqRun 0x30 0, .pmReqDoze 0x30 0 false [],
     .pmReqSleep 0x30 0 false [], .pmReqDeepSleep 0x30 0 false [], .dozeEntry [], .pmGate 0 0x30 0 [], .gongMfiPoll [] 0,
     .bootDone 0x30 0, .graceEnd [], .stay 0x30 0, .voteMismatch 0 0 0 0 0, .tcmEccError 0 0 .load, .carIcClaim 0 0 0x30,
     .carIcComplete 0 0 0x30 0, .spflush 0 .m 0, .hgatpWrite 0 .m 0 false, .cacheEccError 0 0 .corrected,
     .imsicSeteipnum 0x30 0 0, .iommuWalk 0 0 .read [], .iommuVxLogai 0x30 0, .assign 0 0x30 0, .activate 0 0x30 0,
     .quiesce 0 0x30 0, .freeze 0 0x30 0, .thaw 0 0x30 0, .save 0 0x30 0, .restore 0 0x30 0, .veReset 0 0x30 0] ++
     [.unassign 0 0x30 0, .veRingIndexWrite 0 .mbxUpWi 0x30 0, .vecUnmask 0 0 0x30 0, .pwgKick 0 0x30 0,
     .mailboxRing 0 0x30 0, .info (.mbx 0), .rngGet (.mbx 0), .keyInfo (.mbx 0), .keyGenerate (.mbx 0), .keyImport (.mbx 0),
     .keyDestroy (.mbx 0), .gcmSeal (.mbx 0), .gcmOpen (.mbx 0), .cmac (.mbx 0), .sha384 (.mbx 0), .ecdsaSign (.mbx 0),
     .ecdsaVerify (.mbx 0), .kdf (.mbx 0), .identSign (.mbx 0), .authSubmit (.mbx 0), .debugClose (.mbx 0),
     .lcAdvance (.mbx 0), .bwdgKick 0x30 0, .bdbgSubmit 0x30 0, .bdbgClose 0x30 0, .bundleChunk 0x30 0, .tocPend 0 0x30 0,
     .tocLogSel 0x30 0, .tocSwraise 0x30 0, .tocSwint 0x30 0, .errnRelease 0x30 0, .wdgKick 0 0x30 0 0,
     .bistSlice false 0 0 0, .bistCoverageLate 0 0, .prbsGo 0x30 0 [], .prbsStop 0x30 0 0 0, .clkRestore 0x30 0,
     .pllDead 0 [], .clkDomDiv 0 0x30 0, .haltSafePowerDown []] ++
     [.supplyReset [], .resetChip [], .wakeFrameDecode 0 ⟨0, 0, 0, []⟩ 0 false 0, .ssupLimitEnd 0 0 0,
     .ssupBackfeedEnd 0 0 0, .ssramEccError false ⟨0x30, 0, true, .load, 0, false⟩ 0,
     .dramEccError false ⟨0x30, 0, true, .load, 0, false⟩ 0] : List Instr).all Instr.wf = true := by
  decide +kernel
/-! ### Values from the spec's tables and examples -/

/-- The worked values of chapters 0 and 2: chime 0x30E is 159,744 counts; 255, 160,000 and 13,500 counts encode as 0x0C0, 0x30E
and 0x229. -/
theorem test_chime_examples : chimeDec 0x30E = 159744 ∧ chimeEnc 255 = 0x0C0 ∧ chimeEnc 160000 = 0x30E ∧ chimeEnc 13500 = 0x229 := by
  decide +kernel

/-- The restore threshold of chapter 6's example: CHSUB(0x38E, 0x2C0) is chime 0x386. -/
theorem test_chsub_example : chSub 0x38E 0x2C0 = (0x386, false) := by decide +kernel

/-- The example of R32: with FABRIC_CARWIN1.WIN_IDX = 5, C1's 0x8012_3450 is DRAM address 0x04_5012_3450. -/
theorem test_carwin_example : carAddr (up.put F.FABRIC_CARWIN_WIN_IDX 1 5) 1 0x80123450 = some 0x450123450 := by decide +kernel

/-- The example of R442's watermarks: with SSRAM_WM = 16 and DRAM_WM = 256 a non-secure request to 0x04_1FFF_FFC0 is denied, and
one to 0x04_2000_0000 passes. -/
theorem test_watermark_example :
    let s := (foreign.put F.BSEC_SSRAM_WM_WM 0 16).put F.BSEC_DRAM_WM_WM 0 256
    judgeReq s 0x10 0x41FFFFFC0 64 = respDenied ∧ judgeReq s 0x10 0x420000000 64 = respOkay ∧
      judgeReq s 0x10 0xFFFFC 4 = respDenied ∧ judgeReq s 0x10 0x100000 4 = respOkay := by decide +kernel

/-- Pages of TABLA engine 3 and of VE 1023 (R12, R13, R131). -/
theorem test_addresses : R.TABLA_CTRL.addr 3 / 4096 = 0x10063 ∧ R.ETH_TX_TAIL.addr 1023 / 4096 = 0x303FF := by decide +kernel

/-- FIPS 180-4's "abc", FIPS 197's example and test case 14 of GCM, of which chapter 16 names the algorithms. -/
theorem test_sha384_abc : (sha384 [0x61, 0x62, 0x63]).take 4 = [0xCB, 0x00, 0x75, 0x3F] := by decide +kernel
theorem test_gcm_case_14 : (gcmSeal (List.replicate 32 0) (List.replicate 12 0) [] (List.replicate 16 0)).1.take 4 =
    [0xCE, 0xA7, 0x40, 0x3D] := by decide +kernel

/-! ### Single steps -/

/-- What a step answers, seen through `f`. -/
def after {α : Type} (c : Instr) (s : State) (f : State → α) : Option α :=
  match step { s with pending := c :: s.pending } with
  | .next t => some (f t)
  | _ => none

/-- A write to SRAM is little-endian (R11). -/
theorem test_write_sram : after (.registerWrite 0x30 0x1000 2 0xBEEF) up (·.mem) = some [(0x1000, 0xEF), (0x1001, 0xBE)] := by
  decide +kernel

/-- A two-byte write to a register is recorded with SIZE_ERR and changes nothing there (R8, Table 1-4). -/
theorem test_size_error : after (.registerWrite 0x30 0x10300000 2 0) up (fun t => (t.get F.LATE_ERR_WR_WR_IDX 0, t.get F.LATE_ERR_E0_CAUSE 0)) =
    some (1, 3) := by decide +kernel

/-- A write to slot 0x0A0 (XSPI/UFS, Table 1-2), of whose registers the spec gives none, is refused by name. -/
theorem test_device_refused :
    (match step { up with pending := [.registerWrite 0x30 0x10A00000 4 0] } with | .refused (.deviceNotSpecified _) => true | _ => false) = true := by
  decide +kernel

/-- A hart's store to the read-only xSPI window traps with cause 7 and changes no memory (Table 14-2). -/
theorem test_xspi_store : after (.registerWrite 0 0x20000000 4 0) up (fun t => (t.out, t.mem)) = some ([.trap 0 7 0x20000000], []) := by
  decide +kernel

/-- A SENT class reads data bits 11 to 2 (Table 4-4): 0xABC reads as 0x2AF. -/
theorem test_sent_sample :
    sample ((up.put F.SENT_FC_VALID 0 1).put F.SENT_FC_DATA 0 0xABC) 0x0C 0 0 = some 0x2AF := by decide +kernel

/-- A slot written in a beat shows its value after the boundary only (R57). -/
theorem test_publish_pends : after (.beatPub 0x30 0x0C00030E) (up.put F.BEAT_SLOT_PROD_PROD 0 0x30)
    (fun t => ((tget SlotSt.init t.twin.slots 0xC00).visible, (tget SlotSt.init t.twin.slots 0xC00).pendV)) =
    some (0xFFFF0000, some 0x30E) := by decide +kernel

/-- LDI loads its immediate, and the engine is at the next stroke (Table 4-2). -/
theorem test_ldi : after (.strokeLdi 0 0) (stroking (0x04 * 2 ^ 40 + 7 * 2 ^ 36 + 0x3FF) up) (fun t => (wreg t 0 7, (engSt t 0).pc)) =
    some (0x3FF, 1) := by decide +kernel

/-- A command of a port in the wrong state changes nothing, and an idle step without a time clock changes nothing. -/
theorem test_idle : after .tapReset up (fun t => decide (t = up)) = some true ∧
    (match step State.reset with | .next t => decide (t = State.reset) | _ => false) = true := by decide +kernel
end Sys2Proof.Tests
end

section
/-!
PROOFS. The fabric and the memory map: what an address decodes to and what a request outside the map comes to (R12, R13, R28), and
what a non-secure reader sees of a late-error entry (R30).
-/

namespace Sys2Proof.Machine

/-! ### What an address decodes to (R12, R13) -/

/-- The slots of Table 1-2 that hold a block. -/
def slotPopulated (n : Nat) : Prop :=
  n ≤ 0x006 ∨ n = 0x008 ∨ n = 0x009 ∨ 0x00C ≤ n ∧ n ≤ 0x025 ∨ 0x030 ≤ n ∧ n ≤ 0x036 ∨ n = 0x040 ∨ n = 0x050 ∨ n = 0x051 ∨
    n = 0x060 ∨ n = 0x070 ∨ n = 0x080 ∨ n = 0x090 ∨ n = 0x0A0 ∨ n = 0x0B0 ∨ 0x800 ≤ n ∧ n ≤ 0x8FF

/-- The addresses of a target: its range in Table 1-1, with the slots of Table 1-2 and the pages of R13. -/
def Target.covers (a : Nat) : Target → Prop
  | .sram => a ≤ 0x7FFFFF
  | .slot n => 0x10000000 ≤ a ∧ a ≤ 0x1FFFFFFF ∧ n = (a - 0x10000000) / 0x10000 ∧ slotPopulated n
  | .xspi => 0x20000000 ≤ a ∧ a ≤ 0x2FFFFFFF
  | .ve n => n ≤ 1023 ∧ 0x30000000 + 0x1000 * n ≤ a ∧ a < 0x30000000 + 0x1000 * n + 0x1000
  | .tcm k => k ≤ 1 ∧ 0x40000000 + 0x100000 * k ≤ a ∧ a ≤ 0x400FFFFF + 0x100000 * k
  | .dram => 0x400000000 ≤ a ∧ a ≤ 0x7FFFFFFFF

theorem populated_any_iff (n : Nat) :
    populated.any (fun r => decide (r.1 ≤ n) && decide (n ≤ r.2)) = true ↔ slotPopulated n := by
  simp only [populated, slotPopulated, List.any_cons, List.any_nil, Bool.or_eq_true, Bool.and_eq_true, decide_eq_true_eq,
    Bool.false_eq_true, or_false]
  omega

/-- An address inside a peripheral range decodes to its slot where Table 1-2 populates it, and to nothing else. -/
theorem decodeAddr_peripheral {a : Nat} (h : 0x10000000 ≤ a) (h' : a < 0x20000000) (t : Target) :
    decodeAddr a = some t ↔ t = .slot ((a - 0x10000000) / 0x10000) ∧ slotPopulated ((a - 0x10000000) / 0x10000) := by
  have hn : a / 65536 % 4096 = (a - 0x10000000) / 0x10000 := by omega
  rw [← populated_any_iff, ← hn]
  unfold decodeAddr
  rw [if_neg (by omega), if_pos ⟨h, h'⟩]
  dsimp only
  split
  · rename_i hp
    simp only [hp, and_true, Option.some.injEq]
    exact eq_comm
  · rename_i hp
    simp only [hp, and_false, reduceCtorEq, Bool.false_eq_true]

theorem covers_of_decodeAddr {a : Nat} {t : Target} (h : decodeAddr a = some t) : t.covers a := by
  by_cases hs : 0x10000000 ≤ a ∧ a < 0x20000000
  · obtain ⟨rfl, hp⟩ := (decodeAddr_peripheral hs.1 hs.2 t).1 h
    exact ⟨hs.1, by omega, rfl, hp⟩
  · unfold decodeAddr at h
    rw [if_neg hs] at h
    repeat' split at h
    all_goals cases h <;> (simp only [Target.covers]; omega)

theorem decodeAddr_of_covers {a : Nat} {t : Target} (h : t.covers a) : decodeAddr a = some t := by
  cases t with
  | slot n =>
    obtain ⟨hlo, hhi, rfl, hp⟩ := h
    exact (decodeAddr_peripheral hlo (by omega) _).2 ⟨rfl, hp⟩
  | ve n =>
    obtain ⟨hn, hlo, hhi⟩ := h
    have hpage : a / 4096 % 1024 = n := by omega
    unfold decodeAddr
    rw [if_neg (by omega), if_neg (by omega), if_neg (by omega), if_pos (by omega), hpage]
  | tcm k =>
    obtain ⟨hk, hlo, hhi⟩ := h
    unfold decodeAddr
    rw [if_neg (by omega), if_neg (by omega), if_neg (by omega), if_neg (by omega)]
    obtain rfl | rfl : k = 0 ∨ k = 1 := by omega
    · rw [if_pos (by omega)]
    · rw [if_neg (by omega), if_pos (by omega)]
  | sram =>
    have hhi : a ≤ 0x7FFFFF := h
    unfold decodeAddr
    rw [if_pos (by omega)]
  | xspi =>
    obtain ⟨hlo, hhi⟩ := h
    unfold decodeAddr
    rw [if_neg (by omega), if_neg (by omega), if_pos (by omega)]
  | dram =>
    obtain ⟨hlo, hhi⟩ := h
    unfold decodeAddr
    rw [if_neg (by omega), if_neg (by omega), if_neg (by omega), if_neg (by omega), if_neg (by omega), if_neg (by omega),
      if_pos (by omega)]

/-- The decoder and Tables 1-1 and 1-2 agree. -/
theorem decodeAddr_eq_some_iff {a : Nat} {t : Target} : decodeAddr a = some t ↔ t.covers a :=
  ⟨covers_of_decodeAddr, decodeAddr_of_covers⟩

/-- Every range of Table 1-1 ends below the 40-bit limit. -/
theorem covers_lt {a : Nat} {t : Target} (h : t.covers a) : a < 2 ^ 40 := by
  cases t <;> simp only [Target.covers] at h <;> omega

theorem decodeAddr_eq_none_of_le {a : Nat} (h : 2 ^ 40 ≤ a) : decodeAddr a = none := by
  cases ht : decodeAddr a with
  | none => rfl
  | some t => exact absurd (covers_lt (covers_of_decodeAddr ht)) (by omega)

/-! ### A request outside the map (R12, R28) -/

section
variable {s : State} {init a bytes : Nat}

theorem judgeReq_outside (h : decodeAddr a = none) : judgeReq s init a bytes = respDecode := by
  unfold judgeReq
  rw [h]

/-- A request outside the map is neither a denial nor a fence's: only a posted write leaves a trace, in the late errors. -/
theorem refuseReq_outside (h : decodeAddr a = none) (write : Bool) :
    s.refuseReq init a bytes write = if write then s.lateErr init a respDecode false else s := by
  unfold State.refuseReq
  rw [judgeReq_outside h]
  rfl

theorem busRead_outside (h : decodeAddr a = none) : busRead init a bytes s = (respDecode, 0, s) := by
  unfold busRead
  rw [judgeReq_outside h, if_pos (by decide), refuseReq_outside h]
  rfl

theorem reachesDevice_outside (h : decodeAddr a = none) : reachesDevice s init a bytes = false := by
  unfold reachesDevice deviceOnly
  rw [h]
  rfl

theorem busStore_outside {v : Nat} (h : decodeAddr a = none) (hlt : a < csrBase) (hp : s.pm.phase ≠ 2)
    (hi : initSilent s init = false) : busStore init a bytes v s = s.lateErr init a respDecode false := by
  have hj : judgeReq s init a bytes ≠ respOkay := by rw [judgeReq_outside h]; decide
  unfold busStore
  rw [if_neg (by omega), h]
  exact (busWrite_refused hp hi hj).trans (refuseReq_outside h true)

end

theorem exec_registerWrite_outside {s : State} {init : Init} {addr bytes value : Nat}
    (h : decodeAddr (busAddr s init addr) = none) (hlt : busAddr s init addr < csrBase) (hp : s.pm.phase ≠ 2)
    (hi : initSilent s init = false) :
    exec (.registerWrite init addr bytes value) s = .next (s.lateErr init (busAddr s init addr) respDecode false) := by
  show execRegisterWrite init addr bytes value s = _
  unfold execRegisterWrite
  dsimp only
  rw [reachesDevice_outside h, busStore_outside h hlt hp hi]
  rfl

/-! ### Reading a late-error entry (R30) -/

/-- A search finds a family that answers behind families that do not. -/
theorem findReg_of_split {l m regs : List Reg} {r : Reg} {a i : Nat} (hsplit : regs = l ++ r :: m)
    (hl : ∀ q ∈ l, q.index? a = none) (hr : r.index? a = some i) : findReg regs a = some (r, i) := by
  subst hsplit
  induction l with
  | nil => simp [findReg, hr]
  | cons q l ih =>
    rw [List.cons_append, findReg, hl q (List.mem_cons_self ..)]
    exact ih fun p hp => hl p (List.mem_cons_of_mem _ hp)

/-- The words of a late-error entry that hold the fields of R30. -/
def entryRegs : List Reg := [R.LATE_ERR_E0, R.LATE_ERR_E1, R.LATE_ERR_E2]

theorem mem_entryRegs {r : Reg} : r ∈ entryRegs ↔ r = R.LATE_ERR_E0 ∨ r = R.LATE_ERR_E1 ∨ r = R.LATE_ERR_E2 := by
  simp only [entryRegs, List.mem_cons, List.not_mem_nil, or_false]

section
variable {s : State} {r : Reg} (hr : r ∈ entryRegs) (init : Nat) (i : Fin 64)
include hr

/-- The entries lie aligned in FABRIC's slot, away from the words that are computed at the read. -/
theorem entry_addr : 0x10000400 ≤ r.addr i ∧ r.addr i < 0x10000800 ∧ r.addr i % 4 = 0 := by
  obtain rfl | rfl | rfl := mem_entryRegs.1 hr <;> revert i <;> decide

/-- The families of FABRIC that are listed before have no word at an entry's address. -/
theorem findReg_entry : findReg regsFABRIC (r.addr i) = some (r, (i : Nat)) := by
  obtain rfl | rfl | rfl := mem_entryRegs.1 hr
  · exact findReg_of_split (l := regsFABRIC.take 13) (m := regsFABRIC.drop 14) rfl (by revert i; decide) (by revert i; decide)
  · exact findReg_of_split (l := regsFABRIC.take 14) (m := regsFABRIC.drop 15) rfl (by revert i; decide) (by revert i; decide)
  · exact findReg_of_split (l := regsFABRIC.take 15) (m := regsFABRIC.drop 16) rfl (by revert i; decide) (by revert i; decide)

theorem decodeAddr_entry : decodeAddr (r.addr i) = some (.slot 0x000) := by
  obtain ⟨hlo, hhi, -⟩ := entry_addr hr i
  exact decodeAddr_of_covers ⟨by omega, by omega, by omega, .inl (by decide)⟩

/-- No word of an entry is read through a latch (R9). -/
theorem readWord_entry : readWord init r i s = (shownWord s init r i, s) := by
  obtain rfl | rfl | rfl := mem_entryRegs.1 hr <;> rfl

theorem blockRead_entry : blockRead init (r.addr i) regsFABRIC s = (shownWord s init r i, s) := by
  obtain ⟨hlo, hhi, -⟩ := entry_addr hr i
  unfold blockRead
  rw [if_neg (by omega), if_neg (by omega), if_neg (by omega), findReg_entry hr i]
  exact readWord_entry hr init i

/-- FABRIC has no rule of its own on who may read: a read of an entry that the fabric lets through shows the entry's word. -/
theorem busRead_entry (hj : judgeReq s init (r.addr i) 4 = respOkay) :
    busRead init (r.addr i) 4 s = (respOkay, shownWord s init r i, s) := by
  obtain ⟨-, -, hal⟩ := entry_addr hr i
  have hmay : slotMayRead s init 0x000 (r.addr i) = true := rfl
  have hregs : slotRegs 0x000 = regsFABRIC := rfl
  unfold busRead
  rw [if_neg (by simp [hj]), decodeAddr_entry hr i]
  dsimp only
  rw [if_neg (by simp [hal]), hmay, hregs, blockRead_entry hr init i]
  rfl

theorem shownWord_entry : shownWord s init r i =
    lateErrMask s (worldFree init || secureOf s init) r i ((s.rd r i).toNat &&& readable r) := by
  have hmask : isReg r R.LATE_ERR_E0 ∨ isReg r R.LATE_ERR_E1 ∨ isReg r R.LATE_ERR_E2 := by
    obtain rfl | rfl | rfl := mem_entryRegs.1 hr <;> decide
  unfold shownWord
  exact if_pos hmask

end

/-! ### What a non-secure reader sees of an entry of a secure initiator (R30) -/

/-- Word 0 without INIT and PART. -/
def hideOrigin (w : Nat) : Nat := withBits (withBits w 25 22 0) 10 0 0

theorem bitsOf_hideOrigin_origin (w : Nat) : bitsOf (hideOrigin w) 25 22 = 0 ∧ bitsOf (hideOrigin w) 10 0 = 0 := by
  unfold hideOrigin
  have hzero (w hi lo : Nat) (h : lo ≤ hi) : bitsOf (withBits w hi lo 0) hi lo = 0 :=
    (bitsOf_withBits_same w hi lo 0 h).trans (Nat.zero_mod _)
  exact ⟨(bitsOf_withBits_other _ _ _ _ _ _ (by decide) (by decide) (by decide)).trans (hzero _ _ _ (by decide)),
    hzero _ _ _ (by decide)⟩

/-- Hiding INIT and PART leaves the fields above them. -/
theorem bitsOf_hideOrigin_above (w : Nat) {hi lo : Nat} (h : lo ≤ hi) (h25 : 25 < lo) :
    bitsOf (hideOrigin w) hi lo = bitsOf w hi lo := by
  unfold hideOrigin
  rw [bitsOf_withBits_other _ _ _ _ _ _ (by decide) h (by omega), bitsOf_withBits_other _ _ _ _ _ _ (by decide) h (by omega)]

/-- No field of word 0 is write-only: every bit of it can be read. -/
theorem entry0_and_readable (w : Word) : w.toNat &&& readable R.LATE_ERR_E0 = w.toNat := by
  have hall : readable R.LATE_ERR_E0 = 2 ^ 32 - 1 := rfl
  rw [hall, Nat.and_two_pow_sub_one_eq_mod, Nat.mod_eq_of_lt w.isLt]

theorem bitsOf_one_of_flag {s : State} {f : Fld} {i : Nat} (hw : f.hi = f.lo) (h : s.flag f i = true) :
    bitsOf (s.rd f.reg i).toNat f.hi f.lo = 1 := by
  have hne : bitsOf (s.rd f.reg i).toNat f.hi f.lo ≠ 0 := by simpa [State.flag, State.get, getBits] using h
  have hlt : bitsOf (s.rd f.reg i).toNat f.hi f.lo < 2 ^ (f.hi + 1 - f.lo) := Nat.mod_lt _ (Nat.two_pow_pos _)
  have hwidth : f.hi + 1 - f.lo = 1 := by omega
  rw [hwidth] at hlt
  omega

section
variable {s : State} {init : Nat} {i : Fin 64} (hw : worldFree init = false) (hs : secureOf s init = false)
  (hf : s.flag F.LATE_ERR_E0_SECURE i = true)
include hw hs hf

/-- Of such an entry word 0 shows without its origin, and the words of the address show as 0. -/
theorem shownWord_masked {r : Reg} (hr : r ∈ entryRegs) :
    shownWord s init r i = if isReg r R.LATE_ERR_E0 then hideOrigin (s.rd r i).toNat else 0 := by
  rw [shownWord_entry hr init i, hw, hs]
  unfold lateErrMask
  rw [if_neg (by simp [hf])]
  obtain rfl | rfl | rfl := mem_entryRegs.1 hr
  · rw [if_pos (by decide), if_pos (by decide), entry0_and_readable]
    rfl
  · rw [if_neg (by decide), if_pos (by decide), if_neg (by decide)]
  · rw [if_neg (by decide), if_pos (by decide), if_neg (by decide)]

theorem busRead_masked {r : Reg} (hr : r ∈ entryRegs) (hj : judgeReq s init (r.addr i) 4 = respOkay) :
    busRead init (r.addr i) 4 s = (respOkay, if isReg r R.LATE_ERR_E0 then hideOrigin (s.rd r i).toNat else 0, s) := by
  rw [busRead_entry hr init i hj, shownWord_masked hw hs hf hr]

end

/-! ### The statements -/

/-- Settles O59: the decoder agrees with the tables (`decodeAddr_eq_some_iff`), and a request that decodes to nothing ends at
the first step of R444. -/
theorem addressMapHolds : Obligations.AddressMapHolds := by
  unfold Obligations.AddressMapHolds
  refine ⟨fun _ => decodeAddr_eq_some_iff, fun _ _ => decodeAddr_eq_some_iff, fun _ => decodeAddr_eq_some_iff,
    fun _ _ => decodeAddr_eq_some_iff, fun _ => ?_, fun _ => ?_, fun _ => decodeAddr_eq_some_iff,
    fun _ => decodeAddr_eq_none_of_le, fun _ _ _ _ => busRead_outside, ?_⟩
  · exact decodeAddr_eq_some_iff.trans (by simp [Target.covers])
  · exact decodeAddr_eq_some_iff.trans (by simp [Target.covers])
  · intro s init addr bytes value h hlt hp hi
    have hm : Moves [idsLATE, idsLATE_E, idsTOCSIN] false s (s.lateErr init (busAddr s init addr) respDecode false) :=
      lateErr_moves
    have hcsr : busAddr s init addr < csrBase := Nat.lt_trans hlt (by decide)
    exact .of (exec_registerWrite_outside h hcsr hp hi) ⟨rfl, fun a => by rw [hm.mem rfl], hm.regs⟩

/-- Settles O60: an entry's word passes through the mask of R30 on its way to the reader, which keeps SECURE and CAUSE. -/
theorem secureEntriesMasked : Obligations.SecureEntriesMasked := by
  unfold Obligations.SecureEntriesMasked
  intro s init i hw hs hf
  refine ⟨fun hj => ⟨_, busRead_masked hw hs hf (mem_entryRegs.2 (.inl rfl)) hj, ?_, ?_, bitsOf_hideOrigin_origin _⟩,
    fun hj => busRead_masked hw hs hf (mem_entryRegs.2 (.inr (.inl rfl))) hj,
    fun hj => busRead_masked hw hs hf (mem_entryRegs.2 (.inr (.inr rfl))) hj⟩
  · exact (bitsOf_hideOrigin_above _ (by decide) (by decide)).trans (bitsOf_one_of_flag rfl hf)
  · exact bitsOf_hideOrigin_above _ (by decide) (by decide)

/-! ### The hypotheses can be met -/

/-- A powered device with every port open and Carillon 0 assigned to partition 3, which is not secure; entry 5 of its late-error log
is that of a write of Belfry's, denied at 0x123_4567. -/
def loggedSecure : State :=
  let s := { State.reset with
    pm := { State.reset.pm with phase := 0 }
    fab := { State.reset.fab with ports := [] }
    bel := { State.reset.bel with asg := [(4096 * 14, 3)] } }
  ((s.put F.BSEC_PARTCFG_VALID 3 1).wr R.LATE_ERR_E0 5
    (BitVec.ofNat 32 (2 ^ 31 + 2 ^ 30 + respDenied * 2 ^ 26 + 15 * 2 ^ 22 + 0x30))).wr R.LATE_ERR_E1 5 0x1234567#32

/-- Of that entry Carillon 0 reads VALID, SECURE and CAUSE alone. -/
theorem secureEntriesMasked_witness :
    (∃ d, busRead 0x10 (R.LATE_ERR_E0.addr 5) 4 loggedSecure = (respOkay, d, loggedSecure) ∧
      bitsOf d 30 30 = 1 ∧ bitsOf d 28 26 = respDenied ∧ bitsOf d 25 22 = 0 ∧ bitsOf d 10 0 = 0) ∧
    busRead 0x10 (R.LATE_ERR_E1.addr 5) 4 loggedSecure = (respOkay, 0, loggedSecure) := by
  have hcause : loggedSecure.get F.LATE_ERR_E0_CAUSE 5 = respDenied := by decide +kernel
  obtain ⟨h0, h1, -⟩ := secureEntriesMasked loggedSecure 0x10 5 (by decide) (by decide +kernel) (by decide +kernel)
  exact ⟨hcause ▸ h0 (by decide +kernel), h1 (by decide +kernel)⟩

/-- Just above the SRAM, Belfry reads 0 with DECODE_ERR, and its write is a late error. -/
theorem addressMapHolds_witness :
    busRead 0x30 0x800000 4 loggedSecure = (respDecode, 0, loggedSecure) ∧
    Runs (.registerWrite 0x30 0x800000 4 1) loggedSecure fun t => t = loggedSecure.lateErr 0x30 0x800000 respDecode false := by
  obtain ⟨-, -, -, -, -, -, -, -, hread, hwrite⟩ := addressMapHolds
  obtain ⟨t, ht, heq, -, -⟩ := hwrite loggedSecure 0x30 0x800000 4 1 (by decide) (by decide) (by decide) (by decide +kernel)
  exact ⟨hread _ _ _ _ (by decide), t, ht, heq⟩

end Sys2Proof.Machine
end

section
/-!
PROOFS. Chime codes: the value of a code on either side of exponent 0, and the largest value (R46).
-/

namespace Sys2Proof.Machine

/-! ### The value of a chime code (R46) -/

theorem bitsOf_lt (w hi lo : Nat) : bitsOf w hi lo < 2 ^ (hi + 1 - lo) := Nat.mod_lt _ (Nat.two_pow_pos _)

theorem chimeDec_of_exp_zero {c : Nat} (h : bitsOf c 9 6 = 0) : chimeDec c = bitsOf c 5 0 := if_pos h

theorem chimeDec_of_exp_pos {c : Nat} (h : 1 ≤ bitsOf c 9 6) :
    chimeDec c = (64 + bitsOf c 5 0) * 2 ^ (bitsOf c 9 6 - 1) := if_neg (Nat.ne_of_gt h)

/-- The largest value has both fields at their top: M = 63 and E = 15. -/
theorem chimeDec_le (c : Nat) : chimeDec c ≤ 2080768 := by
  have hm : bitsOf c 5 0 < 64 := bitsOf_lt c 5 0
  have he : bitsOf c 9 6 < 16 := bitsOf_lt c 9 6
  obtain h0 | h1 := Nat.eq_zero_or_pos (bitsOf c 9 6)
  · rw [chimeDec_of_exp_zero h0]
    omega
  · calc chimeDec c = (64 + bitsOf c 5 0) * 2 ^ (bitsOf c 9 6 - 1) := chimeDec_of_exp_pos h1
      _ ≤ (64 + 63) * 2 ^ 14 := Nat.mul_le_mul (by omega) (Nat.pow_le_pow_right (by decide) (by omega))

/-- Settles O58: the two cases of R46 hold of every code, its two ends are evaluated, and `chimeDec_le` is the bound. -/
theorem chimeCodeValues : Obligations.ChimeCodeValues := by
  unfold Obligations.ChimeCodeValues
  exact ⟨fun _ _ => chimeDec_of_exp_zero, fun _ _ => chimeDec_of_exp_pos, by decide, by decide, fun c _ => chimeDec_le c⟩

/-- Code 0x025 is worth its own 37 counts, and code 0x30E, with E = 12 and M = 14, is worth 159,744. -/
theorem chimeCodeValues_witness : chimeDec 0x025 = 37 ∧ chimeDec 0x30E = 159744 := by
  obtain ⟨hzero, hpos, -⟩ := chimeCodeValues
  exact ⟨hzero 0x025 (by decide) (by decide), hpos 0x30E (by decide) (by decide)⟩

end Sys2Proof.Machine
end
